-- ==== Sys2Proof/Word.lean ====
section
/-! DEFINITION. The word types of the spec (spec/00, the units used). -/

namespace Sys2Proof

abbrev W8 := BitVec 8
abbrev W16 := BitVec 16
abbrev W32 := BitVec 32
abbrev W64 := BitVec 64

end Sys2Proof
end

