-- ==== Sys2Proof/Syntax.lean ====
section
/-! DEFINITION. The commands the block takes, one constructor per row of spec/opcode_table.json, with the row's
operands. What the outside world measures (a temperature code, an eye, a margin, an acknowledgement) is an operand of the
row that reports it (DESIGN CHOICE, log entry 3). -/

namespace Sys2Proof

/-- The four masters, coded 0 to 3 as in spec/03, Table 3.1. -/
inductive Master | hostA | hostB | svc | safe
deriving DecidableEq, Repr

/-- The code of a master (spec/03, Table 3.1). -/
def Master.code : Master → Nat
  | .hostA => 0
  | .hostB => 1
  | .svc => 2
  | .safe => 3

/-- What the hardware reports at the end of a pending operation: whether it succeeded, and up to three measured values
that its RESULT holds. -/
structure Obs where
  ok : Bool
  a : Nat := 0
  b : Nat := 0
  c : Nat := 0
deriving DecidableEq, Repr

/-- A memory request as a requester presents it (spec/13, R336). -/
structure Req where
  requester : Nat
  /-- 0 BE, 1 ISO, 2 RT -/
  cls : Nat
  write : Bool
  addr : Nat
  /-- bytes to write: offset within the burst and value -/
  data : List (Nat × W8)
deriving DecidableEq, Repr

/-- What the check bits of a burst say on a read (spec/13, R347). -/
inductive Ecc | clean | corrected | uncorrectable
deriving DecidableEq, Repr

/-- What goes wrong in a Cellar slice (spec/09, R229): a corrected error; an uncorrectable one in the n-th tile slot in use, in
the Heartwood copy, or elsewhere in the slice; or the slice as a whole. -/
inductive CellarError
  | corrected
  | tile (n : Nat)
  | heartwood
  | other
  | whole
deriving DecidableEq, Repr

/-- An operation on the test access port (spec/19, R464; spec/18, Table 18.10). -/
inductive TapOp
  /-- TRST_N low -/
  | reset
  /-- an instruction shift -/
  | ir (op : W8)
  /-- a data shift through the register of the instruction in force -/
  | dr (bits : List Bool)
  /-- a data shift of a vendor instruction: it reads or writes the word at an address of a space
  (0 register, 1 device memory, 2 NVM record, 3 fuse, 4 SRAM of Taproot; log entry 10) -/
  | vendor (write : Bool) (space addr : Nat) (data : W32)
deriving DecidableEq, Repr

/-- The commands of the block, one constructor per row of spec/opcode_table.json. -/
inductive Instr
  /-- SYS_IDENTIFY (R95). Class R command that returns device ID, silicon revision, active firmware, serial and NVM layout version. -/
  | sysIdentify (m : Master)
  /-- SYS_CAPABILITY (R25). Class R command that returns the capability record with every reduction in force. -/
  | sysCapability (m : Master)
  /-- SYS_TIME (R95). Class R command that returns the device timebase and the current frame, subframe and line. -/
  | sysTime (m : Master)
  /-- SYS_UNIT_STATE (R86). Returns Taproot's intent for a unit, its UNIT_STATUS word and the STALE and MISMATCH flags. -/
  | sysUnitState (m : Master)
  /-- SYS_RESET (R60). Owner command that answers ST_OK and then resets the device as SYS_RST_N does. -/
  | sysReset (m : Master)
  /-- SYS_RESET_RELEASE (R60). Expiry of the 1 ms software reset hold, after which the device cold-boots with cause SOFTWARE. -/
  | sysResetRelease
  /-- OWN_QUERY (R95). Returns OWN_STATUS, OWN_CONFIG and the issuer's last claim result. -/
  | ownQuery (m : Master)
  /-- OWN_CONFIG (R79). Owner command that sets the heartbeat period and claim priorities and stores them in NVM. -/
  | ownConfig (m : Master)
  /-- MODE_QUERY (R95). Returns the mode, boot target, last cause, reduction count and frame of the last mode change. -/
  | modeQuery (m : Master)
  /-- MODE_SET (R24). Owner request for DORMANT, SAFE-VIEW, FIELD or MAINTENANCE, answered or made pending under the transition rules. -/
  | modeSet (m : Master)
  /-- MODE_BOOT_TARGET (R95). Owner command that stores SAFE-VIEW or FIELD as the boot target in the BOOT record. -/
  | modeBootTarget (m : Master)
  /-- PWR_QUERY (R47). Returns governor and AVS state, or the per-domain droop stretch counters. -/
  | pwrQuery (m : Master)
  /-- PWR_SET_LIMIT (R35). Owner command that sets the owner power limit and can resume a frozen AVS loop. -/
  | pwrSetLimit (m : Master)
  /-- CAM_QUERY (R124). Returns a camera port's state, link setting, head identity and frame counters. -/
  | camQuery (m : Master)
  /-- CAM_CONFIG (R117). Configures a camera port and stops, retrains and restarts a streaming head as needed. -/
  | camConfig (m : Master)
  /-- CAM_HEAD_READ (R109). Reads head registers over the reverse channel with retries and a 2 ms limit. -/
  | camHeadRead (m : Master)
  /-- CAM_HEAD_WRITE (R109). Writes head registers over the reverse channel with retries and a 2 ms limit. -/
  | camHeadWrite (m : Master)
  /-- CAM_PROFILE_SET (R115). Stores a 512-byte head profile in one of 32 NVM slots. -/
  | camProfileSet (m : Master)
  /-- ISP_QUERY (R131). Returns a pipeline's in-line port, tap, slot mask, epoch and frame counts. -/
  | ispQuery (m : Master)
  /-- ISP_CONTEXT_SET (R135). Replaces a port's shadow ISP context and optionally commits it. -/
  | ispContextSet (m : Master)
  /-- ISP_SLOT_MASK (R132). Sets a pipeline's memory-fed slot mask and in-line port, effective at the next epoch. -/
  | ispSlotMask (m : Master)
  /-- ISP_TAP (R144). Sets or stops a raw tap of one port at one tap point into a ring of slots. -/
  | ispTap (m : Master)
  /-- ISP_STATS (R148). Copies the newest complete statistics set of a port into the bulk buffer. -/
  | ispStats (m : Master)
  /-- ISP_AE_CONFIG (R149). Configures the AE/AWB loop of a port. -/
  | ispAeConfig (m : Master)
  /-- DEPTH_QUERY (R169). Returns a pair unit's state, ports, frame count and mean confidence. -/
  | depthQuery (m : Master)
  /-- DEPTH_PAIR_SET (R158). Enables, changes or stops a stereo pair unit. -/
  | depthPairSet (m : Master)
  /-- DEPTH_WARP_LOAD (R161). Loads and checks a port's rectification warp map. -/
  | depthWarpLoad (m : Master)
  /-- DEPTH_SLICE_SET (R178). Binds a camera 3D layer to a reference port with its depth curve, slice count and pool. -/
  | depthSliceSet (m : Master)
  /-- SCENE_QUERY (R203). Returns scene plane count, lease policy, leases, last scene frame, retire fence and violations. -/
  | sceneQuery (m : Master)
  /-- SCENE_POOL_SET (R186). Sets, replaces or removes one of four tile pools. -/
  | scenePoolSet (m : Master)
  /-- SCENE_LEASE_POLICY (R208). Selects DROP or ALLOW for host writes to held bytes. -/
  | sceneLeasePolicy (m : Master)
  /-- SCENE_LEASE_ADD (R203). Registers a lease region and returns the lowest free LEASE_ID. -/
  | sceneLeaseAdd (m : Master)
  /-- SCENE_LEASE_REMOVE (R209). Removes a registered lease region unless it is held or in use. -/
  | sceneLeaseRemove (m : Master)
  /-- RAY_QUERY (R231). Returns rendering and retired clusters, spares, clock and Cellar, poison and check counters. -/
  | rayQuery (m : Master)
  /-- RAY_CAL_LOAD (R213). Checks a ray calibration map and writes it into every cluster shadow for application at a latch point. -/
  | rayCalLoad (m : Master)
  /-- RAY_LIMITS (R221). Sets the per-ray and per-frame plane limits from the next latch point. -/
  | rayLimits (m : Master)
  /-- LAYER_QUERY (R255). Returns a layer's fields in force, the frame applied and its state. -/
  | layerQuery (m : Master)
  /-- LAYER_SET (R249). Writes a layer shadow block and optionally commits all shadows. -/
  | layerSet (m : Master)
  /-- LAYER_CAPTURE_SET (R259). Enables or changes view capture into buffers A and B. -/
  | layerCaptureSet (m : Master)
  /-- LAYER_HW_QUERY (R264). Returns the newest Heartwood frame report, age, SAFE_OK and copy in use. -/
  | layerHwQuery (m : Master)
  /-- LAYER_HW_AGE_SET (R265). SAFE command that sets the Heartwood refresh age limit. -/
  | layerHwAgeSet (m : Master)
  /-- DISP_QUERY (R282). Returns scan-out timing, lane rate, frame, slip, signature and line counters. -/
  | dispQuery (m : Master)
  /-- DISP_PANEL_SET (R214). Sets the panel configuration in SAFE-VIEW or MAINTENANCE, revalidating the ray map and forcing hold and full write. -/
  | dispPanelSet (m : Master)
  /-- DISP_TIMING_SET (R272). Sets timing mode, lock source, lane rate, slot length and blanking from a latch point. -/
  | dispTimingSet (m : Master)
  /-- DISP_FULL_WRITE (R284). Requests that the next frame is written in full. -/
  | dispFullWrite (m : Master)
  /-- LANE_QUERY (R318). Returns a lane's state, rate, taps, eye margin and error counts. -/
  | laneQuery (m : Master)
  /-- LANE_PATTERN (R319). Starts or stops a lane pattern generator, checker and error injection in MAINTENANCE. -/
  | lanePattern (m : Master)
  /-- LANE_RETRAIN (R309). Retrains a Sapline lane alone or retrains a Rootline port. -/
  | laneRetrain (m : Master)
  /-- MEM_QUERY (R333). Returns a channel's state, eyes, ECC and row-hammer counts and refresh debt. -/
  | memQuery (m : Master)
  /-- MEM_RETRAIN (R350). Requests an in-service retrain of one channel. -/
  | memRetrain (m : Master)
  /-- MEM_TEST (R353). Runs a memory pattern test over a channel range in MAINTENANCE. -/
  | memTest (m : Master)
  /-- MEM_SET (R339). Sets the row-hammer threshold, age limit and scrub period. -/
  | memSet (m : Master)
  /-- CHURN_QUERY (R367). Returns a Churn queue's state, priority, lists done and hazard count. -/
  | churnQuery (m : Master)
  /-- CHURN_QUEUE_SET (R358). Configures or disables a Churn queue ring and priority. -/
  | churnQueueSet (m : Master)
  /-- CHURN_ABORT (R371). Command that requests an abort of a queue's running or oldest list. -/
  | churnAbort (m : Master)
  /-- PLACARD_QUERY (R394). Returns the placard image shown, state, band and recovery flag. -/
  | placardQuery (m : Master)
  /-- PLACARD_CONFIG (R381). Sets segment count, bias mode, VCOM trim and bias codes. -/
  | placardConfig (m : Master)
  /-- PLACARD_UPDATE (R386). Starts a placard update toward a target image after checks. -/
  | placardUpdate (m : Master)
  /-- PLACARD_WAVE_LOAD (R384). Stores the waveform record of one temperature band. -/
  | placardWaveLoad (m : Master)
  /-- AUDIO_QUERY (R397). Returns the audio clock source, xrun counts and alarm state. -/
  | audioQuery (m : Master)
  /-- AUDIO_PORT_SET (R398). Sets an audio port's role, rate and width. -/
  | audioPortSet (m : Master)
  /-- AUDIO_MIX_SET (R403). Sets input sources and the gain matrix at a mixer frame boundary. -/
  | audioMixSet (m : Master)
  /-- AUDIO_DELAY_SET (R406). Sets an input's delay trim and returns the resulting delay. -/
  | audioDelaySet (m : Master)
  /-- AUDIO_PCM_RING (R402). Sets the host PCM ring. -/
  | audioPcmRing (m : Master)
  /-- AUDIO_IEC_SET (R399). Sets the IEC 60958 channel-status block. -/
  | audioIecSet (m : Master)
  /-- HK_QUERY (R408). Returns the last round's temperatures, voltages, currents or sensor states. -/
  | hkQuery (m : Master)
  /-- HK_THRESHOLD_SET (R412). Sets the temperature thresholds of one or all sensors. -/
  | hkThresholdSet (m : Master)
  /-- HK_CONVERT (R409). Places an on-demand conversion of a channel in the next slot. -/
  | hkConvert (m : Master)
  /-- CAL_QUERY (R422). Returns a calibration trim and its NVM write history. -/
  | calQuery (m : Master)
  /-- CAL_RUN (R422). Runs a calibration item and returns its trim. -/
  | calRun (m : Master)
  /-- CAL_HOLD (R422). Freezes or releases a calibration loop in MAINTENANCE. -/
  | calHold (m : Master)
  /-- NVM_READ (R424). Returns an NVM record into the bulk buffer. -/
  | nvmRead (m : Master)
  /-- NVM_WRITE (R426). Frames and writes the BOARD, ISP context or FACTORY record from the owner. -/
  | nvmWrite (m : Master)
  /-- NVM_STATUS (R426). Returns maximum word writes, log entries and record fallbacks. -/
  | nvmStatus (m : Master)
  /-- SEC_QUERY (R444). Returns seal state, owner key, running slot, rollback counter and measurement. -/
  | secQuery (m : Master)
  /-- SEC_ATTEST (R446). Writes and signs an attestation report with the caller's nonce. -/
  | secAttest (m : Master)
  /-- SEC_FW_STAGE (R450). Verifies a firmware container and programs it into the inactive flash slot. -/
  | secFwStage (m : Master)
  /-- SEC_FW_ACTIVATE (R451). Rechecks the staged slot, sets it preferred on trial and starts a live update. -/
  | secFwActivate (m : Master)
  /-- SEC_OWNER_KEY (R442). Sets, rotates or removes the owner key from a signed rotation container. -/
  | secOwnerKey (m : Master)
  /-- SEC_SEAL (R448). Blows the field seal after generating and certifying a new identity key. -/
  | secSeal (m : Master) (sealEn : Bool)
  /-- SEC_BUNDLE_LOAD (R441). Verifies and stores a Heartwood or configuration bundle for the next boot. -/
  | secBundleLoad (m : Master)
  /-- LOG_QUERY (R430). Returns the oldest and newest log sequence numbers and the capacity. -/
  | logQuery (m : Master)
  /-- LOG_READ (R430). Returns log entries from a sequence number into the bulk buffer. -/
  | logRead (m : Master)
  /-- LOG_CLEAR (R430). Raises the log floor to the newest sequence number plus one. -/
  | logClear (m : Master)
  /-- SVC_QUERY (R95). Returns a domain's service state, last cause and cycle count. -/
  | svcQuery (m : Master)
  /-- SVC_DRAIN (R51). Drains one domain out of service. -/
  | svcDrain (m : Master)
  /-- SVC_POWER_CYCLE (R50). Power-cycles a drained domain. -/
  | svcPowerCycle (m : Master)
  /-- SVC_RETEST (R230). Self-tests a drained domain. -/
  | svcRetest (m : Master)
  /-- SVC_RETURN (R26). Returns a retested domain to service and clears its reduction cause. -/
  | svcReturn (m : Master)
  /-- RECOVERY_FW_STAGE (R439). ROM recovery form that programs a chunk of a flash slot from the staging buffer and verifies on the last chunk. -/
  | recoveryFwStage
  /-- RECOVERY_FW_ACTIVATE (R439). ROM recovery form that sets a valid slot preferred and restarts the boot. -/
  | recoveryFwActivate
  /-- COMMAND_UNDEFINED (R93). A dequeued command whose code this firmware does not define, answered ST_BAD_COMMAND. -/
  | commandUndefined (m : Master)
  /-- MB_DOORBELL (R81). Write of a mailbox producer count that submits commands or sets OVERRUN. -/
  | mbDoorbell (writer : Master) (box : Nat) (value : W32)
  /-- PENDING_COMPLETION (R97). Completion of a pending operation, posted as a completion event to its issuer's ring. -/
  | pendingCompletion (m : Master) (pid : Nat) (obs : Obs)
  /-- PENDING_TIMEOUT (R96). Expiry of a pending operation's limit, completing it with ST_TIMEOUT. -/
  | pendingTimeout (m : Master) (pid : Nat)
  /-- FIELD_PREREQUISITES_MET (R23). The last FIELD prerequisite is met and the transition is scheduled for the second latch point after it. -/
  | fieldPrerequisitesMet
  /-- OWN_CLAIM (R73). Write of a claim token, judged at a tick, as a replacement, as an acceptance or answered HELD. -/
  | ownClaim (m : Master) (token : W32)
  /-- OWNERSHIP_TICK (R73). 1 ms ownership tick that judges competing claims and token replacements. -/
  | ownershipTick
  /-- OWN_HEARTBEAT (R74). Write of the owner's token that restarts the heartbeat period or is logged as bad. -/
  | ownHeartbeat (m : Master) (token : W32)
  /-- HEARTBEAT_LAPSE (R74). Expiry of the heartbeat period, leaving ownership vacant with cause LAPSE. -/
  | heartbeatLapse
  /-- OWN_HANDOVER_TOKEN (R74). Write of the owner's token that pairs with the next OWN_HANDOVER write. -/
  | ownHandoverToken (m : Master) (token : W32)
  /-- OWN_HANDOVER (R75). OWN_HANDOVER write naming a target master, opening a 100 ms handover. -/
  | ownHandover (m : Master) (value : W32)
  /-- OWN_RELEASE (R76). OWN_HANDOVER write with TARGET 7 that leaves ownership vacant with cause RELEASE. -/
  | ownRelease (m : Master)
  /-- HANDOVER_EXPIRY (R75). Expiry of the 100 ms handover window, cancelling the handover. -/
  | handoverExpiry
  /-- SVC_PRESENT_CHANGE (R68). Debounced change of SVC_PRESENT_N that enables or ignores the SVC port. -/
  | svcPresentChange (level : Bool)
  /-- EVR_CONSUMER (R83). Write of an event ring consumer count, taken only when it moves forward within the producer. -/
  | evrConsumer (m : Master) (ring : Nat) (value : W32)
  /-- EVR_LOST_READ (R11). Read of EVR_LOST that returns and clears the discarded-event count. -/
  | evrLostRead (m : Master) (ring : Nat)
  /-- SPI_WRITE_FRAME (R70). SVC SPI WRITE frame performing 32-bit window writes. -/
  | spiWriteFrame (bytes : List W8)
  /-- SPI_READ_FRAME (R70). SVC SPI READ frame performing window reads with read-ahead. -/
  | spiReadFrame (bytes : List W8) (words : Nat) (late : List Nat)
  /-- SPI_STATUS_FRAME (R70). SVC SPI STATUS frame returning and clearing the status byte. -/
  | spiStatusFrame
  /-- TWO_WIRE_WRITE (R71). SAFE two-wire WRITE transaction, applied only when its PEC is right. -/
  | twoWireWrite (bytes : List W8)
  /-- TWO_WIRE_READ (R71). SAFE two-wire READ transaction with PEC. -/
  | twoWireRead (bytes : List W8) (n : Nat) (late : List Nat)
  /-- TWO_WIRE_STATUS (R71). SAFE two-wire STATUS transaction returning and clearing the status byte. -/
  | twoWireStatus (bytes : List W8)
  /-- SAFE_SCL_TIMEOUT (R463). SCL held low above 35 ms, after which the port releases SDA and abandons the transaction. -/
  | safeSclTimeout (write : Bool)
  /-- BAR2_WRITE (R69). Host or window write to device memory, judged by master, address and lease policy. -/
  | bar2Write (m : Master) (addr : Nat) (data : List W8)
  /-- BAR2_READ (R69). Host or window read of device memory, returning data, 0 or poisoned completion. -/
  | bar2Read (m : Master) (addr : Nat) (n : Nat)
  /-- REGISTER_WRITE (R13). Write to a register without a row of its own, judged by permission and domain state. -/
  | registerWrite (m : Master) (offset : Nat) (words : List W32)
  /-- FORCE_SAFE_VIEW_SET (R80). SAFE writes FORCE_SAFE_VIEW to 1, forcing SAFE-VIEW in hardware. -/
  | forceSafeViewSet (m : Master)
  /-- FORCE_SAFE_VIEW_CLEAR (R80). SAFE writes FORCE_SAFE_VIEW to 0, leaving the device in SAFE-VIEW until the owner asks. -/
  | forceSafeViewClear (m : Master)
  /-- HW_RELEASE (R80). SAFE writes HW_RELEASE, releasing the Heartwood layer from glass in MAINTENANCE. -/
  | hwRelease (m : Master)
  /-- ALARM_TONE_ON (R404). SAFE sets ALARM_TONE, injecting the 960 Hz tone on every output. -/
  | alarmToneOn (m : Master)
  /-- ALARM_TONE_OFF (R404). SAFE clears ALARM_TONE, ending the tone at the next zero crossing. -/
  | alarmToneOff (m : Master)
  /-- HW_PORT_DATA (R262). SAFE writes a word into the staging bank of both Heartwood copies and advances the address. -/
  | hwPortData (m : Master) (data : W32)
  /-- HW_COMMIT (R263). SAFE requests a Heartwood bank and geometry switch, checked at once. -/
  | hwCommit (m : Master) (value : W32)
  /-- HW_BANK_COPY_DONE (R263). End of the copy of the new bank in force into the staging bank, clearing COMMIT_PENDING. -/
  | hwBankCopyDone
  /-- HW_REFRESH (R265). SAFE writes a CRC that resets the Heartwood age when it matches a recent report. -/
  | hwRefresh (m : Master) (crc : W32)
  /-- HW_FRAME_READ (R262). Read of HW_FRAME that captures HW_CRC and HW_STATUS for the reading master. -/
  | hwFrameRead (m : Master)
  /-- HEARTWOOD_AGE_EXPIRY (R265). Heartwood age exceeds AGE_MS, setting STALE and dropping SAFE_OK. -/
  | heartwoodAgeExpiry
  /-- FLIP_PRODUCER (R248). Owner write of the flip-ring producer count under the producer rule. -/
  | flipProducer (m : Master) (value : W32)
  /-- FLIP_ENTRY_CONSUME (R248). Consumption of the oldest flip entry: shadow address writes, commit and result. -/
  | flipEntryConsume
  /-- DISP_COMMIT (R249). Owner write that commits all shadows at once, naming the layers supplied. -/
  | dispCommit (m : Master) (value : W32)
  /-- SCENE_PRODUCER (R199). Owner write of the scene-ring producer count that submits entries and holds their pages. -/
  | sceneProducer (m : Master) (value : W32)
  /-- SCENE_ENTRY_PARSE (R198). Parsing of one scene ring entry into the pending directory set, whole or rejected. -/
  | sceneEntryParse
  /-- CHURN_PRODUCER (R359). Owner write of a Churn queue producer count under the producer rule. -/
  | churnProducer (m : Master) (q : Nat) (value : W32)
  /-- CHURN_ABORT_WRITE (R371). Owner write of CHURN_ABORT requesting an abort, as the command does. -/
  | churnAbortWrite (m : Master) (q : Nat) (value : W32)
  /-- CHURN_LIST_START (R360). Engine starts the oldest entry of the highest-priority queue and checks its header. -/
  | churnListStart
  /-- CHURN_SEGMENT (R366). One segment of a command: reads, lease check, compute and clipped writes. -/
  | churnSegment
  /-- CHURN_LEASE_WAIT_END (R368). A held destination range is released and the waiting segment proceeds. -/
  | churnLeaseWaitEnd
  /-- CHURN_ABORT_EFFECT (R371). An abort takes effect, ending the list as COMPLETE with ABORT_LATE or ABORTED. -/
  | churnAbortEffect (q : Nat)
  /-- CHURN_LIST_END (R370). List ends: completion written, COMPLETED advanced and vector raised. -/
  | churnListEnd
  /-- AUDIO_PCM_PRODUCER (R472). Owner write of the PCM ring producer count under the producer rule. -/
  | audioPcmProducer (m : Master) (value : W32)
  /-- FIRST_POWER (R60). VDD_AON rises from below 0.5 V, resetting the whole device with cause POWER_ON. -/
  | firstPower
  /-- PWR_OK_RISE (R43). Power-good: AON leaves reset, samples straps, reads boot and board records and raises CORE_EN. -/
  | pwrOkRise (linkSplit : Bool)
  /-- CORE_PG_RISE (R43). CORE_PG rises and the device raises SDS_EN and MEM_EN. -/
  | corePgRise
  /-- POWER_GOOD_DEADLINE (R44). A regulator power-good misses its deadline; enables released and RAIL_FAULT set. -/
  | powerGoodDeadline (rail : Nat)
  /-- RAIL_RETRY_TIMER (R44). Expiry of the 1 s rail retry wait, restarting the enable sequence or giving up after three. -/
  | railRetryTimer
  /-- ABRUPT_LOSS_TRIGGER (R56). VIN_SENSE, HOLDUP_N, PWR_OK or a power-good fall confirmed after 1 µs starts the abrupt-loss sequence. -/
  | abruptLossTrigger (trigger : Nat)
  /-- POWER_RETURN_RESTART (R58). Power inputs valid for 10 ms after the sequence, giving a cold boot with POWER_LOSS. -/
  | powerReturnRestart (linkSplit : Bool)
  /-- BROWNOUT (R60). VDD_AON below 0.68 V for 2 µs resets the whole device at once. -/
  | brownout
  /-- SYS_RST_N_LOW (R60). External reset request: abrupt-loss sequence without marker, held in reset. -/
  | sysRstNLow
  /-- SYS_RST_N_RELEASE (R60). SYS_RST_N rises and the device cold-boots with EXT_RESET. -/
  | sysRstNRelease
  /-- WAKE_N_LOW (R55). WAKE_N low for 10 µs wakes the device from DORMANT. -/
  | wakeNLow (linkSplit : Bool)
  /-- PERST_RISE (R55). Release of a PCIe fundamental reset, which wakes from DORMANT and starts link training. -/
  | perstRise (link : Nat) (linkSplit : Bool)
  /-- PERST_LOW (R61). Assertion of a PCIe fundamental reset, resetting only that host half and link. -/
  | perstLow (link : Nat)
  /-- SAFE_STOP_N_LOW (R28). SAFE_STOP_N falls, forcing SAFE-VIEW in hardware at the next latch point. -/
  | safeStopNLow
  /-- SAFE_STOP_N_HIGH (R28). SAFE_STOP_N rises; the device stays in SAFE-VIEW until the owner asks. -/
  | safeStopNHigh
  /-- DOMAIN_SWITCH_REQUEST (R51). Taproot asks to switch a domain on or off, refused, held or queued. -/
  | domainSwitchRequest (dom : Nat) (on : Bool) (reason : Nat)
  /-- DOMAIN_QUEUED_START (R49). A queued switch-on request is started when the 25 µs start limit allows. -/
  | domainQueuedStart
  /-- DOMAIN_ON_COMPLETE (R48). A domain accepts traffic after its on time. -/
  | domainOnComplete (dom : Nat)
  /-- DOMAIN_OFF_COMPLETE (R17). A domain is drained, isolated and off after its off time. -/
  | domainOffComplete (dom : Nat)
  /-- AVS_UPDATE (R46). 1 ms AVS period: each rail moves by at most one 5 mV step over PMBus. -/
  | avsUpdate (rail : Nat) (needMv : Nat) (ack : Bool) (failing : List Nat)
  /-- DROOP_DETECT (R47). An island's supply droops past the threshold and its clock is stretched. -/
  | droopDetect (dom : Nat) (mv : Nat)
  /-- GOVERNOR_PERIOD (R35). 10 µs governor period comparing measured power with the limit and capping cluster clocks. -/
  | governorPeriod (measured : Nat)
  /-- REFCLK_LOST (R66). A clock monitor declares an input lost and its users switch to backup or hold. -/
  | refclkLost (input : Nat) (reason : Nat) (ppm : Int)
  /-- REFCLK_RESTORED (R65). A clock input is within limits for 1 ms and is declared restored. -/
  | refclkRestored (input : Nat)
  /-- TAPROOT_WDT_EXPIRY (R62). Watchdog expiry that restarts Taproot, switches slot or halts it. -/
  | taprootWdtExpiry
  /-- TAPROOT_RESTARTED (R89). A restarted Taproot resolves pending operations, rebuilds intent and resumes dequeuing. -/
  | taprootRestarted
  /-- LIVE_UPDATE_DRAIN_TIMEOUT (R89). The 100 ms drain before a live update ends and remaining operations complete with ST_UPDATING. -/
  | liveUpdateDrainTimeout
  /-- LIVE_UPDATE_RESTART (R451). At the first latch point after draining, AON loads the new image and starts Taproot. -/
  | liveUpdateRestart
  /-- TAPROOT_READY (R438). Taproot gives READY, confirming the trial and raising the rollback counter. -/
  | taprootReady
  /-- ACTIVATION_READY_TIMEOUT (R451). No READY within 300 ms of a live update restart, so AON reverts to the old image. -/
  | activationReadyTimeout
  /-- ROM_BOOT (R437). ROM sequence choosing, verifying and loading a firmware slot, or entering recovery. -/
  | romBoot
  /-- UNIT_MISMATCH_CHECK (R87). Taproot's 10 ms reconciliation that reapplies intent and finally marks a unit FAULTED. -/
  | unitMismatchCheck (unit : Nat)
  /-- LATCH_POINT (R22). Latch point: commits, scene entries, mode changes, maps and limits take effect and frame f begins. -/
  | latchPoint
  /-- RETIRE_FENCE (R205). All reads of a frame's ranges have returned; commits and scene entries retire and holds end. -/
  | retireFence
  /-- SLOT_BOUNDARY (R271). A line slot begins: a line packet is sent, skipped or slipped, or blanking blocks are sent. -/
  | slotBoundary
  /-- LINE_COMPLETE (R279). A line completes in the output line store and the watermarks are re-evaluated. -/
  | lineComplete (sf : Nat) (line : Nat)
  /-- FRAME_LOCK_IN_EDGE (R275). A rising edge on FRAME_LOCK_IN that aligns vertical blanking or counts as EARLY. -/
  | frameLockInEdge
  /-- SIG_REPORT (R283). Panel signature report compared with the expected XOR, confirming or unconfirming the subframe. -/
  | sigReport (sf : Nat) (frame : W32) (sig : W32) (lines : Nat)
  /-- SIG_REPORT_MISSING (R283). No signature report within 1 ms of a subframe's last line, counted as a mismatch. -/
  | sigReportMissing (sf : Nat)
  /-- LINE_ERROR (R283). Panel LINE_ERROR message that unconfirms its subframe. -/
  | lineError (sf : Nat) (frame : W32) (line : Nat) (cause : Nat)
  /-- PANEL_STATUS (R291). Panel STATUS message updating the panel status register. -/
  | panelStatus (temp : W16) (flags : W8)
  /-- PANEL_STATUS_LOST (R291). No panel STATUS for 500 ms, setting STATUS_LOST. -/
  | panelStatusLost
  /-- LANE_STATS (R315). Panel LANE_STATS message that may trigger a lone lane retrain. -/
  | laneStats (lane : Nat) (errors : W32)
  /-- SAPLINE_TRAIN_REQ (R305). Panel TRAIN_REQ applied to a transmitter, ending a lane as trained or failed. -/
  | saplineTrainReq (lane : Nat) (seq : Nat) (kind : Nat) (preset : Nat) (steps : W8) (margin : Nat)
  /-- SAPLINE_GROUP_TRAINING (R306). A Sapline group starts training with TRAIN blocks from stored taps. -/
  | saplineGroupTraining (g : Nat)
  /-- TRAINING_BUDGET_EXPIRY (R306). 2 ms after the group's first TRAIN block, lanes without DONE fail. -/
  | trainingBudgetExpiry (g : Nat)
  /-- SAPLINE_TRAINING_DONE (R306). Every lane has trained or failed; ALIGN is sent 16 times on every included lane. -/
  | saplineTrainingDone
  /-- STEP_REQUEST_APPLY (R314). An in-service STEP request is applied in the first slot with no packet on its lane. -/
  | stepRequestApply (lane : Nat)
  /-- LANE_RETRY_TIMER (R309). 10-minute retry that retrains an excluded Sapline lane alone. -/
  | laneRetryTimer (lane : Nat)
  /-- LANE_MARGIN_TIMER (R313). A lane's margin stays below 120 mUI for 1 s. -/
  | laneMarginTimer (lane : Nat)
  /-- ADAPTATION_UPDATE (R310). CTLE and DFE adaptation steps of a receiver. -/
  | adaptationUpdate (lane : Nat) (better : Int) (steps : Nat) (corr : List Int)
  /-- OFFSET_TRIM (R311). 100 ms receiver offset trim using the monitor sampler. -/
  | offsetTrim (lane : Nat) (target : Int)
  /-- ELEC_IDLE_KEEPALIVE (R317). A lane idle for 1 ms sends the exit burst and 64 IDLE blocks. -/
  | elecIdleKeepalive (lane : Nat)
  /-- RELINK_TRAINING_DONE (R277). Training at the new rate ends; ALIGN is sent and frame f latches as a full write. -/
  | relinkTrainingDone
  /-- RELINK_TIMEOUT (R277). No training within 50 ms; the device restores the old rate and completes with ST_TIMEOUT. -/
  | relinkTimeout
  /-- PANEL_POWER_UP (R293). Panel power-up starts: PNL_PWR_EN[0] rises and PNL_DISCH_N is released. -/
  | panelPowerUp
  /-- PNL_PG_RISE (R293). A panel rail power-good rises; the next rail is enabled or Sapline trains. -/
  | pnlPgRise (rail : Nat)
  /-- PANEL_RAIL_FAULT (R294). A PNL_PG misses 50 ms or falls, running panel power-down and scheduling a retry. -/
  | panelRailFault (rail : Nat)
  /-- PANEL_RETRY_TIMER (R294). 1 s after a panel rail fault, the panel power-up starts again. -/
  | panelRetryTimer
  /-- HOLD_SEQUENCER_TIMEOUT (R297). CMP delivers no blocks to a group for 2 slots and the group sends HOLD. -/
  | holdSequencerTimeout (g : Nat)
  /-- CMP_FAULT (R297). Fault of the compositor domain, handled by hold and power-cycle from AON. -/
  | cmpFault
  /-- CMP_RESTART_COMPLETE (R297). CMP restarts from the AON mirror and resumes with ALIGN and a full write. -/
  | cmpRestartComplete
  /-- FSYNC_TICK (R111). The FSYNC generator sends a tick to every enabled port whose divider selects it. -/
  | fsyncTick
  /-- SIGNAL_DETECT (R114). Signal on a forward lane for 1 ms; the port sends LINK_CTRL and trains. -/
  | signalDetect (port : Nat)
  /-- ROOTLINE_TRAINING_DONE (R114). Block lock and deskew reached; the port reads the head registers and matches a profile. -/
  | rootlineTrainingDone (port : Nat) (headId : W32) (headSerial : W32) (headVer : W8) (headCaps : W8) (latency : Nat)
  /-- BRING_UP_TIMEOUT (R114). Bring-up steps 2 to 4 take more than 20 ms; the attempt fails. -/
  | bringUpTimeout (port : Nat)
  /-- HEAD_UNPLUG (R116). No signal for 100 µs on every lane; frame truncated and port returned to DETECT. -/
  | headUnplug (port : Nat)
  /-- LOCK_FAULT (R118). CDR, block lock, skew or frequency fault; the frame is truncated and the port retrains. -/
  | lockFault (port : Nat) (lane : Nat) (ppm : Int)
  /-- FAILURE_COUNT_CLEAR (R119). 60 s of fault-free streaming clears a port's failure count. -/
  | failureCountClear (port : Nat)
  /-- FRAME_START_TIMEOUT (R120). No frame start for 500 ms on a locked port; a failure is counted and the port retrains. -/
  | frameStartTimeout (port : Nat)
  /-- ROOTLINE_TRAIN_ACK (R307). Head TRAIN block acknowledging a request; the device measures and sends the next request. -/
  | rootlineTrainAck (port : Nat) (lane : Nat) (seq : Nat) (status : Nat) (margin : Nat)
  /-- CSI2_FRAME_START (R112). A frame start packet that numbers the frame or marks it DROPPED. -/
  | csi2FrameStart (port : Nat) (number : W16) (credits : Bool)
  /-- CSI2_FRAME_END (R121). A frame end packet that classifies the frame. -/
  | csi2FrameEnd (port : Nat) (number : W16)
  /-- CSI2_IMAGE_LINE (R121). An image line packet handed to the pipeline or discarded. -/
  | csi2ImageLine (port : Nat) (vc : Nat) (crcOk : Bool) (credits : Bool) (data : List W8)
  /-- CSI2_EMBEDDED_LINE (R152). An embedded data line carrying the settings ID. -/
  | csi2EmbeddedLine (port : Nat) (crcOk : Bool) (data : List W8)
  /-- ALIGN_BLOCK (R106). Forward ALIGN block on which the port deskews its lanes. -/
  | alignBlock (port : Nat) (lane : Nat) (count : W16) (skewUi : Nat)
  /-- HEAD_ACK (R109). Head ACK of a reverse REG_WRITE or LINK_CTRL. -/
  | headAck (port : Nat) (tag : Nat) (status : Nat)
  /-- REG_RESP (R109). Head REG_RESP block carrying read data. -/
  | regResp (port : Nat) (tag : Nat) (index : Nat) (status : Nat) (data : List W8)
  /-- HEAD_ANSWER_TIMEOUT (R109). No head answer within 200 µs; the message is resent or the command times out. -/
  | headAnswerTimeout (port : Nat)
  /-- AUD_BLOCK (R125). A head audio block stamped and passed to the mixer input. -/
  | audBlock (port : Nat) (count : Nat) (left : Int) (right : Int)
  /-- INLINE_LINE_PROCESS (R127). The pipeline processes a complete in-line input line. -/
  | inlineLineProcess (pipe : Nat)
  /-- RAW_FRAME_READY (R128). A memory-fed raw frame becomes ready, possibly replacing an older unstarted one. -/
  | rawFrameReady (port : Nat)
  /-- MEMFED_FRAME_START (R129). The pipeline loads a context and starts the next ready memory-fed frame. -/
  | memfedFrameStart (pipe : Nat)
  /-- PIPELINE_FRAME_DONE (R141). A frame's last output line is written and the buffer marked complete. -/
  | pipelineFrameDone (port : Nat) (credits : Bool)
  /-- STATS_COMPLETE (R147). A frame's statistics set completes and the AE/AWB loop runs. -/
  | statsComplete (port : Nat)
  /-- PIPELINE_FAULT (R156). A pipeline domain faults and its ports are reassigned as memory-fed. -/
  | pipelineFault (pipe : Nat)
  /-- PAIR_FRAME_START (R159). Both ports have produced frame j and the pair unit starts it. -/
  | pairFrameStart (unit : Nat)
  /-- DISPARITY_ROW_EMIT (R170). A pair unit emits a disparity row when its input rows are ready. -/
  | disparityRowEmit (unit : Nat) (err : Option Nat)
  /-- SLICER_TILE_ROW (R181). The slicer completes a tile row of every plane. -/
  | slicerTileRow (layer : Nat)
  /-- SLICER_HALF_RELEASE (R182). A held pool half is released and the stalled slicer writes on. -/
  | slicerHalfRelease (layer : Nat)
  /-- STRIP_PULL (R223). A cluster with capacity pulls the next strip, or the strip is skipped. -/
  | stripPull (cluster : Nat)
  /-- STRIP_COMPLETE (R223). A strip's drive codes are written to the output line store. -/
  | stripComplete (cluster : Nat)
  /-- TILE_FETCH_RETURN (R228). A missed tile's fetch returns and is decoded into a Cellar slot, or poisoned. -/
  | tileFetchReturn (plane : Nat) (tx : Nat) (ty : Nat) (poisoned : Bool)
  /-- FLAT_TILE_PRODUCE (R247). The layer path produces a tile row of a flat layer when a slot is free. -/
  | flatTileProduce (layer : Nat)
  /-- DUPLICATE_CHECK_COMPARE (R231). Both renders of a checked strip are compared, possibly retiring a cluster. -/
  | duplicateCheckCompare (primary : W32) (checker : W32) (third : W32)
  /-- CLUSTER_SELF_TEST_DONE (R230). A cluster and slice self-test ends, admitting or retiring the cluster. -/
  | clusterSelfTestDone (cluster : Nat) (pass : Bool) (slicePass : Bool)
  /-- SPARE_RETEST_TIMER (R230). 10-minute retest of the spare cluster domain. -/
  | spareRetestTimer
  /-- SLICE_FAULT (R233). A Cellar slice is declared faulted and spared at the next latch point. -/
  | sliceFault (slice : Nat) (err : CellarError)
  /-- MAP_SHADOWS_WRITTEN (R213). A new ray map is in every cluster shadow and waits for a latch point. -/
  | mapShadowsWritten
  /-- CHANNEL_STARTUP (R332). A memory channel runs reset, calibration, training and zeroing. -/
  | channelStartup (n : Nat)
  /-- CHANNEL_STARTUP_DONE (R334). A channel joins the map, or fails training and is left out. -/
  | channelStartupDone (n : Nat) (eyes : List Nat)
  /-- MEM_REQUEST_ENQUEUE (R336). A request enters a channel queue when an entry of its class is free. -/
  | memRequestEnqueue (n : Nat) (req : Req)
  /-- MEM_REQUEST_ISSUE (R338). The controller issues the oldest eligible request of the highest class. -/
  | memRequestIssue (n : Nat) (ecc : Ecc)
  /-- AGE_PROMOTION (R339). A request older than AGE_LIMIT_NS is promoted one class. -/
  | agePromotion (n : Nat)
  /-- READ_DATA_RETURN (R347). Read data returns with ECC correction or a poison flag. -/
  | readDataReturn (n : Nat) (rid : Nat) (ecc : Ecc)
  /-- REFRESH_SLOT (R344). A refresh slot that refreshes a bank or adds to the debt under panic. -/
  | refreshSlot (n : Nat)
  /-- REFRESH_CATCHUP (R344). A catch-up refresh midway between slots after panic clears. -/
  | refreshCatchup (n : Nat)
  /-- REFRESH_WINDOW_START (R346). A new refresh window clears activation counts and throttles. -/
  | refreshWindowStart
  /-- TRACKING_READ (R335). 10 ms tracking reads that move read delays or trigger a retrain. -/
  | trackingRead (n : Nat) (drifts : List Int)
  /-- PATROL_SCRUB (R349). Patrol scrub reads of a channel's bursts. -/
  | patrolScrub (n : Nat) (ecc : Ecc)
  /-- IN_SERVICE_RETRAIN_START (R350). A channel starts an in-service retrain in slices. -/
  | inServiceRetrainStart (n : Nat)
  /-- IN_SERVICE_RETRAIN_DONE (R351). A retrain ends, applying settings or removing the channel. -/
  | inServiceRetrainDone (n : Nat) (eyes : List Nat)
  /-- CHANNEL_REMOVAL (R354). A channel is removed; reads return poisoned and the remap waits for a latch point. -/
  | channelRemoval (n : Nat) (cause : Nat)
  /-- TAPROOT_REALLOCATION (R355). Taproot re-creates its regions and deletes owner regions beyond the new top. -/
  | taprootReallocation
  /-- PLACARD_INTENT_COMMITTED (R388). The intent record's commit flag is written and the pump starts in compatibility mode. -/
  | placardIntentCommitted
  /-- PLACARD_FRAME_BOUNDARY (R377). A 20 ms placard frame boundary at which a frame is latched or the sequence closes. -/
  | placardFrameBoundary
  /-- PLC_FAULT_N_FALL (R378). Placard driver fault: OE_N high, update stopped and completed with ST_FAULTED. -/
  | plcFaultNFall
  /-- PLC_FAULT_N_CLEAR (R378). PLC_FAULT_N high for 100 ms, after which recovery runs. -/
  | plcFaultNClear
  /-- PLACARD_RECOVERY (R391). At boot Taproot reads the intent record and runs a clearing when content is uncertain. -/
  | placardRecovery
  /-- PLACARD_RECOVERY_RESUME (R392). A waiting recovery runs once the missing waveform, configuration or fault condition is met. -/
  | placardRecoveryResume
  /-- MIXER_FRAME (R403). 48 kHz mixer frame that mixes delayed inputs into the outputs. -/
  | mixerFrame
  /-- LONG_UNDERRUN (R401). 10 ms of continuous underrun fades an input to 0. -/
  | longUnderrun (input : Nat)
  /-- SLAVE_WS_TIMEOUT (R398). A slave port sees no WS edge for 1 ms and drives its data low. -/
  | slaveWsTimeout (port : Nat)
  /-- AUDIO_PORT_APPLY (R398). A new port setting applies at the port's next WS rising edge. -/
  | audioPortApply (port : Nat)
  /-- IEC_BLOCK_START (R399). IEC block start at which a new channel-status block or clock return applies. -/
  | iecBlockStart
  /-- CONVERSION_SLOT (R408). A housekeeping conversion whose result updates thresholds, dwell counts and sensor faults. -/
  | conversionSlot (raw : Nat)
  /-- THERMAL_STEP_CHANGE (R414). The thermal step moves one step toward the highest request once 100 ms have passed. -/
  | thermalStepChange
  /-- SELF_HEATING_START (R416). Taproot starts self-heating while a sensor holds LOW_STOP. -/
  | selfHeatingStart
  /-- FAST_COMPARATOR_SAMPLE (R417). A 5 µs fast-comparator comparison of a sensor with its TRIP level. -/
  | fastComparatorSample (sensor : Nat) (hit : Bool)
  /-- TRIP_RESTART (R420). Every sensor at or below 95 °C for 10 s; THERM_TRIP_N released and a cold boot. -/
  | tripRestart
  /-- CALIBRATION_LOOP (R422). A periodic calibration loop adjusts a trim and records drift. -/
  | calibrationLoop (item : Nat) (index : Nat) (trim : Int)
  /-- NVM_DEFERRED_WRITE (R425). A pending record change reaches NVM at the end of its rate-limit interval. -/
  | nvmDeferredWrite (record : Nat)
  /-- NVM_DAILY_CHECK (R427). Daily read of every record with rewrite of corrected ones. -/
  | nvmDailyCheck (corrected : List Nat)
  /-- EVENT_LOG_WRITE (R429). An event of severity 1 or above is written into the NVM event log. -/
  | eventLogWrite
  /-- CSI2_DISCARDED_PACKET (R107). A received CSI-2 packet with an uncorrectable header, non-zero VC extension bits, another VC or an unlisted data type is discarded and counted; an uncorrectable header ends the frame's valid data as a missing line. -/
  | csi2DiscardedPacket (port : Nat) (why : Nat)
  /-- AUDIO_INPUT_SAMPLE (R401). A sample frame arrives at AI0 or a slave port and enters its rate tracker and jitter buffer, overwriting the newest sample when the buffer is full. -/
  | audioInputSample (source : Nat) (left : Int) (right : Int)
  /-- PCIE_LINK_CHANGE (R326). A PCIe link trains up, trains narrower or slower, or goes down, setting lane states and posting EV_LANE_EXCLUDED for lanes left out. -/
  | pcieLinkChange (link : Nat) (up : Bool) (width : Nat) (rate : Nat)
  /-- PCIE_POWER_STATE (R325). A PCIe function enters or leaves D3hot or L1 on a PCI-PM request, so its BAR0 and BAR2 stop or resume answering and its vectors are lost. -/
  | pciePowerState (link : Nat) (d3hot : Bool) (l1 : Bool)
  /-- DOMAIN_FAULT (R34). Hardware declares a fault of a switched domain or unit (DE, SL, CH, PL, AU, MC, a cluster, a pair unit self-check), starting its absorption mechanism and reduction. -/
  | domainFault (unit : Nat)
  /-- PANEL_HOLD_LIMIT (R266). A panel hold lasts 100 ms, and SAFE_OK falls within 1 ms. -/
  | panelHoldLimit
  /-- EVENT_INTERRUPT_HOLDOFF (R84). The EVR_HOLDOFF interval of an event ring ends and a held-off vector 1 for entries written meanwhile is raised. -/
  | eventInterruptHoldoff (ring : Nat)
  /-- TAP_EXCHANGE_LIMIT (R307). The 2 ms tap-exchange limit of a Rootline port ends without DONE, so the attempt fails and counts under R119. -/
  | tapExchangeLimit (port : Nat)
  /-- CHURN_DRAIN_LIMIT (R372). 100 ms after SVC.DRAIN of CH, a list still running is aborted and CH is switched off. -/
  | churnDrainLimit
  /-- TEST_ACCESS_PORT_OPERATION (R464). TCK, TMS, TDI and TRST_N clock an IEEE 1149.1 instruction or data shift, whose vendor instructions or EXTEST act on the device as Table 18.10 allows. -/
  | testAccessPortOperation (op : TapOp)
deriving DecidableEq, Repr

end Sys2Proof
end

