-- ==== Sys2Proof/Config.lean ====
section
/-! DEFINITION. What an implementation fixes and the spec leaves open: constants with no value (log 8). -/

namespace Sys2Proof.Config

/-- A free byte, by the index that State.free counts. -/
opaque freeByte : Nat → W8

/-- A free number, by the index that State.free counts; its user bounds it where the spec bounds it. -/
opaque freeNat : Nat → Nat

/-- Whether an SLH-DSA-SHA2-192s signature over a message verifies under a public key (spec/18, R433; FIPS 205). -/
opaque slhVerify : List W8 → List W8 → List W8 → Bool

/-- The SLH-DSA-SHA2-192f signature that a secret key makes over a message (spec/18, R433). -/
opaque slhSign : List W8 → List W8 → Nat → W8

/-- The public key of a secret key (spec/18, R448). -/
opaque slhPublic : List W8 → Nat → W8

/-- VERSION and DIGEST of the ROM, fixed in the ROM mask (spec/18, Table 18.8). -/
opaque romVersion : W32
opaque romDigest : Nat → W8

/-- The frequency step of a cluster at the rail's ceiling, in MHz (spec/01: R37 says "one step", R35 gives the clusters'
step as 50 MHz; DEDUCED, log 14). -/
def freqStep : Nat := 50

/-- The 63-tap half-band filter of a 96 kHz port, whose taps the spec does not list (spec/16, R398): the sample of a phase
from the last 63 samples, newest first. -/
opaque halfBand : Nat → List Int → Int

/-- What the compositor shows of a texel that lies, at a device address, in a half of the graphic window lost with its slice,
which the spec does not state (spec/09, R233). -/
opaque lostTexel : Nat → Nat

/-- The hash by which the ray engine places tiles across the cache slices, which the spec names and does not give
(spec/09): from the tile's identity to a number, of which the slice count is taken. -/
opaque tileHash : List Nat → Nat

/-- The pipeline delay in the camera-lock offset, in ns, which the spec names and does not state (spec/01, R18; spec/05,
the text after R115). -/
opaque pipelineDelay : Nat

end Sys2Proof.Config
end

