-- ==== Sys2Proof/Machine/Coeffs.lean ====
section
/-! DEFINITION. Rounding and the Catmull-Rom tables that reset puts into the layer coefficients (spec/10, R243). -/

namespace Sys2Proof.Machine

/-- round(n / d): half rounds up, toward positive infinity (spec/09, R211). -/
def roundDiv (n : Int) (d : Int) : Int := (2 * n + d).fdiv (2 * d)

/-- Tap weights c(-1), c(0), c(1), c(2) of phase q (R243). -/
def catmullTaps (q : Int) : List Int :=
  let a := roundDiv (-q ^ 3 + 128 * q ^ 2 - 4096 * q) 32
  let b := roundDiv (-3 * q ^ 3 + 256 * q ^ 2 + 4096 * q) 32
  let c := roundDiv (q ^ 3 - 64 * q ^ 2) 32
  [a, 16384 - a - b - c, b, c]

/-- The horizontal table: 64 phases of 8 taps, the weights at indices 2 to 5. -/
def catmullH : List Int :=
  (List.range 64).flatMap fun q => [0, 0] ++ catmullTaps q ++ [0, 0]

/-- The vertical table: 64 phases of 6 taps, the weights at indices 1 to 4. -/
def catmullV : List Int :=
  (List.range 64).flatMap fun q => [0] ++ catmullTaps q ++ [0]

end Sys2Proof.Machine
end

