-- ==== Sys2Proof/Machine/State.lean ====
section
/-! DEFINITION. The state of the block: every register, FIFO, counter, mode and pin the spec gives it, and the queue of
waiting commands. Each field names its rule of spec/; INVENTORY.md lists the reset value of each and whether the spec
gives it. -/

namespace Sys2Proof.Machine

/-- Reasons to fault. -/
inductive Fault
  /-- No command raises it: every command of this block ends in a next state or a refusal. Safe. -/
  | none
deriving DecidableEq, Repr

/-- Reasons to refuse a command. -/
inductive Refusal
  /-- Raised by an arm of exec whose command has no meaning yet. Safe. -/
  | notModelled (mnemonic : String)
deriving DecidableEq, Repr

/-- Output pins of Table 2.2 whose changes the block reports. -/
inductive OutPin
  | thermTripN | coreEn | sdsEn | memEn | pnlPwrEn (i : Nat) | pnlDischN | frameOut | safeOk | plcOeN
deriving DecidableEq, Repr

/-- The PMBus commands the device uses (spec/02, R45). -/
inductive PmbCommand | operation | voutMode | voutCommand | readVout | statusWord | clearFaults
deriving DecidableEq, Repr

/-- What the block drives out: messages, packets, vectors and levels that the outside world observes. -/
inductive Out
  /-- MSI-X vector of a PCIe function (R84) -/
  | vector (fn v : Nat)
  /-- every byte driven on SVC_MISO while SVC_CS_N is low (R70); no entry: high-impedance -/
  | spi (bytes : List W8)
  /-- the answers of the SAFE port to the bytes it receives, address bytes included: ACK or NACK (R71) -/
  | twoWireAck (acks : List Bool)
  /-- bytes returned on the SAFE port, its PEC last (R71) -/
  | twoWire (bytes : List W8)
  /-- data returned to a read, with its poison mark (R69): a master 0 to 4, or 256 + a requester code of Table 13.5 -/
  | readData (m : Nat) (bytes : List W8) (poisoned : Bool)
  /-- a reverse-channel message to a camera head (spec/05, Table 5.4) -/
  | head (port : Nat) (bytes : List W8)
  /-- training or burst control sent on a lane: lane, kind (R304 to R317) -/
  | lane (lane kind : Nat) (arg : Nat)
  /-- a line packet on the panel link: for each active lane its number, its LINE_HDR payload and its data blocks (R286, R287) -/
  | line (packet : List (Nat × List W8 × List (List W8)))
  /-- a TRAIN control block on a lane: its payload (R303) -/
  | train (lane : Nat) (payload : List W8)
  /-- a control block broadcast on the panel link: type of Table 11.4, then its fields and how often it is sent (R285) -/
  | ctrl (kind : Nat) (args : List Nat)
  /-- a level of an output pin at an offset in ns from the command's time -/
  | pin (pin : OutPin) (level : Bool) (offset : Nat)
  /-- a PMBus voltage command: rail, mV (R46) -/
  | pmbus (addr : Nat) (command : PmbCommand) (mv : Nat)
  /-- DRAM commands of a channel: kind (0 activate-read, 1 activate-write, 2 refresh), bank, address (R338, R344) -/
  | dram (n kind bank addr : Nat)
  /-- a placard link frame, its 528 bits as two driver words (R376) -/
  | placard (driver1 driver0 : List W8)
  /-- samples of an audio output (R403) -/
  | audio (o : Nat) (left right : Int)
  /-- an IEC 60958 frame: preamble B, validity, channel-status bit (R399) -/
  | iec (b validity status : Bool) (left right : Int)
  /-- data shifted out of the test access port -/
  | tdo (bits : List Bool)
deriving DecidableEq, Repr

/-- The two parts of the family (spec/00_scope.md, Table 0.4). -/
inductive Part | lv9640 | lv9620
deriving DecidableEq, Repr
/-- Identity of the part. -/
structure Ident where
  /-- which part this is (fuses; read as DEVICE_ID 0x9640 or 0x9620, R69 Table 3.3) (R5, 00_scope.md Table 0.4) -/
  part : Part := .lv9640
  /-- SILICON_REV: [7:0] metal, [15:8] base revision (Table 3.3, 03 (R69)) -/
  siliconRev : W32 := 0
  /-- SERIAL of SYS.IDENTIFY (R95, 04 Table 4.2) -/
  serial : W64 := 0
  /-- NVM_LAYOUT_VERSION of SYS.IDENTIFY (R422, 17 Table 17.7) -/
  nvmLayout : W32 := 1
deriving DecidableEq, Repr
/-- Levels of the low-speed pins (Tables 2.2 and 2.3); pins of a serial protocol appear as frames in out. -/
structure Pins where
  /-- PWR_OK input (R39, 02 Table 2.2) -/
  pwrOk : Bool := false
  /-- SYS_RST_N input (pull-up) (R39, 02 Table 2.2) -/
  sysRstN : Bool := true
  /-- WAKE_N input (pull-up) (R39, 02 Table 2.2) -/
  wakeN : Bool := true
  /-- PERST_A_N input (pull-up) (R39, 02 Table 2.2) -/
  perstAN : Bool := true
  /-- PERST_B_N input (pull-up) (R39, 02 Table 2.2) -/
  perstBN : Bool := true
  /-- SEAL_EN input (pull-down), level last sampled (R63, 02 Table 2.2) -/
  sealEn : Bool := false
  /-- CORE_PG input (R44, 02 Table 2.2) -/
  corePg : Bool := false
  /-- SDS_PG input (R44, 02 Table 2.2) -/
  sdsPg : Bool := false
  /-- MEM_PG input (R44, 02 Table 2.2) -/
  memPg : Bool := false
  /-- HOLDUP_N input (R56, 02 Table 2.2) -/
  holdupN : Bool := true
  /-- VIN_SENSE above its threshold (R56, 02 Table 2.3) -/
  vinOk : Bool := true
  /-- PNL_PG[3:0] inputs (pull-down) (R293, 02 Table 2.2) -/
  pnlPg : List Bool := [false, false, false, false]
  /-- SVC_PRESENT_N, debounced (pull-up) (R68, 02 Table 2.2) -/
  svcPresentN : Bool := true
  /-- SAFE_STOP_N input (pull-down) (R28, 02 Table 2.2) -/
  safeStopN : Bool := false
  /-- PLC_FAULT_N input (pull-up) (R378, 02 Table 2.2) -/
  plcFaultN : Bool := true
  /-- THERM_TRIP_N output (released) (R417, 02 Table 2.2) -/
  thermTripN : Bool := true
  /-- CORE_EN output (low) (R43, 02 Table 2.2) -/
  coreEn : Bool := false
  /-- SDS_EN output (low) (R43, 02 Table 2.2) -/
  sdsEn : Bool := false
  /-- MEM_EN output (low) (R43, 02 Table 2.2) -/
  memEn : Bool := false
  /-- PNL_PWR_EN[3:0] outputs (low) (R293, 02 Table 2.2) -/
  pnlPwrEn : List Bool := [false, false, false, false]
  /-- PNL_DISCH_N output (low) (R293, 02 Table 2.2) -/
  pnlDischN : Bool := false
  /-- SAFE_OK output (low) (R266, 02 Table 2.2) -/
  safeOk : Bool := false
  /-- PLC_OE_N output (high) (R378, 02 Table 2.2) -/
  plcOeN : Bool := true
  /-- FRAME_OUT output (low) (R271, 02 Table 2.2) -/
  frameOut : Bool := false
deriving DecidableEq, Repr
/-- Where the power sequencer of the AON domain stands (spec/02, Tables 2.6, 2.9, 2.10, 2.11). -/
inductive PwrPhase
  | waitPwrOk | waitCore | waitSds | run | retryWait | railFailed | lossWait | heldReset | softReset | trip | dormant
deriving DecidableEq, Repr
/-- A switched power domain of Table 2.7. -/
structure Domain where
  /-- on and accepting traffic (R52) -/
  on : Bool := false
  /-- a switch in progress: its target and its end time (R48) -/
  switching : Option (Bool × Nat) := none
  /-- the reason code of the switch in progress (EV_PWR_DOMAIN_CHANGED) -/
  reason : Nat := 0
  /-- a switch-on waiting for the start limit of R49 -/
  queued : Bool := false
  /-- a request held while mid-switch; the later of two applies (R51) -/
  held : Option (Bool × Nat) := none
  /-- service state of SVC.QUERY: 0 in service, 1 drained, 2 off, 3 tested pass, 4 tested fail -/
  service : Nat := 0
  /-- LAST_CAUSE of SVC.QUERY -/
  lastCause : Nat := 0
  /-- CYCLES of SVC.QUERY -/
  cycles : W32 := 0
  /-- droop stretch counter, saturating (R47) -/
  stretches : W32 := 0
  /-- frequency steps taken off the island's clock (R37) -/
  freqSteps : Nat := 0
  /-- stretches in the AVS period running (R37) -/
  stretchPeriod : Nat := 0
deriving DecidableEq, Repr
/-- One AVS rail (R46). -/
structure AvsRail where
  /-- commanded voltage in mV -/
  mv : Nat := 800
  /-- loop frozen (R46) -/
  frozen : Bool := false
  /-- consecutive updates with a difference above 25 mV -/
  mismatches : Nat := 0
  /-- consecutive PMBus transfers not acknowledged -/
  naks : Nat := 0
deriving DecidableEq, Repr
/-- A reduction cause in force (R25), with the unit it names. -/
structure Reduction where
  cause : Nat
  unit : Nat
  /-- time of detection -/
  at_ : Nat := 0
deriving DecidableEq, Repr
/-- Power sequencer, resets and domains (ch. 02). -/
structure Pwr where
  /-- where the sequencer stands after the first power (R43, R44, R54-R60, 02) -/
  phase : PwrPhase := .waitPwrOk
  /-- failed enable attempts (R44, 02) -/
  attempts : Nat := 0
  /-- time of the armed power-good deadline or retry (R43 Table 2.6, R44, 02) -/
  deadline : Nat := 0
  /-- RESET_CAUSE [9:0]; POWER_ON after the first power (R60, R62, 02 RESET_CAUSE) -/
  resetCause : W32 := 1
  /-- watchdog restarts since boot, saturating (R62, 02 RESET_CAUSE.WDT_COUNT) -/
  wdtCount : W8 := 0
  /-- LINK_SPLIT as last sampled (R55, R63, 02 STRAP_STATUS) -/
  linkSplit : Bool := false
  /-- AON time (ns since VDD_AON rose) at the last rising edge of PWR_OK (R417, R418, R428, 17) -/
  aonBase : Nat := 0
  /-- a wake event held during DORMANT entry: its time and the level of LINK_SPLIT at it (R55, 02) -/
  wakeHeld : Option (Nat × Bool) := none
  /-- the thermal trip condition still has to be met before restart (R59, R417, 02 and 17) -/
  tripSeq : Bool := false
  /-- the power-return condition still has to be met before restart (R58, R59, 02) -/
  lossSeq : Bool := false
  /-- the 59 switched domains, all off (R48-R52, 02 Table 2.7) -/
  domains : List Domain := List.replicate 59 {}
  /-- switch-on requests waiting, oldest first: domain and reason (R49, 02) -/
  startQueue : List (Nat × Nat) := []
  /-- times of recent starts on VDD_RAY (R49, 02) -/
  rayStarts : List Nat := []
  /-- times of recent starts of other domains (R49, 02) -/
  otherStarts : List Nat := []
  /-- AVS loop of VDD_RAY, starts at 0.80 V (R45, R46, 02) -/
  avsRay : AvsRail := ⟨800, false, 0, 0⟩
  /-- AVS loop of VDD_SOC, starts at 0.80 V (R45, R46, 02) -/
  avsSoc : AvsRail := ⟨800, false, 0, 0⟩
  /-- droop threshold of the board record, mV (R47, 02) -/
  droopMv : Nat := 40
deriving DecidableEq, Repr
/-- Power governor (ch. 01). -/
structure Gov where
  /-- owner's power limit in W (R35, 01; R95 04 PWR.SET_LIMIT) -/
  ownerLimit : Nat := 150
  /-- measured power, 0.1 W (R35, 01) -/
  measured : Nat := 0
  /-- clock cap in force (R35, 01) -/
  cap : Bool := false
  /-- 50 MHz steps of the cap (R35, 01) -/
  capSteps : Nat := 0
  /-- stage 1: 10 Hz steps taken off the maximum frame rate (R35 Table 1.12, 01) -/
  rateSteps : Nat := 0
  /-- stage 2: 0, 1 (32 planes) or 2 (16 planes) (R35 Table 1.12, 01) -/
  planeSteps : Nat := 0
  /-- stage 3: camera 3D layers shown flat by the governor (R35 Table 1.12, 01) -/
  flatLayers : W8 := 0
  /-- since when measured power is below 85 % of the limit (R36, 01) -/
  belowSince : Option Nat := none
  /-- the limit was exceeded since the last latch point (R35, 01) -/
  exceeded : Bool := false
  /-- clock ceiling of each cluster island, MHz (up to 1.4 GHz, Table 1.1) (R37, 01) -/
  clusterMhz : List Nat := List.replicate 17 1400
deriving DecidableEq, Repr
/-- Reference clock monitors (ch. 02). -/
structure Clk where
  /-- SYS, PCIE, PNL, CAM, AMCLK declared lost (R65, 02) -/
  lost : List Bool := [false, false, false, false, false]
  /-- Sapline PLLs on the backup (R66, R296, 02 and 11) -/
  pnlBackup : Bool := false
  /-- Rootline on the backup (R66, 02) -/
  camBackup : Bool := false
deriving DecidableEq, Repr
/-- A claim waiting for its tick (R73). -/
structure Claim where
  master : Nat
  token : W32
  /-- arrival time; a claim of the tick's own cycle waits for the next tick -/
  arrival : Nat
deriving DecidableEq, Repr
/-- A handover awaiting acceptance (R75). -/
structure Handover where
  target : Nat
  deadline : Nat
deriving DecidableEq, Repr
/-- Ownership arbiter (ch. 03). -/
structure Own where
  /-- 0 HOST-A, 1 HOST-B, 2 SVC, 7 vacant (R72, 03 OWN_STATUS) -/
  owner : Nat := 7
  /-- current owner's token (R74, 03 OWN_TOKEN) -/
  token : W32 := 0
  /-- each master's last claim result (R73, 03 OWN_CLAIM_RESULT) -/
  results : List Nat := [0, 0, 0, 0]
  /-- claims and replacements waiting for a tick, at most one per master (R73, 03) -/
  claims : List Claim := []
  /-- deadline of the owner's heartbeat (R74, 03) -/
  hbDeadline : Nat := 0
  /-- grant, replacement or last accepted heartbeat (R74, 03) -/
  hbLast : Nat := 0
  /-- HB_PERIOD_MS (R74, R79, 03 OWN_CONFIG) -/
  hbPeriodMs : Nat := 250
  /-- the period that counts: HB_PERIOD_MS from the accepted heartbeat after its change on (R79, 03) -/
  hbInForce : Nat := 250
  /-- PRIO0, PRIO1, PRIO2 (R79, 03 OWN_CONFIG) -/
  prio : List Nat := [0, 1, 2]
  /-- pending handover (R75, 03 OWN_STATUS) -/
  handover : Option Handover := none
  /-- per master, the token written and its time (R74, 03 OWN_HANDOVER_TOKEN) -/
  pairs : List (Option (W32 × Nat)) := [none, none, none, none]
  /-- LAST_CAUSE (R73, 03 OWN_STATUS) -/
  lastCause : Nat := 0
  /-- CHANGE_COUNT (R73, 03 OWN_STATUS) -/
  changes : W16 := 0
  /-- FORCE_SAFE_VIEW (R80, 03 SAFE_CTRL) -/
  forceSafeView : Bool := false
  /-- HW_RELEASE (R80, 03 SAFE_CTRL) -/
  hwRelease : Bool := false
  /-- ALARM_TONE (R80, 03 SAFE_CTRL) -/
  alarmTone : Bool := false
deriving DecidableEq, Repr
/-- The mailbox control registers of one master (spec/03, Tables 3.8 to 3.10). -/
structure Mailbox where
  producer : W8 := 0
  responded : W8 := 0
  dequeued : W8 := 0
  overrun : Bool := false
  slotDropped : Bool := false
  /-- next PENDING_ID, from 1 (R97) -/
  nextId : Nat := 1
  /-- event-ring positions (EVR_PRODUCER counts) of completions not yet consumed (R81) -/
  completions : List W32 := []
deriving DecidableEq, Repr
/-- A command whose response waits for the hardware (head access, on-demand conversion). -/
structure Executing where
  master : Nat
  tag : W8
  code : Nat
  args : List W8
  deadline : Nat
deriving DecidableEq, Repr
/-- An operation that answered ST_PENDING (R81, R97). -/
structure PendingOp where
  master : Nat
  id : Nat
  tag : W8
  code : Nat
  args : List W8
  /-- the time at which it completes with ST_TIMEOUT (R96) -/
  deadline : Nat
  /-- scheduled step inside the operation, counted in latch points or phases -/
  phase : Nat := 0
  /-- an operation-specific number kept for its completion -/
  aux : Nat := 0
deriving DecidableEq, Repr
/-- A held bulk buffer (R82): which command holds it. -/
structure BulkHold where
  master : Nat
  /-- 0 while the command executes, its PENDING_ID afterwards -/
  id : Nat
  base : Nat
  len : Nat
deriving DecidableEq, Repr
/-- An event entry (Table 3.11). -/
structure EvEntry where
  code : Nat
  sev : Nat
  gap : Bool
  completion : Bool
  seq : W32
  time : Nat
  payload : List W8
deriving DecidableEq, Repr
/-- The event ring of one master (Table 3.12), with its last 256 entries, oldest first. -/
structure EvRing where
  producer : W32 := 0
  consumer : W32 := 0
  mask : W32 := 0x003FFFFF
  lost : W32 := 0
  holdoff : W16 := 0
  /-- events offered to the ring since boot -/
  offered : W32 := 0
  /-- the next entry carries GAP -/
  gap : Bool := false
  entries : List EvEntry := []
  /-- end of the hold-off interval running -/
  holdUntil : Nat := 0
  /-- an entry was written while the vector was held off -/
  heldOff : Bool := false
deriving DecidableEq, Repr
/-- A PCIe function: link, power state and MSI-X (R84, R324-R326). -/
structure PcieFn where
  linkUp : Bool := false
  width : Nat := 0
  rate : Nat := 0
  d3hot : Bool := false
  l1 : Bool := false
  /-- MSI-X vector control: masked, one per vector -/
  masked : List Bool := List.replicate 64 true
  /-- pending bit array -/
  pba : List Bool := List.replicate 64 false
  /-- address and data words of the table entries -/
  table : List (W32 × W32 × W32) := List.replicate 64 (0, 0, 0)
deriving DecidableEq, Repr
/-- The window of SVC or SAFE (R69 to R71). -/
structure WinPort where
  page : W16 := 0
  readLate : Bool := false
  writeDropped : Bool := false
  pecErr : Bool := false
deriving DecidableEq, Repr
/-- Mailboxes, event rings, interrupts and windows (ch. 03, 04). -/
structure Ctl where
  /-- mailboxes of HOST-A, HOST-B, SVC, SAFE (R81, 03 MB_DOORBELL, MB_INDEX, MB_STATUS) -/
  boxes : List Mailbox := List.replicate 4 {}
  /-- the ring whose turn it is: HOST-A, HOST-B, SVC, SAFE (R81, 03) -/
  turn : Nat := 0
  /-- commands dequeued and waiting for the hardware to answer (R81, R109, R409) -/
  executing : List Executing := []
  /-- the hardware pending table (R81, R89, R97, 03 and 04) -/
  pendingOps : List PendingOp := []
  /-- held bulk buffers, at most 64 (R82, R94, 03 and 04) -/
  bulkHolds : List BulkHold := []
  /-- event rings (R83, 03 Table 3.12) -/
  rings : List EvRing := List.replicate 4 {}
  /-- PCIe functions of link A and link B (R84, 03 Table 3.13; R324-R326, 12) -/
  fns : List PcieFn := [{}, {}]
  /-- windows of SVC and SAFE (R69-R71, 03 WIN_PAGE) -/
  ports : List WinPort := [{}, {}]
  /-- per-frame events of the frame: code, unit, count, payload of the first occurrence (R100, 04) -/
  frameEvents : List (Nat × Nat × Nat × List W8) := []
deriving DecidableEq, Repr
/-- The hardware's view of a unit (UNIT_STATUS, R86). -/
structure UnitRec where
  flowing : Bool := false
  faulted : Bool := false
  reduced : Bool := false
  /-- 0 OFF, 1 STARTING, 2 TRAINING, 3 IDLE, 4 ACTIVE, 5 DRAINING, 6 TEST, 7 FAULTED -/
  state : Nat := 0
  cause : Nat := 0
  changes : W8 := 0
  /-- Taproot's intent: acceptable states, one bit each -/
  intent : W16 := 0xFFFF
  /-- when Taproot last reconciled this record with hardware; none since its start (STALE, R86, R87) -/
  checked : Option Nat := none
  settle : Nat := 0
  mismatchSince : Option Nat := none
  attempts : Nat := 0
deriving DecidableEq, Repr
/-- UNIT_STATUS and Taproot's intent (ch. 03). -/
structure Units where
  /-- the units by index; intent D (R86, R87, 03 UNIT_STATUS, Table 3.14) -/
  recs : List UnitRec := List.replicate 272 {}
deriving DecidableEq, Repr
/-- Operating modes, coded as in MODE_STATUS (Table 3.3). -/
inductive Mode | dormant | boot | safeView | field | degraded | maintenance
deriving DecidableEq, Repr
/-- Operating mode (ch. 01). -/
structure ModeSt where
  /-- mode in force (R22, 01 Table 1.5) -/
  mode : Mode := .boot
  /-- 2 SAFE-VIEW or 3 FIELD (R95, 04 MODE.BOOT_TARGET; 17 BOOT record) -/
  bootTarget : Nat := 2
  /-- cause of the last mode change (R95, 04 MODE.QUERY) -/
  lastCause : Nat := 0
  /-- frame of the last mode change (R95, 04 MODE.QUERY) -/
  lastFrame : W32 := 0
  /-- reductions in force, oldest first (R25, 01; Table 4.3, 04) -/
  reductions : List Reduction := []
  /-- reductions detected since the latch point, oldest first (R25, 01) -/
  detected : List Reduction := []
  /-- trigger to SAFE-VIEW waiting for a latch point, with its cause (R22, R28, R29, R80, 01) -/
  safeTrigger : Option Nat := none
  /-- owner request waiting for a latch point (SAFE-VIEW, MAINTENANCE) (R22, R24, 01) -/
  ownerReq : Option Mode := none
  /-- DORMANT requested, passing through SAFE-VIEW for one frame (R24, 01) -/
  thenDormant : Bool := false
  /-- latch points left before the scheduled FIELD transition (R23, 01) -/
  fieldIn : Option Nat := none
  /-- the boot still aims at FIELD by its boot target (R22, R24, 01) -/
  bootField : Bool := false
  /-- the light field was lost since the latch point (R27, 01) -/
  lightLost : Bool := false
deriving DecidableEq, Repr
/-- A picture plane: rows of samples, top first. -/
abbrev Plane := List (List Nat)
/-- Parameters of CAM.CONFIG (Table 4.4). -/
structure CamCfg where
  lanes : Nat := 1
  rate : Nat := 0
  vc : Nat := 0
  dataType : Nat := 0x2C
  fsyncEn : Bool := false
  shortPad : Bool := false
  aeEn : Bool := false
  audioEn : Bool := false
  width : Nat := 0
  height : Nat := 0
  fsyncDiv : Nat := 1
  noSignal : Nat := 0
deriving DecidableEq, Repr
/-- A camera frame being received (R121). -/
structure CamFrame where
  seq : W32
  start : Nat
  /-- image lines of the right kind received, including discarded ones beyond HEIGHT -/
  lines : Nat := 0
  /-- valid data ended early (a bad line); later lines are discarded -/
  ended : Bool := false
  dropped : Bool := false
  /-- first embedded line, once received -/
  embedded : Option (List W8) := none
  /-- in-line pipeline serving the frame (R126), none: memory-fed or unprocessed -/
  inline : Option Nat := none
  /-- pipeline whose slot mask selected the port at the frame start (R126) -/
  fed : Option Nat := none
  /-- HEIGHT lines have been handed over as a memory-fed frame -/
  given : Bool := false
  /-- valid image lines, unpacked samples -/
  rows : Plane := []
  crcErrors : Nat := 0
  /-- raw buffer that a memory-fed frame is written to (R128) -/
  buf : Nat := 0
  /-- a second frame between two ticks (R112): discarded whole -/
  extra : Bool := false
  /-- the stream it belongs to (R116, R117) -/
  gen : Nat := 0
  /-- size, data type and short-frame policy the frame was started with -/
  w : Nat := 0
  h : Nat := 0
  dt : Nat := 0
  pad : Bool := false
deriving DecidableEq, Repr
/-- A frame handed to a pipeline (raw, before processing). -/
structure RawFrame where
  port : Nat
  seq : W32
  start : Nat
  lines : Nat
  /-- FRAME_FLAGS bits 0 SHORT, 1 LONG, 2 TRUNCATED -/
  flags : W8
  embedded : Option (List W8)
  rows : Plane
  w : Nat := 0
  h : Nat := 0
  dt : Nat := 0
  pad : Bool := false
  /-- raw buffer that holds it (R128) -/
  buf : Nat := 0
  /-- the stream it belongs to (R116, R117) -/
  gen : Nat := 0
  /-- in-line pipeline of the frame (R126), none: memory-fed -/
  inline : Option Nat := none
  /-- pipeline that processes a memory-fed frame (R126), none: unprocessed -/
  fed : Option Nat := none
deriving DecidableEq, Repr
/-- A reverse-channel request waiting for the head's answer (R109). -/
structure RevReq where
  /-- 1 REG_WRITE, 2 REG_READ, 4 LINK_CTRL (Table 5.4) -/
  kind : Nat
  tag : Nat
  msg : List W8
  resends : Nat
  /-- end of the 200 µs answer window -/
  window : Nat
  /-- end of the 2 ms of a register command; 0 none -/
  limit : Nat
  /-- read data received, by REG_RESP index -/
  data : List (Nat × List W8) := []
deriving DecidableEq, Repr
/-- A camera port (ch. 05). -/
structure CamPort where
  /-- Table 5.6: 0 OFF … 8 TEST -/
  state : Nat := 0
  configured : Bool := false
  cfg : CamCfg := {}
  /-- CAM.CONFIG accepted while streaming, applied at the end of the frame (R117) -/
  nextCfg : Option CamCfg := none
  profile : Option Nat := none
  /-- the parameters in force are those of the matched profile (R115) -/
  fromProfile : Bool := false
  headId : W32 := 0
  headSerial : W32 := 0
  headVer : W8 := 0
  headCaps : W8 := 0
  /-- SETTINGS_LATENCY -/
  latency : Nat := 1
  /-- lanes and rate in force -/
  runLanes : Nat := 1
  runRate : Nat := 0
  /-- lane index excluded (0 first, 1 second) -/
  excluded : Option Nat := none
  degraded : Bool := false
  effDiv : Nat := 1
  /-- no divider fits: the head is stopped (R103) -/
  stopped : Bool := false
  failures : Nat := 0
  lastRetrain : Nat := 0
  cleanSince : Nat := 0
  /-- time the bring-up attempt started (R114) -/
  attemptAt : Nat := 0
  /-- what follows the training in progress: 0 identify the head, 1 STREAMING again, 2 STREAM_CTRL = 1, 3 IDLE -/
  after : Nat := 0
  /-- STREAM_CTRL = 1 follows identification without a profile (CAM.CONFIG on a port whose link was not up) -/
  owned : Bool := false
  /-- the attempt does not count as a failure (LANE.RETRAIN, Table 12.8) -/
  uncounted : Bool := false
  /-- lane that lost lock: 0 or 1, 2 both, 255 none (R119) -/
  lostLane : Nat := 255
  /-- the training in TRAIN or RETRAIN waits for LOW_STOP to clear (R415) -/
  held : Bool := false
deriving DecidableEq, Repr
/-- Frame handling and counters of a camera port (ch. 05). -/
structure CamFlow where
  frame : Option CamFrame := none
  frames : W32 := 0
  short : W32 := 0
  long : W32 := 0
  truncated : W32 := 0
  dropped : W32 := 0
  retrains : W32 := 0
  crcErrors : W32 := 0
  discarded : W32 := 0
  missedFsync : W32 := 0
  orphanEnds : W32 := 0
  /-- last tick sent to the port, and whether a frame start followed it (R112) -/
  lastTick : Option W32 := none
  startSeen : Bool := true
  freeSeq : W32 := 0
  lastStart : Nat := 0
  lastFrameNum : W16 := 0
  /-- the layers of the port show the no-signal substitute (R116) -/
  noSignal : Bool := true
  /-- counts the streams of the head: a frame of an older one ends no substitute (R116, R117) -/
  gen : Nat := 0
  req : List RevReq := []
  nextTag : Nat := 0
  audioLast : Option Nat := none
  alignCount : W16 := 0
  /-- ALIGN count of each lane (R106) -/
  laneCount : List (Option W16) := [none, none]
  /-- layers fed by the port follow their NOT_READY policy until the first new frame (R117, R119) -/
  notReady : Bool := false
  /-- a frame that has ended, or reached HEIGHT lines, and is not yet taken by a pipeline -/
  raw : Option RawFrame := none
deriving DecidableEq, Repr
/-- Camera ports (ch. 05). -/
structure Cam where
  /-- state, configuration, head registers and failure count of P0-P15 (R114-R120, 05 Table 5.6; CAM.CONFIG 04 Table 4.4) -/
  ports : List CamPort := List.replicate 16 {}
  /-- frames, counters, FSYNC bookkeeping and reverse requests of P0-P15 (R107, R110-R112, R121-R125, 05) -/
  flows : List CamFlow := List.replicate 16 {}
  /-- camera-lock offset in force, ns (R18, 01; R111, 05) -/
  lockOffset : Nat := 0
  /-- number of the last FSYNC tick (R111, 05) -/
  tick : W32 := 0
  /-- a tick has been sent since the schedule started (R111, 05) -/
  ticked : Bool := false
  /-- time of the last tick (R111, 05) -/
  tickAt : Nat := 0
  /-- late automatic commits counted per camera (R18, 01) -/
  lateSlices : List W32 := List.replicate 16 0
deriving DecidableEq, Repr
/-- Exposure settings of a SETTINGS message (Table 5.4). -/
structure Settings where
  id : Nat := 0
  exposure : Nat := 0
  gain : Nat := 256
  wbR : Nat := 4096
  wbB : Nat := 4096
  /-- tick number last sent before the message completed (R151) -/
  tick : W32 := 0
deriving DecidableEq, Repr
/-- A statistics set (Table 6.5). -/
structure StatsSet where
  seq : W32 := 0
  settingsId : Nat := 0
  flags : W8 := 0
  lines : Nat := 0
  pipe : Nat := 0
  gen : W16 := 0
  width : Nat := 0
  height : Nat := 0
  time : Nat := 0
  sent : Settings := {}
  ae : List Nat := []
  awb : List (Nat × Nat × Nat × Nat) := []
  focus : List Nat := []
  /-- KINDS present: a YUV422 frame has no AWB and no focus statistics (R140) -/
  kinds : Nat := 0
deriving DecidableEq, Repr
/-- A processed picture in one of the output buffers of a port (R141). -/
structure OutBuf where
  seq : W32 := 0
  flags : W8 := 0
  complete : Bool := false
  width : Nat := 0
  height : Nat := 0
  time : Nat := 0
  matrix : Nat := 0
  range : Nat := 0
  y : Plane := []
  /-- chroma rows, Cb and Cr interleaved -/
  c : Plane := []
  /-- auxiliary luma plane (R143), empty when AUX_DIV is 0 -/
  aux : Plane := []
  auxDiv : Nat := 0
deriving DecidableEq, Repr
/-- A raw tap of a pipeline (R144). -/
structure Tap where
  point : Nat
  port : Nat
  base : Nat
  len : Nat
  next : Nat := 0
deriving DecidableEq, Repr
/-- A frame in progress in a pipeline. -/
structure ProcFrame where
  pipe : Nat
  port : Nat
  inline : Bool
  seq : W32
  ctx : List W8
  gen : W16
  /-- input lines processed -/
  done : Nat := 0
  /-- the whole frame, once it has ended -/
  raw : Option RawFrame := none
  w : Nat := 0
  h : Nat := 0
  dt : Nat := 0
  /-- the tap that the frame is written to, as it was at the frame's start (R144) -/
  tap : Option Tap := none
deriving DecidableEq, Repr
/-- The ISP context and AE/AWB loop of a port (R134, R149 to R155). -/
structure IspPort where
  active : List W8 := []
  shadow : List W8 := []
  /-- committed set that waits for the port's next frame (R136) -/
  committed : Option (List W8) := none
  gen : W16 := 0
  /-- SEQ of the last frame whose processing started -/
  lastStarted : Option W32 := none
  aeOn : Bool := false
  awbOn : Bool := false
  target : Nat := 0
  maxExposure : Nat := 0
  maxGain : Nat := 256
  last : Settings := {}
  /-- the loop's 16 most recent IDs, newest first -/
  ids : List Settings := []
  /-- newest complete statistics sets, newest first, at most three -/
  stats : List StatsSet := []
  /-- output buffers, newest first, at most three -/
  bufs : List OutBuf := []
  /-- raw frame ready and not started (R128) -/
  ready : Option RawFrame := none
  /-- frame processed and waiting for its statistics -/
  statsDue : Option ProcFrame := none
  missed : Nat := 0
  /-- SEQ of an in-line frame that found no free output buffer (R141) -/
  skip : Option W32 := none
deriving DecidableEq, Repr
/-- An image pipeline (ch. 06). -/
structure Pipe where
  inline : Nat := 0
  mask : W16 := 0
  /-- new in-line local index and mask waiting for the next epoch (R133) -/
  next : Option (Nat × W16) := none
  /-- the new in-line port waits for the old one to be between frames (R133) -/
  inlineNext : Option Nat := none
  tap : Option Tap := none
  /-- a new tap setting (none inside: off) for the next frame -/
  tapNext : Option (Option Tap) := none
  missedTaps : W32 := 0
  processed : List W32 := [0, 0, 0, 0]
  /-- in-line frame in progress -/
  cur : Option ProcFrame := none
  /-- memory-fed frame in progress -/
  mem : Option ProcFrame := none
  /-- ports with a ready frame, in the order they became ready (R129) -/
  order : List Nat := []
  faulted : Bool := false
  /-- ports taken over from a faulted pipeline (R156) -/
  lent : W16 := 0
  /-- mask before a fault, given back with SVC.RETURN (R156) -/
  saved : W16 := 0
deriving DecidableEq, Repr
/-- Image pipelines (ch. 06). -/
structure Isp where
  /-- pipelines IP0-IP3 (R126-R133, R144, 06) -/
  pipes : List Pipe := [{ inline := 0 }, { inline := 0 }, { inline := 0 }, { inline := 0 }]
  /-- contexts, loops, statistics and buffers by port (R128, R134-R136, R141, R147-R155, 06) -/
  ports : List IspPort := List.replicate 16 {}
  /-- current epoch (R131, R133, 06) -/
  epoch : W32 := 0
  /-- ports that no pipeline can process (R156, 06) -/
  unfed : List Bool := List.replicate 16 false
deriving DecidableEq, Repr
/-- Settings of DEPTH.PAIR_SET. -/
structure PairCfg where
  refPort : Nat := 0
  other : Nat := 0
  temporal : Bool := false
  lrCheck : Bool := false
  baselineUm : Nat := 0
  focalPx : Nat := 0
  lrTol : Nat := 0
  weight : Nat := 0
deriving DecidableEq, Repr
/-- A depth pair unit (ch. 07). -/
structure PairUnit where
  enabled : Bool := false
  /-- Table 7.3: 0 OFF, 1 WAITING, 2 RUNNING, 3 FLAT, 4 FAULTED -/
  state : Nat := 0
  cfg : PairCfg := {}
  /-- new setting for the next pair frame; none inside: stop -/
  next : Option (Option PairCfg) := none
  frames : W32 := 0
  meanConf : Nat := 0
  cause : Nat := 0
  /-- SEQ and time of the pair frame in progress -/
  cur : Option (W32 × Nat) := none
  rows : Nat := 0
  codes : Plane := []
  conf : Plane := []
  /-- previous complete pair frame and the newest complete one: SEQ, codes, confidence -/
  prev : Option (W32 × Plane) := none
  done : Option (W32 × Plane × Plane) := none
  /-- setting and reference map that the newest complete pair frame was made with (R160) -/
  doneCfg : PairCfg := {}
  doneMap : Option (List (Int × Int)) := none
  lastSeq : Option W32 := none
  /-- warp maps taken at the pair frame's start: reference and partner -/
  maps : Option (List (Int × Int)) × Option (List (Int × Int)) := (none, none)
  /-- a warp map loaded during the pair frame has still to apply (R160) -/
  mapWaits : Bool := false
deriving DecidableEq, Repr
/-- Settings of DEPTH.SLICE_SET. -/
structure SliceCfg where
  port : Nat := 0
  slices : Nat := 1
  pool : Nat := 0
  bytes : Nat := 0
  curve : List (Nat × Int) := []
deriving DecidableEq, Repr
/-- A committed pool half (R180): its device address, its bytes, the SEQ of its frame. -/
structure SliceCommit where
  base : Nat
  len : Nat
  seq : W32
deriving DecidableEq, Repr
/-- The slicer's work for one camera 3D layer (ch. 07). -/
structure SliceLayer where
  enabled : Bool := false
  cfg : SliceCfg := {}
  next : Option (Option SliceCfg) := none
  /-- half that the next frame writes -/
  half : Nat := 0
  /-- SEQ of the frame in progress -/
  cur : Option W32 := none
  /-- SEQ of the last frame started -/
  last : Option W32 := none
  /-- warp map of the frame in progress -/
  map : Option (List (Int × Int)) := none
  /-- pair unit and pair setting of the frame in progress -/
  unit : Nat := 0
  pair : PairCfg := {}
  flat : Bool := false
  tileRow : Nat := 0
  slots : Nat := 0
  stalled : Bool := false
  /-- a run of frames abandoned for want of slots is going on -/
  fullRun : Bool := false
  /-- the automatic commit waiting for a latch point -/
  posted : Option SliceCommit := none
  /-- the commit in force -/
  inForce : Option SliceCommit := none
deriving DecidableEq, Repr
/-- Depth engine and slicer (ch. 07). -/
structure Depth where
  /-- pair units DP0-DP7 (R158-R170, 07 Table 7.3) -/
  units : List PairUnit := List.replicate 8 {}
  /-- warp map of each port, none: identity map (R161, R162, 07 Table 7.2) -/
  warps : List (Option (List (Int × Int))) := List.replicate 16 none
  /-- slicer work of camera 3D layers 0-3 (R178-R182, 07) -/
  layers : List SliceLayer := List.replicate 4 {}
deriving DecidableEq, Repr
/-- Bytes by address in one canonical form: addresses strictly rising, no entry equal to 0, the value an unlisted address reads as. -/
abbrev Memory := List Host.Cell
/-- A scene plane with its directory (R187, R188, R190). -/
structure ScenePlane where
  scene : Nat
  w : Nat
  h : Nat
  z : Int
  x : Int
  y : Int
  alpha : Nat
  premult : Bool
  /-- directory entries in raster order -/
  dir : List W32
  /-- bytes of the record behind each entry, as the parser counted them (R206) -/
  sizes : List Nat := []
deriving DecidableEq, Repr
/-- A parsed scene ring entry waiting for its latch point, with the pending set after it (R200). -/
structure SceneWait where
  k : Nat
  scene : Nat
  irqApply : Bool
  irqRetire : Bool
  notBefore : W32
  sceneFrame : W32
  planes : List (Option ScenePlane)
deriving DecidableEq, Repr
/-- A scene ring entry that has not retired: entry number, scene, IRQ_RETIRE (R201). -/
structure SceneLive where
  k : Nat
  scene : Nat
  irqRetire : Bool
  /-- it retires at the next retire fence -/
  due : Bool := false
deriving DecidableEq, Repr
/-- A registered lease region (R203). -/
structure Lease where
  id : Nat
  base : Nat
  len : Nat
  cls : Nat
deriving DecidableEq, Repr
/-- A byte range held by a commit (R204): 0 a flat-layer or graphic commit (number in `no`), 1 a camera commit (layer in `no`), 2 a no-signal substitute (port in `no`). -/
structure Hold where
  kind : Nat
  no : Nat
  base : Nat
  len : Nat
  /-- layer of a flat-layer commit -/
  layer : Nat := 0
deriving DecidableEq, Repr
/-- Scenes, tile pools and leases (ch. 08). -/
structure Scene where
  /-- base and bytes of pools 0-3 (R186, 08) -/
  pools : List (Option (Nat × Nat)) := [none, none, none, none]
  /-- planes and directories in force (R187, R188, 08) -/
  planes : List (Option ScenePlane) := List.replicate 32 none
  /-- the pending set (R188, R198, 08) -/
  pend : List (Option ScenePlane) := List.replicate 32 none
  /-- the sets of the frame before the latch point and of entries overtaken at it, until the retire fence (R206, 08) -/
  prevPlanes : Option (List (Option ScenePlane)) := none
  /-- parsed entries waiting to apply, ring order (R200, 08) -/
  waiting : List SceneWait := []
  /-- entries not retired (R201, 08) -/
  live : List SceneLive := []
  /-- entries submitted (R199, 08 SCENE_PRODUCER) -/
  producer : W32 := 0
  /-- entries parsed (R199, 08 SCENE_CONSUMED) -/
  consumed : W32 := 0
  /-- OVERRUN (R199, 08 SCENE_STATUS) -/
  overrun : Bool := false
  /-- REJECTED (R198, 08 SCENE_STATUS) -/
  rejected : Bool := false
  /-- SLOT_WRITE_DROPPED (R199, 08 SCENE_STATUS) -/
  slotDropped : Bool := false
  /-- LAST_ERROR (R198, 08 SCENE_STATUS) -/
  lastError : Nat := 0
  /-- entry number + 1 (R198, 08 SCENE_LAST_REJECTED) -/
  lastRejected : W32 := 0
  /-- k + 1 of the entry in force per scene (R200, 08 SCENE_APPLIED) -/
  applied : List W32 := [0, 0, 0, 0]
  /-- k + 1 of the newest retired entry per scene, 0 when none has retired (R201, 08) -/
  newest : List Nat := [0, 0, 0, 0]
  /-- retire fence per scene (R201, 08 SCENE_RETIRED) -/
  retired : List W32 := [0, 0, 0, 0]
  /-- frame of application (R200, 08 SCENE_APPLIED_FRAME) -/
  appliedFrame : List W32 := [0, 0, 0, 0]
  /-- SCENE_FRAME in force (R200, 08 SCENE_APPLIED_SF) -/
  appliedSf : List W32 := [0, 0, 0, 0]
  /-- SCENE_FRAME of the newest applied entry (08 SCENE.QUERY LAST_SCENE_FRAME) -/
  lastSf : W32 := 0
deriving DecidableEq, Repr
/-- Leases and holds (ch. 08). -/
structure Leases where
  /-- registered regions, Taproot's own from 0x8000 included (R203, 08) -/
  regions : List Lease := []
  /-- lease policy, DROP by default (R208, 08 SCENE.LEASE_POLICY) -/
  allow : Bool := false
  /-- ranges held by commits, at most 512 (R204, 08) -/
  holds : List Hold := []
  /-- holds that end at the next retire fence (R205, 08) -/
  ending : List Hold := []
  /-- violations since boot (R208, 08 SCENE.QUERY) -/
  violations : W32 := 0
  /-- region and time of the last violation written to the log (R208, 08) -/
  logged : List (Nat × Nat) := []
deriving DecidableEq, Repr
/-- A flat layer's content as shown: its block, its palette and its coefficient tables of the commit it comes from (R249, R254). -/
structure Shown where
  block : List W8 := []
  palette : Memory := []
  coef : List Int × List Int := ([], [])
deriving DecidableEq, Repr
/-- Where the texels of a ray-engine plane come from. -/
inductive PlaneSrc
  /-- the directory of a scene plane -/
  | scene (dir : List W32) (sizes : List Nat)
  /-- a camera slice plane: device address of its pool half and plane index k (R179) -/
  | slice (half k : Nat)
  /-- a flat layer that the layer path produces (R247) -/
  | flat (content : Shown)
  /-- the A8R8G8B8 no-signal substitute at an address (R116) -/
  | image (base : Nat)
  /-- an output buffer of a port, shown unrectified and unscaled (R184) -/
  | buffer (b : OutBuf)
deriving DecidableEq, Repr
/-- The source address of a cached tile (R226). -/
inductive TileKey
  /-- a scene tile record, by directory entry -/
  | record (entry : Nat)
  /-- a camera slice tile slot, by device address -/
  | slot (addr : Nat)
  /-- a block of a flat layer's plane: layer, frame, subframe pass, tile -/
  | flat (layer : Nat) (frame : W32) (sf tx ty : Nat)
deriving DecidableEq, Repr
/-- A plane of a frame with its placement (Table 9.2). -/
structure RayPlane where
  layer : Nat
  ident : Nat
  src : PlaneSrc
  w : Nat
  h : Nat
  z : Int
  x0 : Int
  y0 : Int
  invx : Nat
  invy : Nat
  alpha : Nat
  straight : Bool
deriving DecidableEq, Repr
/-- A cluster of the ray engine (R230 to R234). -/
structure Cluster where
  /-- result of the last self-test -/
  passed : Option Bool := none
  retired : Bool := false
  parked : Bool := false
  cause : Nat := 0
deriving DecidableEq, Repr
/-- A Cellar slice: faulted, spared, recent uncorrectable errors (R229, R233). -/
structure Slice where
  faulted : Bool := false
  /-- the fault, or the move of its regions, waits for the latch point -/
  pending : Bool := false
  /-- times of the uncorrectable errors of the last second -/
  errors : List Nat := []
  /-- result of the last self-test (R230) -/
  passed : Option Bool := none
deriving DecidableEq, Repr
/-- A strip a cluster renders, by number; `check` when it is the second render of R231. -/
structure Strip where
  cluster : Nat
  n : Nat
  check : Bool := false
deriving DecidableEq, Repr
/-- A duplicate check (R231): strip, frame, primary, checker, and whether the checker has pulled the strip; once the two renders
differ, the cluster of the third render, whether it has pulled the strip, and what the first two gave. -/
structure DupCheck where
  n : Nat
  frame : W32
  primary : Nat
  checker : Nat
  taken : Bool := false
  third : Option Nat := none
  thirdTaken : Bool := false
  seen : W32 × W32 := (0, 0)
deriving DecidableEq, Repr
/-- A view capture in progress (R259): which buffer, and whether it lacks pixels. -/
structure CapRun where
  index : Nat
  base : Nat
  pitch : Nat
  format : Nat
  lacks : Bool := false
deriving DecidableEq, Repr
/-- A frame as latched and its rendering (R216, R221 to R224). -/
structure RayFrame where
  frame : W32
  /-- the engine is bypassed: the compositor shows SAFE-VIEW content (R257) -/
  bypass : Bool
  width : Nat
  height : Nat
  subs : Nat
  map : List W8
  /-- planes front to back, after the per-frame limit -/
  planes : List RayPlane
  lim : Nat
  /-- planes before the limit, and dropped by it -/
  total : Nat
  dropped : Nat
  /-- next strip number to pull -/
  next : Nat := 0
  strips : List Strip := []
  /-- strips of retired clusters, pulled again -/
  again : List Nat := []
  /-- strips completed, by number -/
  finished : List Nat := []
  /-- strip rows with a skipped strip (R224) -/
  skipped : List Nat := []
  /-- rendered pieces of lines: strip, line, drive codes -/
  parts : List (Nat × Nat × List Nat) := []
  maxMet : Nat := 0
  limited : Bool := false
  poisoned : List TileKey := []
  fetched : List TileKey := []
  misses : Nat := 0
  /-- per layer, tiles of the flat plane already produced in production order (R247) -/
  flatNext : List Nat := List.replicate 8 0
  capture : Option CapRun := none
deriving DecidableEq, Repr
/-- A tile in the Cellar: its source, its texels (48 bits each), the strip of its last sample (R228). -/
structure Tile where
  key : TileKey
  tex : List Nat
  last : Nat := 0
  /-- the slice that holds it -/
  slice : Nat := 0
  /-- bytes of its source -/
  len : Nat := 16
deriving DecidableEq, Repr
/-- A tile fetch in flight (R225): the cluster whose landing places it takes, its tile, its 64-byte bursts. -/
structure Fetch where
  cluster : Nat
  key : TileKey
  bursts : Nat
deriving DecidableEq, Repr
/-- A ray map being loaded (R213). -/
structure MapLoad where
  bytes : List W8
  crc : W32
  written : Bool := false
  id : Nat
  master : Nat
deriving DecidableEq, Repr
/-- Ray engine and Cellar (ch. 09). -/
structure Ray where
  /-- ray calibration map in force (R212-R214, 09 Table 9.1) -/
  map : Option (List W8) := none
  /-- map being written into the shadows (R213, 09 RAY_CAL_STATUS.PENDING) -/
  load : Option MapLoad := none
  /-- PLANES_PER_RAY in force (R221, 09) -/
  planesPerRay : Nat := 64
  /-- PLANES_PER_FRAME in force (R221, 09) -/
  planesPerFrame : Nat := 128
  /-- limits waiting for a latch point (R221, 09) -/
  limitsNext : Option (Nat × Nat) := none
  /-- clusters C0-C16 (R230-R234, 09) -/
  clusters : List Cluster := List.replicate 17 {}
  /-- spare cluster (R230, R232, 09) -/
  spare : Option Nat := some 16
  /-- clusters retired since the latch point, with their causes, in order (R232, 09) -/
  replacing : List (Nat × Nat) := []
  /-- Cellar slices of C0-C16 (R229, R233, 09 Table 9.3) -/
  slices : List Slice := List.replicate 17 {}
  /-- spare slice (R233, 09 Table 9.3) -/
  spareSlice : Option Nat := some 16
  /-- cluster domains whose slices hold the SAFE-VIEW window and the Heartwood copies (R20, R226, 01 Table 1.4, 09 Table 9.3) -/
  safeDomains : List Nat := [0, 1]
  /-- the frame latched last (R216-R224, 09) -/
  cur : Option RayFrame := none
  /-- the frame before, while strips or checks of it are open (R224, R231, 09) -/
  prev : Option RayFrame := none
  /-- the planes each layer showed in the frame latched last, which a held layer goes on showing (R254, 10) -/
  layerPlanes : List (List RayPlane) := List.replicate 8 []
  /-- flat-layer slot limit F (R234, 09) -/
  flatLimit : Nat := 8192
  /-- the register (R222, 09 RAY_FRAME_STATUS) -/
  frameStatus : W32 := 0
deriving DecidableEq, Repr
/-- Tile cache, checks and counters of the ray engine (ch. 09). -/
structure Cellar where
  /-- tiles in the tile cache (R226-R228, 09) -/
  tiles : List Tile := []
  /-- CELLAR_MISSES of the last frame (R228, 09 RAY.QUERY) -/
  lastMisses : W32 := 0
  /-- POISONED (R235, 09 RAY.QUERY) -/
  poisonCount : W32 := 0
  /-- DUP_CHECKS (R231, 09 RAY.QUERY) -/
  dupChecks : W32 := 0
  /-- DUP_FAILS (R231, 09 RAY.QUERY) -/
  dupFails : W32 := 0
  /-- open duplicate checks, oldest first (R231, 09) -/
  checks : List DupCheck := []
  /-- until when every 16th strip is checked (R231, 09) -/
  denseUntil : Nat := 0
  /-- corrected Cellar errors (R229, 09) -/
  corrected : W32 := 0
  /-- SAFE-VIEW graphic window, by offset (R226, R257, 09 Table 9.3) -/
  window : Memory := []
  /-- SAFE-VIEW graphics of the bundle loaded, from which Taproot re-creates the window (R233, R257, 10) -/
  image : Memory := []
  /-- halves of the graphic window lost with their slice, until Taproot has re-created them (R233, 09 Table 9.3) -/
  windowLost : List Bool := [false, false]
  /-- tile fetches in flight (R225, 09) -/
  flight : List Fetch := []
  /-- time of the spare's last test (R230, 09) -/
  spareTestAt : Nat := 0
deriving DecidableEq, Repr
/-- A commit: its number and its snapshot of all shadows (R249). -/
structure Commit where
  no : Nat
  /-- layer blocks and palettes, by flip-window address -/
  snap : Memory
  /-- coefficient tables: horizontal and vertical taps of L0 to L3 -/
  coef : List (List Int × List Int)
  /-- layers this commit supplies (R253) -/
  supplies : W8
  irqRetire : Bool
deriving DecidableEq, Repr
/-- View capture settings (R258, R259). -/
structure Capture where
  enable : Bool := false
  format : Nat := 0
  bufA : Nat := 0
  bufB : Nat := 0
  pitch : Nat := 0
deriving DecidableEq, Repr
/-- Layers, flip ring and commits (ch. 10). -/
structure Layers where
  /-- coefficient shadows of L0-L3, Catmull-Rom (R243, 10 Table 10.4) -/
  coef : List (List Int × List Int) := List.replicate 4 (Sys2Proof.Machine.catmullH, Sys2Proof.Machine.catmullV)
  /-- accepted commits waiting for the latch point (R249-R251, 10) -/
  accepted : List Commit := []
  /-- commit in force (R251, 10 COMMIT_APPLIED) -/
  force : Option Commit := none
  /-- commits that retire at the next retire fence (R252, 10) -/
  retiring : List Commit := []
  /-- number of the newest accepted commit (R249, 10 COMMIT_LAST) -/
  last : Nat := 0
  /-- frame of application (R251, 10 COMMIT_APPLIED_FRAME) -/
  appliedFrame : W32 := 0
  /-- flip entries submitted (R248, 10 FLIP_PRODUCER) -/
  producer : W32 := 0
  /-- flip entries consumed (R248, 10 FLIP_CONSUMED) -/
  consumed : W32 := 0
  /-- OVERRUN (R248, 10 FLIP_STATUS) -/
  overrun : Bool := false
  /-- REJECTED (R250, 10 FLIP_STATUS) -/
  rejected : Bool := false
  /-- SLOT_WRITE_DROPPED (R248, 10 FLIP_STATUS) -/
  slotDropped : Bool := false
  /-- LAST_REASON (R250, 10 FLIP_STATUS) -/
  lastReason : Nat := 0
  /-- LAST_LAYER (R250, 10 FLIP_STATUS) -/
  lastLayer : Nat := 0
  /-- MASK bits of entries consumed since the previous commit (R253, 10) -/
  maskSince : W8 := 0
  /-- layers supplied since the previous latch point (R253, R254, 10) -/
  supplied : W8 := 0
  /-- content of each layer as last shown (HOLD) (R254, 10) -/
  shown : List Shown := List.replicate 8 {}
  /-- state of each layer (R255, 10 Table 10.8) -/
  states : List Nat := [0, 0, 0, 0, 0, 0, 0, 0]
  /-- layers hidden by a memory channel removal (R256, 10) -/
  hidden : W8 := 0
  /-- gating layers still unsupplied when vertical blanking started at VT_MAX (R254, R274, 10 and 11) -/
  gateMissed : W8 := 0
  /-- capture in force (R259, 10 CAPTURE_STATUS) -/
  capture : Capture := {}
  /-- capture waiting for a latch point (R259, 10) -/
  captureNext : Option Capture := none
  /-- next capture buffer, A first (R259, 10) -/
  capBuf : Nat := 0
  /-- LAST_BUFFER (R259, 10 CAPTURE_STATUS) -/
  capLast : Nat := 0
  /-- INCOMPLETE of the last capture (R259, 10 CAPTURE_STATUS) -/
  capIncomplete : Bool := false
  /-- WAITING (R259, 10 CAPTURE_STATUS) -/
  capWaiting : Bool := false
  /-- frame of the last capture (R259, 10 CAPTURE_FRAME) -/
  capFrame : W32 := 0
deriving DecidableEq, Repr
/-- A Heartwood frame report (R264). -/
structure HwReport where
  frame : W32
  crc : W32
  panelMatch : Bool
  slipped : Nat
deriving DecidableEq, Repr
/-- A frame whose Heartwood report is due (R264): its CRC, its slipped Heartwood lines, the subframes decided, and whether all matched. -/
structure HwFrame where
  frame : W32
  crc : W32
  slipped : Nat := 0
  decided : List Nat := []
  ok : Bool := true
deriving DecidableEq, Repr
/-- One copy of the Heartwood region: usable, and its 4 MiB by offset (R261). -/
structure HwCopy where
  usable : Bool := false
  bytes : Memory := []
  /-- the cluster domain it was lost with, until the next latch point reports it (R20) -/
  lostFrom : Option Nat := none
deriving DecidableEq, Repr
/-- The stages of a Heartwood commit (R263). -/
inductive HwStage | idle | waitLatch | copying
deriving DecidableEq, Repr
/-- Heartwood layer (ch. 10). -/
structure Heartwood where
  /-- the two copies, in the slices of ray.safeDomains (R20, R261, 10) -/
  copies : List HwCopy := [{}, {}]
  /-- copy in use (R20, 10 HW_STATUS.COPY) -/
  inUse : Nat := 0
  /-- bank in force (R263, 10 HW_STATUS.BANK) -/
  bank : Nat := 0
  /-- geometry registers, four per rectangle (R262, 10 HW_RECT_*) -/
  regs : List W32 := List.replicate 16 0
  /-- geometry in force (R263, 10) -/
  geom : List W32 := List.replicate 16 0
  /-- geometry of the commit waiting (R263, 10) -/
  nextGeom : List W32 := List.replicate 16 0
  /-- staging-bank word address (R262, 10 HW_PORT_ADDR) -/
  portAddr : W32 := 0
  /-- stage of the commit (R263, 10 HW_STATUS.COMMIT_PENDING) -/
  stage : HwStage := .idle
  /-- last rejected commit (R263, 10 HW_STATUS.REJECT_REASON) -/
  rejectReason : Nat := 0
  /-- geometry disabled (R267, 10 HW_STATUS.GEOM_INVALID) -/
  geomInvalid : Bool := false
  /-- since when the age counts; none before the first Heartwood frame (R265, 10 HW_STATUS.AGE_MS) -/
  ageFrom : Option Nat := none
  /-- age limit AGE_MS (R265, 10) -/
  ageMs : Nat := 500
  /-- age above AGE_MS (R265, 10 HW_STATUS.STALE) -/
  stale : Bool := false
  /-- the two newest reports, newest first (R264, 10 HW_FRAME) -/
  reports : List HwReport := []
  /-- CRC, PANEL_MATCH and SLIPPED captured per master (R262, 10 HW_CRC, HW_STATUS) -/
  captured : List (W32 × Bool × Nat) := List.replicate 4 (0, false, 0)
  /-- consecutive reports without PANEL_MATCH (R266, 10) -/
  misses : Nat := 0
  /-- frames whose report is due, oldest first (R264, 10) -/
  frames : List HwFrame := []
deriving DecidableEq, Repr
/-- Panel configuration of DISP.PANEL_SET. -/
structure PanelCfg where
  width : Nat
  height : Nat
  subframes : Nat
  layout : Nat
  pitchUm : Nat
  rails : Nat
  railGapMs : Nat
deriving DecidableEq, Repr
/-- Timing parameters of DISP.TIMING_SET (R272). -/
structure Timing where
  mode : Nat := 0
  lockSource : Nat := 0
  laneRate : Nat := 0
  lineNs : Nat := 0
  activeLines : Nat := 0
  vtMin : Nat := 8
  vtMax : Nat := 8
  lockOffset : W32 := 0xFFFFFFFF
deriving DecidableEq, Repr
/-- A rendered line in the output line store, drive codes in order (R281). -/
structure StoredLine where
  sf : Nat
  y : Nat
  codes : List Nat
deriving DecidableEq, Repr
/-- Scan-out timing (ch. 11). -/
structure Disp where
  /-- panel configuration in force (R4, R214, 11; Table 4.6) -/
  panel : Option PanelCfg := none
  /-- timing in force (R270-R276, 11) -/
  timing : Timing := {}
  /-- LINE_NS as configured, before a re-striping raised it (R289, 11) -/
  configuredLineNs : Nat := 0
  /-- timing waiting for a latch point (R276, 11) -/
  timingNext : Option Timing := none
  /-- panel configuration waiting for its hold and full write (R272, 11) -/
  panelNext : Option PanelCfg := none
  /-- the frame schedule runs (R270, R271, R293, 11) -/
  sched : Bool := false
  /-- the latch point of the vertical blanking in scan has been taken (R270, 11) -/
  latched : Bool := false
  /-- frame number of the latest latch point (R271, 11 DISP_FRAME) -/
  frame : W32 := 0
  /-- time of the frame start (R271, 11) -/
  frameStart : Nat := 0
  /-- slot within the subframe (R270, 11 DISP_POSITION) -/
  slot : Nat := 0
  /-- subframe in scan (R270, 11 DISP_POSITION) -/
  subframe : Nat := 0
  /-- slot number since the frame start (R271, 11) -/
  slotNo : Nat := 0
  /-- extension slots of the frame so far (R270, R274, 11) -/
  ext : Nat := 0
  /-- current slot is an extension slot (R270, 11 DISP_POSITION) -/
  extending : Bool := false
  /-- current slot is a blanking slot (R270, 11 DISP_POSITION) -/
  blanking : Bool := false
  /-- E of the last 64 frames, newest first (R274, 11) -/
  vtHistory : List Nat := []
  /-- scan-out sends frames (R293, 11) -/
  running : Bool := false
  /-- the frame in scan is a full write (R284, 11) -/
  full : Bool := true
  /-- the next frame is a full write (R284, 11 DISP_LINK_STATUS.FULL_PENDING) -/
  fullNext : Bool := false
  /-- the frame after the next latch point is a full write (R284, 11) -/
  fullAfter : Bool := false
  /-- no latch point has passed since the boot: the first one begins frame 0 (R271, 11; Table 2.8, 02) -/
  first : Bool := true
  /-- subframes unconfirmed (R283, 11 DISP_LINK_STATUS.UNCONFIRMED) -/
  unconfirmed : W8 := 0
  /-- the scan of the current subframe is written in full (R283, 11) -/
  scanFull : Bool := false
  /-- expected signatures E[s][y] (R282, 11) -/
  sigs : List (List W32) := List.replicate 8 []
  /-- X[s] at the subframe's end (R283, 11) -/
  endXor : List W32 := List.replicate 8 0
  /-- frame of the last scan of each subframe (R283, R291, 11) -/
  scanFrame : List W32 := List.replicate 8 0
  /-- per subframe, the time of its last line while its report is due (R264, R283, 11) -/
  sigDue : List (Option Nat) := List.replicate 8 none
  /-- subframes with a LINE_ERROR since their last scan (R283, R299, 11) -/
  lineErr : W8 := 0
  /-- complete lines ahead of the beam (R278, 11) -/
  store : List StoredLine := []
  /-- LEAD (R279, 11 DISP_LINE_STORE) -/
  lead : Nat := 0
  /-- fetches in class RT (R279, 11 DISP_LINE_STORE) -/
  rtClass : Bool := false
  /-- panic asserted (R279, 11 DISP_LINE_STORE) -/
  panic : Bool := false
  /-- MIN_LEAD of the last frame (11 DISP_LINE_STORE) -/
  minLead : Nat := 0
  /-- smallest LEAD of the frame so far; 129 none (11 DISP_LINE_STORE) -/
  minLeadNow : Nat := 129
deriving DecidableEq, Repr
/-- Counters, locks, holds and panel link status of scan-out (ch. 11). -/
structure Scan where
  /-- SLIPS (R280, 11 DISP.QUERY) -/
  slips : W32 := 0
  /-- slips of the frame in scan (R280, 11) -/
  slipsFrame : Nat := 0
  /-- slips of the last frame (R280, 11 DISP_LINE_STORE) -/
  slipsLast : Nat := 0
  /-- SIG_MISMATCHES (R283, 11 DISP.QUERY) -/
  sigMismatches : W32 := 0
  /-- lines sent in the frame in scan (R282, 11) -/
  sent : W32 := 0
  /-- lines skipped in the frame in scan (R282, 11) -/
  skipped : W32 := 0
  /-- LINES_SENT of the last frame (R282, 11 DISP.QUERY) -/
  sentLast : W32 := 0
  /-- LINES_SKIPPED of the last frame (R282, 11 DISP.QUERY) -/
  skippedLast : W32 := 0
  /-- lines sent in the subframe (R285, 11 Table 11.4) -/
  sentSub : W32 := 0
  /-- FRAME_LOCK_IN lock (R275, 11 DISP_LINK_STATUS) -/
  locked : Bool := false
  /-- consecutive frames with neither EARLY nor MISSED (R275, 11) -/
  lockGood : Nat := 0
  /-- first edge since the latch point (R275, 11) -/
  edge : Option Nat := none
  /-- last edge (R275, 11) -/
  lastEdge : Option Nat := none
  /-- last 8 edge-to-edge periods (R275, 11) -/
  periods : List Nat := []
  /-- EARLY edges (R275, 11) -/
  early : W32 := 0
  /-- MISSED frames (R275, 11) -/
  missed : W32 := 0
  /-- the frame had an EARLY edge or was MISSED (R275, 11) -/
  frameBad : Bool := false
  /-- hold in progress: reason and start (R277, R296, R297, 11) -/
  hold : Option (Nat × Nat) := none
  /-- the hold lasted 100 ms (R266, 10) -/
  holdExceeded : Bool := false
  /-- lane-rate change in progress: old timing and its start (R277, 11) -/
  relink : Option (Timing × Nat) := none
  /-- the relink failed and the old rate is being trained (R277, 11) -/
  relinkBack : Bool := false
  /-- TEMP (11 DISP_PANEL_STATUS) -/
  panelTemp : W16 := 0
  /-- HOLDING, DISCHARGED as last reported (11 DISP_PANEL_STATUS) -/
  panelFlags : W8 := 0
  /-- RAIL_FAULT (R294, 11 DISP_PANEL_STATUS) -/
  railFault : Bool := false
  /-- STATUS_LOST (R291, 11 DISP_PANEL_STATUS) -/
  statusLost : Bool := false
  /-- time of the last STATUS (R291, 11) -/
  lastStatus : Nat := 0
deriving DecidableEq, Repr
/-- Panel power and compositor restart (ch. 11). -/
structure Pnl where
  /-- every used rail is good (R293, 11) -/
  up : Bool := false
  /-- rail whose power-good is awaited (R293, 11) -/
  rail : Option Nat := none
  /-- time of the next enable or of the 50 ms limit (R293, 11) -/
  railAt : Nat := 0
  /-- RAILS taken at the power-up (R293, 11) -/
  railsUsed : Nat := 1
  /-- RAIL_GAP_MS taken at the power-up (R293, 11) -/
  gapUsed : Nat := 0
  /-- times of recent panel rail faults (R294, 11) -/
  faults : List Nat := []
  /-- retry of the power-up (R294, 11) -/
  retryAt : Option Nat := none
  /-- three faults within 60 s (R294, 11) -/
  gaveUp : Bool := false
  /-- times of recent CMP faults (R297, 11) -/
  cmpFaults : List Nat := []
  /-- CMP is being restarted (R297, 11) -/
  cmpDown : Bool := false
  /-- CMP left off after the third fault (R297, 11) -/
  cmpOff : Bool := false
  /-- the AON mirror of the committed state (R297, 11) -/
  mirror : Option (Option Commit × Timing × W32 × Option PanelCfg × Capture) := none
deriving DecidableEq, Repr
/-- A Sapline or Rootline or PCIe lane (ch. 12). -/
structure Lane where
  /-- Table 12.5: 0 OFF … 6 DOWN -/
  state : Nat := 0
  rate : Nat := 0
  included : Bool := false
  blockLock : Bool := false
  cdrLock : Bool := false
  margin : Nat := 0
  pre : Nat := 0
  main : Nat := 0
  post : Nat := 0
  /-- last preset; 255 none -/
  preset : Nat := 255
  ctle : Nat := 0
  dfe : List Int := [0, 0, 0, 0, 0]
  offset : Int := 0
  /-- consecutive milliseconds the neighbouring CTLE code was better, and which way -/
  better : Int := 0
  ackSeq : Nat := 0
  tapStatus : Nat := 0
  /-- a STEP request waiting for a free slot (R314) -/
  step : Option (Nat × Nat) := none
  lastStep : Nat := 0
  /-- DONE or GIVE_UP received in the training running -/
  ended : Bool := false
  trained : Bool := false
deriving DecidableEq, Repr
/-- Where the tap search of a Rootline lane stands (R307). -/
structure TapSearch where
  /-- SEQ of the last request, 0 before any -/
  seq : Nat := 0
  /-- 0 starting taps, 1 presets, 2 back at the best preset, 3 stepping, 4 undoing a step -/
  phase : Nat := 0
  /-- preset being measured -/
  preset : Nat := 0
  best : Nat := 0
  /-- best margin in mUI -/
  margin : Nat := 0
  /-- tap being stepped: false POST, true PRE -/
  pre : Bool := false
  /-- 1 INC, 2 DEC -/
  dir : Nat := 1
  /-- a step in this direction has improved the margin -/
  moved : Bool := false
deriving DecidableEq, Repr
/-- Training retries, error counts and tests of a lane (ch. 12). -/
structure LaneAux where
  /-- stored taps per rate (R302) -/
  stored : List (Option (Nat × Nat × Nat)) := [none, none, none]
  /-- lone retrain in progress -/
  alone : Bool := false
  /-- a lone retrain waits for LOW_STOP to clear (R415) -/
  waits : Bool := false
  retries : Nat := 0
  retryAt : Nat := 0
  rejoin : Bool := false
  errors : W32 := 0
  bits : W64 := 0
  statsBad : Nat := 0
  /-- block errors of the last LANE_STATS (R315) -/
  lastReport : W32 := 0
  errLines : Nat := 0
  /-- subframe and line of the last LINE_ERROR counted (R315) -/
  errAt : Option (Nat × Nat) := none
  lowPosted : Bool := false
  genOn : Bool := false
  chkOn : Bool := false
  nearLoop : Bool := false
  sync : Bool := false
  syncLosses : Nat := 0
  generator : Nat := 0
  checker : Nat := 0
  inject : Nat := 0
  injectArg : W32 := 0
  /-- when the checker running came into sync -/
  chkStart : Nat := 0
  user : List W8 := []
  idleAt : Option Nat := none
  /-- tap search of a Rootline lane (R307) -/
  search : Option TapSearch := none
deriving DecidableEq, Repr
/-- Serial lanes (ch. 12). -/
structure Lanes where
  /-- lanes L0-L143 (R300-R317, R318 LANE_STATUS LANE_EQ, 12) -/
  lanes : List Lane := List.replicate 144 {}
  /-- retries, counts and tests; stored taps D (R302, R309, R313, R315, R319-R323, 12 LANE_TEST) -/
  aux : List LaneAux := List.replicate 144 {}
  /-- time of the first TRAIN block of each Sapline group in training (R306, 12) -/
  groupStart : List (Option Nat) := List.replicate 12 none
  /-- end of the tap exchange of each Rootline port (R307, 12) -/
  portTapLimit : List (Option Nat) := List.replicate 16 none
  /-- Sapline ALIGN count (R285, 11 Table 11.4) -/
  alignCount : W16 := 0
deriving DecidableEq, Repr
/-- Board-record memory fields and channel parameters (R329). -/
structure MemCfg where
  channelMask : W16 := 0
  /-- 4.5 Gib devices -/
  dense : Bool := false
  bl8 : Bool := true
  rl : Nat := 12
  trc : Nat := 8
  window32 : Bool := true
deriving DecidableEq, Repr
/-- A request in a channel queue (R336, R337). -/
structure MemReq where
  id : Nat
  requester : Nat
  /-- 0 BE, 1 ISO, 2 RT -/
  cls : Nat
  write : Bool
  /-- byte address within the channel -/
  addr : Nat
  /-- bytes to write, as offset and value within the burst -/
  data : List (Nat × W8)
  since : Nat
deriving DecidableEq, Repr
/-- A memory channel (ch. 13). -/
structure MemCh where
  /-- 0 OFF, 1 TRAINING, 2 INITIALISING, 3 ACTIVE, 4 RETRAINING, 5 REMOVED, 6 TEST -/
  state : Nat := 0
  inMap : Bool := false
  /-- removed, the remap waits for the latch point (R354) -/
  removing : Bool := false
  /-- SVC.RETURN waits for the latch point (R356) -/
  joining : Bool := false
  eyes : List Nat := List.replicate 9 0
  offsets : List Int := List.replicate 9 0
  corrected : W32 := 0
  uncorrected : W32 := 0
  rowhammer : W32 := 0
  maxDebt : Nat := 0
  debt : Nat := 0
  /-- bank refreshed longest ago, next in the round robin -/
  nextBank : Nat := 0
  correctedSec : List Nat := []
  poisonTimes : List Nat := []
  lastCorrEvent : Option Nat := none
  corrSinceEvent : W32 := 0
  /-- addresses of the last 64 poisoned bursts, newest first -/
  poisonList : List Nat := []
  retrains : W16 := 0
  /-- times of automatic retrains within the hour -/
  autoTimes : List Nat := []
  retrainNeeded : Bool := false
  scrubPos : Nat := 0
deriving DecidableEq, Repr
/-- Queues, banks and row-hammer counts of a channel (ch. 13). -/
structure MemQ where
  reads : List MemReq := []
  writes : List MemReq := []
  /-- a write batch is running -/
  batch : Bool := false
  /-- reads issued and not yet returned -/
  flight : List MemReq := []
  /-- per bank, the time until which it is busy -/
  busy : List Nat := List.replicate 16 0
  /-- activation counts: bank, row group, requester, count -/
  acts : List (Nat × Nat × Nat × Nat) := []
  /-- throttled requester, bank, time of its last issue -/
  throttles : List (Nat × Nat × Nat) := []
deriving DecidableEq, Repr
/-- Memory controllers (ch. 13). -/
structure Mem where
  /-- memory fields of the board record (R329, 13 MEM_CONFIG) -/
  cfg : MemCfg := {}
  /-- channels M0-M11 (R332-R335, R344, R347-R356, 13 MEM_STATUS MEM_ECC MEM_TRACK) -/
  chans : List MemCh := List.replicate 12 {}
  /-- queues, banks and activation counts (R336-R342, R346, 13) -/
  queues : List MemQ := List.replicate 12 {}
  /-- DRAM bytes, keyed channel x 2^30 + local address; every byte 0 after start-up (R330, R334, 13) -/
  dram : Memory := []
  /-- channels of the interleave in force, ascending (R330, 13 MEM_MAP) -/
  map : List Nat := []
  /-- map changes since boot (R354, 13 MEM_MAP) -/
  generation : W8 := 0
  /-- row-hammer threshold (R346, 13 MEM_POLICY) -/
  actThreshold : Nat := 16384
  /-- AGE_LIMIT_NS (R339, 13) -/
  ageLimit : Nat := 2000
  /-- patrol period (R349, 13 MEM_POLICY) -/
  scrubHours : Nat := 24
  /-- the board record admits no channel (R329, 13) -/
  badRecord : Bool := false
  /-- Taproot has still to re-allocate after a remap (R355, 13) -/
  realloc : Bool := false
  /-- memory tests running: channel, pattern, start, length (R353, 13) -/
  tests : List (Nat × Nat × Nat × Nat) := []
deriving DecidableEq, Repr
/-- A Churn queue as its registers hold it (R358). -/
structure ChurnQ where
  base : Nat := 0
  entries : Nat := 0
  priority : Nat := 0
  producer : W32 := 0
  completed : W32 := 0
  overrun : Bool := false
  remapReset : Bool := false
  abortNoop : Bool := false
  entryPoisoned : Bool := false
  /-- an abort requested and not yet in effect (R371) -/
  abort : Bool := false
  /-- LISTS_DONE and HAZARDS of CHURN.QUERY -/
  listsDone : W32 := 0
  hazards : W32 := 0
deriving DecidableEq, Repr
/-- The list that the engine runs (R360, R366). -/
structure ChurnRun where
  q : Nat
  /-- ring entry number and its address -/
  k : W32
  entry : Nat
  list : Nat
  tag : W32
  irq : Bool
  clips : List (Nat × Nat × Nat × Nat) := []
  count : Nat := 0
  /-- command in progress or next -/
  index : Nat := 0
  /-- segments of that command already executed -/
  seg : Nat := 0
  /-- the command in progress wrote part of its destination -/
  wrote : Bool := false
  hazardIndex : Option Nat := none
  hazardPosted : Bool := false
  poison : Bool := false
  leaseWaited : Bool := false
  /-- waiting at its input on a held range (R368) -/
  waiting : Bool := false
  /-- status, reason and index of a failed check that ends the list -/
  failed : Option (Nat × Nat × Nat) := none
  /-- status with which an abort ends the list, once in effect -/
  aborted : Option Nat := none
deriving DecidableEq, Repr
/-- Churn block engine (ch. 14). -/
structure Churn where
  /-- the eight queues (R358, R359, R370, 14 CHURN_PRODUCER CHURN_COMPLETED CHURN_STATUS CHURN_ABORT CHURN_CONFIG) -/
  queues : List ChurnQ := List.replicate 8 {}
  /-- list in execution (R360, R366, 14) -/
  run : Option ChurnRun := none
  /-- queue last served (R360, 14) -/
  lastServed : Nat := 7
  /-- SVC.DRAIN of CH: limit of the running list (R372, 14) -/
  drainUntil : Option Nat := none
deriving DecidableEq, Repr
/-- States of PLACARD_STATUS (R394). -/
inductive PlcState | off | idle | updating | clearing | waitWaveform | fault | unconfigured
deriving DecidableEq, Repr
/-- Setting of PLACARD.CONFIG (R379 to R381). -/
structure PlcCfg where
  segments : Nat
  bias : Nat
  vcomTrim : W8
  vbCode : List W8
deriving DecidableEq, Repr
/-- A slot of the placard intent record (R388, Table 15.4). -/
structure PlcSlot where
  seq : W64 := 0
  /-- DONE word -/
  done : W64 := 0
  /-- check word and commit flag agree -/
  valid : Bool := false
  target : BitVec 256 := 0
  previous : BitVec 256 := 0
  clearing : Bool := false
  band : W8 := 0
  bias : Nat := 0
  frames : Nat := 0
deriving DecidableEq, Repr
/-- An update or clearing in progress (R386, R391). -/
structure PlcSeq where
  clearing : Bool
  band : Nat
  clamped : Bool
  bias : Nat
  frames : Nat
  target : BitVec 256
  previous : BitVec 256
  slot : Nat
  /-- the intent record is committed (R388) -/
  committed : Bool := false
  /-- earliest time at which frame 0 may start its shift -/
  readyAt : Nat := 0
  /-- frames latched -/
  latched : Nat := 0
  /-- pending operation completed by the sequence: master and id -/
  op : Option (Nat × Nat) := none
  cfg : PlcCfg
  /-- waveform record in use -/
  wave : List W8
deriving DecidableEq, Repr
/-- Placard port (ch. 15). -/
structure Plc where
  /-- STATE (R394, 15 PLACARD_STATUS) -/
  state : PlcState := .off
  /-- configuration stored (R379-R381, 15; Table 17.8 PLACARD_CONFIG) -/
  cfg : Option PlcCfg := none
  /-- waveform record per band (R384, 15 Table 15.3) -/
  waves : List (Option (List W8)) := List.replicate 8 none
  /-- image shown (R386, R389, 15) -/
  shown : BitVec 256 := 0
  /-- UNCERTAIN (R389, R394, 15 PLACARD_STATUS) -/
  uncertain : Bool := false
  /-- RECOVERED of PLACARD.QUERY (R394, 15) -/
  recovered : Bool := false
  /-- CLAMPED (R382, R394, 15 PLACARD_STATUS) -/
  clamped : Bool := false
  /-- BAND of the sequence in progress or last run (R394, 15 PLACARD_STATUS) -/
  band : Nat := 0
  /-- band in force, with its 1 °C hysteresis (R382, 15) -/
  bandNow : Nat := 4
  /-- update or clearing in progress (R386, 15) -/
  seq : Option PlcSeq := none
  /-- the 32 slots of the intent record (R388, R389, 15 Table 15.4) -/
  slots : List PlcSlot := List.replicate 32 {}
  /-- start of the previous update or clearing (R386, R387, 15) -/
  lastStart : Option Nat := none
  /-- charge pump on (PUMP_OK) (R380, R394, 15 PLACARD_STATUS) -/
  pump : Bool := false
  /-- since when PLC_FAULT_N has been high again after a fault (R378, 15) -/
  faultSince : Option Nat := none
  /-- recovery due before any other use (R378, R391, R392, 15) -/
  recover : Bool := false
  /-- FRAME last latched (R394, 15 PLACARD_STATUS) -/
  frame : Nat := 0
deriving DecidableEq, Repr
/-- Role, rate and width of an audio port (R398). -/
structure AudPort where
  master : Bool := true
  rate96 : Bool := false
  bits : Nat := 24
  next : Option (Bool × Bool × Nat) := none
  /-- slave port without a WS edge for 1 ms -/
  wsLost : Bool := false
deriving DecidableEq, Repr
/-- A mixer input (R400, R401, R405, R406). -/
structure AudIn where
  /-- source code of Table 16.1; 255 none -/
  source : Nat := 255
  /-- jitter buffer, oldest sample first -/
  buffer : List Int := []
  last : Int := 0
  /-- mixer frames of continuous underrun -/
  underrun : Nat := 0
  long : Bool := false
  /-- frames of the 1 ms fade already run -/
  fade : Nat := 0
  underruns : W32 := 0
  overruns : W32 := 0
  trim : Int := 0
  /-- D_i in mixer frames -/
  delay : Nat := 0
  clamped : Bool := false
  trackLimit : Bool := false
  /-- past samples, newest first, 12,000 at most -/
  line : List Int := []
  /-- delay position in force, in 1/1000 of a mixer frame (R406) -/
  pos : Nat := 0
  /-- a jump in progress: old position and frames of its crossfade run -/
  cross : Option (Nat × Nat) := none
  /-- the source port feeds a shown layer, and t_glass - t_mid - AUDIO_LATENCY_US - P in ns (R405) -/
  fed : Bool := false
  base : Int := 0
  /-- timebase at the arrival of each sample of the last second, and where this run of samples began (R125, R400) -/
  stamps : List Nat := []
  trackFrom : Nat := 0
deriving DecidableEq, Repr
/-- Audio unit (ch. 16). -/
structure Aud where
  /-- AMCLK_IN nominal 24.576 MHz (R396, 16; Table 17.9 AMCLK_FREQ) -/
  amclk24 : Bool := false
  /-- audio clock from the internal PLL (R397, 16 AUDIO_STATUS) -/
  onInternal : Bool := false
  /-- return to AMCLK_IN at the next IEC block start (R397, 16) -/
  returnDue : Bool := false
  /-- the next mixer frame repeats the last samples (R397, 16) -/
  repeatFrame : Bool := false
  /-- validity bit sent: IEC frames left after the return (0 while on the internal clock) (R397, 16 AUDIO_STATUS) -/
  invalid : Option Nat := none
  /-- AO0-AO3, IEC_OUT, AI0 (R398, 16; AUDIO.PORT_SET 04) -/
  ports : List AudPort := List.replicate 6 {}
  /-- the eight inputs; sources D (R400, R401, R405, R406, 16) -/
  inputs : List AudIn := List.replicate 8 {}
  /-- GAIN[8 o + i] (R403, 16) -/
  gains : List Int := List.replicate 40 (-128)
  /-- sources and gains waiting for the mixer frame boundary (R403, 16) -/
  mixNext : Option (List Nat × List Int) := none
  /-- host PCM ring base (R402, 16) -/
  ringBase : Nat := 0
  /-- host PCM ring bytes, 0 not set (R402, 16) -/
  ringBytes : Nat := 0
  /-- a memory remap has come since the ring was set (R402, 16) -/
  ringStale : Bool := false
  /-- host PCM ring channels (R402, 16) -/
  ringChannels : Nat := 1
  /-- PRODUCER (R402, 16 AUDIO_PCM_PRODUCER) -/
  producer : W32 := 0
  /-- CONSUMED (R402, 16 AUDIO_PCM_CONSUMED) -/
  consumed : W32 := 0
  /-- PCM_OVERRUN (R402, 16 AUDIO_STATUS) -/
  pcmOverrun : Bool := false
  /-- channel-status block in force (R399, 16) -/
  iecBlock : List W8 := List.replicate 24 0
  /-- block waiting for the next B preamble (R399, 16) -/
  iecNext : Option (List W8) := none
  /-- IEC frame within the block of 192 (R399, 16) -/
  iecFrame : Nat := 0
  /-- frame n of the alarm tone, none when off (R404, 16 AUDIO_STATUS) -/
  toneN : Option Nat := none
  /-- the tone ends at its next zero crossing (R404, 16) -/
  toneEnding : Bool := false
  /-- last 63 sample pairs of each output and of AI0, newest first (96 kHz filter) (R398, 16) -/
  hist : List (List (Int × Int)) := List.replicate 6 []
  /-- AI0 at 96 kHz: a first sample of a pair has arrived (R398, 16) -/
  aiPhase : Bool := false
  /-- last sample pair sent by each output (R397, R403, 16) -/
  outLast : List (Int × Int) := List.replicate 5 (0, 0)
deriving DecidableEq, Repr
/-- A junction temperature sensor (R408 to R413). -/
structure Sensor where
  /-- last reading, S11.4 -/
  last : Int := 400
  /-- run counts of LOW_STOP, LOW_WARN, HIGH_WARN, STEP_1 to STEP_5 -/
  runs : List Nat := List.replicate 8 0
  /-- states held: LOW_STOP, LOW_WARN, HIGH_WARN, STEP_1 to STEP_5 -/
  holds : List Bool := List.replicate 8 false
  /-- consecutive conversions at a rail code, or away from both when faulted -/
  railRun : Nat := 0
  faulted : Bool := false
  /-- the last fast-comparator sample was a hit (R417) -/
  hit : Bool := false
  /-- one hit without a second in the last round (Table 17.5 [6]) -/
  hitOnce : Bool := false
  /-- the comparator hit in the round running -/
  hitNow : Bool := false
  /-- thresholds that apply from the next round (R412) -/
  next : Option (List Int) := none
  /-- readings of the last second, newest first, one per 100 ms: highest of each -/
  peaks : List Int := []
  /-- highest reading of the 100 ms running and its start -/
  peak : Int := -32768
  /-- nine thresholds of Table 17.2, S11.4 -/
  thresholds : List Int := [-720, -480, 1520, 1600, 1648, 1696, 1744, 1792, 2000]
deriving DecidableEq, Repr
/-- An on-demand conversion waiting for its slot (R409). -/
structure Demand where
  channel : Nat
  master : Nat
  tag : W8
deriving DecidableEq, Repr
/-- A background calibration item (Table 17.6). -/
structure CalItem where
  trims : List Int := []
  stored : List Int := []
  held : Bool := false
  nvmWrites : W32 := 0
  lastWrite : Option Nat := none
deriving DecidableEq, Repr
/-- Housekeeping, thermal steps, trip and calibration (ch. 17). -/
structure Hk where
  /-- codes of the last completed round (R408, 17 HK.QUERY) -/
  raw : List Nat := List.replicate 64 0
  /-- codes of the round running (R408, 17) -/
  rawNow : List Nat := List.replicate 64 0
  /-- next channel of the round (R408, 17) -/
  slot : Nat := 0
  /-- rounds completed (R408, 17) -/
  rounds : W32 := 0
  /-- on-demand conversions waiting (R409, 17) -/
  demands : List Demand := []
  /-- on-demand conversions taken by the round running, at most 4 (R409, 17) -/
  demandsUsed : Nat := 0
  /-- T00-T23; readings D (25 °C) (R411-R413, 17 Tables 17.2 and 17.5, HK_SENSOR_FAULT) -/
  sensors : List Sensor := List.replicate 24 {}
  /-- thermal step in force (R414, 17 HK_THERMAL) -/
  step : Nat := 0
  /-- time of the last change of the step (R414, 17) -/
  lastStep : Option Nat := none
  /-- SELF_HEATING (R416, 17 HK_THERMAL) -/
  selfHeating : Bool := false
  /-- domains switched on for self-heating (R416, 17) -/
  heated : List Nat := []
  /-- trips since manufacture (TRIPS from NVM) (R418, 17 HK_THERMAL) -/
  trips : W32 := 0
  /-- AON times of recent trips (R420, 17) -/
  tripTimes : List Nat := []
  /-- latched sensor, peak and AON time of the trip (R417, 17) -/
  tripInfo : Option (Nat × Int × Nat) := none
  /-- since when every unfaulted sensor has read at most 95 °C (R420, 17) -/
  coolSince : Option Nat := none
  /-- this boot takes SAFE-VIEW as its boot target (R420, 17) -/
  safeBoot : Bool := false
  /-- placard temperature, S11.4 (25.0 °C) (R410, 17) -/
  placardTemp : Int := 400
  /-- calibration items 0-7; trims come from NVM (factory trims) (R421, R422, 17 Table 17.6) -/
  cal : List CalItem := List.replicate 8 {}
  /-- since when the sensors agree within 3 °C (R421, 17) -/
  isoSince : Option Nat := none
deriving DecidableEq, Repr
/-- One slot of an NVM record (R423): SEQ, payload, and whether its check word and flag agree with its content. -/
structure NvmSlot where
  seq : W64 := 0
  payload : List W8 := []
  valid : Bool := false
deriving DecidableEq, Repr
/-- A record of Table 17.8 or 18.2 with its two slots (R424). -/
structure NvmRec where
  id : Nat
  slots : List NvmSlot := [{}, {}]
  /-- time of the last write (R425) -/
  lastWrite : Option Nat := none
  /-- change in force, not yet written (R425) -/
  pending : Option (List W8) := none
deriving DecidableEq, Repr
/-- Fields of the BOARD record in force since the boot (Table 17.9; the memory fields are mem.cfg, DROOP_MV is pwr.droopMv, AMCLK_FREQ is aud.amclk24). -/
structure Board where
  pmbRay : W8 := 0
  pmbSoc : W8 := 0
  selfHeatW : Nat := 60
  /-- PLC_THERM table, mV and S11.4, empty when all zero -/
  therm : List (Nat × Int) := []
deriving DecidableEq, Repr
/-- A log entry (R429): sequence number, validity and event. -/
structure LogSlot where
  seq : W64
  valid : Bool := true
  ev : EvEntry
deriving DecidableEq, Repr
/-- NVM store and event log (ch. 17, 18). -/
structure Nvm where
  /-- the records ever written, in ascending RECORD order (R423-R427, 17 Table 17.8; R432, 18 Table 18.2) -/
  recs : List NvmRec := []
  /-- board record in force, its defaults (17 Table 17.9) -/
  board : Board := {}
  /-- FALLBACKS (R424, 17 NVM.STATUS) -/
  fallbacks : W32 := 0
  /-- corrected words (R427, 17 NVM.STATUS) -/
  corrections : W32 := 0
  /-- power-loss marker, AON time in µs (R428, 17) -/
  lossMarker : Option Nat := none
  /-- trip marker: AON time, count, peak, sensor (R418, 17) -/
  tripMarker : Option (Nat × Nat × Int × Nat) := none
  /-- event log, oldest first, at most 16,384 entries (R429, R430, 17) -/
  log : List LogSlot := []
  /-- newest log sequence number (R429, 17) -/
  logSeq : W64 := 0
  /-- LOG_FLOOR (R430, 17) -/
  logFloor : W32 := 0
  /-- events of severity 1 or higher waiting for their log write (R429, 17) -/
  logQueue : List EvEntry := []
  /-- second of the current count (R429, 17) -/
  logSecond : Nat := 0
  /-- entries written in that second (R429, 17) -/
  logCount : Nat := 0
  /-- the next log entry carries GAP (R429, 17) -/
  logGap : Bool := false
  /-- time of the last daily check (R427, 17) -/
  lastDaily : Nat := 0
deriving DecidableEq, Repr
/-- What the Taproot core does (spec/02 R60-R62, spec/04 R87-R90, spec/18). -/
inductive TapState
  | off | rom | recovery | running | draining | restarting | halted
deriving DecidableEq, Repr
/-- Taproot run state and live update (ch. 02, 04, 18). -/
structure Tp where
  /-- run state of Taproot (R60-R62, R88, R437, 02, 04, 18) -/
  state : TapState := .off
  /-- slot that runs, 0 A or 1 B (R437, 18; FW_ACTIVE 03 Table 3.3) -/
  slot : Nat := 0
  /-- version of the running image (R437, 18; FW_ACTIVE 03 Table 3.3) -/
  version : W32 := 0
  /-- READY given (R22, R438, 18) -/
  ready : Bool := false
  /-- times of watchdog expiries (R62, 02) -/
  wdtTimes : List Nat := []
  /-- the other slot was chosen after the third expiry (R62, 02) -/
  switched : Bool := false
  /-- end of the 100 ms drain or of the 300 ms to READY (R89, R451, 04 and 18) -/
  deadline : Option Nat := none
  /-- slot to go back to (R451, 18) -/
  oldSlot : Nat := 0
  /-- cause of the restart in progress (04 EV_SYS_TAPROOT_RESTARTED) -/
  restartCause : Nat := 0
  /-- time at which the ROM sequence ended or Taproot last stopped (R437, R87, 18 and 03) -/
  bootAt : Nat := 0
deriving DecidableEq, Repr
/-- A measured item (Table 18.8). -/
structure MeasItem where
  kind : Nat
  version : W32
  digest : List W8
deriving DecidableEq, Repr
/-- Security, flash and bundles (ch. 18). -/
structure Sec where
  /-- VENDOR_KEY_HASH fuse (R436, 18 Table 18.1) -/
  vendorHash : List W8 := List.replicate 32 0
  /-- FSEAL fuse (R447, R448, 18 Table 18.1) -/
  fseal : Bool := false
  /-- external flash bytes by flash address (an unlisted byte reads 0) (R434, 18 Table 18.3) -/
  flash : Memory := []
  /-- the flash answers (R437, R452, 18) -/
  flashPresent : Bool := true
  /-- measured items, in extension order (R444, 18 Table 18.8) -/
  items : List MeasItem := []
  /-- M (R444, 18) -/
  measurement : List W8 := List.replicate 32 0
  /-- 1 MiB recovery staging buffer (R439, 18) -/
  staging : Memory := []
  /-- Heartwood bundle loaded: copy and version (R440, 18) -/
  heartSlot : Option (Nat × W32) := none
  /-- configuration bundle loaded: copy and version (R440, 18) -/
  cfgSlot : Option (Nat × W32) := none
  /-- the test access port is restricted (R448, R449, Table 18.10, 18) -/
  tapLocked : Bool := false
deriving DecidableEq, Repr
/-- Test access port (ch. 18, 19). -/
structure TestPort where
  /-- instruction register (IDCODE after reset, IEEE 1149.1) (R464, 19; 18 Table 18.10) -/
  ir : W8 := 1
  /-- boundary cells last loaded; they drive the pins under EXTEST while SYS_RST_N is low (18 Table 18.10) -/
  boundary : List Bool := []
deriving DecidableEq, Repr

/-- The whole block. -/
structure State where
  /-- Identity of the part -/
  id : Ident := {}
  /-- Levels of the low-speed pins (Tables 2.2 and 2.3); pins of a serial protocol appear as frames in out -/
  pins : Pins := {}
  /-- Power sequencer, resets and domains (ch. 02) -/
  pwr : Pwr := {}
  /-- Power governor (ch. 01) -/
  gov : Gov := {}
  /-- Reference clock monitors (ch. 02) -/
  clk : Clk := {}
  /-- Ownership arbiter (ch. 03) -/
  own : Own := {}
  /-- Mailboxes, event rings, interrupts and windows (ch. 03, 04) -/
  ctl : Ctl := {}
  /-- UNIT_STATUS and Taproot's intent (ch. 03) -/
  units : Units := {}
  /-- Operating mode (ch. 01) -/
  mode : ModeSt := {}
  /-- Camera ports (ch. 05) -/
  cam : Cam := {}
  /-- Image pipelines (ch. 06) -/
  isp : Isp := {}
  /-- Depth engine and slicer (ch. 07) -/
  depth : Depth := {}
  /-- Scenes, tile pools and leases (ch. 08) -/
  scene : Scene := {}
  /-- Leases and holds (ch. 08) -/
  leases : Leases := {}
  /-- Ray engine and Cellar (ch. 09) -/
  ray : Ray := {}
  /-- Tile cache, checks and counters of the ray engine (ch. 09) -/
  cellar : Cellar := {}
  /-- Layers, flip ring and commits (ch. 10) -/
  layers : Layers := {}
  /-- Heartwood layer (ch. 10) -/
  hw : Heartwood := {}
  /-- Scan-out timing (ch. 11) -/
  disp : Disp := {}
  /-- Counters, locks, holds and panel link status of scan-out (ch. 11) -/
  scan : Scan := {}
  /-- Panel power and compositor restart (ch. 11) -/
  pnl : Pnl := {}
  /-- Serial lanes (ch. 12) -/
  lanes : Lanes := {}
  /-- Memory controllers (ch. 13) -/
  mem : Mem := {}
  /-- Churn block engine (ch. 14) -/
  churn : Churn := {}
  /-- Placard port (ch. 15) -/
  plc : Plc := {}
  /-- Audio unit (ch. 16) -/
  aud : Aud := {}
  /-- Housekeeping, thermal steps, trip and calibration (ch. 17) -/
  hk : Hk := {}
  /-- NVM store and event log (ch. 17, 18) -/
  nvm : Nvm := {}
  /-- Taproot run state and live update (ch. 02, 04, 18) -/
  tp : Tp := {}
  /-- Security, flash and bundles (ch. 18) -/
  sec : Sec := {}
  /-- Test access port (ch. 18, 19) -/
  tap : TestPort := {}
  /-- AON timebase; it advances by the time-driven commands (model: see log) -/
  time : Nat := 0
  /-- bytes of the BAR0 RAM windows that masters write: mailbox slots, flip ring, layer blocks, palettes, scene ring, by BAR0 offset -/
  win : Memory := []
  /-- what the block has driven out, newest first -/
  out : List Out := []
  /-- index of the next free value (Config) -/
  free : Nat := 0
  /-- commands waiting, first in first out -/
  pending : List Instr := []
deriving DecidableEq, Repr

/-- The block right after reset: VDD_AON has risen and power-good has not (spec/02, R60). -/
def State.reset : State := {}

/-- A memory is in its canonical form: addresses strictly rising, and no entry equal to 0, which an unlisted address reads as. -/
abbrev Memory.wf (m : Memory) : Prop := List.Pairwise (fun a b : Host.Cell => a.1 < b.1) m ∧ ∀ c ∈ m, c.2 ≠ 0

end Sys2Proof.Machine
end

