-- ==== Sys2Proof/Machine/Update.lean ====
section
/-! DEFINITION. One named update per part of State: every meaning changes State through these. -/

namespace Sys2Proof.Machine

/-- Change the part `id` by `g`. -/
def State.modId (g : Ident → Ident) (s : State) : State := { s with id := g s.id }
/-- Change the part `pins` by `g`. -/
def State.modPins (g : Pins → Pins) (s : State) : State := { s with pins := g s.pins }
/-- Change the part `pwr` by `g`. -/
def State.modPwr (g : Pwr → Pwr) (s : State) : State := { s with pwr := g s.pwr }
/-- Change the part `gov` by `g`. -/
def State.modGov (g : Gov → Gov) (s : State) : State := { s with gov := g s.gov }
/-- Change the part `clk` by `g`. -/
def State.modClk (g : Clk → Clk) (s : State) : State := { s with clk := g s.clk }
/-- Change the part `own` by `g`. -/
def State.modOwn (g : Own → Own) (s : State) : State := { s with own := g s.own }
/-- Change the part `ctl` by `g`. -/
def State.modCtl (g : Ctl → Ctl) (s : State) : State := { s with ctl := g s.ctl }
/-- Change the part `units` by `g`. -/
def State.modUnits (g : Units → Units) (s : State) : State := { s with units := g s.units }
/-- Change the part `mode` by `g`. -/
def State.modMode (g : ModeSt → ModeSt) (s : State) : State := { s with mode := g s.mode }
/-- Change the part `cam` by `g`. -/
def State.modCam (g : Cam → Cam) (s : State) : State := { s with cam := g s.cam }
/-- Change the part `isp` by `g`. -/
def State.modIsp (g : Isp → Isp) (s : State) : State := { s with isp := g s.isp }
/-- Change the part `depth` by `g`. -/
def State.modDepth (g : Depth → Depth) (s : State) : State := { s with depth := g s.depth }
/-- Change the part `scene` by `g`. -/
def State.modScene (g : Scene → Scene) (s : State) : State := { s with scene := g s.scene }
/-- Change the part `leases` by `g`. -/
def State.modLeases (g : Leases → Leases) (s : State) : State := { s with leases := g s.leases }
/-- Change the part `ray` by `g`. -/
def State.modRay (g : Ray → Ray) (s : State) : State := { s with ray := g s.ray }
/-- Change the part `cellar` by `g`. -/
def State.modCellar (g : Cellar → Cellar) (s : State) : State := { s with cellar := g s.cellar }
/-- Change the part `layers` by `g`. -/
def State.modLayers (g : Layers → Layers) (s : State) : State := { s with layers := g s.layers }
/-- Change the part `hw` by `g`. -/
def State.modHw (g : Heartwood → Heartwood) (s : State) : State := { s with hw := g s.hw }
/-- Change the part `disp` by `g`. -/
def State.modDisp (g : Disp → Disp) (s : State) : State := { s with disp := g s.disp }
/-- Change the part `scan` by `g`. -/
def State.modScan (g : Scan → Scan) (s : State) : State := { s with scan := g s.scan }
/-- Change the part `pnl` by `g`. -/
def State.modPnl (g : Pnl → Pnl) (s : State) : State := { s with pnl := g s.pnl }
/-- Change the part `lanes` by `g`. -/
def State.modLanes (g : Lanes → Lanes) (s : State) : State := { s with lanes := g s.lanes }
/-- Change the part `mem` by `g`. -/
def State.modMem (g : Mem → Mem) (s : State) : State := { s with mem := g s.mem }
/-- Change the part `churn` by `g`. -/
def State.modChurn (g : Churn → Churn) (s : State) : State := { s with churn := g s.churn }
/-- Change the part `plc` by `g`. -/
def State.modPlc (g : Plc → Plc) (s : State) : State := { s with plc := g s.plc }
/-- Change the part `aud` by `g`. -/
def State.modAud (g : Aud → Aud) (s : State) : State := { s with aud := g s.aud }
/-- Change the part `hk` by `g`. -/
def State.modHk (g : Hk → Hk) (s : State) : State := { s with hk := g s.hk }
/-- Change the part `nvm` by `g`. -/
def State.modNvm (g : Nvm → Nvm) (s : State) : State := { s with nvm := g s.nvm }
/-- Change the part `tp` by `g`. -/
def State.modTp (g : Tp → Tp) (s : State) : State := { s with tp := g s.tp }
/-- Change the part `sec` by `g`. -/
def State.modSec (g : Sec → Sec) (s : State) : State := { s with sec := g s.sec }
/-- Change the part `tap` by `g`. -/
def State.modTap (g : TestPort → TestPort) (s : State) : State := { s with tap := g s.tap }
/-- Change the part `time` by `g`. -/
def State.modTime (g : Nat → Nat) (s : State) : State := { s with time := g s.time }
/-- Change the part `win` by `g`. -/
def State.modWin (g : Memory → Memory) (s : State) : State := { s with win := g s.win }
/-- Change the part `out` by `g`. -/
def State.modOut (g : (List Out) → (List Out)) (s : State) : State := { s with out := g s.out }
/-- Change the part `free` by `g`. -/
def State.modFree (g : Nat → Nat) (s : State) : State := { s with free := g s.free }
/-- Change the part `pending` by `g`. -/
def State.modPending (g : (List Instr) → (List Instr)) (s : State) : State := { s with pending := g s.pending }

end Sys2Proof.Machine
end

