-- ==== Sys2Proof/Machine/Ops.lean ====
section
/-! DEFINITION. The shared operations: bytes and numbers, memories, device memory, events and vectors, pins, time. -/

namespace Sys2Proof.Machine

/-! ### Bytes (R10: little-endian) -/

abbrev Bytes := List W8

/-- The `n` bytes of `v`, least significant first. -/
def le : Nat → Nat → Bytes
  | 0, _ => []
  | n + 1, v => BitVec.ofNat 8 v :: le n (v / 256)

/-- The number that bytes spell, least significant first. -/
def ofLe : Bytes → Nat
  | [] => 0
  | b :: t => b.toNat + 256 * ofLe t

def byteAt (b : Bytes) (o : Nat) : Nat := (b.getD o 0).toNat
def uAt (n : Nat) (b : Bytes) (o : Nat) : Nat := ofLe ((List.range n).map fun i => b.getD (o + i) 0)
def u16At (b : Bytes) (o : Nat) : Nat := uAt 2 b o
def u32At (b : Bytes) (o : Nat) : Nat := uAt 4 b o
def a40At (b : Bytes) (o : Nat) : Nat := uAt 5 b o
def u64At (b : Bytes) (o : Nat) : Nat := uAt 8 b o

/-- `v` read as a two's-complement number of `w` bits. -/
def sext (w v : Nat) : Int := if v % 2 ^ w < 2 ^ (w - 1) then ((v % 2 ^ w : Nat) : Int) else ((v % 2 ^ w : Nat) : Int) - (2 ^ w : Nat)
def s16At (b : Bytes) (o : Nat) : Int := sext 16 (u16At b o)
def s32At (b : Bytes) (o : Nat) : Int := sext 32 (u32At b o)
/-- An integer as the unsigned number of its low `w` bits. -/
def wrap (w : Nat) (i : Int) : Nat := (i % (2 ^ w : Nat)).toNat
/-- Bytes `o` to `o + n - 1`. -/
def slice (b : Bytes) (o n : Nat) : Bytes := (b.drop o).take n
/-- `b` cut or filled with 0 to exactly `n` bytes. -/
def pad (n : Nat) (b : Bytes) : Bytes := b.take n ++ List.replicate (n - b.length) 0
/-- Replace the bytes from offset `o`. -/
def patch (b : Bytes) (o : Nat) (d : Bytes) : Bytes := b.take o ++ d ++ b.drop (o + d.length)
def bit (v i : Nat) : Bool := v.testBit i
def bitOf (c : Bool) (i : Nat) : Nat := if c then 2 ^ i else 0
/-- Bits [hi:lo] of v. -/
def bits (v hi lo : Nat) : Nat := (v / 2 ^ lo) % 2 ^ (hi + 1 - lo)
/-- A word whose bit i is `f i`, for i below n. -/
def maskOf (n : Nat) (f : Nat → Bool) : Nat := ((List.range n).map fun i => bitOf (f i) i).sum
def clampI (lo hi v : Int) : Int := if v < lo then lo else if hi < v then hi else v
/-- Natural numbers divided and rounded half up (R211). -/
def roundNat (n d : Nat) : Nat := (2 * n + d) / (2 * d)
/-- Saturating increment of a counter of `w` bits. -/
def satInc {w : Nat} (c : BitVec w) (n : Nat := 1) : BitVec w := if c.toNat + n < 2 ^ w then c + BitVec.ofNat w n else BitVec.allOnes w

/-- One byte of the CRC-32 of IEEE 802.3 (R190), reflected. -/
def crcBits : Nat → W32 → W32
  | 0, c => c
  | n + 1, c => crcBits n (if c.getLsbD 0 then (c >>> 1) ^^^ 0xEDB88320 else c >>> 1)
def crcFold (c : W32) (b : Bytes) : W32 := b.foldl (fun c x => crcBits 8 (c ^^^ x.setWidth 32)) c
/-- The CRC-32 of R190. -/
def crc32 (b : Bytes) : W32 := crcFold 0xFFFFFFFF b ^^^ 0xFFFFFFFF

def pecBits : Nat → W8 → W8
  | 0, c => c
  | n + 1, c => pecBits n (if c.getLsbD 7 then (c <<< 1) ^^^ 7 else c <<< 1)
/-- The CRC-8 of the SMBus PEC (R71). -/
def pec (b : Bytes) : W8 := b.foldl (fun c x => pecBits 8 (c ^^^ x)) 0

/-! ### Memories in canonical form -/

def memGet : Memory → Nat → W8
  | [], _ => 0
  | (b, v) :: t, a => if a < b then 0 else if a = b then v else memGet t a

def memSet : Memory → Nat → W8 → Memory
  | [], a, v => if v = 0 then [] else [(a, v)]
  | (b, w) :: t, a, v =>
    if a < b then (if v = 0 then (b, w) :: t else (a, v) :: (b, w) :: t)
    else if a = b then (if v = 0 then t else (a, v) :: t)
    else (b, w) :: memSet t a v

def memRead (m : Memory) (a : Nat) : Nat → Bytes
  | 0 => []
  | n + 1 => memGet m a :: memRead m (a + 1) n

def memWrite (m : Memory) (a : Nat) : Bytes → Memory
  | [] => m
  | v :: t => memWrite (memSet m a v) (a + 1) t

/-- Bytes `lo` to `hi - 1` read 0 afterwards. -/
def memClear (m : Memory) (lo hi : Nat) : Memory := m.filter fun c => c.1 < lo || hi ≤ c.1

/-! ### Parts and units (R5, Table 0.4) -/

def State.is20 (s : State) : Bool := s.id.part == .lv9620
def State.hasCluster (s : State) (c : Nat) : Bool := c == 16 || c < (if s.is20 then 8 else 16)
def State.hasChannel (s : State) (n : Nat) : Bool := n < (if s.is20 then 6 else 12)
def State.hasLane (s : State) (l : Nat) : Bool :=
  if l < 96 then l < (if s.is20 then 48 else 96) else if l < 128 then l < (if s.is20 then 112 else 128) else l < 144
def State.hasPort (s : State) (p : Nat) : Bool := p < (if s.is20 then 8 else 16)
def State.hasPipe (s : State) (i : Nat) : Bool := i < (if s.is20 then 2 else 4)
def State.hasPair (s : State) (u : Nat) : Bool := u < (if s.is20 then 4 else 8)
def State.hasGroup (s : State) (g : Nat) : Bool := g < (if s.is20 then 6 else 12)
/-- The switched domains of the part (Table 2.7). -/
def State.hasDomain (s : State) (d : Nat) : Bool :=
  if d < 17 then s.hasCluster d else if d < 29 then s.hasChannel (d - 17) else if d < 41 then s.hasGroup (d - 29)
  else if d < 45 then s.hasPort (4 * (d - 41)) else if d < 47 then true else if d < 51 then s.hasPipe (d - 47) else d < 59

def domMC (n : Nat) : Nat := 17 + n
def domSG (g : Nat) : Nat := 29 + g
def domRG (p : Nat) : Nat := 41 + p / 4
def domHP (f : Nat) : Nat := 45 + f
def domIP (i : Nat) : Nat := 47 + i
def domDE : Nat := 51
def domSL : Nat := 52
def domCMP : Nat := 53
def domCH : Nat := 54
def domPL : Nat := 55
def domAU : Nat := 56
def domSEC : Nat := 57
def domTP : Nat := 58

def State.dom (s : State) (d : Nat) : Domain := s.pwr.domains.getD d {}
/-- A domain is being switched off: it drains and takes no new request (R15, R17). -/
def Domain.leaving (x : Domain) : Bool := x.switching.any fun w => !w.1
/-- A domain is on and accepts traffic (R15, R17, R52). -/
def State.domOn (s : State) (d : Nat) : Bool := (s.dom d).on && !(s.dom d).leaving
def State.modDom (d : Nat) (f : Domain → Domain) (s : State) : State := s.modPwr fun p => { p with domains := p.domains.modify d f }

/-- Table 3.1, R67: HOST-B exists when LINK_SPLIT was sampled 1. -/
def State.masterExists (s : State) (m : Nat) : Bool := m != 1 || s.pwr.linkSplit
/-- Table 3.1: SVC exists while its adapter is present (R68, R75). -/
def State.canOwn (s : State) (m : Nat) : Bool := m < 3 && s.masterExists m && (m != 2 || !s.pins.svcPresentN)
/-- The port of master m reaches the device: the master exists, the SVC adapter is present (R68) and the function of a host
is not in D3hot (R325). -/
def State.portLive (s : State) (m : Nat) : Bool :=
  s.masterExists m && (m != 2 || !s.pins.svcPresentN) && !(m < 2 && (s.ctl.fns.getD m {}).d3hot)
def State.isOwner (s : State) (m : Nat) : Bool := s.own.owner == m && m < 3

/-! ### Time and outputs -/

/-- A timer row moves the timebase to its deadline when it is not yet there (log 4). -/
def State.timeTo (t : Nat) (s : State) : State := s.modTime (max t)
/-- A periodic row moves the timebase to the next multiple of its period (log 4). -/
def State.nextPeriod (period : Nat) (s : State) : State := s.modTime fun t => (t / period + 1) * period
def State.emit (o : Out) (s : State) : State := s.modOut (o :: ·)
def ms (n : Nat) : Nat := n * 1000000
def us (n : Nat) : Nat := n * 1000

/-- Take the next free number (Config, log 8). -/
def State.freeNat (s : State) : Nat × State := (Config.freeNat s.free, s.modFree (· + 1))

/-! ### MSI-X vectors (R84) -/

def State.fn (s : State) (f : Nat) : PcieFn := s.ctl.fns.getD f {}
def State.modFn (f : Nat) (g : PcieFn → PcieFn) (s : State) : State := s.modCtl fun c => { c with fns := c.fns.modify f g }
/-- PERST of a function's link, high. -/
def State.perstHigh (s : State) (f : Nat) : Bool := if f == 0 then s.pins.perstAN else s.pins.perstBN

/-- Raise vector `v` of function `f`: lost, left pending when masked, or sent (leaving L1). -/
def State.vector (f v : Nat) (s : State) : State :=
  if f > 1 || (f == 1 && !s.pwr.linkSplit) || !(s.fn f).linkUp || !s.perstHigh f || (s.fn f).d3hot then s
  else if (s.fn f).masked.getD v true then s.modFn f fun x => { x with pba := x.pba.set v true }
  else (s.modFn f fun x => { x with l1 := false }).emit (.vector f v)

/-- Vector of the function whose host is owner now (R84), on none otherwise. -/
def State.ownerVector (v : Nat) (s : State) : State := if s.own.owner < 2 then s.vector s.own.owner v else s
/-- Vector on every function that exists. -/
def State.allVector (v : Nat) (s : State) : State := (s.vector 0 v).vector 1 v

/-! ### Events (R83, R99) -/

def State.ring (s : State) (m : Nat) : EvRing := s.ctl.rings.getD m {}
def State.modRing (m : Nat) (g : EvRing → EvRing) (s : State) : State := s.modCtl fun c => { c with rings := c.rings.modify m g }
def EvRing.unconsumed (r : EvRing) : Nat := (r.producer - r.consumer).toNat

/-- Offer an event to a ring: written as an entry, or discarded and counted (R83). -/
def ringOffer (e : EvEntry) (r : EvRing) : EvRing :=
  let e := { e with seq := r.offered, gap := r.gap }
  if !e.completion && 240 ≤ r.unconsumed then { r with offered := r.offered + 1, lost := satInc r.lost, gap := true }
  else { r with offered := r.offered + 1, producer := r.producer + 1, gap := false, entries := (r.entries ++ [e]).drop (r.entries.length + 1 - 256) }

/-- Vector 1 of a ring's function, subject to EVR_HOLDOFF (R84). -/
def State.ringVector (m : Nat) (s : State) : State :=
  let r := s.ring m
  if r.holdoff != 0 && s.time < r.holdUntil then s.modRing m fun r => { r with heldOff := true }
  else (s.modRing m fun r => { r with holdUntil := s.time + us r.holdoff.toNat, heldOff := false }).vector m 1

/-- Offer an event to ring `m` and raise the vector of an entry written (R83, R84). -/
def State.offer (m : Nat) (e : EvEntry) (s : State) : State :=
  let wrote := e.completion || (s.ring m).unconsumed < 240
  let s := s.modRing m (ringOffer e)
  if !wrote then s else if m < 2 then (if e.sev == 3 then s.vector m 2 else s.ringVector m) else s

/-- An event of severity 1 or higher waits for the NVM event log (R83, R429). -/
def State.toLog (e : EvEntry) (s : State) : State := if e.sev == 0 then s else s.modNvm fun n => { n with logQueue := n.logQueue ++ [e] }

def mkEvent (code sev time : Nat) (payload : Bytes) (completion : Bool) : EvEntry :=
  { code := code, sev := sev, gap := false, completion := completion, seq := 0, time := time, payload := pad 16 payload }

/-- Whether the event with this code and severity goes to ring `m` (R83): subscribed group, severity 3 to the owner and
SAFE, EV_OWN_CHANGED and EV_OWN_LAPSED to every ring. -/
def State.ringTakes (s : State) (code sev m : Nat) : Bool :=
  s.masterExists m &&
    ((s.ring m).mask.toNat.testBit (code / 256) || (sev == 3 && (m == 3 || s.own.owner == m)) || code == 0x180 || code == 0x181)

/-- Post an event to the rings alone. -/
def State.postRings (code sev : Nat) (payload : Bytes) (s : State) : State :=
  (List.range 4).foldl (fun t m => if s.ringTakes code sev m then t.offer m (mkEvent code sev s.time payload false) else t) s

/-- Post an event: to the rings and, from severity 1, to the NVM event log. -/
def State.post (code sev : Nat) (payload : Bytes) (s : State) : State :=
  (s.postRings code sev payload).toLog (mkEvent code sev s.time payload false)

/-- Count an occurrence of an event marked "per frame" (R100). -/
def State.perFrame (code unit : Nat) (payload : Bytes) (count : Nat := 1) (s : State) : State :=
  s.modCtl fun c =>
    if c.frameEvents.any fun (k, u, _, _) => k == code && u == unit then
      { c with frameEvents := c.frameEvents.map fun (k, u, n, p) => if k == code && u == unit then (k, u, n + count, p) else (k, u, n, p) }
    else { c with frameEvents := c.frameEvents ++ [(code, unit, count, payload)] }

/-- Offset and width of the COUNT field of a per-frame event (Table 4.11). -/
def countField : Nat → Option (Nat × Nat)
  | 0x482 => some (8, 2)
  | 0x881 => some (12, 2)
  | 0xA80 => some (8, 4)
  | 0xF81 => some (4, 4)
  | _ => none

/-- Post the per-frame events of the frame that ends (R100). -/
def State.flushFrame (s : State) : State :=
  (s.ctl.frameEvents.foldl (fun t (code, _, n, p) =>
    let p := pad 16 p
    t.post code 1 (match countField code with | some (o, w) => patch p o (le w (min n (2 ^ (8 * w) - 1))) | none => p)) s).modCtl
    fun c => { c with frameEvents := [] }

/-! ### Device memory (R330, R226, R69) -/

def chanBytes (s : State) : Nat := if s.mem.cfg.dense then 2 ^ 30 else 2 ^ 29
def State.dramTop (s : State) : Nat := s.mem.map.length * chanBytes s
def cellarBase : Nat := 0x0C00000000
def cellarSize : Nat := 2 ^ 24

/-- Channel and local address of a device address in DRAM (R330). -/
def State.dramPlace (s : State) (a : Nat) : Nat × Nat :=
  let n := s.mem.map.length
  let g := a / 2048
  let q := g / n
  let h := (List.range 5).foldl (fun x k => x ^^^ (q / 16 ^ k % 16)) 0
  (s.mem.map.getD ((g % n + h) % n) 0, q * 2048 + a % 2048)

def dramKey (p : Nat × Nat) : Nat := p.1 * 2 ^ 30 + p.2
def State.inDram (s : State) (a : Nat) : Bool := a < s.dramTop
def inCellar (a : Nat) : Bool := cellarBase ≤ a && a < cellarBase + cellarSize
/-- Populated DRAM or the host-visible Cellar window (R69). -/
def State.populated (s : State) (a : Nat) : Bool := s.inDram a || inCellar a
/-- The range lies wholly in trained DRAM or wholly in the Cellar window (R82, R203). -/
def State.inMemory (s : State) (a n : Nat) : Bool := (a + n ≤ s.dramTop) || (cellarBase ≤ a && a + n ≤ cellarBase + cellarSize)

def State.chan (s : State) (n : Nat) : MemCh := s.mem.chans.getD n {}
def State.modChan (n : Nat) (g : MemCh → MemCh) (s : State) : State := s.modMem fun m => { m with chans := m.chans.modify n g }

/-- The byte at a device address; 0 where nothing is populated (R69). -/
def State.devByte (s : State) (a : Nat) : W8 :=
  if s.inDram a then memGet s.mem.dram (dramKey (s.dramPlace a)) else if inCellar a then memGet s.cellar.window (a - cellarBase) else 0

def State.devRead (s : State) (a : Nat) : Nat → Bytes
  | 0 => []
  | n + 1 => s.devByte a :: s.devRead (a + 1) n

/-- Does the burst at `a` read back poisoned: listed (R348), of a channel that is being removed (R354), or in a half of the
graphic window lost with its slice (R233, log 57)? -/
def State.poisonAt (s : State) (a : Nat) : Bool :=
  (s.inDram a && (let (c, l) := s.dramPlace a
    (s.chan c).removing || (s.chan c).poisonList.contains (l / 64 * 64)))
  || (inCellar a && s.cellar.windowLost.getD ((a - cellarBase) / 2 ^ 23) false)

/-- Any burst of the range reads back poisoned. -/
def State.poisoned (s : State) (a n : Nat) : Bool :=
  (List.range ((a % 64 + n + 63) / 64)).any fun i => n != 0 && s.poisonAt (a / 64 * 64 + 64 * i)

def State.devSet (a : Nat) (v : W8) (s : State) : State :=
  if s.inDram a then s.modMem fun m => { m with dram := memSet m.dram (dramKey (s.dramPlace a)) v }
  else if inCellar a then s.modCellar fun c => { c with window := memSet c.window (a - cellarBase) v }
  else s

def State.devSets (a : Nat) : Bytes → State → State
  | [], s => s
  | v :: t, s => (s.devSet a v).devSets (a + 1) t

/-- A full write of a burst takes it off the poison list (R348). -/
def State.healBurst (a : Nat) (s : State) : State :=
  if s.inDram a then (let (c, l) := s.dramPlace a
    s.modChan c fun x => { x with poisonList := x.poisonList.filter (· != l / 64 * 64) }) else s

/-- Write bytes into device memory; each burst covered whole loses its poison (R341, R348). -/
def State.devWrite (a : Nat) (d : Bytes) (s : State) : State :=
  let first := (a + 63) / 64
  let last := (a + d.length) / 64
  (List.range (last - first)).foldl (fun t i => t.healBurst ((first + i) * 64)) (s.devSets a d)

/-! ### UNIT_STATUS (R86) -/

def State.unit (s : State) (i : Nat) : UnitRec := s.units.recs.getD i {}
def unitPort (p : Nat) : Nat := 64 + p
def unitPair (u : Nat) : Nat := 80 + u
def unitLayer (l : Nat) : Nat := 96 + l
def unitHeartwood : Nat := 104
def unitLane (l : Nat) : Nat := 128 + l

def State.modUnit (u : Nat) (f : UnitRec → UnitRec) (s : State) : State := s.modUnits fun x => { x with recs := x.recs.modify u f }

/-- Set a unit's state; a change advances CHANGES and raises vector 16 (R84, R86). -/
def State.setUnit (i : Nat) (f : UnitRec → UnitRec) (s : State) : State :=
  let u := s.unit i
  let v := f u
  if u == v then s
  else
    let v := if u.state == v.state then v else { v with changes := u.changes + 1 }
    (s.modUnits fun x => { x with recs := x.recs.set i v }).allVector 16

def State.unitState (i st : Nat) (s : State) : State := s.setUnit i fun u => { u with state := st, flowing := st == 4 }

/-- Mark a unit faulted with a cause; SVC.QUERY of a domain reports it as LAST_CAUSE. -/
def State.unitFault (i cause : Nat) (s : State) : State :=
  (s.setUnit i fun u => { u with faulted := true, cause := cause, state := 7, flowing := false }).modDom i fun d => { d with lastCause := cause }
def State.unitReduced (i cause : Nat) (s : State) : State := s.setUnit i fun u => { u with reduced := true, cause := cause }

/-- The frame that the next latch point begins (R271): 0 for the first of a boot. -/
def State.nextFrame (s : State) : W32 := if s.disp.first then 0 else s.disp.frame + 1

/-! ### SAFE_OK (R266) and the result of a meaning -/

/-- Modes in which SAFE_OK may be high. -/
def State.safeMode (s : State) : Bool := match s.mode.mode with
  | .safeView | .field | .degraded => true
  | .maintenance => !s.own.hwRelease
  | _ => false
/-- The age of R265 is within AGE_MS. -/
def State.ageOk (s : State) : Bool := match s.hw.ageFrom with
  | some t => s.time ≤ t + ms s.hw.ageMs
  | none => false
/-- The conditions of R266. -/
def State.safeConds (s : State) : Bool :=
  s.safeMode && s.ageOk && s.hw.misses < 2 && !s.scan.holdExceeded && !s.hw.geomInvalid && s.hw.copies.any (·.usable)
/-- SAFE_OK falls when a condition has ceased to hold (R266). -/
def State.settle (s : State) : State :=
  if s.pins.safeOk && !s.safeConds then (s.modPins fun p => { p with safeOk := false }).emit (.pin .safeOk false 0) else s

/-- Every meaning of this block ends in a next state. -/
abbrev Result := Host.Outcome State Fault Refusal
/-- A command has done `s`: the hardware condition on SAFE_OK is kept on every step. -/
def done (s : State) : Result := .next s.settle

/-- Do `f` when the row's own condition holds, else nothing (log 2). -/
def State.when (c : Bool) (f : State → State) (s : State) : State := if c then f s else s

/-- An access of master m: nothing while its port does not reach the device (R67, R68, R325). -/
def State.byPort (m : Nat) (f : State → Result) (s : State) : Result := if s.portLive m then f s else done s

@[simp] theorem State.when_true (f : State → State) (s : State) : s.when true f = f s := rfl
@[simp] theorem State.when_false (f : State → State) (s : State) : s.when false f = s := rfl

end Sys2Proof.Machine
end

