-- ==== Sys2Proof/Machine/Frames.lean ====
section
/-! DEFINITION. Camera frames at their end: classification, counts, hand-over to the pipelines (spec/05, R121 to R124). -/

namespace Sys2Proof.Machine

def State.camPort (s : State) (p : Nat) : CamPort := s.cam.ports.getD p {}
def State.camFlow (s : State) (p : Nat) : CamFlow := s.cam.flows.getD p {}
def State.ispPort (s : State) (p : Nat) : IspPort := s.isp.ports.getD p {}
def State.pipe (s : State) (i : Nat) : Pipe := s.isp.pipes.getD i {}
/-- The pipeline whose slot mask selects a port (R131); the bit of a port that waits for the in-line place counts as set (R133). -/
def State.maskPipe (s : State) (p : Nat) : Option Nat :=
  (List.range 4).find? fun i => (s.pipe i).mask.getLsbD p || (i == p / 4 && (s.pipe i).inlineNext == some (p % 4))
def State.modPort (p : Nat) (f : CamPort → CamPort) (s : State) : State := s.modCam fun c => { c with ports := c.ports.modify p f }
def State.modFlow (p : Nat) (f : CamFlow → CamFlow) (s : State) : State := s.modCam fun c => { c with flows := c.flows.modify p f }
def State.modIspPort (p : Nat) (f : IspPort → IspPort) (s : State) : State := s.modIsp fun c => { c with ports := c.ports.modify p f }
def State.modPipe (i : Nat) (f : Pipe → Pipe) (s : State) : State := s.modIsp fun x => { x with pipes := x.pipes.modify i f }

/-- Bytes of a line packet's payload. -/
def lineBytes (w dt : Nat) : Nat :=
  let bitsPer := match dt with
    | 0x1E => 16
    | 0x1F => 20
    | 0x2B => 10
    | 0x2C => 12
    | 0x2D => 14
    | _ => 16
  (w * bitsPer + 7) / 8
/-- A line in memory: padded to whole 64 bytes. -/
def line64 (n : Nat) : Nat := (n + 63) / 64 * 64

/-- The layers of a port show the no-signal substitute until a frame of a later stream completes (R103, R116). -/
def State.signalLost (p : Nat) (s : State) : State := s.modFlow p fun f => { f with noSignal := true, gen := f.gen + 1 }
/-- The layers of a port follow their NOT_READY policy until a frame of a later stream completes (R117, R119). -/
def State.awaitFrame (p : Nat) (s : State) : State := s.modFlow p fun f => { f with notReady := true, gen := f.gen + 1 }
/-- A frame of the present stream has completed: the layers return (R116, R117). -/
def State.signalBack (p gen : Nat) (s : State) : State :=
  s.modFlow p fun f => if f.gen == gen then { f with noSignal := false, notReady := false } else f

/-- FLAGS of a frame that ends (R121, R123): 1 SHORT, 2 LONG, 4 TRUNCATED, 8 DROPPED. -/
def CamFrame.flagsAt (f : CamFrame) (cut : Bool) : Nat :=
  if f.dropped then 8 else if f.lines < f.h then (if cut then 4 else 1) else if f.h < f.lines then 2 else 0

def CamFrame.toRaw (f : CamFrame) (p : Nat) (flags : Nat) : RawFrame :=
  { port := p, seq := f.seq, start := f.start, lines := f.lines, flags := BitVec.ofNat 8 flags, embedded := f.embedded, rows := f.rows,
    w := f.w, h := f.h, dt := f.dt, pad := f.pad, gen := f.gen, buf := f.buf, inline := f.inline, fed := f.fed }

/-- The raw frame reaches whoever holds the frame already, or, when `fresh`, waits for its pipeline (R126, R128). -/
def State.handOver (p : Nat) (r : RawFrame) (fresh : Bool) (s : State) : State :=
  let same (f : ProcFrame) : Bool := f.port == p && f.seq == r.seq
  let swap (x : Option RawFrame) : Option RawFrame := x.map fun x => if x.seq == r.seq then r else x
  let give (f : ProcFrame) : ProcFrame := if same f then { f with raw := some r } else f
  let held := s.isp.pipes.any fun y => y.cur.any same
  let s := s.modIsp fun x => { x with
    pipes := x.pipes.map fun y => { y with mem := y.mem.map give, cur := y.cur.map give },
    ports := x.ports.modify p fun y => { y with ready := swap y.ready, statsDue := y.statsDue.map give } }
  s.modFlow p fun x => { x with raw := if fresh && !held then some r else swap x.raw }

/-- A DROPPED frame leaves no trace in a pipeline (R123). -/
def State.dropFrame (p : Nat) (seq : W32) (s : State) : State :=
  s.modIsp fun x => { x with
    pipes := x.pipes.map fun y => { y with cur := y.cur.filter fun f => !(f.port == p && f.seq == seq) },
    ports := x.ports.modify p fun y => { y with bufs := y.bufs.filter fun b => b.complete || b.seq != seq } }

/-- The frame in progress of a port ends, cut off when `cut` (R121, R124). -/
def State.endFrame (p : Nat) (cut : Bool) (s : State) : State :=
  match (s.camFlow p).frame with
  | none => s
  | some f =>
    let flags := f.flagsAt cut
    let s := s.modFlow p fun x => { x with
      frame := none, frames := x.frames + 1, short := if flags == 1 then x.short + 1 else x.short, long := if flags == 2 then x.long + 1 else x.long,
      truncated := if flags == 4 then x.truncated + 1 else x.truncated, dropped := if flags == 8 then x.dropped + 1 else x.dropped }
    let s := if flags == 0 then s else s.perFrame 0x482 p (le 1 p ++ le 1 flags ++ le 2 f.lines ++ le 4 f.seq.toNat)
    -- a second frame between two ticks shares its number with a good one, which keeps all it has (R112)
    if f.extra then s else
    let s := if flags == 0 || flags == 2 then s else s.modIspPort p fun x => { x with bufs := x.bufs.map fun b => if b.seq == f.seq then { b with flags := BitVec.ofNat 8 flags } else b }
    if f.dropped then s.dropFrame p f.seq else s.handOver p (f.toRaw p flags) (!f.given)

end Sys2Proof.Machine
end

