-- ==== Sys2Proof/Machine/Operands.lean ====
section
/-! DEFINITION. The operand forms of mailbox commands: the command slot, the bulk descriptor and the argument layouts
(spec/03, Tables 3.8 and 3.10; spec/04, R90 and R91). -/

namespace Sys2Proof.Machine

/-- No bound on a named argument of up to 240 bytes. -/
def anyVal : Nat := 2 ^ 2048 - 1

/-- A named argument of a layout: offset, bytes, its range, and the bits that may be set. -/
structure Arg where
  off : Nat
  n : Nat := 1
  lo : Nat := 0
  hi : Nat := anyVal
  mask : Nat := anyVal
deriving DecidableEq, Repr

/-- A mailbox command: its code, its class (R95), its bulk direction, the end of its layout and the layout's fields. -/
structure Cmd where
  code : Nat
  /-- 0 R, 1 W, 2 S -/
  cls : Nat
  /-- DIR of its bulk buffer, none when the command is not marked "bulk" -/
  bulk : Option Nat := none
  len : Nat := 0
  args : List Arg := []
  /-- bytes the layout does not name are checked to be 0 (not of LAYER.SET, R91) -/
  reserved : Bool := true
deriving DecidableEq, Repr

/-- Address of slot k of mailbox m in BAR0 (R81). -/
def slotAddr (m k : Nat) : Nat := 0x10000 + m * 0x4000 + 256 * (k % 32)

def State.box (s : State) (m : Nat) : Mailbox := s.ctl.boxes.getD m {}
def State.modBox (m : Nat) (g : Mailbox → Mailbox) (s : State) : State := s.modCtl fun c => { c with boxes := c.boxes.modify m g }

/-- A command as Taproot takes it from its slot. -/
structure Ctx where
  m : Nat
  tag : Nat
  code : Nat
  args : Bytes
  /-- base and length of the bulk buffer -/
  base : Nat := 0
  size : Nat := 0
deriving DecidableEq, Repr

def Ctx.u8 (c : Ctx) (o : Nat) : Nat := byteAt c.args o
def Ctx.u16 (c : Ctx) (o : Nat) : Nat := u16At c.args o
def Ctx.u32 (c : Ctx) (o : Nat) : Nat := u32At c.args o
def Ctx.a40 (c : Ctx) (o : Nat) : Nat := a40At c.args o
def Ctx.s16 (c : Ctx) (o : Nat) : Int := s16At c.args o

/-- Header failure of R91: FLAGS [7:1], bytes 6 to 15, ARG_LEN above 240. -/
def headerBad (slot : Bytes) : Bool := byteAt slot 3 / 2 != 0 || uAt 10 slot 6 != 0 || 240 < u16At slot 4

def argBad (args : Bytes) (a : Arg) : Bool :=
  let v := uAt a.n args a.off
  v < a.lo || a.hi < v || v &&& a.mask != v

def bulkBad (args : Bytes) (dir : Nat) (o : Nat) : Bool :=
  match o with
  | 0 => byteAt args 0 % 64 != 0
  | 5 => byteAt args 5 != dir
  | 8 => u32At args 8 == 0 || 2 ^ 26 < u32At args 8
  | 6 | 7 | 12 | 13 | 14 | 15 => byteAt args o != 0
  | _ => false

/-- The first argument offset in error under R91, in ascending order. -/
def Cmd.firstBad (c : Cmd) (args : Bytes) : Option Nat :=
  (List.range c.len).find? fun o =>
    (match c.bulk with
      | some d => o < 16 && bulkBad args d o
      | none => false) ||
    (c.args.any fun a => a.off == o && argBad args a) ||
    (c.reserved && (c.bulk == none || 16 ≤ o) && !(c.args.any fun a => a.off ≤ o && o < a.off + a.n) && byteAt args o != 0)

/-- ST_BAD_ARG under R91, as (ARG_OFFSET, REASON): header, ARG_LEN, the BULK flag, then the bytes. -/
def Cmd.argError (c : Cmd) (slot args : Bytes) : Option (Nat × Nat) :=
  if headerBad slot then some (0xFF, 0xFF)
  else if u16At slot 4 < c.len then some (0xFF, 0)
  else if (byteAt slot 3 == 1) != c.bulk.isSome then some (0xFF, 0)
  else (c.firstBad args).map fun o => (o, 0)

end Sys2Proof.Machine
end

