-- ==== Sys2Proof/Machine/Flags.lean ====
section
/-! DEFINITION. Status codes (Table 4.1), the status words and bytes the block computes from its state, and the
producer rule (R472). -/

namespace Sys2Proof.Machine

def stOk : Nat := 0x00
def stPending : Nat := 0x01
def stBadCommand : Nat := 0x02
def stBadArg : Nat := 0x03
def stNotOwner : Nat := 0x04
def stBusy : Nat := 0x05
def stNotPresent : Nat := 0x06
def stFaulted : Nat := 0x07
def stNoResource : Nat := 0x08
def stAuthFail : Nat := 0x09
def stSealed : Nat := 0x0A
def stWrongMode : Nat := 0x0B
def stLeaseHeld : Nat := 0x0C
def stUpdating : Nat := 0x0D
def stTimeout : Nat := 0x0E
def stCommitRejected : Nat := 0x0F

/-- What a producer write does (R472). -/
inductive ProducerWrite | takes | nothing | overrun
deriving DecidableEq, Repr

/-- R472: a write takes effect when V - Q <= C and V - P <= V - Q; V = P changes nothing; any other sets the overrun flag. -/
def producerRule {n : Nat} (cap : Nat) (p q v : BitVec n) : ProducerWrite :=
  if v = p then .nothing
  else if (v - q).toNat ≤ cap ∧ (v - p).toNat ≤ (v - q).toNat then .takes
  else .overrun

def Mode.code : Mode → Nat
  | .dormant => 0
  | .boot => 1
  | .safeView => 2
  | .field => 3
  | .degraded => 4
  | .maintenance => 5

/-- OWN_STATUS as master m reads it (Table 3.3 of spec/03). -/
def State.ownStatus (s : State) (m : Nat) : Nat :=
  s.own.owner + bitOf s.own.handover.isSome 3 + (match s.own.handover with | some h => h.target * 16 | none => 0)
    + bitOf (s.isOwner m) 7 + s.own.lastCause * 256 + s.own.changes.toNat * 65536

def State.ownConfig (s : State) : Nat :=
  s.own.hbPeriodMs + (s.own.prio.getD 0 0) * 2 ^ 16 + (s.own.prio.getD 1 0) * 2 ^ 18 + (s.own.prio.getD 2 0) * 2 ^ 20

/-- Operations of a master pending, or completed and not consumed (R81). -/
def State.pendingCount (s : State) (m : Nat) : Nat :=
  (s.ctl.pendingOps.filter fun p => p.master == m).length + (s.box m).completions.length

def State.mbStatus (s : State) (m : Nat) : Nat :=
  bitOf (s.box m).overrun 0 + bitOf (s.box m).slotDropped 1 + bitOf (s.tp.state == .restarting) 2 + bitOf (s.tp.state == .halted) 3
    + min 16 (s.pendingCount m) * 256

/-- RESET_CAUSE (R62): bits [9:0] and WDT_COUNT. -/
def State.resetCauseWord (s : State) : Nat := s.pwr.resetCause.toNat % 2 ^ 10 + s.pwr.wdtCount.toNat * 2 ^ 16

def State.domainOnWord (s : State) (hi : Bool) : Nat :=
  if hi then maskOf 27 fun j => s.domOn (32 + j) else maskOf 32 fun i => s.domOn i

def State.fwActive (s : State) : Nat := s.tp.slot + s.tp.version.toNat % 2 ^ 24 * 256

/-- The domain of a unit (Table 3.14), none for an index that names no unit. -/
def unitDomain (i : Nat) : Option Nat :=
  if i < 59 then some i
  else if 64 ≤ i ∧ i < 80 then some (domRG (i - 64))
  else if 80 ≤ i ∧ i < 88 then some domDE
  else if 96 ≤ i ∧ i < 105 then some domCMP
  else if 128 ≤ i ∧ i < 224 then some (domSG ((i - 128) / 8))
  else if 224 ≤ i ∧ i < 256 then some (domRG ((i - 224) / 2))
  else if 256 ≤ i ∧ i < 272 then some (domHP ((i - 256) / 8))
  else none

def State.unitPresent (s : State) (i : Nat) : Bool :=
  if i < 59 then s.hasDomain i
  else if 64 ≤ i ∧ i < 80 then s.hasPort (i - 64)
  else if 80 ≤ i ∧ i < 88 then s.hasPair (i - 80)
  else if 96 ≤ i ∧ i < 105 then true
  else if 128 ≤ i ∧ i < 272 then s.hasLane (i - 128)
  else false

/-- UNIT_STATUS[i] (R86). An index that names no unit reads 0. -/
def State.unitWord (s : State) (i : Nat) : Nat :=
  match unitDomain i with
  | none => 0
  | some d =>
    let u := s.unit i
    bitOf (s.unitPresent i) 0 + bitOf (s.dom d).on 1 + bitOf (u.flowing && (s.dom d).on) 2 + bitOf u.faulted 3 + bitOf u.reduced 4
      + (if (s.dom d).on then u.state else if u.faulted then 7 else 0) * 256 + u.cause * 2 ^ 16 + u.changes.toNat * 2 ^ 24

/-- The thermal ladder in W (R414). -/
def thermalLadder : List Nat := [150, 130, 110, 95, 80, 65]
def State.thermalLimit (s : State) : Nat := thermalLadder.getD s.hk.step 65
/-- Taproot runs, or lets pending operations run during the drain of a live update (R89). -/
def State.taprootUp (s : State) : Bool := s.tp.state == .running || s.tp.state == .draining
/-- The power limit in force (R35). -/
def State.powerLimit (s : State) : Nat := min s.gov.ownerLimit s.thermalLimit
/-- GOV_STAGE: the highest stage with a reduction in force. -/
def State.govStage (s : State) : Nat :=
  if s.gov.flatLayers != 0 then 3 else if s.gov.planeSteps != 0 then 2 else if s.gov.rateSteps != 0 then 1 else 0

/-- SVC_INT_N and SAFE_INT_N (R85): low while the ring holds an unconsumed entry or Taproot is halted. -/
def State.intN (s : State) (m : Nat) : Bool := (s.ring m).unconsumed == 0 && s.tp.state != .halted

/-- The status byte of a window (R71); `m` is 2 SVC or 3 SAFE. BUSY reads 0: a window write is done within its command. -/
def State.statusByte (s : State) (m : Nat) : Nat :=
  let p := s.ctl.ports.getD (m - 2) {}
  bitOf p.readLate 1 + bitOf p.writeDropped 2 + bitOf p.pecErr 3 + bitOf ((s.ring m).unconsumed != 0) 4 + bitOf (s.isOwner m) 5

end Sys2Proof.Machine
end

