-- ==== Sys2Proof/Machine/Mailbox.lean ====
section
/-! DEFINITION. How a mailbox command is taken, judged, answered and completed (spec/03 R78, R81, R82; spec/04 R91 to R98). -/

namespace Sys2Proof.Machine

/-- What a command's body decides once the checks of R94 items 1 to 5 have passed. -/
inductive Reply
  /-- ST_OK with a response -/
  | ok (data : Bytes)
  /-- any other final status: ARG_OFFSET, REASON, UNIT of R92 -/
  | err (status off reason unit : Nat)
  /-- a final status other than ST_OK whose effects stay: a rejected commit (R250) -/
  | kept (status reason unit : Nat)
  /-- ST_PENDING with its limit in ns and a number kept for the completion -/
  | pend (limit : Nat) (aux : Nat)
  /-- the answer waits for the hardware, at most this many ns -/
  | wait (limit : Nat)
deriving DecidableEq, Repr

def Reply.fail (status : Nat) : Reply := .err status 0xFF 0 0xFFFF
/-- ST_BUSY of a unit (R92). -/
def Reply.busy (unit : Nat) : Reply := .err stBusy 0xFF 0 unit
def Reply.badArg (off : Nat) (reason : Nat := 0) : Reply := .err stBadArg off reason 0xFFFF

/-- The DATA of a failed response (R92). -/
def failData (off reason unit : Nat) : Bytes := le 1 off ++ le 1 reason ++ le 2 unit

/-- The 256 bytes of a response (Table 3.9, R81): every byte of the slot, zero beyond the data. -/
def responseBytes (code tag status pid : Nat) (data : Bytes) : Bytes :=
  pad 256 (le 2 code ++ le 1 tag ++ le 1 status ++ le 2 (min 240 data.length) ++ le 2 pid ++ le 8 0 ++ data.take 240)

/-- Write the response to the oldest unanswered command of mailbox m, advance RESPONDED and raise vector 0 (R81, R84). -/
def State.answer (m code tag status pid : Nat) (data : Bytes) (s : State) : State :=
  let s := (s.modWin fun w => memWrite w (slotAddr m (s.box m).responded.toNat) (responseBytes code tag status pid data)).modBox m
    fun b => { b with responded := b.responded + 1 }
  if m < 2 then s.vector m 0 else s

/-- End the hold of a bulk buffer (R82). -/
def State.releaseBulk (m id : Nat) (s : State) : State :=
  s.modCtl fun c => { c with bulkHolds := c.bulkHolds.filter fun h => !(h.master == m && h.id == id) }

/-- The next PENDING_ID of a master: from 1, wrapping from 0xFFFF to 1, skipping those in use (R97). -/
def nextPid (used : List Nat) (i : Nat) : Nat → Nat
  | 0 => i
  | n + 1 => if used.contains i then nextPid used (if i < 0xFFFF then i + 1 else 1) n else i

/-- Complete a pending operation: its completion event goes to its issuer's ring (R97), its bulk hold ends (R82). -/
def State.complete (op : PendingOp) (status : Nat) (result : Bytes) (s : State) : State :=
  let sev := if status == stOk then 0 else 1
  let e := mkEvent op.code sev s.time (le 2 op.id ++ [op.tag] ++ le 1 status ++ pad 12 result) true
  let pos := (s.ring op.master).producer
  let s := s.modCtl fun c => { c with pendingOps := c.pendingOps.filter fun p => !(p.master == op.master && p.id == op.id) }
  let s := (s.releaseBulk op.master op.id).modBox op.master fun b => { b with completions := b.completions ++ [pos] }
  (s.offer op.master e).toLog e

/-- The pending operation with this issuer and id. -/
def State.findOp (s : State) (m id : Nat) : Option PendingOp := s.ctl.pendingOps.find? fun p => p.master == m && p.id == id
/-- A pending operation of a code whose arguments satisfy `p` (R98). -/
def State.opOn (s : State) (code : Nat) (p : Bytes → Bool := fun _ => true) : Bool := s.ctl.pendingOps.any fun o => o.code == code && p o.args
/-- Complete every pending operation of a code. -/
def State.completeAll (code status : Nat) (result : Bytes) (s : State) : State :=
  (s.ctl.pendingOps.filter fun o => o.code == code).foldl (fun t o => t.complete o status result) s

/-- Take a bulk hold for the command being executed. -/
def State.takeBulk (m base len : Nat) (s : State) : State :=
  s.modCtl fun c => { c with bulkHolds := c.bulkHolds ++ [{ master := m, id := 0, base := base, len := len }] }

/-- Answer the command at the front of mailbox m with the reply of its body; `s0` is the state a refused command leaves (R93). -/
def State.reply (c : Ctx) (s0 : State) (r : State × Reply) : State :=
  match r with
  | (s, .ok d) => (s.releaseBulk c.m 0).answer c.m c.code c.tag stOk 0 d
  | (_, .err st o rs u) => (s0.releaseBulk c.m 0).answer c.m c.code c.tag st 0 (failData o rs u)
  | (s, .kept st rs u) => (s.releaseBulk c.m 0).answer c.m c.code c.tag st 0 (failData 0xFF rs u)
  | (s, .wait limit) =>
    s.modCtl fun x => { x with executing := x.executing ++ [{ master := c.m, tag := BitVec.ofNat 8 c.tag, code := c.code, args := c.args, deadline := s.time + limit }] }
  | (s, .pend limit aux) =>
    if 16 ≤ s0.pendingCount c.m then (s0.releaseBulk c.m 0).answer c.m c.code c.tag stNoResource 0 (failData 0xFF 0 0xFFFF)
    else
      let used := (s0.ctl.pendingOps.filter fun p => p.master == c.m).map (·.id)
      let id := nextPid used (s0.box c.m).nextId 17
      let s := s.modBox c.m fun b => { b with nextId := if id < 0xFFFF then id + 1 else 1 }
      let s := s.modCtl fun x => { x with
        pendingOps := x.pendingOps ++ [{ master := c.m, id := id, tag := BitVec.ofNat 8 c.tag, code := c.code, args := c.args, deadline := s.time + limit, aux := aux }],
        bulkHolds := x.bulkHolds.map fun h => if h.master == c.m && h.id == 0 then { h with id := id } else h }
      s.answer c.m c.code c.tag stPending id []

/-- Mailbox m holds a command not yet dequeued. -/
def State.waits (s : State) (m : Nat) : Bool := s.masterExists m && (s.box m).producer != (s.box m).dequeued
/-- Ring m has the turn: every ring from the one whose turn it is up to m is empty (R81). The ROM serves SVC alone (R439). -/
def State.hasTurn (s : State) (m : Nat) : Bool :=
  s.tp.state == .recovery || (List.range ((m + 4 - s.ctl.turn % 4) % 4)).all fun k => !s.waits ((s.ctl.turn + k) % 4)

/-- Does mailbox m hold a command that Taproot may take now, and is its CODE `code`? Taproot executes one command at a
time, one from each non-empty ring in turn (R81); a command waiting for the hardware is the one it executes. -/
def State.front (s : State) (m code : Nat) : Bool :=
  s.waits m && s.hasTurn m && s.ctl.executing.isEmpty &&
    uAt 2 (memRead s.win (slotAddr m (s.box m).dequeued.toNat) 2) 0 == code

/-- The class check of R95; in recovery the ROM serves SVC whatever the class (R439). -/
def State.classOk (s : State) (cls m : Nat) : Bool :=
  s.tp.state == .recovery || (match cls with
    | 0 => true
    | 1 => s.isOwner m
    | _ => m == 3)

/-- Codes of the recovery subset that share a row with the catalogue (Table 18.7). -/
def recoveryCode (code : Nat) : Bool := code == 0 || code == 6 || code == 0x1300

/-- Who serves a command now: Taproot, or the ROM in recovery for SVC (R439). -/
def State.serves (s : State) (m code : Nat) : Bool := s.tp.state == .running || (s.tp.state == .recovery && m == 2 && recoveryCode code)

/-- The slot of the oldest command not yet dequeued of mailbox m. -/
def State.frontSlot (s : State) (m : Nat) : Bytes := memRead s.win (slotAddr m (s.box m).dequeued.toNat) 256
/-- Taproot takes that command; the turn passes to the ring after it (R81). -/
def State.dequeue (m : Nat) (s : State) : State := (s.modBox m fun b => { b with dequeued := b.dequeued + 1 }).modCtl fun c => { c with turn := (m + 1) % 4 }

/-- The command in a slot, as its body sees it. -/
def Cmd.ctx (c : Cmd) (m : Nat) (slot : Bytes) : Ctx :=
  let args := slot.drop 16
  { m := m, tag := byteAt slot 2, code := c.code, args := args,
    base := if c.bulk.isSome then a40At args 0 else 0, size := if c.bulk.isSome then u32At args 8 else 0 }

/-- The checks of R94 items 3 to 5, in that order: class, absent unit, arguments. `present` names an absent unit, `pre` an
argument that the command's own rules refuse. -/
def State.refusal (c : Cmd) (present : Ctx → State → Option Nat) (pre : Ctx → State → Option (Nat × Nat)) (x : Ctx) (slot : Bytes) (s : State) : Option Reply :=
  if !s.classOk c.cls x.m then some (.fail stNotOwner)
  else match present x s with
  | some u => some (.err stNotPresent 0xFF 0 u)
  | none => ((c.argError slot x.args) <|> pre x s).map fun e => .badArg e.1 e.2

/-- The hold on a bulk buffer, taken before items 6 to 13 (R94). -/
def State.refusalBulk (c : Cmd) (x : Ctx) (s : State) : Option Reply :=
  if c.bulk.isNone then none
  else if !s.inMemory x.base x.size then some (.badArg 0)
  else if 64 ≤ s.ctl.bulkHolds.length then some (.fail stNoResource)
  else if c.bulk == some 0 && s.poisoned x.base x.size then some (.fail stFaulted)
  else none

/-- Execute the command `c` from mailbox `m`: dequeue, judge in the order of R94, run the body, answer. -/
def runCmd (c : Cmd) (present : Ctx → State → Option Nat) (pre : Ctx → State → Option (Nat × Nat))
    (body : Ctx → State → State × Reply) (m : Master) (s : State) : State :=
  if !(s.serves m.code c.code && s.front m.code c.code) then s
  else
    let slot := s.frontSlot m.code
    let x := c.ctx m.code slot
    let s := s.dequeue m.code
    match s.refusal c present pre x slot <|> s.refusalBulk c x with
    | some r => State.reply x s (s, r)
    | none =>
      let s := if c.bulk.isSome then s.takeBulk m.code x.base x.size else s
      State.reply x s (body x s)

def noUnit (_ : Ctx) (_ : State) : Option Nat := none
def noPre (_ : Ctx) (_ : State) : Option (Nat × Nat) := none

/-- A number beyond the class is out of range (R91); one within it that the part lacks is absent (R5). -/
def absentIn (o base hi : Nat) (has : State → Nat → Bool) (c : Ctx) (s : State) : Option Nat :=
  if c.u8 o ≤ hi && !has s (c.u8 o) then some (base + c.u8 o) else none

/-- Content of the command's bulk buffer. -/
def Ctx.bulkBytes (c : Ctx) (s : State) : Bytes := s.devRead c.base c.size

/-- The hardware answers every undequeued command of every mailbox (R88, R89). -/
def State.answerAll (status : Nat) (m : Nat) : Nat → State → State
  | 0, s => s
  | n + 1, s =>
    if (s.box m).producer == (s.box m).dequeued then s
    else
      let a := slotAddr m (s.box m).dequeued.toNat
      let s := s.modBox m fun b => { b with dequeued := b.dequeued + 1 }
      State.answerAll status m n (s.answer m (u16At (memRead s.win a 2) 0) (memGet s.win (a + 2)).toNat status 0 (failData 0xFF 0 0xFFFF))

def State.answerUndequeued (status : Nat) (s : State) : State := (List.range 4).foldl (fun t m => t.answerAll status m 32) s

/-- Answer the command that Taproot was executing when it stopped (R89). -/
def State.cutOff (s : State) : State :=
  (s.ctl.executing.foldl (fun t e => t.answer e.master e.code e.tag.toNat stFaulted 0 (failData 0xFF 0xFE 0xFFFF)) s).modCtl fun c => { c with executing := [] }

end Sys2Proof.Machine
end

