-- ==== Sys2Proof/Machine/Ownership.lean ====
section
/-! DEFINITION. Ownership, SAFE's rights, event-ring control and doorbells (spec/03). -/

namespace Sys2Proof.Machine

/-- Every write of a master to the ownership block breaks its token pair (OWN_HANDOVER_TOKEN). -/
def State.breakPair (m : Master) (s : State) : State := s.modOwn fun o => { o with pairs := o.pairs.set m.code none }

/-- A BAR0 write that the register's header does not permit is dropped and logged (R13): EV_SYS_WRITE_DROPPED, REASON 1.
Dropped in the ownership block, it too breaks its master's token pair. -/
def State.dropWrite (m : Master) (offset : Nat) (s : State) : State :=
  let s := if m.code < 2 then s else s.modCtl fun c => { c with ports := c.ports.modify (m.code - 2) fun p => { p with writeDropped := true } }
  let s := if 0x1000 ≤ offset && offset < 0x2000 then s.breakPair m else s
  s.post 0x82 1 (le 1 m.code ++ [1] ++ le 1 (if m.code < 2 then 0 else 1) ++ [0] ++ le 4 offset)

/-- An access to a domain that is off, or being switched (R15): EV_SYS_DOMAIN_OFF_ACCESS. -/
def State.offAccess (m : Master) (dom addr : Nat) (write : Bool) (s : State) : State :=
  s.post 0x80 1 (le 1 m.code ++ le 1 dom ++ le 5 addr ++ [if write then 1 else 0])

/-- Rank of a trigger to SAFE-VIEW by its cause (R29, Table 1.6); the lapse of R21 and an owner request come last. -/
def triggerRank : Nat → Nat
  | 0x02 | 0x03 => 3
  | 0x04 => 4
  | 0x06 => 5
  | _ => 6

/-- A trigger to SAFE-VIEW waits for the latch point; of several the highest acts (R29). -/
def State.safeTrig (cause : Nat) (s : State) : State :=
  s.modMode fun m => { m with safeTrigger := match m.safeTrigger with
    | some c => if triggerRank cause < triggerRank c then some cause else some c
    | none => some cause }

/-- A pending MODE.SET to FIELD that a higher trigger overtakes completes with ST_WRONG_MODE (R29). -/
def State.overtakeField (s : State) : State :=
  ((s.ctl.pendingOps.filter fun o => o.code == 0x201 && byteAt o.args 0 == 3).foldl
    (fun t o => t.complete o stWrongMode (le 1 t.mode.mode.code)) s).modMode fun m => { m with fieldIn := none, ownerReq := none, bootField := false }

/-- Ownership changes; a token replacement leaves a pending handover (R73, R75). Cause, count, event to every ring, vector 7 on every function (R72, R73, R84). -/
def State.changeOwner (new cause : Nat) (token : W32) (s : State) : State :=
  let old := s.own.owner
  let s := s.modOwn fun o => { o with
    owner := new, token := token, lastCause := cause, changes := o.changes + 1, handover := if cause == 6 then o.handover else none,
    hbDeadline := s.time + ms o.hbInForce, hbLast := s.time }
  ((s.post 0x180 1 (le 1 old ++ le 1 new ++ le 1 cause ++ [0] ++ le 2 s.own.changes.toNat)).allVector 7)

def State.vacate (cause : Nat) (s : State) : State := s.changeOwner 7 cause 0

/-- A lapse of the owner's heartbeat (R74, R21). -/
def State.lapse (s : State) : State :=
  let old := s.own.owner
  let gone := (s.time - s.own.hbLast) / 1000000
  let s := s.post 0x181 2 (le 1 old ++ [0, 0, 0] ++ le 4 gone)
  let s := s.vacate 3
  if s.mode.mode == .maintenance then s.safeTrig 0x06 else s

/-- A heartbeat that is due has lapsed; a write in the cycle of the deadline is late (R74, Table 3.5). -/
def State.lapseIfDue (s : State) : State := s.when (s.own.owner != 7 && s.own.hbDeadline ≤ s.time) State.lapse
/-- A handover window that is over is cancelled before anything else in its cycle (R75, Table 3.5). -/
def State.expireIfDue (s : State) : State :=
  match s.own.handover with
  | some h => s.when (h.deadline ≤ s.time) (·.modOwn fun o => { o with handover := none })
  | none => s

def State.setResult (m : Nat) (r : Nat) (s : State) : State := s.modOwn fun o => { o with results := o.results.set m r }

/-- Keep a claim for the next tick; a master's last token is the one judged (R73). -/
def State.keepClaim (m : Nat) (token : W32) (s : State) : State :=
  (s.modOwn fun o => { o with claims := o.claims.filter (·.master != m) ++ [{ master := m, token := token, arrival := s.time }] }).setResult m 1

/-- OWN_CLAIM (R73, R75). SAFE's claim is refused (R72) and its write is not permitted (R13). -/
def State.claim (m : Master) (token : W32) (s : State) : State :=
  let s := s.lapseIfDue.expireIfDue.breakPair m
  if m == .safe then (s.setResult 3 6).dropWrite m 0x1008
  else if token == 0 || !s.masterExists m.code then s.setResult m.code 6
  else if s.own.owner == 7 || s.own.owner == m.code then s.keepClaim m.code token
  else match s.own.handover with
    | some h => if h.target == m.code then (s.changeOwner m.code 2 token).setResult m.code 5 else s.setResult m.code 3
    | none => s.setResult m.code 3

def execOwnClaim (m : Master) (token : W32) (s : State) : Result := s.byPort m.code fun s => done (s.claim m token)

/-- The master of the highest claim priority among the claimants (OWN_CONFIG). -/
def winner (prio : List Nat) (cs : List Claim) : Option Claim := prio.findSome? fun p => cs.find? (·.master == p)

/-- Judge the claims that arrived before the tick (R73). -/
def State.judgeClaims (cs : List Claim) (s : State) : State :=
  if s.own.owner == 7 then
    match winner s.own.prio cs with
    | none => s
    | some w => ((cs.foldl (fun t c => t.setResult c.master 4) s).changeOwner w.master 1 w.token).setResult w.master 2
  else cs.foldl (fun t c => if c.master == t.own.owner then (t.changeOwner c.master 6 c.token).setResult c.master 2 else t.setResult c.master 3) s

/-- The 1 ms ownership tick (R73); a claim of the tick's own cycle waits for the next. -/
def execOwnershipTick (s : State) : Result :=
  let s := (s.nextPeriod (ms 1)).lapseIfDue.expireIfDue
  let now := s.own.claims.filter fun c => c.arrival < s.time
  done ((s.modOwn fun o => { o with claims := o.claims.filter fun c => s.time ≤ c.arrival }).judgeClaims now)

def State.badToken (m : Master) (reg reason : Nat) (s : State) : State := s.post 0x182 1 (le 1 m.code ++ le 1 reg ++ le 1 reason)

/-- OWN_HEARTBEAT (R74). -/
def execOwnHeartbeat (m : Master) (token : W32) (s : State) : Result := s.byPort m.code fun s =>
  let s := s.lapseIfDue.breakPair m
  done (if m == .safe then s.dropWrite m 0x1010
  else if s.own.owner != m.code then s.badToken m 0 1
  else if s.own.token != token then s.badToken m 0 0
  else s.modOwn fun o => { o with hbLast := s.time, hbInForce := o.hbPeriodMs, hbDeadline := s.time + ms o.hbPeriodMs })

/-- Expiry of the heartbeat period (R74): armed while a master owns the device. -/
def execHeartbeatLapse (s : State) : Result :=
  done (s.when (s.own.owner != 7) fun s => (s.timeTo s.own.hbDeadline).lapse)

/-- OWN_HANDOVER_TOKEN (R74): the token pairs with the next OWN_HANDOVER write of the same master. -/
def execOwnHandoverToken (m : Master) (token : W32) (s : State) : Result := s.byPort m.code fun s =>
  let s := s.lapseIfDue.breakPair m
  done (if m == .safe then s.dropWrite m 0x1018
  else if s.own.owner != m.code then s.badToken m 1 1
  else s.modOwn fun o => { o with pairs := o.pairs.set m.code (some (token, s.time)) })

/-- OWN_HANDOVER (R75, R76): TARGET 7 releases, a master opens a 100 ms window. SAFE's write is dropped (R74). -/
def State.handover (m : Master) (value : W32) (s : State) : State :=
  let s := s.lapseIfDue.expireIfDue
  let pair := s.own.pairs.getD m.code none
  let s := s.breakPair m
  let target := value.toNat % 8
  if m == .safe then (s.setResult 3 6).dropWrite m 0x1014
  else if s.own.owner != m.code then s.badToken m 1 1
  else match pair with
  | none => s.badToken m 1 2
  | some (t, at_) =>
    if at_ + ms 1 < s.time then s.badToken m 1 2
    else if t != s.own.token then s.badToken m 1 0
    else if target == 7 then s.vacate 4
    else if target == m.code || !s.canOwn target then s.badToken m 1 3
    else s.modOwn fun o => { o with handover := some { target := target, deadline := s.time + ms 100 } }

def execOwnHandover (m : Master) (value : W32) (s : State) : Result := s.byPort m.code fun s => done (s.handover m value)
def execOwnRelease (m : Master) (s : State) : Result := s.byPort m.code fun s => done (s.handover m 7)

/-- Expiry of the 100 ms handover window (R75). -/
def execHandoverExpiry (s : State) : Result :=
  done (match s.own.handover with
    | some h => (s.timeTo h.deadline).modOwn fun o => { o with handover := none }
    | none => s)

/-- Debounced change of SVC_PRESENT_N (R68, Table 3.5). A removed SVC no longer exists (Table 3.1): its waiting claim is not judged. -/
def execSvcPresentChange (level : Bool) (s : State) : Result :=
  if level == s.pins.svcPresentN then done s
  else
    let s := s.modPins fun p => { p with svcPresentN := level }
    if !level then done (s.post 0x1580 0 [])
    else
      let wasOwner := s.own.owner == 2
      let s := s.post 0x1581 1 [if wasOwner then 1 else 0]
      let s := if wasOwner then s.vacate 5 else s
      done (s.modOwn fun o => { o with claims := o.claims.filter (·.master != 2), handover := match o.handover with
        | some h => if h.target == 2 then none else some h
        | none => none })

/-! ### Event rings and doorbells -/

/-- EVR_CONSUMER (R83): taken only when it moves forward within the producer; completions passed leave the pending count (R81). -/
def execEvrConsumer (m : Master) (ring : Nat) (value : W32) (s : State) : Result := s.byPort m.code fun s =>
  if m.code != ring then done (s.dropWrite m (0x28004 + ring * 0x100))
  else
    let r := s.ring ring
    if (value - r.consumer).toNat ≤ (r.producer - r.consumer).toNat then
      done ((s.modRing ring fun r => { r with consumer := value }).modBox ring fun b =>
        { b with completions := b.completions.filter fun p => (value - r.consumer).toNat ≤ (p - r.consumer).toNat })
    else done s

/-- Read of EVR_LOST: it returns the count, then the count clears (R11, Table 3.12). -/
def execEvrLostRead (m : Master) (ring : Nat) (s : State) : Result := s.byPort m.code fun s =>
  if s.masterExists ring then
    done ((s.emit (.readData m.code (le 4 (s.ring ring).lost.toNat) false)).modRing ring fun r => { r with lost := 0 })
  else done (s.emit (.readData m.code (le 4 0) false))

/-- The hold-off interval of a ring ends and a held-off vector 1 is raised (R84, Table 3.12). -/
def execEventInterruptHoldoff (ring : Nat) (s : State) : Result :=
  done (s.when ((s.ring ring).heldOff) fun s => (s.timeTo (s.ring ring).holdUntil).ringVector ring)

/-- MB_DOORBELL (R81, R472); without Taproot the hardware answers at once (R88). -/
def execMbDoorbell (writer : Master) (box : Nat) (value : W32) (s : State) : Result := s.byPort writer.code fun s =>
  if writer.code != box || !s.masterExists box then done (s.dropWrite writer (0x12000 + box * 0x4000))
  else
    let b := s.box box
    let v : W8 := value.setWidth 8
    match producerRule 32 b.producer b.responded v with
    | .nothing => done s
    | .overrun => done (s.modBox box fun b => { b with overrun := true })
    | .takes =>
      let s := s.modBox box fun b => { b with producer := v }
      done (if s.tp.state == .restarting then s.answerAll stUpdating box 32
        else if s.tp.state == .halted then s.answerAll stFaulted box 32 else s)

/-! ### SAFE_CTRL (R80) -/

def execForceSafeViewSet (m : Master) (s : State) : Result :=
  done (if m != .safe then s.dropWrite m 0x1040
  else ((s.modOwn fun o => { o with forceSafeView := true }).safeTrig 0x03).overtakeField)

def execForceSafeViewClear (m : Master) (s : State) : Result :=
  done (if m != .safe then s.dropWrite m 0x1040 else s.modOwn fun o => { o with forceSafeView := false })

/-- HW_RELEASE has no effect outside MAINTENANCE: the bit stays 0 there. -/
def execHwRelease (m : Master) (s : State) : Result :=
  done (if m != .safe then s.dropWrite m 0x1040 else s.modOwn fun o => { o with hwRelease := s.mode.mode == .maintenance })

/-- The tone starts with sound at the mixer frame after the write (R404). -/
def execAlarmToneOn (m : Master) (s : State) : Result :=
  done (if m != .safe then s.dropWrite m 0x1040
  else (s.modOwn fun o => { o with alarmTone := true }).modAud fun a => { a with toneN := some (a.toneN.getD 0), toneEnding := false })

def execAlarmToneOff (m : Master) (s : State) : Result :=
  done (if m != .safe then s.dropWrite m 0x1040
  else (s.modOwn fun o => { o with alarmTone := false }).modAud fun a => { a with toneEnding := a.toneN.isSome })

end Sys2Proof.Machine
end

