-- ==== Sys2Proof/Machine/Nvm.lean ====
section
/-! DEFINITION. The NVM store and the event log (spec/17, R423 to R430; NVM, LOG of spec/04). -/

namespace Sys2Proof.Machine

/-! ### Records (R423 to R425) -/

def State.record (s : State) (id : Nat) : NvmRec := (s.nvm.recs.find? (·.id == id)).getD { id := id }

/-- Put a record into the ascending list. -/
def insertRec (r : NvmRec) : List NvmRec → List NvmRec
  | [] => [r]
  | x :: t => if r.id < x.id then r :: x :: t else if r.id = x.id then r :: t else x :: insertRec r t

def State.setRecord (r : NvmRec) (s : State) : State := s.modNvm fun n => { n with recs := insertRec r n.recs }

/-- Index of the slot with the newest valid copy (R424). -/
def NvmRec.newest (r : NvmRec) : Option Nat :=
  let a := r.slots.getD 0 {}
  let b := r.slots.getD 1 {}
  if a.valid && (!b.valid || b.seq.toNat ≤ a.seq.toNat) then some 0 else if b.valid then some 1 else none

/-- The payload in use, none when neither slot is valid. -/
def NvmRec.payload (r : NvmRec) : Option Bytes := r.newest.map fun i => (r.slots.getD i {}).payload
def State.recPayload (s : State) (id : Nat) : Option Bytes := (s.record id).payload

/-- A torn or invalid newer slot gives way to an older copy, or both are invalid (R424): the SLOT of EV_NVM_RECORD_FALLBACK. -/
def NvmRec.fallback (r : NvmRec) : Option Nat :=
  let a := r.slots.getD 0 {}
  let b := r.slots.getD 1 {}
  if a.valid && !b.valid && a.seq.toNat < b.seq.toNat then some 0
  else if b.valid && !a.valid && b.seq.toNat < a.seq.toNat then some 1
  else if !a.valid && !b.valid && (a.seq != 0 || b.seq != 0) then some 0xFF
  else none

/-- Write a record into the slot that does not hold its newest valid copy, one SEQ above it (R423, R424). -/
def NvmRec.store (r : NvmRec) (payload : Bytes) (t : Nat) : NvmRec :=
  let i := match r.newest with
    | some 0 => 1
    | _ => 0
  let seq := match r.newest with
    | some j => (r.slots.getD j {}).seq + 1
    | none => 1
  { r with slots := r.slots.set i { seq := seq, payload := payload, valid := true }, lastWrite := some t, pending := none }

/-- Write a record now (outside the limits of R425). -/
def State.writeRecord (id : Nat) (payload : Bytes) (s : State) : State := s.setRecord ((s.record id).store payload s.time)

/-- Write interval of a record: trims once an hour, the others once every 10 s (R425). -/
def recInterval (id : Nat) : Nat := if 0x18 ≤ id ∧ id < 0x20 then 3600 * 10 ^ 9 else 10 * 10 ^ 9

/-- A change that Taproot makes to a record: it reaches NVM at once, or at the end of its interval (R425). -/
def State.deferRecord (id : Nat) (payload : Bytes) (s : State) : State :=
  let r := s.record id
  match r.lastWrite with
  | some t => if s.time < t + recInterval id then s.setRecord { r with pending := some payload } else s.writeRecord id payload
  | none => s.writeRecord id payload

/-- Commit every pending record (R425: entry to DORMANT, live update). -/
def State.commitPending (s : State) : State :=
  s.modNvm fun n => { n with recs := n.recs.map fun r => match r.pending with
    | some p => r.store p s.time
    | none => r }

/-- A record being written when power is cut loses its commit flag (R419): the slot it was going to is torn. -/
def NvmRec.tear (r : NvmRec) : NvmRec :=
  let i := match r.newest with
    | some 0 => 1
    | _ => 0
  let seq := match r.newest with
    | some j => (r.slots.getD j {}).seq + 1
    | none => 1
  { r with slots := r.slots.set i { seq := seq, valid := false } }

/-- Time a record of n payload bytes takes to write: 250 ns for each word of its frame (R423). -/
def recWriteNs (n : Nat) : Nat := 250 * ((n + 7) / 8 + 4)
/-- A copy whose write was still in progress lacks its flag (R419). -/
def NvmRec.unfinished (r : NvmRec) (now : Nat) : NvmRec :=
  match r.newest, r.lastWrite with
  | some i, some t => if now < t + recWriteNs (r.slots.getD i {}).payload.length then { r with slots := r.slots.modify i fun x => { x with valid := false } } else r
  | _, _ => r

/-- Power is cut: writes in progress, those of NVM.WRITE among them, are torn; changes not yet written are lost (R213, R419,
R425). -/
def State.cutWrites (s : State) : State :=
  let torn := (s.ctl.pendingOps.filter fun o => o.code == 0x1201).map fun o => o.aux
  s.modNvm fun n => { n with recs := n.recs.map fun r => let r := ({ r with pending := none } : NvmRec).unfinished s.time
                                                         if torn.contains r.id then r.tear else r }

/-- Records of Table 17.8 and the security records of Table 18.2. -/
def knownRecord (id : Nat) : Bool :=
  (1 ≤ id && id ≤ 0x13) || (0x18 ≤ id && id ≤ 0x40) || (0x50 ≤ id && id ≤ 0x6F) || (0x200 ≤ id && id ≤ 0x206)

/-! ### The event log (R429, R430) -/

def EvEntry.bytes (e : EvEntry) : Bytes :=
  le 2 e.code ++ le 1 e.sev ++ le 1 (bitOf e.gap 0 + bitOf e.completion 1) ++ le 4 e.seq.toNat ++ le 8 e.time ++ pad 16 e.payload

def logCapacity : Nat := 16384

/-- OLDEST_SEQ: the larger of LOG_FLOOR and the oldest valid SEQ (R430). -/
def State.logOldest (s : State) : Nat :=
  max s.nvm.logFloor.toNat (match s.nvm.log.find? (·.valid) with | some e => e.seq.toNat | none => s.nvm.logSeq.toNat + 1)

/-- Write the oldest waiting event into the log; beyond 1,000 in a second it is counted and not written, and the next entry carries GAP. -/
def State.writeLog (s : State) : State :=
  match s.nvm.logQueue with
  | [] => s
  | e :: rest =>
    let sec := s.time / 10 ^ 9
    let s := s.modNvm fun n => { n with logQueue := rest, logSecond := sec, logCount := if n.logSecond == sec then n.logCount else 0 }
    if 1000 ≤ s.nvm.logCount then s.modNvm fun n => { n with logGap := true }
    else
      let seq := s.nvm.logSeq + 1
      let wraps := s.nvm.log.any fun x => x.valid && x.seq.toNat % logCapacity == seq.toNat % logCapacity
      let s := s.modNvm fun n => { n with
        log := (n.log.filter fun x => x.seq.toNat % logCapacity != seq.toNat % logCapacity) ++ [{ seq := seq, ev := { e with gap := n.logGap || e.gap } }],
        logSeq := seq, logCount := n.logCount + 1, logGap := false }
      if wraps && seq.toNat % logCapacity == 0 then s.post 0x1480 0 (le 4 s.logOldest) else s

def State.writeLogs : Nat → State → State
  | 0, s => s
  | n + 1, s => s.writeLog.writeLogs n

/-- NVM writes are possible: power is neither lost nor tripped (R417, Table 2.10). -/
def State.nvmUp (s : State) : Bool := s.pwr.phase != .lossWait && s.pwr.phase != .trip && s.pwr.phase != .waitPwrOk

def execEventLogWrite (s : State) : Result := done (s.when s.nvmUp State.writeLog)

/-! ### Trim records (R422) -/

def listAt (l : List Int) (i : Nat) : Int := l.getD i 0
/-- Put a value at an index, filling with 0. -/
def setAt (l : List Int) (i : Nat) (v : Int) : List Int := (l ++ List.replicate (i + 1 - l.length) 0).set i v

/-- Write threshold of a calibration item in codes (Table 17.6). -/
def calThreshold (item : Nat) : Int := if item == 1 || item == 2 then 4 else if item == 5 then 3 else if item == 6 then 10 else 2

/-- INDEX whose trim differs most from its stored value, with the difference. -/
def CalItem.drift (c : CalItem) : Nat × Int :=
  (List.range (max c.trims.length c.stored.length)).foldl (fun (i, d) j =>
    let e := (listAt c.trims j - listAt c.stored j).natAbs
    if d < (e : Int) then (j, (e : Int)) else (i, d)) (0, 0)

def trimPayload (l : List Int) : Bytes := l.flatMap fun t => le 2 (wrap 16 t)

/-- The trim record of an item is written: EV_CAL_DRIFT with the INDEX that drifted most (R422). -/
def State.writeTrims (item : Nat) (s : State) : State :=
  let c := s.hk.cal.getD item {}
  let i := c.drift.1
  let s := s.writeRecord (0x18 + item) (trimPayload c.trims)
  let s := s.modHk fun h => { h with cal := h.cal.modify item fun c => { c with stored := c.trims, nvmWrites := c.nvmWrites + 1, lastWrite := some s.time } }
  s.post 0x1180 0 (le 1 item ++ [0] ++ le 2 i ++ le 2 (wrap 16 (listAt c.trims i)))

/-- A trim that drifted by its threshold is written, at most once an hour and not while its item is held (R422, R425). -/
def State.checkTrims (item : Nat) (s : State) : State :=
  let c := s.hk.cal.getD item {}
  if c.held || c.drift.2 < calThreshold item then s
  else
    let r := s.record (0x18 + item)
    if (match r.lastWrite with | some t => t + recInterval r.id ≤ s.time | none => true) && s.tp.state == .running && s.nvmUp then s.writeTrims item
    else s.setRecord { r with pending := some (trimPayload c.trims) }

/-- A pending change reaches NVM at the end of its interval, while Taproot runs (R425, Table 17.10); a held item's trims
wait for the end of the hold. -/
def execNvmDeferredWrite (record : Nat) (s : State) : Result :=
  let r := s.record record
  done (match r.pending with
    | some p => s.when (s.tp.state == .running && s.nvmUp) fun s =>
        let s := s.timeTo ((r.lastWrite.map fun t => t + recInterval record).getD 0)
        if 0x18 ≤ record && record < 0x20 then
          (if (s.hk.cal.getD (record - 0x18) {}).held then s else s.writeTrims (record - 0x18))
        else s.writeRecord record p
    | none => s)

/-- The daily check rewrites each record in which a word needed correction into its other slot (R427). -/
def execNvmDailyCheck (corrected : List Nat) (s : State) : Result :=
  done (s.when (s.tp.state == .running && s.nvmUp) fun s =>
    let s := (s.timeTo (s.nvm.lastDaily + 86400 * 10 ^ 9)).modNvm fun n => { n with lastDaily := max s.time (n.lastDaily + 86400 * 10 ^ 9), corrections := n.corrections + BitVec.ofNat 32 corrected.length }
    corrected.foldl (fun t id => match t.recPayload id with
      | some p => t.setRecord { (t.record id).store p t.time with pending := (t.record id).pending }
      | none => t) s)

/-! ### NVM and LOG commands (Tables 4.7, 4.8) -/

def intentPayload (p : PlcSlot) : Bytes :=
  le 32 p.target.toNat ++ le 32 p.previous.toNat ++ le 1 (if p.clearing then 1 else 0) ++ [p.band] ++ le 1 p.bias ++ le 1 p.frames ++ le 4 0

/-- The newest valid slot of the placard intent record (R389). -/
def newestIntent (l : List PlcSlot) : Option PlcSlot :=
  l.foldl (fun b x => if !x.valid then b else match b with
    | some y => if y.seq.toNat < x.seq.toNat then some x else some y
    | none => some x) none

/-- Payload, slot and validity of a record as NVM.READ answers it. -/
def State.readRecord (s : State) (id : Nat) : Bytes × Nat × Bool :=
  if id == 0x10 then
    match newestIntent s.plc.slots with
    | some p => (intentPayload p, (s.plc.slots.findIdx fun x => x.seq == p.seq), true)
    | none => ([], 0xFF, false)
  else
    let r := s.record id
    match r.newest with
    | some i => ((r.slots.getD i {}).payload, i, true)
    | none => ([], 0xFF, false)

def execNvmRead (m : Master) (s : State) : Result :=
  done (runCmd { code := 0x1200, cls := 0, bulk := some 1, len := 18, args := [{ off := 16, n := 2 }] }
    (fun c _ => if knownRecord (c.u16 16) then none else some 0xFFFF)
    (fun c _ => if c.u16 16 == 0x205 then some (16, 2) else none)
    (fun c s =>
      let (p, slot, valid) := s.readRecord (c.u16 16)
      let s := match (s.record (c.u16 16)).fallback with
        | some k => s.post 0x1280 1 (le 2 (c.u16 16) ++ le 1 k)
        | none => s
      (s.devWrite c.base (p.take c.size), .ok (le 4 p.length ++ le 1 slot ++ [if valid then 1 else 0]))) m s)

/-- A BOARD record payload keeps every range of Table 17.9. -/
def boardOk (p : Bytes) : Bool :=
  let mv := (List.range 17).map fun i => u16At p (16 + 4 * i)
  p.length == 128 && u16At p 0 == 1 && u16At p 2 < 2 ^ 12 && byteAt p 4 ≤ 1 && (byteAt p 5 == 4 || byteAt p 5 == 8)
    && 8 ≤ byteAt p 6 && byteAt p 6 ≤ 16 && 6 ≤ byteAt p 7 && byteAt p 7 ≤ 12 && byteAt p 8 ≤ 1 && byteAt p 9 ≤ 1
    && byteAt p 10 < 128 && byteAt p 11 < 128 && 20 ≤ byteAt p 12 && byteAt p 12 ≤ 80 && byteAt p 12 % 5 == 0
    && 20 ≤ byteAt p 13 && byteAt p 13 ≤ 120 && u16At p 14 == 0
    && ((slice p 16 68).all (· == 0) || (List.range 16).all fun i => mv.getD i 0 < mv.getD (i + 1) 0)
    && (p.drop 84).all (· == 0)

/-- Records the owner may write (R426, R432). -/
def ownerRecord (id : Nat) : Bool := id == 2 || (0x50 ≤ id && id ≤ 0x5F) || id == 0x206

def execNvmWrite (m : Master) (s : State) : Result :=
  done (runCmd { code := 0x1201, cls := 1, bulk := some 0, len := 18, args := [{ off := 16, n := 2 }] } noUnit
    (fun c _ => if ownerRecord (c.u16 16) then none else some (16, 0))
    (fun c s =>
      if c.u16 16 == 2 && !boardOk (c.bulkBytes s) then (s, .badArg 0xFF)
      else if c.u16 16 == 0x206 && s.sec.fseal then (s, .fail stSealed)
      else if s.ctl.pendingOps.any fun o => o.code == 0x1201 && o.aux == c.u16 16 then (s, .fail stBusy)
      else (s, .pend (ms 50 * ((c.size + 65535) / 65536)) (c.u16 16))) m s)

def recWrites (r : NvmRec) : Nat := ((r.slots.foldl (fun a x => max a x.seq.toNat) 0) + 1) / 2

def execNvmStatus (m : Master) (s : State) : Result :=
  done (runCmd { code := 0x1202, cls := 0 } noUnit noPre (fun _ s =>
    let intent := ((s.plc.slots.foldl (fun a x => max a x.seq.toNat) 0) + 31) / 32
    let log := (s.nvm.logSeq.toNat + logCapacity - 1) / logCapacity
    let w := s.nvm.recs.foldl (fun a r => max a (recWrites r)) (max intent log)
    (s, .ok (le 4 w ++ le 4 (s.nvm.log.filter (·.valid)).length ++ le 4 s.nvm.fallbacks.toNat))) m s)

def execLogQuery (m : Master) (s : State) : Result :=
  done (runCmd { code := 0x1400, cls := 0 } noUnit noPre (fun _ s =>
    (s, .ok (le 4 s.logOldest ++ le 4 s.nvm.logSeq.toNat ++ le 4 logCapacity))) m s)

/-- LOG.READ (R430): entries from FROM_SEQ onward, as the 32-byte event entries of Table 3.11. -/
def execLogRead (m : Master) (s : State) : Result :=
  done (runCmd { code := 0x1401, cls := 0, bulk := some 1, len := 22, args := [{ off := 16, n := 4 }, { off := 20, n := 2 }] } noUnit noPre
    (fun c s =>
      let start := max (c.u32 16) s.logOldest
      let es := ((s.nvm.log.filter fun x => x.valid && start ≤ x.seq.toNat).take (min (c.u16 20) (c.size / 32)))
      let first := (es.head?.map fun x => x.seq.toNat).getD start
      let last := (es.getLast?.map fun x => x.seq.toNat).getD first
      let gap := !es.isEmpty && (last - c.u32 16 + 1 != es.length)
      (s.devWrite c.base (es.flatMap fun x => x.ev.bytes), .ok (le 4 first ++ le 2 es.length ++ [if gap then 1 else 0]))) m s)

def execLogClear (m : Master) (s : State) : Result :=
  done (runCmd { code := 0x1402, cls := 1, len := 4, args := [{ off := 0, n := 4, lo := 0xC1EA, hi := 0xC1EA }] } noUnit noPre
    (fun _ s =>
      let f := s.nvm.logSeq.toNat + 1
      ((s.modNvm fun n => { n with logFloor := BitVec.ofNat 32 f }).deferRecord 0x13 (le 4 f), .ok [])) m s)

end Sys2Proof.Machine
end

