-- ==== Sys2Proof/Machine/Power.lean ====
section
/-! DEFINITION. Supplies, power domains, resets, the abrupt-loss sequence and DORMANT (spec/02), AVS, droop and governor
measurement (spec/01, R35 to R37; spec/02, R45 to R47). -/

namespace Sys2Proof.Machine

/-! ### Domains (R48 to R51) -/

/-- On time of a domain in µs (Table 2.7). -/
def domOnUs (d : Nat) : Nat :=
  if d < 17 then 25 else if d < 29 then 60 else if d < 47 then 50 else if d == 51 || d == 53 then 30 else 20
def domOffUs (d : Nat) : Nat :=
  if d < 17 then 15 else if d < 29 then 40 else if d < 47 then 10 else if d == 51 || d == 53 then 15 else 10

/-- R49: at most one start on VDD_RAY and two other starts in any 25 µs. -/
def State.startAllowed (s : State) (d : Nat) : Bool :=
  let recent (l : List Nat) := (l.filter fun t => s.time < t + us 25).length
  if d < 17 then recent s.pwr.rayStarts < 1 else recent s.pwr.otherStarts < 2

def State.startDomain (d reason : Nat) (s : State) : State :=
  let s := s.modPwr fun p => if d < 17 then { p with rayStarts := p.rayStarts.filter (fun t => s.time < t + us 25) ++ [s.time] }
    else { p with otherStarts := p.otherStarts.filter (fun t => s.time < t + us 25) ++ [s.time] }
  (s.modDom d fun x => { x with switching := some (true, s.time + us (domOnUs d)), reason := reason, queued := false }).unitState d 1

/-- Taproot's intent for a domain it switches (R86): after its switching time it is not OFF, or it is OFF or draining; a
unit known as FAULTED is no mismatch (log 41). -/
def State.setIntent (d : Nat) (on : Bool) (s : State) : State :=
  -- the ports of a Rootline group follow its intent
  let units := if 41 ≤ d && d < 45 then d :: (List.range 4).map fun i => unitPort (4 * (d - 41) + i) else [d]
  units.foldl (fun t i => t.modUnit i fun r => { r with intent := if on then 0xFE else 0xA1, settle := s.time + us (domOnUs d) + us 425, mismatchSince := none, attempts := 0 }) s

/-- Taproot asks to switch a domain (R51): held while it switches, queued when the start limit is reached. -/
def State.reqDomain (d : Nat) (on : Bool) (reason : Nat) (s : State) : State :=
  let x := s.dom d
  let s := s.when (s.hasDomain d && s.pins.coreEn) (·.setIntent d on)
  if !s.hasDomain d || !s.pins.coreEn then s
  else if x.switching.isSome then s.modDom d fun x => { x with held := some (on, reason) }
  else if x.queued then
    if on then s else (s.modDom d fun x => { x with queued := false }).modPwr fun p => { p with startQueue := p.startQueue.filter fun q => q.1 != d }
  else if x.on == on then s
  else if !on then (s.modDom d fun x => { x with switching := some (false, s.time + us (domOffUs d)), reason := reason }).unitState d 5
  else if s.pwr.startQueue.isEmpty && s.startAllowed d then s.startDomain d reason
  else (s.modDom d fun x => { x with queued := true }).modPwr fun p => { p with startQueue := p.startQueue ++ [(d, reason)] }

/-- Does the mode in force need the domain, with no replacement in service (R51, Table 1.4)? -/
def State.domNeeded (s : State) (d : Nat) : Bool :=
  if s.mode.mode == .dormant || s.mode.mode == .boot || (s.unit d).faulted then false
  else
    let inService (c : Nat) := s.domOn c && (s.ray.clusters.getD c {}).passed == some true && !(s.ray.clusters.getD c {}).retired
    d == domCMP || d == domTP || d == domSEC || d == domPL || d == domAU || d == 45 || d == 46
      || (29 ≤ d && d < 41 && ((List.range 12).filter fun g => s.domOn (domSG g)).length ≤ 1)
      || (d < 17 && s.ray.safeDomains.contains d && s.ray.spareSlice.isNone)
      || ((s.mode.mode == .field || s.mode.mode == .degraded) &&
          ((d < 17 && inService d && ((List.range 17).filter inService).length ≤ 1)
          || (17 ≤ d && d < 29 && s.mem.map == [d - 17])))

def execDomainSwitchRequest (dom : Nat) (on : Bool) (reason : Nat) (s : State) : Result :=
  done (s.when (s.tp.state == .running && (on || !s.domNeeded dom)) (·.reqDomain dom on reason))

/-- A queued switch-on starts when 25 µs have passed since the starts that held it back (R49). -/
def execDomainQueuedStart (s : State) : Result :=
  done (match s.pwr.startQueue with
    | [] => s
    | (d, r) :: rest =>
      if !s.pins.coreEn then s else
      let starts := if d < 17 then s.pwr.rayStarts else s.pwr.otherStarts
      let t := match starts.drop (starts.length - (if d < 17 then 1 else 2)) with
        | t :: _ => if s.startAllowed d then s.time else t + us 25
        | [] => s.time
      ((s.timeTo t).modPwr fun p => { p with startQueue := rest }).startDomain d r)

/-- The Heartwood copy and the half of the graphic window in a slice are lost (R20, R233). -/
def State.loseRegions (d : Nat) (s : State) : State :=
  let here (i : Nat) : Bool := s.ray.safeDomains[i]? == some d
  (s.modHw fun h => { h with copies := h.copies.mapIdx fun i x => if here i then { x with usable := false, bytes := [], lostFrom := some d } else x }).modCellar
    fun c => { c with windowLost := c.windowLost.mapIdx fun i x => x || here i }

/-- Place of a flat tile in the order of production, in passes over the subframes (R247). -/
def RayPlane.flatIndex (p : RayPlane) (sf tx ty : Nat) : Nat := sf * ((p.w + 31) / 32 * ((p.h + 31) / 32)) + ty * ((p.w + 31) / 32) + tx

/-- Tiles lost with their slots: the ray engine fetches them again, the layer path produces a flat one of the current frame again. -/
def State.dropTiles (gone : Tile → Bool) (s : State) : State :=
  let back (f : RayFrame) (t : Tile) : RayFrame := match t.key with
    | .flat l fr sf tx ty => (match f.planes.find? (·.layer == l) with
      | some p => if fr == f.frame then { f with flatNext := f.flatNext.modify l (min (p.flatIndex sf tx ty)) } else f
      | none => f)
    | _ => f
  (s.modRay fun r => { r with cur := r.cur.map fun f => (s.cellar.tiles.filter gone).foldl back f }).modCellar
    fun c => { c with tiles := c.tiles.filter fun t => !gone t }

/-- The strips of a cluster go back to be pulled again; its fetches and checks are discarded (R232, R236). -/
def State.dropStrips (c : Nat) (s : State) : State :=
  let lose (f : RayFrame) : RayFrame := { f with
    strips := f.strips.filter (·.cluster != c), again := f.again ++ ((f.strips.filter fun x => x.cluster == c && !x.check).map (·.n)) }
  (s.modRay fun r => { r with cur := r.cur.map lose, prev := r.prev.map lose }).modCellar fun x => { x with
    checks := x.checks.filter fun k => k.primary != c && k.checker != c && k.third != some c, flight := x.flight.filter (·.cluster != c) }

/-- A domain that switches off loses its state (R50); its configuration comes back from NVM, DRAM or flash. Requests in
flight toward a memory controller complete under R15: reads with 0, writes discarded (R17). The count of retrains since boot
and the queues of Churn, which R372 restores from their registers, stay. -/
def State.loseDomain (d : Nat) (s : State) : State :=
  if d < 17 then
    let s := s.modRay fun r => { r with
      clusters := r.clusters.modify d fun c => { c with passed := none },
      slices := r.slices.modify d fun x => { x with passed := none, errors := [], pending := x.pending || s.ray.safeDomains.contains d } }
    ((s.dropStrips d).dropTiles (·.slice == d)).loseRegions d
  else if d < 29 then
    let n := d - 17
    let q := s.mem.queues.getD n {}
    let s := (q.reads ++ q.flight).foldl (fun t r => t.emit (.readData (256 + r.requester) (List.replicate 64 0) false)) s
    s.modMem fun m => { m with
      chans := m.chans.modify n fun c => { state := if c.state == 5 || c.removing then 5 else 0, removing := c.removing, retrains := c.retrains, inMap := c.inMap },
      queues := m.queues.set n {}, dram := memClear m.dram (n * 2 ^ 30) ((n + 1) * 2 ^ 30) }
  else if d < 41 then
    let g := d - 29
    s.modLanes fun l => { l with lanes := l.lanes.mapIdx fun i x => if i / 8 == g then {} else x, groupStart := l.groupStart.set g none }
  else if d < 45 then
    let k := d - 41
    let s := (List.range 4).foldl (fun t i => t.endFrame (4 * k + i) true) s
    (s.modCam fun c => { c with
      ports := c.ports.mapIdx fun i p => if i / 4 == k then { p with state := 0, profile := none, excluded := none, degraded := false, held := false } else p,
      flows := c.flows.mapIdx fun i f => if i / 4 == k then { f with frame := none, req := [], noSignal := true, gen := f.gen + 1 } else f }).modLanes
      fun l => { l with lanes := l.lanes.mapIdx fun i x => if 96 ≤ i && i < 128 && (i - 96) / 8 == k then {} else x }
  else if d < 47 then
    let f := d - 45
    (s.modFn f fun _ => {}).modLanes fun l => { l with lanes := l.lanes.mapIdx fun i x => if 128 ≤ i && (i - 128) / 8 == f then {} else x }
  else if d < 51 then
    s.modIsp fun i => { i with pipes := i.pipes.modify (d - 47) fun p => { p with cur := none, mem := none, order := [] } }
  else if d == 51 then s.modDepth fun x => { x with units := x.units.map fun u => { u with state := if u.state == 4 then 4 else if u.enabled then 1 else 0, cur := none, prev := none, mapWaits := false } }
  else if d == 52 then s.modDepth fun x => { x with layers := x.layers.map fun l => { l with cur := none, stalled := false } }
  else if d == 53 then
    ((s.when s.pins.frameOut (·.emit (.pin .frameOut false 0))).modPins fun p => { p with frameOut := false }).modDisp fun x => { x with store := [], running := false, full := true }
  else if d == 54 then s.modChurn fun c => { c with run := none, drainUntil := none }
  else if d == 55 then ((s.when (!s.pins.plcOeN) (·.emit (.pin .plcOeN true 0))).modPlc fun p => { p with state := .off, seq := none, pump := false }).modPins fun p => { p with plcOeN := true }
  else if d == 56 then s.modAud fun a => { a with inputs := a.inputs.map fun i => { i with buffer := [], last := 0, underrun := 0, long := false, fade := 0, line := [], cross := none }, outLast := List.replicate 5 (0, 0), toneN := none }
  else if d == 58 then (s.modTp fun t => { t with state := .off, ready := false, deadline := none }).modSec fun x => { x with staging := [] }
  else s

def evDomain (d : Nat) (on : Bool) (reason : Nat) : Bytes := le 1 d ++ [if on then 1 else 0] ++ le 1 reason

/-- A domain goes off at once: drained or not, it is isolated and its state is lost (R17, R50); a start that waits is dropped. -/
def State.dropDomain (d reason : Nat) (s : State) : State :=
  let s := s.modPwr fun p => { p with startQueue := p.startQueue.filter fun q => q.1 != d }
  if !(s.dom d).on && (s.dom d).switching.isNone then s.modDom d fun x => { x with queued := false, held := none }
  else
    let s := (s.loseDomain d).modDom d fun x => { x with on := false, switching := none, held := none, queued := false, cycles := x.cycles }
    (s.unitState d 0).post 0x380 0 (evDomain d false reason)

/-- A request held while the domain was mid-switch is acted on (R51). -/
def State.actHeld (d : Nat) (s : State) : State :=
  match (s.dom d).held with
  | some (on, r) => (s.modDom d fun x => { x with held := none }).reqDomain d on r
  | none => s

/-- What a domain does when it starts from its reset state (R50). -/
def State.wakeDomain (d : Nat) (s : State) : State :=
  if d == domCMP then
    let kernels := List.replicate 4 (catmullH, catmullV)
    (s.modLayers fun l => { l with coef := kernels, force := l.force.map fun c => { c with coef := kernels, snap := memClear c.snap 0x38000 0x3A000 } }).modWin
      fun w => memClear w 0x38000 0x3A000
  else if d == domPL then s.modPlc fun p => { p with state := if !s.pins.plcFaultN then .fault else if p.cfg.isNone then .unconfigured else .idle }
  else if 41 ≤ d && d < 45 then
    (List.range 4).foldl (fun t i =>
      let p := 4 * (d - 41) + i
      if t.hasPort p then
        (t.modCam fun c => { c with ports := c.ports.modify p fun x => { x with state := 1 } }).unitState (unitPort p) 1
      else t) s
  else s

def execDomainOnComplete (dom : Nat) (s : State) : Result :=
  done (match (s.dom dom).switching with
    | some (true, t) =>
      let s := (s.timeTo t).modDom dom fun x => { x with on := true, switching := none }
      let s := s.modPins fun p => { p with sdsPg := p.sdsPg || (29 ≤ dom && dom < 47), memPg := p.memPg || (17 ≤ dom && dom < 29) }
      ((((s.setUnit dom fun u => { u with state := 4, flowing := true, faulted := false })).wakeDomain dom).post 0x380 0 (evDomain dom true (s.dom dom).reason)).actHeld dom
    | _ => s)

def execDomainOffComplete (dom : Nat) (s : State) : Result :=
  done (match (s.dom dom).switching with
    | some (false, t) =>
      let held := (s.dom dom).held
      (((s.timeTo t).dropDomain dom (s.dom dom).reason).modDom dom fun x => { x with held := held }).actHeld dom
    | _ => s)

/-! ### The panel rails (R295) and the placard enable (R390) -/

/-- Panel power-down: DISCHARGE sixteen times on every active lane, PNL_DISCH_N low, the rails released in reverse order.
`t0` is the offset of the first DISCHARGE in ns. -/
def State.panelDown (t0 : Nat) (s : State) : State :=
  let s := if s.pnl.up || s.pnl.rail.isSome then
      let s := (s.emit (.ctrl 0x2D [16])).emit (.pin .pnlDischN false (t0 + 500000))
      let rails := [3, 2, 1, 0].filter fun i => s.pins.pnlPwrEn.getD i false
      (rails.zipIdx).foldl (fun t x => t.emit (.pin (.pnlPwrEn x.1) false (t0 + 600000 + 200000 * x.2))) s
    else s
  (((s.modPins fun p => { p with pnlPwrEn := [false, false, false, false], pnlDischN := false, safeOk := false, frameOut := false }).modPnl
    fun p => { p with up := false, rail := none, retryAt := none }).modDisp fun d => { d with running := false, store := [] }).modScan
    fun x => { x with hold := none }

/-- SAFE_OK and FRAME_OUT, where high, are reported low at offset `t0`. -/
def State.displayPinsFall (t0 : Nat) (s : State) : State :=
  (s.when s.pins.safeOk (·.emit (.pin .safeOk false t0))).when s.pins.frameOut (·.emit (.pin .frameOut false t0))

/-- PLC_OE_N high from AON at offset `t0` in ns: a running sequence stops with its record in progress (R390). -/
def State.placardCut (t0 : Nat) (s : State) : State :=
  ((s.when (!s.pins.plcOeN) (·.emit (.pin .plcOeN true t0))).modPins fun p => { p with plcOeN := true }).modPlc fun p => { p with seq := none, pump := false }

/-- The enables fall in reverse order, at offset `t0` in ns (Tables 2.9, 2.10, 17.4). -/
def State.enablesLow (t0 : Nat) (s : State) : State :=
  (((s.emit (.pin .sdsEn false t0)).emit (.pin .memEn false t0)).emit (.pin .coreEn false t0)).modPins fun p => { p with coreEn := false, sdsEn := false, memEn := false, corePg := false, sdsPg := false, memPg := false }

/-- Every switched domain off, in descending index order. -/
def State.allOff (reason : Nat) (s : State) : State := (List.range 59).foldl (fun t i => t.dropDomain (58 - i) reason) s

/-! ### Boot -/

/-- AON reads the boot and board records in hardware at power-good (R424, Table 2.8). -/
def State.loadBoard (s : State) : State :=
  let s := match s.recPayload 1 with
    | some p => s.modMode fun m => { m with bootTarget := if byteAt p 0 == 3 then 3 else 2 }
    | none => s.modMode fun m => { m with bootTarget := 2 }
  let ok := (s.recPayload 2).isSome
  let p := (s.recPayload 2).getD []
  let g (b : Bool) (d v : Nat) : Nat := if b then v else d
  let therm := (List.range 17).map fun i => (u16At p (16 + 4 * i), s16At p (18 + 4 * i))
  let ray := g ok 0 (byteAt p 10)
  let soc := g ok 0 (byteAt p 11)
  let s := s.modMem fun m => { m with cfg := {
    channelMask := BitVec.ofNat 16 (g ok 0 (u16At p 2)), dense := ok && byteAt p 4 == 1, bl8 := !ok || byteAt p 5 != 4, rl := g ok 12 (byteAt p 6),
    trc := g ok 8 (byteAt p 7), window32 := !ok || byteAt p 8 == 1 } }
  let s := s.modNvm fun n => { n with board := { pmbRay := BitVec.ofNat 8 ray, pmbSoc := BitVec.ofNat 8 soc, selfHeatW := g ok 60 (byteAt p 13),
                                                  therm := if ok && !(slice p 16 68).all (· == 0) then therm else [] } }
  (s.modAud fun a => { a with amclk24 := ok && byteAt p 9 == 1 }).modPwr fun w => { w with
    droopMv := g ok 40 (byteAt p 12), avsRay := { frozen := ray == 0 }, avsSoc := { frozen := soc == 0 } }

/-- The device is reset as a whole: what NVM, fuses, flash and pins hold stays, everything else takes its reset value (R60). -/
def State.wipe (s : State) : State :=
  { id := s.id, pins := { s.pins with coreEn := false, sdsEn := false, memEn := false, pnlPwrEn := [false, false, false, false], pnlDischN := false, safeOk := false, plcOeN := true, thermTripN := true, frameOut := false },
    pwr := { linkSplit := s.pwr.linkSplit, aonBase := s.pwr.aonBase },
    hk := { trips := s.hk.trips, tripTimes := s.hk.tripTimes, sensors := s.hk.sensors.map fun x => { last := x.last }, cal := s.hk.cal, raw := s.hk.raw },
    nvm := { recs := s.nvm.recs, lossMarker := s.nvm.lossMarker, tripMarker := s.nvm.tripMarker, log := s.nvm.log, logSeq := s.nvm.logSeq, logFloor := s.nvm.logFloor, lastDaily := s.nvm.lastDaily },
    plc := { slots := s.plc.slots }, sec := { s.sec with items := [], measurement := List.replicate 32 0, staging := [], heartSlot := none, cfgSlot := none },
    tap := s.tap, clk := { lost := s.clk.lost },
    time := s.time, out := s.out, free := s.free, pending := s.pending }

/-- Cold boot from AON: RESET_CAUSE from the latches and the power-loss marker, the marker erased (R62, R428), the mode
BOOT, CORE_EN 100 µs after `origin` (Table 2.6), at once when that has passed. No EV_MODE_CHANGED is posted here: (no power)
and the trip state of Table 1.5 have no code in Table 4.4 (log 50). -/
def State.coldBootFrom (origin cause : Nat) (s : State) : State :=
  let rise := max s.time (origin + us 100)
  let loss := s.nvm.lossMarker.isSome
  let s := s.wipe.loadBoard
  let s := (s.modNvm fun n => { n with lossMarker := none }).modPwr fun p => { p with
    resetCause := BitVec.ofNat 32 cause ||| (if loss then 32 else 0), phase := .waitCore, deadline := rise + ms 10 }
  let s := s.modMode fun m => { m with mode := .boot }
  (s.modPins fun p => { p with coreEn := true }).emit (.pin .coreEn true (rise - s.time))

/-- A boot from now. While SYS_RST_N is low the device is held in reset, and the boot waits for its release (R60). -/
def State.coldBoot (cause : Nat) (s : State) : State :=
  if s.pins.sysRstN then s.coldBootFrom s.time cause
  else s.modPwr fun p => { p with phase := .heldReset, resetCause := BitVec.ofNat 32 (cause ||| 2) }

/-- VDD_AON rises from below 0.5 V (R60). -/
def execFirstPower (s : State) : Result :=
  let s := s.wipe
  done (((s.modPwr fun p => { p with phase := .waitPwrOk, resetCause := 1, linkSplit := false, aonBase := 0 }).modPins fun p => { p with pwrOk := false }).modTime fun _ => 0)

/-- Power-good (R43, Table 2.8): the timebase restarts at 0 (Table 3.11), LINK_SPLIT is sampled, the boot starts. In
any phase the rise samples LINK_SPLIT (R63); in DORMANT it changes nothing else but the timebase: the device waits for a wake
event (R56). -/
def execPwrOkRise (linkSplit : Bool) (s : State) : Result :=
  if s.pins.pwrOk then done s
  else
    let s := ((s.modPwr fun p => { p with aonBase := p.aonBase + s.time, linkSplit := linkSplit }).modTime fun _ => 0).modPins fun p => { p with pwrOk := true }
    done (if s.pwr.phase == .waitPwrOk then
      s.coldBoot s.pwr.resetCause.toNat
    else s)

/-- CORE_PG rises: SDS_EN and MEM_EN follow, TP and SEC switch on (Tables 2.6, 2.8). -/
def execCorePgRise (s : State) : Result :=
  done (s.when (s.pwr.phase == .waitCore) fun s =>
    let s := s.modPins fun p => { p with corePg := true, sdsEn := true, memEn := true }
    let s := ((s.emit (.pin .sdsEn true 0)).emit (.pin .memEn true 0)).modPwr fun p => { p with phase := .waitSds, deadline := s.time + ms 10 }
    (s.reqDomain domTP true 0).reqDomain domSEC true 0)

/-- A power-good misses its deadline (R44): rail 0 CORE_PG, 1 SDS_PG, 2 MEM_PG. The ROM may already run then; a pin is known
high once a domain of its rail has come on (log 51). -/
def execPowerGoodDeadline (rail : Nat) (s : State) : Result :=
  let sds := (s.pwr.phase == .waitSds || s.pwr.phase == .run) && s.time ≤ s.pwr.deadline
  let armed := (s.pwr.phase == .waitCore && rail == 0) || (sds && rail == 1 && !s.pins.sdsPg) || (sds && rail == 2 && !s.pins.memPg)
  done (s.when armed fun s =>
    let s := ((s.timeTo s.pwr.deadline).allOff 4).enablesLow 0
    s.modPwr fun p => { p with
      resetCause := p.resetCause ||| 64, attempts := p.attempts + 1,
      phase := if 2 ≤ p.attempts then .railFailed else .retryWait, deadline := s.time + ms 1000 })

/-- The 1 s retry wait ends and the enable sequence starts again (R44). -/
def execRailRetryTimer (s : State) : Result :=
  done (s.when (s.pwr.phase == .retryWait) fun s =>
    let s := s.timeTo s.pwr.deadline
    ((s.modPwr fun p => { p with phase := .waitCore, deadline := s.time + ms 10 }).modPins fun p => { p with coreEn := true }).emit (.pin .coreEn true 0))

/-! ### Abrupt loss, resets, wake (R56 to R61) -/

/-- The device is up: some step of the power sequence has raised or may raise an enable. -/
def PwrPhase.up : PwrPhase → Bool
  | .waitCore | .waitSds | .run | .retryWait | .railFailed => true
  | _ => false

/-- The abrupt-loss sequence runs in every mode but DORMANT (R56); the trip state has its own rule (R59). -/
def PwrPhase.lossRuns : PwrPhase → Bool
  | .heldReset | .softReset => true
  | p => p.up

/-- Steps of Table 2.10 that the loss sequence and the reset sequence share. -/
def State.lossSteps (s : State) : State :=
  (((((s.cutWrites.displayPinsFall 2000).panelDown 2000).placardCut 50000).allOff 4).enablesLow 1500000).modTime (· + 1500000)

/-- A trigger confirmed after 1 µs: 0 VIN_SENSE, 1 HOLDUP_N, 2 PWR_OK, 3 a power-good input that falls while its enable is
high (R44, R56). In DORMANT no sequence starts and no marker is written. -/
def State.abruptLoss (trigger : Nat) (s : State) : State :=
  let enabled := s.pins.coreEn
  let s := s.modPins fun p => match trigger with
    | 0 => { p with vinOk := false }
    | 1 => { p with holdupN := false }
    | 2 => { p with pwrOk := false }
    | _ => { p with corePg := false }
  if s.pwr.phase == .trip then
    let aon := (s.pwr.aonBase + s.time + 10000) / 1000
    (s.modNvm fun n => { n with lossMarker := some aon }).modPwr fun p => { p with lossSeq := true }
  else if !s.pwr.phase.lossRuns || (trigger == 3 && !enabled) then s
  else
    let aon := (s.pwr.aonBase + s.time + 10000) / 1000
    let s := s.when (s.tp.state == .running || s.tp.state == .draining) (·.post 0xA83 3 (le 1 trigger))
    let s := s.lossSteps
    (s.modNvm fun n => { n with lossMarker := some aon }).modPwr fun p => { p with
      phase := .lossWait, lossSeq := true, resetCause := if trigger == 3 then p.resetCause ||| 64 else p.resetCause }

def execAbruptLossTrigger (trigger : Nat) (s : State) : Result := done (s.abruptLoss trigger)

/-- PWR_OK, VIN_SENSE and HOLDUP_N good for 10 ms after the sequence: a cold boot with POWER_LOSS (R58); when a trip
coincided, R420 must be met too (R59). A PWR_OK that had fallen rises here, which samples LINK_SPLIT (R63). -/
def execPowerReturnRestart (linkSplit : Bool) (s : State) : Result :=
  let restart (s : State) : State := if s.pins.pwrOk then s else (s.modPwr fun p => { p with aonBase := p.aonBase + s.time, linkSplit := linkSplit }).modTime fun _ => 0
  let back (s : State) := (restart s).modPins fun p => { p with pwrOk := true, vinOk := true, holdupN := true }
  done (if s.pwr.phase == .lossWait then
    let rf := s.pwr.resetCause.toNat / 64 % 2 * 64
    ((back s).modTime (· + ms 10)).coldBoot (32 + rf)
  else if s.pwr.phase == .trip then (back s).modPwr fun p => { p with lossSeq := false, resetCause := p.resetCause ||| 32 }
  else s)

/-- VDD_AON below 0.68 V for 2 µs: the whole device, at once, with no sequence (R60). The wait that follows ends with the next
rise of PWR_OK (DESIGN CHOICE, log 50). -/
def execBrownout (s : State) : Result :=
  let s := s.cutWrites.wipe
  done ((s.modPwr fun p => { p with phase := .waitPwrOk, resetCause := 4 }).modPins fun p => { p with pwrOk := false })

/-- SYS_RST_N low for 1 µs: the loss sequence without its marker, then held in reset (R60). It has no effect from the
first trigger of an abrupt loss until the boot (R58), nor in the trip state; a boot that finds it low waits for its release. -/
def execSysRstNLow (s : State) : Result :=
  let s := s.modPins fun p => { p with sysRstN := false }
  done (if s.pwr.phase.up then s.lossSteps.modPwr fun p => { p with phase := .heldReset, resetCause := 2 }
    else if s.pwr.phase == .dormant then s.modPwr fun p => { p with phase := .heldReset, resetCause := 2 } else s)

def execSysRstNRelease (s : State) : Result :=
  let s := s.modPins fun p => { p with sysRstN := true }
  done (s.when (s.pwr.phase == .heldReset) fun s => s.coldBoot (2 ||| s.pwr.resetCause.toNat))

/-- SYS.RESET (R60, R96): ST_OK, and 1 ms later the sequence of SYS_RST_N. -/
def execSysReset (m : Master) (s : State) : Result :=
  let t := runCmd { code := 0x0006, cls := 1, len := 4, args := [{ off := 0, n := 4, lo := 0xA5C3, hi := 0xA5C3 }] } noUnit noPre
    (fun _ s => ((s.modPwr fun p => { p with phase := .softReset }), .ok [])) m s
  done (if t.pwr.phase == .softReset && s.pwr.phase != .softReset then (t.modTime (· + ms 1)).lossSteps else t)

/-- The software reset is released after 1 ms: a cold boot with cause SOFTWARE. -/
def execSysResetRelease (s : State) : Result :=
  done (s.when (s.pwr.phase == .softReset) fun s => (s.modTime (· + ms 1)).coldBoot 16)

/-- A wake event in DORMANT with PWR_OK high (R55): LINK_SPLIT is sampled again and the boot starts with cause WAKE, counted
from the event at `origin`. Before DORMANT is reached the event is held with its time. -/
def State.wakeFrom (origin : Nat) (linkSplit : Bool) (s : State) : State :=
  if s.pwr.phase == .dormant && s.pins.pwrOk then
    let old := s.mode.mode
    let s := (s.modPwr fun p => { p with linkSplit := linkSplit }).coldBootFrom origin 128
    s.post 0x280 1 (le 1 old.code ++ le 1 1 ++ [0, 0] ++ le 4 s.disp.frame.toNat)
  else if s.mode.thenDormant then s.modPwr fun p => { p with wakeHeld := some (origin, linkSplit) } else s

/-- A wake event now. -/
def State.wake (linkSplit : Bool) (s : State) : State := s.wakeFrom s.time linkSplit

def execWakeNLow (linkSplit : Bool) (s : State) : Result :=
  done ((s.modPins fun p => { p with wakeN := false }).wake linkSplit)

/-- PERST rises: it wakes from DORMANT, on link B only when LINK_SPLIT was sampled 1 (R55). -/
def execPerstRise (link : Nat) (linkSplit : Bool) (s : State) : Result :=
  let rose := !s.perstHigh link
  let s := s.modPins fun p => if link == 0 then { p with perstAN := true } else { p with perstBN := true }
  done (s.when (rose && (link == 0 || s.pwr.linkSplit)) (·.wake linkSplit))

/-- PERST low resets that host half and its link alone (R61); PERST_B_N is ignored with LINK_SPLIT 0. -/
def execPerstLow (link : Nat) (s : State) : Result :=
  let s := s.modPins fun p => if link == 0 then { p with perstAN := false } else { p with perstBN := false }
  let reset (f : Nat) (s : State) := (s.modFn f fun _ => {}).modLanes fun l => { l with lanes := l.lanes.mapIdx fun i x =>
    if 128 ≤ i && (!s.pwr.linkSplit || (i - 128) / 8 == f) then (if x.state == 0 then x else { x with state := 6, included := false, blockLock := false, cdrLock := false }) else x }
  done (s.when (link == 0 || s.pwr.linkSplit) (reset link))

/-! ### Pins in their reset state (R39, Tables 2.2 to 2.4) -/

/-- Output pins of the switched domains and the serial outputs of AON; those whose levels change one by one are in `Pins`. -/
inductive Pad
  | pmbScl | pmbSda | svcMiso | safeSda | tdo | flClk | flCsN | flRstN | flDq | plcSclk | plcSdo | plcLatch | plcVb (i : Nat)
  | aoBclk (o : Nat) | aoWs (o : Nat) | aoSd (o : Nat) | iecOut | slTx (lane : Nat) | clRvTx (port : Nat) | mDq (n : Nat) | mWck (n : Nat)
  | mCk (n : Nat) | mAddr (n : Nat) | mCsN (n : Nat) | mWeN (n : Nat) | mRfN (n : Nat) | mResetN (n : Nat)
deriving DecidableEq, Repr

/-- What a pin does: a reset state of Tables 2.2 to 2.4, or what its unit sends. -/
inductive PadLevel | low | high | highZ | released | idle | stopped | driven
deriving DecidableEq, Repr

/-- The switched domain that controls a pin, none in the AON bank. -/
def Pad.domain : Pad → Option Nat
  | .pmbScl | .pmbSda | .svcMiso | .safeSda | .tdo => none
  | .flClk | .flCsN | .flRstN | .flDq => some domTP
  | .plcSclk | .plcSdo | .plcLatch | .plcVb _ => some domPL
  | .aoBclk _ | .aoWs _ | .aoSd _ | .iecOut => some domAU
  | .slTx l => some (domSG (l / 8))
  | .clRvTx p => some (domRG p)
  | .mDq n | .mWck n | .mCk n | .mAddr n | .mCsN n | .mWeN n | .mRfN n | .mResetN n => some (domMC n)

/-- The reset state of a pin. -/
def Pad.resetLevel : Pad → PadLevel
  | .pmbScl | .pmbSda | .safeSda => .released
  | .svcMiso | .tdo | .flDq | .aoBclk _ | .aoWs _ | .mDq _ => .highZ
  | .flCsN | .mCsN _ => .high
  | .slTx _ | .clRvTx _ => .idle
  | .mWck _ | .mCk _ => .stopped
  | _ => .low

/-- A pin takes its reset state while its domain is off or isolated and, outside the AON bank, in DORMANT. Mn_RESET_N stays low
until step 1 of Table 13.4 has ended, and SVC_MISO is driven only within a frame, which is one command. -/
def State.padLevel (s : State) (p : Pad) : PadLevel :=
  match p, p.domain with
  | _, none => p.resetLevel
  | .mResetN n, some d => if !(s.dom d).on || (s.chan n).state == 0 then .low else .high
  | _, some d => if (s.dom d).on then .driven else p.resetLevel

/-! ### AVS, droop and governor measurement -/

def State.rail (s : State) (r : Nat) : AvsRail := if r == 0 then s.pwr.avsRay else s.pwr.avsSoc
def State.modRail (r : Nat) (f : AvsRail → AvsRail) (s : State) : State :=
  s.modPwr fun p => if r == 0 then { p with avsRay := f p.avsRay } else { p with avsSoc := f p.avsSoc }
/-- Domains whose logic a rail supplies: clusters on VDD_RAY, all other switched logic on VDD_SOC (Table 2.5). -/
def onRail (r d : Nat) : Bool := if r == 0 then d < 17 else 17 ≤ d

/-- An island of rail r whose monitors fail at the rail's ceiling loses one frequency step; a cluster's is reported (R37). -/
def State.freqDown (r : Nat) (failing : List Nat) (s : State) : State :=
  (failing.filter (onRail r)).foldl (fun t d =>
    if !t.domOn d then t
    else
      let t := t.modDom d fun x => { x with freqSteps := x.freqSteps + 1 }
      if d < 17 then
        let mhz := t.gov.clusterMhz.getD d 1400 - Config.freqStep
        (t.modGov fun g => { g with clusterMhz := g.clusterMhz.set d mhz }).post 0x382 2 (le 1 d ++ [0] ++ le 2 mhz)
      else t) s

def State.freezeRail (r reason measured : Nat) (failing : List Nat) (s : State) : State :=
  ((s.modRail r fun x => { x with frozen := true }).post 0x381 2 (le 1 r ++ le 1 reason ++ le 2 (s.rail r).mv ++ le 2 measured)).freqDown r failing

/-- The on-die voltage of a rail in mV: the mean of its four quadrant channels in the last round (Table 17.1; log 52), none
before the first round. -/
def State.dieMv (s : State) (r : Nat) : Option Nat :=
  if s.hk.rounds == 0 then none
  else some (((List.range 4).map fun i => (s.hk.raw.getD ((if r == 0 then 24 else 28) + i) 0 + 1) / 2).sum / 4)

/-- PMBus address of a rail's regulator in the board record (R45). -/
def State.pmbAddr (s : State) (r : Nat) : Nat := (if r == 0 then s.nvm.board.pmbRay else s.nvm.board.pmbSoc).toNat
/-- A PMBus transfer to the regulator of a rail (R45); none where the board names no regulator. -/
def State.pmb (r : Nat) (c : PmbCommand) (mv : Nat) (s : State) : State :=
  s.when (s.pmbAddr r != 0) (·.emit (.pmbus (s.pmbAddr r) c mv))

/-- Lowest voltage of a rail (Table 2.5). -/
def railFloor (r : Nat) : Nat := if r == 0 then 550 else 600

/-- The voltage that the loop commands next: one 5 mV step up where a monitor fails or an island stretches too often, one
step down where every monitor still passes there and no clock cap is in force (R37, R46). -/
def avsStep (r mv needMv : Nat) (excess cap : Bool) : Nat :=
  if excess || mv < needMv then min 850 (mv + 5)
  else if needMv + 5 ≤ mv && !cap then max (railFloor r) (mv - 5) else mv

/-- The 1 ms AVS update of a rail (R46, R37): `needMv` is the lowest voltage at which every monitor passes, `ack` whether the
regulator acknowledged, `failing` the islands whose monitors fail now. The stretch counts of the period end with it, of a
frozen rail too. -/
def execAvsUpdate (rail needMv : Nat) (ack : Bool) (failing : List Nat) (s : State) : Result :=
  let s := if rail == 0 then s.nextPeriod (ms 1) else s
  done (s.when (s.pwr.phase == .run && rail < 2) fun s =>
    let x := s.rail rail
    let excess := (List.range 59).any fun d => onRail rail d && 16 < (s.dom d).stretchPeriod
    let s := s.modPwr fun p => { p with domains := p.domains.mapIdx fun d z => if onRail rail d then { z with stretchPeriod := 0 } else z }
    if x.frozen then s
    else
      let mv := avsStep rail x.mv needMv excess s.gov.cap
      let s := if mv != x.mv then s.pmb rail .voutCommand mv else s
      let s := if ack then s else s.pmb rail .statusWord 0
      let s := if x.mv == 850 && 850 < needMv then s.freqDown rail failing else s
      let die := (s.dieMv rail).getD x.mv
      let far := 25 < (max x.mv die) - (min x.mv die)
      let y := { x with mv := mv, mismatches := if far then x.mismatches + 1 else 0, naks := if ack then 0 else x.naks + 1 }
      let s := s.modRail rail fun _ => y
      if 5 ≤ y.mismatches then s.freezeRail rail 0 die failing
      else if 3 ≤ y.naks then s.freezeRail rail 1 die failing else s)

/-- A droop of `mv` below the AVS target beyond the threshold stretches the island clock (R47): one stretch, of 1 to 4 cycles. -/
def execDroopDetect (dom mv : Nat) (s : State) : Result :=
  done (s.when (s.domOn dom && s.pwr.droopMv < mv) (·.modDom dom fun d => { d with stretches := satInc d.stretches, stretchPeriod := d.stretchPeriod + 1 }))

/-- Steps of 50 MHz that the governor's cap takes at most, which leaves 50 MHz of 1.4 GHz: the spec gives the cap no floor
(DESIGN CHOICE, log 50). -/
def capLimit : Nat := 27

/-- Heating power in 0.1 W: SELF_HEAT_W of the board record, at most the power limit in force (R416). -/
def State.heatLimit (s : State) : Nat := min s.powerLimit s.nvm.board.selfHeatW * 10

/-- The 10 µs governor period (R35, R36): measured power in 0.1 W against the limit in force. Self-heating is regulated through
the cluster clock, one step up or down a period (R416, log 59). -/
def execGovernorPeriod (measured : Nat) (s : State) : Result :=
  let s := s.nextPeriod (us 10)
  done (s.when (s.pwr.phase == .run) fun s =>
    let limit := s.powerLimit * 10
    s.modGov fun g =>
      let g := { g with measured := measured }
      if limit < measured then { g with cap := true, capSteps := min capLimit (g.capSteps + 1), exceeded := true, belowSince := none }
      else if s.hk.selfHeating then
        let n := if s.heatLimit < measured then min capLimit (g.capSteps + 1) else g.capSteps - 1
        { g with cap := n != 0, capSteps := n, belowSince := none }
      else if measured * 100 < 85 * limit then { g with belowSince := some (g.belowSince.getD s.time) }
      else { g with belowSince := none })

def execPwrQuery (m : Master) (s : State) : Result :=
  done (runCmd { code := 0x0300, cls := 0, len := 1, args := [{ off := 0, hi := 2 }] } noUnit noPre (fun c s =>
    let stretch (lo n : Nat) := (List.range n).flatMap fun i => le 4 (s.dom (lo + i)).stretches.toNat
    (s, .ok (match c.u8 0 with
      | 0 => le 2 s.powerLimit ++ le 2 s.gov.ownerLimit ++ le 2 s.gov.measured ++ le 1 s.govStage ++ le 1 s.hk.step
              ++ le 2 s.pwr.avsRay.mv ++ le 2 s.pwr.avsSoc.mv ++ le 1 (bitOf s.pwr.avsRay.frozen 0 + bitOf s.pwr.avsSoc.frozen 1)
              ++ [if s.gov.cap then 1 else 0]
      | 1 => stretch 0 32
      | _ => stretch 32 27))) m s)

/-- PWR.SET_LIMIT: the owner's limit; AVS_RESUME clears a frozen loop (R46), which stays frozen where the board names no regulator. -/
def execPwrSetLimit (m : Master) (s : State) : Result :=
  done (runCmd { code := 0x0301, cls := 1, len := 3, args := [{ off := 0, n := 2, lo := 65, hi := 150 }, { off := 2, mask := 1 }] } noUnit noPre (fun c s =>
    let s := s.modGov fun g => { g with ownerLimit := c.u16 0 }
    let resume (x : AvsRail) (addr : W8) : AvsRail := if addr == 0 then x else { x with frozen := false, mismatches := 0, naks := 0 }
    let clear (r : Nat) (s : State) : State := s.when (s.rail r).frozen (·.pmb r .clearFaults 0)
    (if c.u8 2 == 1 then
      (clear 1 (clear 0 s)).modPwr fun p => { p with avsRay := resume p.avsRay s.nvm.board.pmbRay, avsSoc := resume p.avsSoc s.nvm.board.pmbSoc }
    else s, .ok [])) m s)

end Sys2Proof.Machine
end

