-- ==== Sys2Proof/Machine/Leases.lean ====
section
/-! DEFINITION. Leases, holds and pages (spec/08, R186, R188, R203 to R209). -/

namespace Sys2Proof.Machine

def overlaps (a n b m : Nat) : Bool := n != 0 && m != 0 && a < b + m && b < a + n
def inside (a n b m : Nat) : Bool := b ≤ a && a + n ≤ b + m

/-- The region that contains an address. -/
def State.regionAt (s : State) (a : Nat) : Option Lease := s.leases.regions.find? fun r => r.base ≤ a && a < r.base + r.len
/-- The range lies within one registered region (of class `cls`, when given). -/
def State.inRegion (s : State) (a n : Nat) (cls : Option Nat := none) : Bool :=
  s.leases.regions.any fun r => inside a n r.base r.len && (match cls with | some k => r.cls == k | none => true)

/-- Taproot's permanently held regions (R203): identifiers from 0x8001; 0x8000 is the SAFE-VIEW window. -/
def Lease.permanent (r : Lease) : Bool := 0x8001 ≤ r.id

/-- Record bytes by MODE (Table 8.4). -/
def recordBytes : Nat → Nat
  | 2 => 144
  | 3 => 288
  | 4 => 624
  | 5 => 6160
  | 6 => 32
  | _ => 16

/-- Device address of the record that a directory entry points to, none for the empty entry (R188). -/
def State.recordAddr (s : State) (e : W32) : Option Nat :=
  if e == 0xFFFFFFFF then none
  else match s.scene.pools.getD (e.toNat / 2 ^ 30) none with
    | some (base, _) => some (base + (e.toNat % 2 ^ 30) * 16)
    | none => none

/-- The byte ranges of the records that directory entries point to, with the sizes the parser counted (R206). -/
def State.recordRanges (s : State) (dir : List W32) (sizes : List Nat) : List (Nat × Nat) :=
  (dir.zip sizes).filterMap fun (e, n) => (s.recordAddr e).map fun a => (a, n)

/-- Planes of the scene layers that hold what they showed before (R254): their holds continue. -/
def State.heldScenePlanes (s : State) : List (List W32 × List Nat) :=
  ((List.range 8).filter fun l => s.layers.states.getD l 0 == 2).flatMap fun l => (s.ray.layerPlanes.getD l []).filterMap fun p => match p.src with
    | .scene dir sizes => some (dir, sizes)
    | _ => none

def sceneEntryAddr (k : Nat) : Nat := 0x40000 + 32 * (k % 256)

/-- Streams of the scene entries outstanding or in parsing (R199). -/
def State.sceneStreams (s : State) : List (Nat × Nat) :=
  (List.range (s.scene.producer - s.scene.consumed).toNat).map fun i =>
    let e := memRead s.win (sceneEntryAddr (s.scene.consumed.toNat + i)) 32
    (a40At e 0, u32At e 8)

/-- The ranges whose pages are held (R206): streams, and the records of the sets in force, pending, of the frames whose retire
fence has not passed, and of held layers. -/
def State.pageRanges (s : State) : List (Nat × Nat) :=
  let planes := s.scene.planes ++ s.scene.pend ++ (s.scene.prevPlanes.getD []) ++ s.scene.waiting.flatMap (·.planes)
  s.sceneStreams ++ (planes.flatMap fun p => match p with
    | some p => s.recordRanges p.dir p.sizes
    | none => []) ++ s.heldScenePlanes.flatMap fun (d, n) => s.recordRanges d n

def pageSize : Nat := 65536

/-- Is page `k` of pool `q` held (R206)? -/
def State.pageHeld (s : State) (q k : Nat) : Bool :=
  match s.scene.pools.getD q none with
  | none => false
  | some (base, len) => (k + 1) * pageSize ≤ len && s.pageRanges.any fun (a, n) => overlaps a n (base + k * pageSize) pageSize

/-- Does the range touch a held page of a tile pool? -/
def State.pagesTouched (s : State) (a n : Nat) : Bool :=
  (List.range 4).any fun q => match s.scene.pools.getD q none with
    | none => false
    | some (base, len) => overlaps a n base len &&
        s.pageRanges.any fun (b, m) => overlaps b m base len &&
          -- pages of the two ranges meet
          overlaps ((max a base - base) / pageSize * pageSize) (((min (a + n) (base + len) - base) + pageSize - 1) / pageSize * pageSize - (max a base - base) / pageSize * pageSize)
            ((max b base - base) / pageSize * pageSize) (((min (b + m) (base + len) - base) + pageSize - 1) / pageSize * pageSize - (max b base - base) / pageSize * pageSize)

/-- Every page that the range touches is held. -/
def State.pagesKept (s : State) (a n : Nat) : Bool :=
  (List.range 4).any fun q => match s.scene.pools.getD q none with
    | none => false
    | some (base, len) => inside a n base len &&
        (List.range ((a + n - base + pageSize - 1) / pageSize - (a - base) / pageSize)).all fun i => s.pageHeld q ((a - base) / pageSize + i)

def State.commitTouched (s : State) (a n : Nat) : Bool := (s.leases.holds ++ s.leases.ending).any fun h => overlaps a n h.base h.len
def State.bulkTouched (s : State) (a n : Nat) : Bool := s.ctl.bulkHolds.any fun h => overlaps a n h.base h.len

/-- Does the range touch a held byte (R204, R206, R82)? -/
def State.held (s : State) (a n : Nat) : Bool := s.commitTouched a n || s.pagesTouched a n || s.bulkTouched a n
/-- Does it touch a region that Taproot holds permanently (R203)? -/
def State.permanent (s : State) (a n : Nat) : Option Lease := s.leases.regions.find? fun r => r.permanent && overlaps a n r.base r.len

/-- The first held byte of a write. -/
def State.firstHeld (s : State) (a n : Nat) : Nat := ((List.range n).find? fun i => s.held (a + i) 1).elim a (a + ·)

/-- LEASE_ID of a violation (R208). -/
def State.leaseId (s : State) (a n : Nat) : Nat := match s.regionAt (s.firstHeld a n) with
  | some r => r.id
  | none => 0

/-- EV_SCENE_LEASE_VIOLATION (R208): every one to the rings, at most one per region and second to the log. -/
def State.leaseEvent (m policy a id n : Nat) (s : State) : State :=
  let p := le 1 m ++ le 1 policy ++ le 5 a ++ [0] ++ le 2 id ++ [0, 0] ++ le 4 n
  let s := (s.modLeases fun l => { l with violations := l.violations + 1 }).postRings 0x780 1 p
  if s.leases.logged.any fun (i, t) => i == id && s.time < t + 10 ^ 9 then s.modNvm fun n => { n with logGap := true }
  else (s.toLog (mkEvent 0x780 1 s.time p false)).modLeases fun l => { l with logged := l.logged.filter (·.1 != id) ++ [(id, s.time)] }

/-! ### SCENE commands on pools and leases (Table 4.5) -/

def execSceneQuery (m : Master) (s : State) : Result :=
  done (runCmd { code := 0x0700, cls := 0 } noUnit noPre (fun _ s =>
    let fences := (List.range 4).filterMap fun i => if s.scene.applied.getD i 0 != 0 then some (s.scene.retired.getD i 0).toNat else none
    let retired := match fences with
      | [] => 0
      | f :: t => t.foldl min f
    (s, .ok (le 1 (s.scene.planes.filter Option.isSome).length ++ le 1 (if s.leases.allow then 1 else 0) ++ le 2 (s.leases.regions.filter (·.id ≤ 256)).length
      ++ le 4 s.scene.lastSf.toNat ++ le 4 retired ++ le 4 s.leases.violations.toNat))) m s)

/-- SCENE.POOL_SET (R186). -/
def execScenePoolSet (m : Master) (s : State) : Result :=
  done (runCmd { code := 0x0701, cls := 1, len := 13, args := [{ off := 0, n := 5 }, { off := 8, n := 4 }, { off := 12, hi := 3 }] } noUnit
    (fun c s =>
      let b := c.a40 0
      let n := c.u32 8
      if b % 65536 != 0 then some (0, 0)
      else if n == 0 then none
      else if n % 65536 != 0 then some (8, 0)
      else if !s.inRegion b n (some 0) then some (0, 0) else none)
    (fun c s =>
      let q := c.u8 12
      let pages := match s.scene.pools.getD q none with | some (_, len) => len / pageSize | none => 0
      if (List.range pages).any fun k => s.pageHeld q k then (s, .fail stLeaseHeld)
      else (s.modScene fun x => { x with pools := x.pools.set q (if c.u32 8 == 0 then none else some (c.a40 0, c.u32 8)) }, .ok [])) m s)

def execSceneLeasePolicy (m : Master) (s : State) : Result :=
  done (runCmd { code := 0x0702, cls := 1, len := 1, args := [{ off := 0, hi := 1 }] } noUnit noPre
    (fun c s => (s.modLeases fun l => { l with allow := c.u8 0 == 1 }, .ok [])) m s)

/-- The lowest LEASE_ID from 1 that no region holds (R203). -/
def freeLease (used : List Nat) (i : Nat) : Nat → Nat
  | 0 => i
  | n + 1 => if used.contains i then freeLease used (i + 1) n else i

def execSceneLeaseAdd (m : Master) (s : State) : Result :=
  done (runCmd { code := 0x0703, cls := 1, len := 13, args := [{ off := 0, n := 5 }, { off := 8, n := 4 }, { off := 12, hi := 4 }] } noUnit
    (fun c s =>
      let b := c.a40 0
      let n := c.u32 8
      if b % 64 != 0 then some (0, 0)
      else if n == 0 || n % 64 != 0 then some (8, 0)
      else if !s.inMemory b n then some (0, 0)
      else if s.leases.regions.any fun r => overlaps b n r.base r.len then some (0, 0) else none)
    (fun c s =>
      let used := s.leases.regions.map (·.id)
      if 256 ≤ (used.filter (· ≤ 256)).length then (s, .fail stNoResource)
      else
        let id := freeLease used 1 256
        (s.modLeases fun l => { l with regions := l.regions ++ [{ id := id, base := c.a40 0, len := c.u32 8, cls := c.u8 12 }] }, .ok (le 2 id))) m s)

/-- A configuration in force lies in the region (R209): a pool, slice pool, capture buffer, tap, PCM ring or no-signal substitute. -/
def State.configIn (s : State) (r : Lease) : Bool :=
  let hit (a n : Nat) := overlaps a n r.base r.len
  (s.scene.pools.any fun p => match p with | some (b, n) => hit b n | none => false)
    || (s.depth.layers.any fun l => l.enabled && hit l.cfg.pool l.cfg.bytes)
    || (s.layers.capture.enable && (hit s.layers.capture.bufA 1 || hit s.layers.capture.bufB 1))
    || (s.isp.pipes.any fun p => match p.tap with | some t => hit t.base t.len | none => false)
    || hit s.aud.ringBase s.aud.ringBytes
    || (s.cam.ports.any fun p => p.configured && p.cfg.noSignal != 0 && hit p.cfg.noSignal 1)

def execSceneLeaseRemove (m : Master) (s : State) : Result :=
  done (runCmd { code := 0x0704, cls := 1, len := 2, args := [{ off := 0, n := 2 }] } noUnit
    (fun c s => if c.u16 0 ≤ 256 && s.leases.regions.any (·.id == c.u16 0) then none else some (0, 0))
    (fun c s =>
      match s.leases.regions.find? (·.id == c.u16 0) with
      | none => (s, .badArg 0)
      | some r =>
        if s.held r.base r.len || s.configIn r then (s, .fail stLeaseHeld)
        else (s.modLeases fun l => { l with regions := l.regions.filter (·.id != r.id) }, .ok [])) m s)

end Sys2Proof.Machine
end

