-- ==== Sys2Proof/Machine/Audio.lean ====
section
/-! DEFINITION. The audio unit: ports, inputs, delays, the mixer, the alarm tone and IEC 60958 (spec/16; R125 of spec/05). -/

namespace Sys2Proof.Machine

def State.aIn (s : State) (i : Nat) : AudIn := s.aud.inputs.getD i {}
def State.modAIn (i : Nat) (f : AudIn → AudIn) (s : State) : State := s.modAud fun a => { a with inputs := a.inputs.modify i f }
def State.aPort (s : State) (p : Nat) : AudPort := s.aud.ports.getD p {}
def sat24 (v : Int) : Int := clampI (-8388608) 8388607 v

/-! ### Gains and the tone (R403, R404) -/

/-- k is at most round(2^20 * 10^(g/40)): exact, since (2k - 1) / 2 <= 2^20 * 10^(g/40) without a tie. -/
def gainFits (g : Int) (k : Nat) : Bool := (2 * k - 1) ^ 40 * 10 ^ (-g).toNat ≤ 2 ^ 840 * 10 ^ g.toNat
/-- k(g) of R403. -/
def gainK (g : Int) : Int :=
  if g == -128 then 0
  else (((List.range 25).foldl (fun k b => if gainFits g (k + 2 ^ (24 - b)) then k + 2 ^ (24 - b) else k) 0 : Nat) : Int)

/-- First half of a quarter wave of round(4,194,303 sin(2 pi n / 50)). -/
def toneQuarter : List Int := [0, 525686, 1043081, 1544026, 2020621, 2465349, 2871198, 3231766, 3541367, 3795119, 3989019, 4120010, 4186027]
/-- The tone of R404 at frame n: 12,000 frames of 960 Hz, 12,000 frames of silence. -/
def toneAt (n : Nat) : Int :=
  if 12000 ≤ n % 24000 then 0
  else
    let k := n % 50
    let j := k % 25
    let v := toneQuarter.getD (if j ≤ 12 then j else 25 - j) 0
    if k < 25 then v else -v

/-! ### Inputs (R400, R401) -/

/-- Count an xrun of an input and report it per frame (R401). -/
def State.xrun (i : Nat) (isOver : Bool) (n : Nat) (s : State) : State :=
  if n == 0 then s
  else (s.modAIn i fun x => if isOver then { x with overruns := x.overruns + BitVec.ofNat 32 n } else { x with underruns := x.underruns + BitVec.ofNat 32 n }).perFrame
    0xF81 i (le 1 i ++ [if isOver then 1 else 0]) n

/-- The rate tracker takes the stamp of an arriving sample (R125, R400): after a whole second of samples without a pause of a
second, TRACK_LIMIT shows a rate outside 48,000 per second by more than 1,000 ppm. -/
def AudIn.track (x : AudIn) (t : Nat) : AudIn :=
  let recent := x.stamps.filter fun a => t < a + 10 ^ 9
  let from_ := if recent.isEmpty then t else x.trackFrom
  let n := recent.length + 1
  { x with stamps := recent ++ [t], trackFrom := from_, trackLimit := from_ + 10 ^ 9 ≤ t && (n < 47952 || 48048 < n) }

/-- A sample arrives at an input's jitter buffer (R400, R401): at a full buffer it overwrites the newest sample. -/
def State.feed (i : Nat) (v : Int) (s : State) : State :=
  let x := s.aIn i
  let s := s.modAIn i fun x =>
    { x.track s.time with buffer := if 96 ≤ x.buffer.length then x.buffer.dropLast ++ [v] else x.buffer ++ [v], underrun := 0, long := false, fade := 0 }
  if 96 ≤ x.buffer.length then s.xrun i true 1 else s

/-- Feed every input whose source is this code. -/
def State.feedSource (code : Nat) (v : Int) (s : State) : State :=
  (List.range 8).foldl (fun t i => if (t.aIn i).source == code then t.feed i v else t) s

/-- An AUD block of a head (R125): a gap in the sample count is an underrun of the missing samples. -/
def execAudBlock (port count : Nat) (left right : Int) (s : State) : Result :=
  let p := s.cam.ports.getD port {}
  let f := s.cam.flows.getD port {}
  done (s.when (p.cfg.audioEn && s.domOn (domRG port) && 4 ≤ p.state && s.domOn domAU) fun s =>
    let gap := match f.audioLast with | some l => (count + 256 - (l + 1) % 256) % 256 | none => 0
    let s := s.modCam fun c => { c with flows := c.flows.modify port fun f => { f with audioLast := some (count % 256) } }
    let s := (List.range 8).foldl (fun t i => if (t.aIn i).source / 2 == port && (t.aIn i).source < 32 then t.xrun i false gap else t) s
    (s.feedSource (2 * port) (sat24 left)).feedSource (2 * port + 1) (sat24 right))

/-- A sample frame arrives at port `source`: AI0 (5) feeds its inputs, a slave output port sees its WS edge (R398, R400). -/
def execAudioInputSample (source : Nat) (left right : Int) (s : State) : Result :=
  done (s.when (s.domOn domAU) fun s =>
    let s := s.modAud fun a => { a with ports := a.ports.modify source fun p => { p with wsLost := false } }
    if source != 5 then s
    else
      let p := s.aPort 5
      let place (v : Int) := if p.bits == 16 then sat24 (256 * v) else sat24 v
      if !p.rate96 then (s.feedSource 34 (place left)).feedSource 35 (place right)
      else
        let s := s.modAud fun a => { a with aiPhase := !a.aiPhase, hist := a.hist.modify 5 fun h => ((place left, place right) :: h).take 63 }
        if s.aud.aiPhase then s
        else
          let h := s.aud.hist.getD 5 []
          (s.feedSource 34 (sat24 (Config.halfBand 0 (h.map (·.1))))).feedSource 35 (sat24 (Config.halfBand 0 (h.map (·.2)))))

/-- 10 ms of continuous underrun: the input fades to 0 over 1 ms and counts one xrun (R401). -/
def execLongUnderrun (input : Nat) (s : State) : Result :=
  done (s.when (480 ≤ (s.aIn input).underrun && !(s.aIn input).long) fun s =>
    (s.modAIn input fun x => { x with long := true, fade := 0 }).xrun input false 1)

/-- A slave port has seen no WS edge for 1 ms (R398). -/
def execSlaveWsTimeout (port : Nat) (s : State) : Result :=
  done (s.when (!(s.aPort port).master) (·.modAud fun a => { a with ports := a.ports.modify port fun p => { p with wsLost := true } }))

/-- A port setting applies at the port's next WS rising edge (R398). -/
def execAudioPortApply (port : Nat) (s : State) : Result :=
  done (s.modAud fun a => { a with ports := a.ports.modify port fun p => match p.next with
    | some (m, r, b) => { p with master := m, rate96 := r, bits := b, next := none, wsLost := false }
    | none => p })

/-! ### Delays (R405, R406) -/

/-- D_i in mixer frames before its limit: lip sync for a camera port on a shown layer, else the trim alone. -/
def AudIn.rawDelay (x : AudIn) (trim : Int) : Int := roundDiv ((if x.fed && x.source < 32 then x.base + trim * 100000 else trim * 100000) * 48) 1000000
/-- Set D_i, limited to 0-250 ms; above the limit the input is CLAMPED. -/
def AudIn.setDelay (x : AudIn) : AudIn :=
  let d := x.rawDelay x.trim
  { x with delay := (clampI 0 12000 d).toNat, clamped := 12000 < d }

/-- Value of the delay line at a position in 1/1000 frame: linear interpolation between two samples. -/
def lineAt (line : List Int) (pos : Nat) : Int :=
  roundDiv (line.getD (pos / 1000) 0 * (1000 - (pos % 1000 : Nat)) + line.getD (pos / 1000 + 1) 0 * (pos % 1000 : Nat)) 1000

/-- Push a sample and move the delay one frame (R406): slew by 1,000 ppm up to 2 ms, else jump with a 48-frame crossfade. -/
def AudIn.advance (x : AudIn) (v : Int) : AudIn × Int :=
  let x := { x with line := (v :: x.line).take 12002 }
  let target : Nat := 1000 * x.delay
  let gap := max target x.pos - min target x.pos
  let x := if gap == 0 || x.cross.isSome then x
    else if gap ≤ 96000 then { x with pos := if x.pos < target then x.pos + 1 else x.pos - 1 }
    else { x with cross := some (x.pos, 0), pos := target }
  match x.cross with
  | some (old, k) =>
    let y := roundDiv (lineAt x.line old * (48 - (k + 1 : Nat)) + lineAt x.line x.pos * (k + 1 : Nat)) 48
    ({ x with cross := if 48 ≤ k + 1 then none else some (old, k + 1) }, y)
  | none => (x, lineAt x.line x.pos)

/-! ### The mixer frame (R397, R401 to R404) -/

def State.pcmFrames (s : State) : Nat := s.aud.ringBytes / (4 * s.aud.ringChannels)
/-- The host PCM ring delivers: set since the last remap, and in trained memory (R402). -/
def State.pcmUp (s : State) : Bool := s.aud.ringBytes != 0 && !s.aud.ringStale && s.inMemory s.aud.ringBase s.aud.ringBytes
/-- Sample of channel c of the oldest PCM frame; a poisoned burst reads 0. -/
def State.pcmSample (s : State) (c : Nat) : Int :=
  let ch := if c < s.aud.ringChannels then c else 0
  let a := s.aud.ringBase + (4 * s.aud.ringChannels * s.aud.consumed.toNat + 4 * ch) % s.aud.ringBytes
  if s.poisoned a 4 then 0 else sext 24 (u32At (s.devRead a 4) 0 / 256)

/-- What an input gives this frame: a sample, or the last one while it underruns, fading to 0 (R401). -/
def State.takeInput (i : Nat) (s : State) : State × Int :=
  let x := s.aIn i
  let sample : Option Int := if x.source == 32 || x.source == 33 then
      (if s.pcmUp && s.aud.producer != s.aud.consumed then some (s.pcmSample (x.source - 32)) else none)
    else x.buffer.head?
  match sample with
  | some v => (s.modAIn i fun x => { x with buffer := x.buffer.drop 1, last := v, underrun := 0, long := false, fade := 0 }, v)
  | none =>
    if x.source == 255 || ((x.source == 32 || x.source == 33) && !s.pcmUp) then (s.modAIn i fun x => { x with last := 0 }, 0)
    else if x.long then
      (s.modAIn i fun x => { x with fade := min 48 (x.fade + 1) }, roundDiv (x.last * (48 - (min 48 (x.fade + 1) : Nat))) 48)
    else ((s.modAIn i fun x => { x with underrun := x.underrun + 1 }).xrun i false 1, x.last)

/-- Sum of one side of an output, halved under the tone (R403). -/
def mixSide (xs : List Int) (gains : List Int) (o side : Nat) (tone : Option Nat) : Int :=
  let acc := ((List.range 4).map fun j => xs.getD (2 * j + side) 0 * gainK (gains.getD (8 * o + 2 * j + side) (-128))).sum
  let y := sat24 ((acc + 2 ^ 19).fdiv (2 ^ 20))
  match tone with
  | some n => (y + 1).fdiv 2 + toneAt n
  | none => y

/-- What a port sends of a sample: 16 or 24 bits; a slave port without WS edges sends 0 (R398, R403). -/
def AudPort.width (p : AudPort) (v : Int) : Int :=
  if !p.master && p.wsLost then 0 else if p.bits == 16 then clampI (-32768) 32767 ((v + 128).fdiv 256) else v

/-- Send a sample pair on an output, two per frame at 96 kHz. -/
def State.sendOut (o : Nat) (l r : Int) (s : State) : State :=
  let p := s.aPort o
  let s := s.modAud fun a => { a with outLast := a.outLast.set o (l, r), hist := a.hist.modify o fun h => ((l, r) :: h).take 63 }
  let h := s.aud.hist.getD o []
  let pairs := if p.rate96 then (List.range 2).map fun j => (sat24 (Config.halfBand (j + 1) (h.map (·.1))), sat24 (Config.halfBand (j + 1) (h.map (·.2)))) else [(l, r)]
  pairs.foldl (fun t (l, r) =>
    if o < 4 then t.emit (.audio o (p.width l) (p.width r))
    else
      let f := t.aud.iecFrame
      let b := if f / 8 == 3 && f % 8 < 4 then (if p.rate96 then 0b1010 else 0b0010) / 2 ^ (f % 8) % 2 == 1 else (t.aud.iecBlock.getD (f / 8) 0).getLsbD (f % 8)
      (t.emit (.iec (f == 0) t.aud.invalid.isSome b l r)).modAud fun a => { a with
        iecFrame := (a.iecFrame + 1) % 192,
        invalid := match a.invalid with
          | some n => if a.onInternal then some 0 else if n ≤ 1 then none else some (n - 1)
          | none => none }) s

/-- Time of the next mixer frame: a multiple of 1/48,000 s, rounded up to the nanosecond. -/
def nextMixer (t : Nat) : Nat := ((t * 48000 / 10 ^ 9 + 1) * 10 ^ 9 + 47999) / 48000

/-- A new matrix applies (R403): a changed source starts with an empty buffer. -/
def Aud.applyMix (a : Aud) : Aud :=
  match a.mixNext with
  | some (src, g) => { a with
      mixNext := none, gains := g,
      inputs := a.inputs.mapIdx fun i (x : AudIn) => if x.source == src.getD i 255 then x else
        ({ x with source := src.getD i 255, buffer := [], underrun := 0, long := false, fade := 0, fed := false, base := 0, stamps := [], trackLimit := false } : AudIn).setDelay }
  | none => a

def takeAll (p : State × List Int) (i : Nat) : State × List Int := ((p.1.takeInput i).1, p.2 ++ [(p.1.takeInput i).2])
/-- Push the samples `xs` into the delay lines. -/
def delayAll (xs : List Int) (p : State × List Int) (i : Nat) : State × List Int :=
  let r := (p.1.aIn i).advance (xs.getD i 0)
  (p.1.modAIn i fun _ => r.1, p.2 ++ [r.2])

/-- Send output o of a frame: the mix, or the last sample again at a clock switch (R397). -/
def State.mixOut (again : Bool) (ys : List Int) (s : State) (o : Nat) : State :=
  let last := s.aud.outLast.getD o (0, 0)
  if again then s.sendOut o last.1 last.2
  else s.sendOut o (mixSide ys s.aud.gains o 0 s.aud.toneN) (mixSide ys s.aud.gains o 1 s.aud.toneN)

/-- The alarm tone starts and ends (R404). -/
def State.toneStep (s : State) : State :=
  let s := s.when (s.own.alarmTone && s.aud.toneN.isNone) (·.modAud fun a => { a with toneN := some 0, toneEnding := false })
  s.when (s.aud.toneEnding && s.aud.toneN.any fun n => n % 25 == 0 || 12000 ≤ n % 24000) (·.modAud fun a => { a with toneN := none, toneEnding := false })

/-- One mixer frame (R403): a new matrix applies, the inputs are taken and delayed, the outputs are sent. -/
def execMixerFrame (s : State) : Result :=
  let s := s.modTime nextMixer
  done (s.when (s.domOn domAU) fun s =>
    let s := s.modAud Aud.applyMix
    let taken := (List.range 8).foldl takeAll (s, [])
    let s := taken.1.when (taken.1.pcmUp && taken.1.aud.producer != taken.1.aud.consumed) (·.modAud fun a => { a with consumed := a.consumed + 1 })
    let delayed := (List.range 8).foldl (delayAll taken.2) (s, [])
    let s := delayed.1.toneStep
    let again := s.aud.repeatFrame
    let s := (List.range 5).foldl (fun t o => t.mixOut again delayed.2 o) s
    s.modAud fun a => { a with repeatFrame := false, toneN := a.toneN.map (· + 1) })

/-! ### The audio clock (R397) -/

def State.amclkLost (s : State) : State :=
  (s.modAud fun a => { a with onInternal := true, returnDue := false, repeatFrame := true, invalid := some 0 }).post 0xF80 1 [1]
def State.amclkBack (s : State) : State := s.modAud fun a => { a with returnDue := a.onInternal }

/-- An IEC block starts (R397, R399): a new channel-status block and the return to AMCLK_IN apply. -/
def execIecBlockStart (s : State) : Result :=
  done (s.when (s.aud.iecFrame == 0 && s.domOn domAU) (·.modAud fun a =>
    let a := { a with iecBlock := a.iecNext.getD a.iecBlock, iecNext := none }
    if a.returnDue then { a with onInternal := false, returnDue := false, repeatFrame := true, invalid := some 192 } else a))

/-! ### AUDIO commands (Table 4.7) and the producer -/

def State.alarmOn (s : State) : Bool := s.aud.toneN.isSome
/-- AUDIO_STATUS. -/
def State.audioStatus (s : State) : Nat :=
  bitOf s.aud.onInternal 0 + bitOf s.alarmOn 1 + bitOf s.aud.invalid.isSome 2 + bitOf s.aud.pcmOverrun 3
    + (maskOf 8 fun i => (s.aIn i).clamped) * 16 + (maskOf 8 fun i => (s.aIn i).trackLimit) * 4096

def execAudioQuery (m : Master) (s : State) : Result :=
  done (runCmd { code := 0x0F00, cls := 0 } noUnit noPre (fun _ s =>
    let sum (f : AudIn → Nat) := (s.aud.inputs.map f).sum
    (s, .ok (le 1 (if s.aud.onInternal then 1 else 0) ++ [0, 0, 0] ++ le 4 (sum fun x => x.underruns.toNat) ++ le 4 (sum fun x => x.overruns.toNat) ++ [if s.alarmOn then 1 else 0]))) m s)

/-- AUDIO.PORT_SET (R398): AI0 has no master role. -/
def execAudioPortSet (m : Master) (s : State) : Result :=
  done (runCmd { code := 0x0F01, cls := 1, len := 4, args := [{ off := 0, hi := 5 }, { off := 1, mask := 1 }, { off := 2, hi := 1 }, { off := 3 }] } noUnit
    (fun c _ => if c.u8 0 == 5 && c.u8 1 == 1 then some (1, 0) else if c.u8 3 != 16 && c.u8 3 != 24 then some (3, 0) else none)
    (fun c s => (s.modAud fun a => { a with ports := a.ports.modify (c.u8 0) fun p => { p with next := some (c.u8 1 == 1, c.u8 2 == 1, c.u8 3) } }, .ok [])) m s)

/-- AUDIO.MIX_SET (R403): sources of Table 16.1 and 40 gain codes. -/
def execAudioMixSet (m : Master) (s : State) : Result :=
  let src (c : Ctx) := (List.range 8).map c.u8
  let gain (c : Ctx) := (List.range 40).map fun k => sext 8 (c.u8 (8 + k))
  done (runCmd { code := 0x0F02, cls := 1, len := 48, args := [{ off := 0, n := 48 }] }
    (fun c s => ((src c).find? fun x => x < 32 && !s.hasPort (x / 2)).map fun x => unitPort (x / 2))
    (fun c _ =>
      match (List.range 8).find? fun i => 35 < (src c).getD i 0 with
      | some i => some (i, 0)
      | none => ((List.range 40).find? fun k => 48 < (gain c).getD k 0).map fun k => (8 + k, 0))
    (fun c s => (s.modAud fun a => { a with mixNext := some (src c, gain c) }, .ok [])) m s)

/-- AUDIO.DELAY_SET (R406). -/
def execAudioDelaySet (m : Master) (s : State) : Result :=
  done (runCmd { code := 0x0F03, cls := 1, len := 4, args := [{ off := 0, hi := 7 }, { off := 2, n := 2 }] } noUnit
    (fun c s =>
      let t := c.s16 2
      if t < -2500 || 2500 < t || 12000 < (s.aIn (c.u8 0)).rawDelay t then some (2, 0) else none)
    (fun c s =>
      let s := s.modAIn (c.u8 0) fun x => ({ x with trim := c.s16 2 }).setDelay
      (s, .ok (le 2 (roundNat ((s.aIn (c.u8 0)).delay * 10) 48)))) m s)

/-- AUDIO.PCM_RING (R402). -/
def execAudioPcmRing (m : Master) (s : State) : Result :=
  done (runCmd { code := 0x0F04, cls := 1, len := 13, args := [{ off := 0, n := 5 }, { off := 8, n := 4 }, { off := 12, lo := 1, hi := 2 }] } noUnit
    (fun c s =>
      let b := c.a40 0
      let n := c.u32 8
      if b % 64 != 0 then some (0, 0)
      else if n % 64 != 0 || n < 4096 || 2 ^ 24 < n then some (8, 0)
      else if !s.inRegion b n then some (0, 0) else none)
    (fun c s =>
      if s.held (c.a40 0) (c.u32 8) then (s, .fail stLeaseHeld)
      else (s.modAud fun a => { a with ringBase := c.a40 0, ringBytes := c.u32 8, ringChannels := c.u8 12, ringStale := false, producer := 0, consumed := 0 }, .ok [])) m s)

/-- AUDIO.IEC_SET (R399): the professional format is refused. -/
def execAudioIecSet (m : Master) (s : State) : Result :=
  done (runCmd { code := 0x0F05, cls := 1, len := 24, args := [{ off := 0, n := 24 }] } noUnit
    (fun c _ => if c.u8 0 % 2 == 1 then some (0, 0) else none)
    (fun c s => (s.modAud fun a => { a with iecNext := some (c.args.take 24) }, .ok [])) m s)

/-- AUDIO_PCM_PRODUCER (R402, R472). -/
def execAudioPcmProducer (m : Master) (value : W32) (s : State) : Result := s.byPort m.code fun s =>
  done (if !s.isOwner m.code then s.dropWrite m 0xF40
  else if !s.domOn domAU then s.offAccess m domAU 0xF40 true
  else match producerRule s.pcmFrames s.aud.producer s.aud.consumed value with
    | .nothing => s
    | .overrun => s.modAud fun a => { a with pcmOverrun := true }
    | .takes => s.modAud fun a => { a with producer := value })

end Sys2Proof.Machine
end

