-- ==== Sys2Proof/Machine/Placard.lean ====
section
/-! DEFINITION. The placard port: configuration, waveforms, updates, the intent record and recovery (spec/15). -/

namespace Sys2Proof.Machine

/-- Code of STATE (R394). -/
def PlcState.code : PlcState → Nat
  | .off => 0
  | .idle => 1
  | .updating => 2
  | .clearing => 3
  | .waitWaveform => 4
  | .fault => 5
  | .unconfigured => 6

/-- The charge pump is within its tolerance 5 ms after it starts (R380, Table 15.5). -/
def State.pumpOk (s : State) : Bool := s.plc.pump && (match s.plc.seq with | some q => q.readyAt ≤ s.time | none => false)

/-- PLACARD_STATUS while PL is on. -/
def State.placardStatus (s : State) : Nat :=
  s.plc.state.code + bitOf s.pins.plcFaultN 3 + bitOf s.pins.plcOeN 4 + bitOf s.pumpOk 5 + bitOf s.plc.uncertain 6 + bitOf s.plc.clamped 7
    + s.plc.band * 256 + s.plc.frame * 65536

def State.plcState (st : PlcState) (s : State) : State := s.modPlc fun p => { p with state := st }
/-- PLC_FAULT_N is low: FAULT, which the unit of domain 55 shows (R378, R394). -/
def State.plcFaulted (s : State) : State :=
  (s.plcState .fault).setUnit domPL fun u => { u with faulted := true, reduced := false, state := 7, flowing := false }
/-- Back to rest: IDLE, UNCONFIGURED without a configuration, or FAULT while PLC_FAULT_N is low; the unit of domain 55 follows. -/
def State.plcRest (s : State) : State :=
  if !s.pins.plcFaultN then s.plcFaulted
  else (s.plcState (if s.plc.cfg.isNone then .unconfigured else .idle)).setUnit domPL fun u => { u with state := 4, faulted := false, reduced := false, flowing := true }

/-- Frame code n of waveform w (Table 15.3): T00, T01, T10, T11, CLR. -/
def waveCode (wave : Bytes) (w n : Nat) : Nat := if n < byteAt wave (4 + w) then byteAt wave (16 + 16 * w + n / 4) / 4 ^ (n % 4) % 4 else 0

/-- The waveform that a segment needs (R385). -/
def PlcSeq.waveOf (q : PlcSeq) (i : Nat) : Nat :=
  if q.clearing then 4 else (if q.previous.getLsbD i then 2 else 0) + (if q.target.getLsbD i then 1 else 0)

/-- FRAMES of a sequence (R385). -/
def framesOf (wave : Bytes) (clearing : Bool) (segments : Nat) (previous target : BitVec 256) : Nat :=
  if clearing then byteAt wave 8
  else (List.range segments).foldl (fun a i => max a (byteAt wave (4 + (if previous.getLsbD i then 2 else 0) + (if target.getLsbD i then 1 else 0)))) 0

/-- The word of driver d in frame n (Table 15.1): trim byte, then 128 codes; `none` is the all-common frame. -/
def PlcSeq.word (q : PlcSeq) (d : Nat) (n : Option Nat) : Bytes :=
  let code (o : Nat) : Nat := let i := 128 * d + o
    match n with
    | some n => if i < q.cfg.segments then waveCode q.wave (q.waveOf i) n else 0
    | none => 0
  (List.range 32).map (fun b => BitVec.ofNat 8 (code (4 * b) + 4 * code (4 * b + 1) + 16 * code (4 * b + 2) + 64 * code (4 * b + 3))) ++ [q.cfg.vcomTrim]

/-- A valid waveform record is stored for the band. -/
def State.wave (s : State) (b : Nat) : Option Bytes := s.plc.waves.getD b none

/-- Start an update or a clearing (R386 step 1, R388): the band is fixed, the slot after the newest is being written. -/
def State.plcStart (clearing : Bool) (target : BitVec 256) (cfg : PlcCfg) (wave : Bytes) (s : State) : State :=
  let clamped := s.hk.placardTemp < -320 || 960 ≤ s.hk.placardTemp
  let slot := match newestIntent s.plc.slots with
    | some x => (s.plc.slots.findIdx (·.seq == x.seq) + 1) % 32
    | none => 0
  let q : PlcSeq := {
    clearing := clearing, band := s.plc.bandNow, clamped := clamped, bias := cfg.bias,
    frames := framesOf wave clearing cfg.segments s.plc.shown target, target := target, previous := s.plc.shown, slot := slot, cfg := cfg, wave := wave }
  s.modPlc fun p => { p with
    seq := some q, lastStart := some s.time, band := q.band, clamped := clamped, frame := 0,
    state := if clearing then .clearing else .updating, slots := p.slots.modify slot fun x => { x with valid := false } }

/-- Run the recovery clearing, or wait for what it lacks (R391, R392). -/
def State.plcRecover (s : State) : State :=
  let s := s.modPlc fun p => { p with recover := true, uncertain := true }
  match s.plc.cfg, s.wave s.plc.bandNow with
  | some cfg, some w => if s.pins.plcFaultN then s.plcStart true 0 cfg w else wait s
  | _, _ => wait s
where
  wait (s : State) : State :=
    if s.plc.state == .waitWaveform then s
    else ((s.plcState .waitWaveform).setUnit domPL fun u => { u with state := 3, reduced := true, faulted := false, flowing := false }).post 0xE80 3 [0]

/-- The setting of an 8-byte PLACARD_CONFIG record. -/
def plcCfgOf (p : Bytes) : PlcCfg := { segments := u16At p 0, bias := byteAt p 2, vcomTrim := p.getD 3 0, vbCode := slice p 4 4 }

def execPlacardQuery (m : Master) (s : State) : Result :=
  done (runCmd { code := 0x0E00, cls := 0 } noUnit noPre (fun _ s =>
    (s, .ok (le 32 s.plc.shown.toNat ++ le 1 (if s.domOn domPL then s.plc.state.code else 0) ++ le 1 s.plc.band ++ [if s.plc.recovered then 1 else 0]))) m s)

/-- Highest segment set plus one. -/
def segTop (v : BitVec 256) : Nat := (List.range 256).foldl (fun a i => if v.getLsbD i then i + 1 else a) 0

/-- An update, a clearing, a recovery or a waveform load runs (R386). -/
def State.plcBusy (s : State) : Bool := s.plc.seq.isSome || s.plc.recover || s.opOn 0x0E03

/-- PLACARD.CONFIG (R381). -/
def execPlacardConfig (m : Master) (s : State) : Result :=
  done (runCmd { code := 0x0E01, cls := 1, len := 8, args := [{ off := 0, n := 2 }, { off := 2 }, { off := 3 }, { off := 4, n := 4 }] } noUnit
    (fun c s =>
      if c.u16 0 < 1 || 256 < c.u16 0 then some (0, 1)
      else if 1 < c.u8 2 then some (2, 1)
      else if c.u16 0 < segTop s.plc.shown then some (0, 2) else none)
    (fun c s =>
      if s.plc.seq.isSome || s.opOn 0x0E03 then (s, .busy domPL)
      else
        let s := (s.modPlc fun p => { p with cfg := some (plcCfgOf c.args) }).deferRecord 7 (c.args.take 8)
        (s.when (s.plc.state == .unconfigured) State.plcRest, .ok [])) m s)

/-- PLACARD.UPDATE (R386): the checks in the order of R94, then the sequence starts. -/
def execPlacardUpdate (m : Master) (s : State) : Result :=
  done (runCmd { code := 0x0E02, cls := 1, len := 32, args := [{ off := 0, n := 32 }] } noUnit
    (fun c s => match s.plc.cfg with
      | some g => if g.segments < segTop (BitVec.ofNat 256 (uAt 32 c.args 0)) then some ((segTop (BitVec.ofNat 256 (uAt 32 c.args 0)) - 1) / 8, 1) else none
      | none => none)
    (fun c s =>
      let faulted (r : Nat) : State × Reply := (s, .err stFaulted 0xFF r domPL)
      let busy (r : Nat) : State × Reply := (s, .err stBusy 0xFF r domPL)
      if !s.pins.plcFaultN then faulted 1
      else match s.wave s.plc.bandNow with
      | none => faulted 2
      | some w => match s.plc.cfg with
        | none => faulted 3
        | some g =>
          if !s.domOn domPL then faulted 0
          else if s.plcBusy then busy 1
          else if s.plc.lastStart.any fun t => s.time < t + ms 1000 then busy 2
          else (s.plcStart false (BitVec.ofNat 256 (uAt 32 c.args 0)) g w, .pend (ms 1400) 0)) m s)

/-- A waveform record obeys R384 for its band. -/
def waveOk (p : Bytes) (b : Nat) : Bool :=
  p.length == 96 && u16At p 0 == 1 && byteAt p 2 == b && byteAt p 3 == 0 && uAt 7 p 9 == 0 && byteAt p 8 != 0
    && (List.range 5).all fun w => byteAt p (4 + w) ≤ 64 && (List.range 64).all fun n =>
      let c := byteAt p (16 + 16 * w + n / 4) / 4 ^ (n % 4) % 4
      c != 3 && (n < byteAt p (4 + w) || c == 0)

/-- PLACARD.WAVE_LOAD (R384). -/
def execPlacardWaveLoad (m : Master) (s : State) : Result :=
  done (runCmd { code := 0x0E03, cls := 1, bulk := some 0, len := 17, args := [{ off := 16, hi := 7 }] } noUnit
    (fun c _ => if c.u32 8 == 96 then none else some (8, 0))
    (fun c s =>
      if !waveOk (c.bulkBytes s) (c.u8 16) then (s, .badArg 0xFF)
      else if (match s.plc.seq with | some q => q.band == c.u8 16 | none => false) || s.opOn 0x0E03 then (s, .busy domPL)
      else (s, .pend (ms 200) (c.u8 16))) m s)

/-- Store a waveform record (R384). -/
def State.plcStoreWave (band : Nat) (p : Bytes) (s : State) : State :=
  (s.modPlc fun x => { x with waves := x.waves.set band (some p) }).deferRecord (8 + band) p

/-- The intent record of the sequence is committed; the pump starts in compatibility mode (R380, R388). -/
def execPlacardIntentCommitted (s : State) : Result :=
  done (match s.plc.seq with
    | some q => s.when (!q.committed && s.domOn domPL && s.nvmUp) fun s =>
        let seq := (match newestIntent s.plc.slots with | some x => x.seq | none => 0) + 1
        let slot : PlcSlot := {
          seq := seq, done := 0, valid := true, target := q.target, previous := q.previous, clearing := q.clearing,
          band := BitVec.ofNat 8 (q.band + bitOf q.clamped 7), bias := q.bias, frames := q.frames }
        s.modPlc fun p => { p with
          slots := p.slots.set q.slot slot, pump := q.bias == 1,
          seq := some { q with committed := true, readyAt := s.time + (if q.bias == 1 then ms 5 else 0) } }
    | none => s)

/-- The closing frame has been latched: DONE is written, the image shown is the target, the command completes (R386). -/
def State.plcClose (q : PlcSeq) (s : State) : State :=
  let s := ((s.emit (.placard (q.word 1 none) (q.word 0 none))).emit (.pin .plcOeN true 0)).modPins fun p => { p with plcOeN := true }
  let s := s.modPlc fun p => { p with
    seq := none, pump := false, shown := q.target, slots := p.slots.modify q.slot fun x => { x with done := x.seq },
    recover := if q.clearing then false else p.recover, uncertain := if q.clearing then false else p.uncertain,
    recovered := p.recovered || q.clearing }
  let s := s.plcRest
  if q.clearing then s.post 0xE80 3 [1]
  else s.completeAll 0x0E02 stOk (le 1 q.frames ++ le 1 (q.band + bitOf q.clamped 7) ++ [0])

/-- A 20 ms placard frame boundary (R377, R386). -/
def execPlacardFrameBoundary (s : State) : Result :=
  let s := s.nextPeriod (ms 20)
  done (match s.plc.seq with
    | some q => s.when (s.domOn domPL && s.pins.plcFaultN && q.committed && (q.latched != 0 || q.readyAt + us 60 ≤ s.time)) fun s =>
        if q.latched < q.frames then
          let s := s.when (q.latched == 0) fun s => (s.emit (.pin .plcOeN false 0)).modPins fun p => { p with plcOeN := false }
          (s.emit (.placard (q.word 1 (some q.latched)) (q.word 0 (some q.latched)))).modPlc fun p => { p with
            frame := q.latched, seq := some { q with latched := q.latched + 1 } }
        else s.plcClose q
    | none => s)

/-- The sequence stops where it is; its record, when committed, keeps DONE = 0 (R378, R390, R393). -/
def State.plcStop (s : State) : State :=
  s.when s.plc.seq.isSome fun s =>
    ((s.when (!s.pins.plcOeN) (·.emit (.pin .plcOeN true 0))).modPins fun p => { p with plcOeN := true }).modPlc fun p => { p with seq := none, pump := false, uncertain := p.uncertain || (match p.seq with | some q => q.committed || q.clearing | none => false) }

/-- PLC_FAULT_N falls (R378). -/
def execPlcFaultNFall (s : State) : Result :=
  let low := !s.pins.plcOeN
  let s := s.modPins fun p => { p with plcFaultN := false, plcOeN := true }
  done (s.when (s.domOn domPL) fun s =>
    let s := s.when low (·.emit (.pin .plcOeN true (us 50)))
    let during := s.plc.seq.isSome
    let s := s.plcStop
    let s := (s.modPlc fun p => { p with recover := p.recover || during }).plcFaulted
    let s := s.post 0xE81 2 [if during then 1 else 0]
    s.completeAll 0x0E02 stFaulted [])

/-- PLC_FAULT_N has been high for 100 ms: recovery runs first when one is due (R378). -/
def execPlcFaultNClear (s : State) : Result :=
  let s := s.modPins fun p => { p with plcFaultN := true }
  done (s.when (s.domOn domPL && s.plc.seq.isNone) fun s =>
    let s := s.when (s.plc.state != .waitWaveform) State.plcRest
    if s.plc.recover then s.plcRecover else s)

/-- Taproot reads the intent record and the stored configuration and waveforms (R389, R391). -/
def execPlacardRecovery (s : State) : Result :=
  done (s.when (s.tp.state == .running && s.domOn domPL && s.plc.seq.isNone && s.plc.state != .waitWaveform) fun s =>
    let s := s.modPlc fun p => { p with
      cfg := (s.recPayload 7).map plcCfgOf, waves := (List.range 8).map fun b => (s.recPayload (8 + b)).filter fun w => waveOk w b }
    match newestIntent s.plc.slots with
    | some x => if x.done == x.seq then ((s.modPlc fun p => { p with shown := x.target, uncertain := false, recover := false })).plcRest else s.plcRecover
    | none => s.plcRecover)

/-- A waiting recovery runs once what it lacked is there (R392). -/
def execPlacardRecoveryResume (s : State) : Result :=
  done (s.when (s.plc.state == .waitWaveform && s.domOn domPL && s.plc.seq.isNone) State.plcRecover)

/-- Taproot stops (R393): a sequence that has not latched frame 0 is abandoned. -/
def State.plcTaprootStop (s : State) : State :=
  match s.plc.seq with
  | some q => if q.latched == 0 then s.plcStop else s
  | none => s

/-- RESULT of a PLACARD.UPDATE completed by R89. -/
def State.plcContinued (s : State) : Bytes := [0, 0, if s.plc.seq.isSome then 1 else 0]

end Sys2Proof.Machine
end

