-- ==== Sys2Proof/Machine/Sha.lean ====
section
/-! DEFINITION. SHA-256 (FIPS 180-4), which spec/18 (R433) names for every hash. -/

namespace Sys2Proof.Machine

/-- Round constants. -/
def shaK : List W32 :=
  [0x428a2f98, 0x71374491, 0xb5c0fbcf, 0xe9b5dba5, 0x3956c25b, 0x59f111f1, 0x923f82a4, 0xab1c5ed5]
  ++ [0xd807aa98, 0x12835b01, 0x243185be, 0x550c7dc3, 0x72be5d74, 0x80deb1fe, 0x9bdc06a7, 0xc19bf174]
  ++ [0xe49b69c1, 0xefbe4786, 0x0fc19dc6, 0x240ca1cc, 0x2de92c6f, 0x4a7484aa, 0x5cb0a9dc, 0x76f988da]
  ++ [0x983e5152, 0xa831c66d, 0xb00327c8, 0xbf597fc7, 0xc6e00bf3, 0xd5a79147, 0x06ca6351, 0x14292967]
  ++ [0x27b70a85, 0x2e1b2138, 0x4d2c6dfc, 0x53380d13, 0x650a7354, 0x766a0abb, 0x81c2c92e, 0x92722c85]
  ++ [0xa2bfe8a1, 0xa81a664b, 0xc24b8b70, 0xc76c51a3, 0xd192e819, 0xd6990624, 0xf40e3585, 0x106aa070]
  ++ [0x19a4c116, 0x1e376c08, 0x2748774c, 0x34b0bcb5, 0x391c0cb3, 0x4ed8aa4a, 0x5b9cca4f, 0x682e6ff3]
  ++ [0x748f82ee, 0x78a5636f, 0x84c87814, 0x8cc70208, 0x90befffa, 0xa4506ceb, 0xbef9a3f7, 0xc67178f2]

/-- Initial hash value. -/
def shaH : List W32 := [0x6a09e667, 0xbb67ae85, 0x3c6ef372, 0xa54ff53a, 0x510e527f, 0x9b05688c, 0x1f83d9ab, 0x5be0cd19]

def rotr (x : W32) (n : Nat) : W32 := x.rotateRight n

/-- The next word of the message schedule, from the last 16, newest first. -/
def shaNext (w : List W32) : W32 :=
  let a := w.getD 14 0
  let b := w.getD 1 0
  (rotr b 17 ^^^ rotr b 19 ^^^ (b >>> 10)) + w.getD 6 0 + (rotr a 7 ^^^ rotr a 18 ^^^ (a >>> 3)) + w.getD 15 0

/-- One round on the working variables a to h. -/
def shaRound (v : List W32) (k w : W32) : List W32 :=
  match v with
  | [a, b, c, d, e, f, g, h] =>
    let t1 := h + (rotr e 6 ^^^ rotr e 11 ^^^ rotr e 25) + ((e &&& f) ^^^ (~~~e &&& g)) + k + w
    let t2 := (rotr a 2 ^^^ rotr a 13 ^^^ rotr a 22) + ((a &&& b) ^^^ (a &&& c) ^^^ (b &&& c))
    [t1 + t2, a, b, c, d + t1, e, f, g]
  | _ => v

def beWord (b : Bytes) : W32 := b.foldl (fun x y => x * 256 + y.setWidth 32) 0

/-- The 64 schedule words of a block of 64 bytes. -/
def shaSchedule (b : Bytes) : List W32 :=
  let w := (List.range 16).map fun i => beWord (slice b (4 * i) 4)
  ((List.range 48).foldl (fun r _ => shaNext r :: r) w.reverse).reverse

def shaBlock (h : List W32) (b : Bytes) : List W32 :=
  let v := (shaK.zip (shaSchedule b)).foldl (fun v kw => shaRound v kw.1 kw.2) h
  List.zipWith (· + ·) h v

def shaPad (b : Bytes) : Bytes :=
  let n := b.length
  b ++ [0x80] ++ List.replicate ((119 - n % 64) % 64) 0 ++ (le 8 (8 * n)).reverse

/-- SHA-256 of a byte string, 32 bytes. -/
def sha256 (b : Bytes) : Bytes :=
  let p := shaPad b
  let h := (List.range (p.length / 64)).foldl (fun h i => shaBlock h (slice p (64 * i) 64)) shaH
  h.flatMap fun w => (le 4 w.toNat).reverse

end Sys2Proof.Machine
end

