-- ==== Sys2Proof/Machine/Security.lean ====
section
/-! DEFINITION. Security records, signed containers, measurement, attestation, staging, owner key and the field seal (spec/18). -/

namespace Sys2Proof.Machine

/-! ### Security records (R432) -/

def secStateOf (p : Option Bytes) : Bytes := pad 12 (p.getD [])
def State.secState (s : State) : Bytes := secStateOf (s.recPayload 0x200)
def State.preferred (s : State) : Nat := byteAt s.secState 0 % 2
def State.trial (s : State) : Bool := byteAt s.secState 1 == 1
def State.slotValid (s : State) (i : Nat) : Bool := bit (byteAt s.secState 2) i
/-- Change SEC_STATE: PREFERRED, TRIAL, and a slot's valid bit and version. -/
def State.setPreferred (slot : Nat) (trial : Bool) (s : State) : State :=
  s.writeRecord 0x200 (patch s.secState 0 (le 1 slot ++ [if trial then 1 else 0]))
def State.setSlot (slot : Nat) (valid : Bool) (version : Option Nat) (s : State) : State :=
  let p := s.secState
  let v := byteAt p 2
  let v := if valid then v ||| 2 ^ slot else (if bit v slot then v - 2 ^ slot else v)
  let p := patch p 2 (le 1 v)
  s.writeRecord 0x200 (match version with | some n => patch p (4 + 4 * slot) (le 4 n) | none => p)

def State.rollback (s : State) : Nat := uAt 8 ((s.recPayload 0x201).getD []) 0
def State.ownerKey (s : State) : Bytes := pad 40 ((s.recPayload 0x202).getD [])
def State.ownerHash (s : State) : Bytes := s.ownerKey.take 32
def State.ownerKeySet (s : State) : Bool := s.ownerHash.any (· != 0)
def State.bundleFloor (s : State) (kind : Nat) : Nat := u32At (pad 8 ((s.recPayload 0x203).getD [])) (4 * (kind - 1))
def State.identity (s : State) : Bytes := pad (104 + 16224 + 35664) ((s.recPayload 0x204).getD [])

/-! ### Flash (R434) -/

def slotBase (slot : Nat) : Nat := if slot == 0 then 0x00100000 else 0x01900000
def slotSize : Nat := 24 * 2 ^ 20
def bundleBase (kind copy : Nat) : Nat := if kind == 1 then 0x03100000 + copy * 2 ^ 22 else 0x03900000 + copy * (17 * 2 ^ 20)
def bundleSize (kind : Nat) : Nat := if kind == 1 then 2 ^ 22 else 17 * 2 ^ 20
def State.flashRead (s : State) (a n : Nat) : Bytes := memRead s.sec.flash a n
def State.modFlash (f : Memory → Memory) (s : State) : State := s.modSec fun x => { x with flash := f x.flash }
/-- Erase the 64 KiB sectors that a range touches, then program it. -/
def State.flashProgram (a : Nat) (d : Bytes) (s : State) : State :=
  let lo := a / 65536 * 65536
  let hi := (a + d.length + 65535) / 65536 * 65536
  s.modFlash fun m => memWrite (memWrite m lo (List.replicate (hi - lo) 0xFF)) a d

/-! ### Containers (R435, R436) -/

/-- A container as its reader gives its bytes, in an area of so many bytes. -/
structure Container where
  head : Bytes
  area : Nat
deriving DecidableEq, Repr

def ceil64 (n : Nat) : Nat := (n + 63) / 64 * 64
/-- BLOCKS for a payload, length of the table, start of the payload. -/
def blocksOf (payload : Nat) : Nat := (payload + 65535) / 65536
def tableLen (payload : Nat) : Nat := 32 + 32 * blocksOf payload
def payloadAt (payload : Nat) : Nat := ceil64 (16512 + tableLen payload)

def conKind (h : Bytes) : Nat := byteAt h 6
def conVersion (h : Bytes) : Nat := u32At h 8
def conPayload (h : Bytes) : Nat := u32At h 12
def conRollback (h : Bytes) : Nat := u64At h 16
/-- Bytes of the whole container. -/
def conSize (h : Bytes) : Nat := payloadAt (conPayload h) + conPayload h
def zeros (b : Bytes) (o n : Nat) : Bool := (slice b o n).all (· == 0)

/-- Check 1 of Table 18.5, of a container whose bytes are `b`. -/
def conForm (kind : Nat) (b : Bytes) (area : Nat) : Bool :=
  16512 ≤ b.length && u32At b 0 == 0x4C565331 && u16At b 4 == 1 && conKind b == kind && byteAt b 7 ≤ 1 && conVersion b < 2 ^ 24
    && u32At b 24 < 4 && zeros b 30 2 && zeros b 112 144 && zeros b 16480 32 && zeros b 16516 28 && conSize b ≤ area
    && (if kind == 0 then 1 ≤ u16At b 28 && u16At b 28 ≤ 24 else u16At b 28 == 0 && conRollback b == 0)

/-- The SIGNER and key hash that a kind expects (R436); none: nothing is accepted. -/
def State.expectedKey (s : State) (kind : Nat) (newKey : Bytes) : Option (Nat × Bytes) :=
  if kind == 0 then some (0, s.sec.vendorHash)
  else if kind == 3 then some (1, if s.ownerKeySet then s.ownerHash else sha256 newKey)
  else if s.ownerKeySet then some (1, s.ownerHash)
  else if s.sec.fseal then none else some (0, s.sec.vendorHash)

/-- Checks of Table 18.5 numbered in `which`, in order; the first failure as (status, reason). -/
def State.conCheck (s : State) (kind : Nat) (b : Bytes) (area : Nat) (newKey : Bytes) (which : List Nat) : Option (Nat × Nat) :=
  let fails (n : Nat) : Option (Nat × Nat) :=
    match n with
    | 1 => if conForm kind b area then none else some (stBadArg, 1)
    | 2 => if bit (u32At b 24) (if s.is20 then 1 else 0) then none else some (stBadArg, 2)
    | 3 => if s.expectedKey kind newKey == some (byteAt b 7, sha256 (slice b 64 48)) then none else some (stAuthFail, 2)
    | 4 => if Config.slhVerify (slice b 64 48) (b.take 256) (slice b 256 16224) then none else some (stAuthFail, 3)
    | 5 => if (if kind == 0 then s.rollback ≤ conRollback b else kind == 3 || s.bundleFloor kind ≤ conVersion b) then none else some (stAuthFail, 4)
    | _ => if u32At b 16512 == blocksOf (conPayload b) && sha256 (slice b 16512 (tableLen (conPayload b))) == slice b 32 32 then none else some (stAuthFail, 7)
  which.findSome? fails

/-- Block k of a payload agrees with the block table (R435). -/
def conBlock (b : Bytes) (k : Nat) : Bool :=
  sha256 (slice b (payloadAt (conPayload b) + 65536 * k) (min 65536 (conPayload b - 65536 * k))) == slice b (16544 + 32 * k) 32
def conBlocks (b : Bytes) (n : Nat) : Bool := (List.range n).all (conBlock b)
def conPayloadBytes (b : Bytes) : Bytes := slice b (payloadAt (conPayload b)) (conPayload b)

/-- The container in a flash area. -/
def State.flashCon (s : State) (base area : Nat) : Bytes :=
  let h := s.flashRead base 16512
  s.flashRead base (min area (conSize h))
def allChecks : List Nat := [1, 2, 3, 4, 5, 6]
/-- A firmware slot verifies: Table 18.5 and the resident blocks (R437 steps 4 and 5). -/
def State.slotFails (s : State) (slot : Nat) : Option (Nat × Nat) :=
  let b := s.flashCon (slotBase slot) slotSize
  if !s.sec.flashPresent then some (stFaulted, 0)
  else match s.conCheck 0 b slotSize [] allChecks with
    | some e => some e
    | none => if conBlocks b (min (u16At b 28) (blocksOf (conPayload b))) then none else some (stFaulted, 0)

/-! ### Measurement (R444, R445) -/

/-- Extend M by an item. -/
def State.measure (kind version : Nat) (digest : Bytes) (s : State) : State :=
  s.modSec fun x => { x with
    items := x.items ++ [{ kind := kind, version := BitVec.ofNat 32 version, digest := digest }],
    measurement := sha256 (x.measurement ++ le 1 kind ++ le 4 version ++ digest) }

/-- CONFIG_DIGEST (R445). -/
def State.configDigest (s : State) : Bytes :=
  sha256 ([1, 2, 3, 4, 5, 6, 0x40].flatMap fun id =>
    let p := s.recPayload id
    le 2 id ++ le 4 ((p.getD []).length) ++ p.getD [])

def execSecQuery (m : Master) (s : State) : Result :=
  done (runCmd { code := 0x1300, cls := 0 } noUnit noPre (fun _ s =>
    (s, .ok ([if s.sec.fseal then 1 else 0, if s.ownerKeySet then 1 else 0] ++ le 1 s.tp.slot ++ [0] ++ le 8 s.rollback ++ s.sec.measurement ++ s.ownerHash))) m s)

/-! ### Security operations (R452) -/

def secOps : List Nat := [0x1302, 0x1303, 0x1304, 0x1305, 0x1306]
/-- One of the operations that run one at a time is pending (R452). -/
def State.secBusy (s : State) : Bool := s.ctl.pendingOps.any fun o => secOps.contains o.code

/-- SEC.ATTEST (R446): the report is written when the operation completes. -/
def execSecAttest (m : Master) (s : State) : Result :=
  done (runCmd { code := 0x1301, cls := 0, bulk := some 1, len := 48, args := [{ off := 16, n := 32 }] } noUnit
    (fun c _ => if c.u32 8 < 36864 then some (8, 0) else none)
    (fun _ s => if s.opOn 0x1305 then (s, .fail stBusy) else (s, .pend (ms 300) 0)) m s)

/-- The report of Table 18.9 without its signature. -/
def State.attestBody (s : State) (nonce : Bytes) : Bytes :=
  le 4 0x4C564154 ++ le 2 1 ++ le 2 s.sec.items.length ++ le 8 s.id.serial.toNat ++ le 4 (if s.is20 then 0x9620 else 0x9640) ++ le 4 s.id.siliconRev.toNat
    ++ le 4 s.fwActive ++ [if s.sec.fseal then 1 else 0, if s.ownerKeySet then 1 else 0] ++ le 1 s.mode.mode.code ++ [0]
    ++ le 8 s.rollback ++ le 8 s.time ++ pad 32 nonce ++ s.sec.measurement ++ s.configDigest ++ s.ownerHash ++ slice s.identity 8 48
    ++ s.sec.items.flatMap fun i => le 1 i.kind ++ [0, 0, 0] ++ le 4 i.version.toNat ++ pad 32 i.digest

/-- The secret key in force: the first 96 bytes of IDENTITY_SECRET (SLH-DSA-SHA2-192f). -/
def State.identitySecret (s : State) : Bytes := pad 96 ((s.recPayload 0x205).getD [])
def signBytes (key msg : Bytes) : Bytes := (List.range 35664).map (Config.slhSign key msg)
def State.attestReport (s : State) (nonce : Bytes) : Bytes := let b := s.attestBody nonce; b ++ signBytes s.identitySecret b

/-- SEC.FW_STAGE (R450): checks 1 to 4 on the buffer decide the completion; the slot becomes invalid at once. -/
def execSecFwStage (m : Master) (s : State) : Result :=
  done (runCmd { code := 0x1302, cls := 1, bulk := some 0, len := 17, args := [{ off := 16 }] } noUnit
    (fun c s => if c.u8 16 == s.tp.slot || 1 < c.u8 16 then some (16, 3) else if 24 * 2 ^ 20 < c.u32 8 then some (8, 0) else none)
    (fun c s =>
      if s.secBusy then (s, .fail stBusy)
      else
        let bad := s.conCheck 0 (c.bulkBytes s) c.size [] [1, 2, 3, 4]
        (s.setSlot (c.u8 16) false none, .pend (ms 90000) ((bad.map (·.1)).getD 0))) m s)

/-- Steps 3 to 5 of R450: program, read back, verify, set SLOT_VALID. The status and RESULT of the completion. -/
def State.stageDone (slot : Nat) (d : Bytes) (ok : Bool) (s : State) : State × Nat × Bytes :=
  let s := s.flashProgram (slotBase slot) d
  let b := s.flashCon (slotBase slot) slotSize
  if !ok then (s, stFaulted, [])
  else match s.conCheck 0 b slotSize [] allChecks with
    | some (st, _) => (s, st, [])
    | none => if conBlocks b (blocksOf (conPayload b)) then (s.setSlot slot true (some (conVersion b)), stOk, le 4 (conVersion b)) else (s, stFaulted, [])

/-- SEC.FW_ACTIVATE (R451): the drain of the live update begins. -/
def execSecFwActivate (m : Master) (s : State) : Result :=
  done (runCmd { code := 0x1303, cls := 1, len := 1, args := [{ off := 0 }] } noUnit
    (fun c s => if c.u8 0 == s.tp.slot || 1 < c.u8 0 then some (0, 3) else none)
    (fun c s =>
      let b := s.flashCon (slotBase (c.u8 0)) slotSize
      if !s.slotValid (c.u8 0) then (s, .fail stAuthFail)
      else match s.conCheck 0 b slotSize [] [3, 4, 5, 6] with
        | some (st, r) => (s, .err st 0xFF r 0xFFFF)
        | none =>
          if s.secBusy then (s, .fail stBusy)
          else if 16 ≤ s.sec.items.length then (s, .fail stNoResource)
          else
            let s := s.setPreferred (c.u8 0) true
            (s.modTp fun t => { t with state := .draining, deadline := some (s.time + ms 100), oldSlot := t.slot, restartCause := 0 }, .pend (ms 1000) (c.u8 0))) m s)

/-- SEC.OWNER_KEY (R442): the rotation container and its payload. -/
def execSecOwnerKey (m : Master) (s : State) : Result :=
  done (runCmd { code := 0x1304, cls := 1, bulk := some 0, len := 16 } noUnit noPre
    (fun c s =>
      let b := c.bulkBytes s
      let p := conPayloadBytes b
      let key := slice p 16 48
      let removes := key.all (· == 0)
      let bad (st r : Nat) : State × Reply := (s, .err st 0xFF r 0xFFFF)
      match s.conCheck 3 b c.size key [1, 2] with
      | some (st, r) => bad st r
      | none =>
        if conPayload b != 96 || !zeros p 64 32 || (removes && !s.ownerKeySet) then bad stBadArg 1
        else if removes && s.sec.fseal then (s, .fail stSealed)
        else match s.conCheck 3 b c.size key allChecks with
          | some (st, r) => bad st r
          | none =>
            if !conBlocks b 1 then bad stAuthFail 7
            else if u64At p 0 != s.id.serial.toNat || u64At p 8 ≤ u64At s.ownerKey 32 || (!s.ownerKeySet && slice b 64 48 != key) then bad stAuthFail 8
            else if s.secBusy then (s, .fail stBusy)
            else (s, .pend (ms 100) 0)) m s)

/-- The rotation takes effect: OWNER_KEY with the new hash and ROTATION_SEQ. -/
def State.rotateDone (b : Bytes) (s : State) : State :=
  let p := conPayloadBytes b
  let key := slice p 16 48
  s.writeRecord 0x202 ((if key.all (· == 0) then List.replicate 32 0 else sha256 key) ++ slice p 8 8)

/-- SEC.SEAL (R447); `sealEn` is the level of SEAL_EN at execution (R63). -/
def execSecSeal (m : Master) (sealEn : Bool) (s : State) : Result :=
  let s := s.modPins fun p => { p with sealEn := sealEn }
  done (runCmd { code := 0x1305, cls := 1, len := 4, args := [{ off := 0, n := 4, lo := 0x5EA10F1D, hi := 0x5EA10F1D }] } noUnit noPre
    (fun _ s =>
      if s.sec.fseal then (s, .fail stSealed)
      else if !s.pins.sealEn then (s, .err stAuthFail 0xFF 1 0xFFFF)
      else if !s.ownerKeySet then (s, .err stAuthFail 0xFF 6 0xFFFF)
      else if s.secBusy then (s, .fail stBusy)
      else (s, .pend (ms 2000) 0)) m s)

/-- The factory secret: alone in its record, or behind the key of a seal that did not end. -/
def State.factoryKey (s : State) : Bytes :=
  let b := (s.recPayload 0x205).getD []
  pad 96 (if 96 < b.length then b.drop 96 else b)

/-- Steps 2 and 3 of R448: a fresh key (free bytes, log 8), its certificate by the factory key, both records. -/
def State.sealKeys (s : State) : State :=
  let n := s.free
  let fresh := (List.range 96).map fun i => Config.freeByte (n + i)
  let s := s.modFree (· + 96)
  let old := s.factoryKey
  let pk := (List.range 48).map (Config.slhPublic fresh)
  let cert := signBytes old (le 8 s.id.serial.toNat ++ pk ++ [1])
  let id := s.identity
  (s.writeRecord 0x205 (fresh ++ old)).writeRecord 0x204 (le 2 1 ++ List.replicate 6 0 ++ pk ++ slice id 56 48 ++ slice id 104 16224 ++ cert)

/-- Step 6 of R448: IDENTITY_SECRET with the new secret alone, in both slots. -/
def State.sealSecret (s : State) : State :=
  let k := s.identitySecret
  (s.writeRecord 0x205 k).writeRecord 0x205 k

/-- Steps 4 to 7 of R448. -/
def State.sealDone (s : State) : State :=
  ((s.modSec fun x => { x with fseal := true, tapLocked := true }).sealSecret).post 0x1381 3 []

/-- IDENTITY_SECRET still holds the factory secret. -/
def State.factorySecret (s : State) : Bool := 96 < ((s.recPayload 0x205).getD []).length

/-- A seal that power loss cut off is finished at boot (R449). -/
def State.sealAtBoot (s : State) : State :=
  if s.sec.fseal && (s.factorySecret || u16At s.identity 0 == 0 && (s.recPayload 0x205).isSome) then
    let s := if u16At s.identity 0 == 1 then s.sealSecret else s.sealKeys.sealSecret
    (s.modSec fun x => { x with tapLocked := true }).post 0x1381 3 []
  else s

/-- SEC_STATE and ROLLBACK at READY (R438). -/
def State.confirmReady (s : State) : State :=
  let s := if s.trial then s.setPreferred s.preferred false else s
  let v := conRollback (s.flashRead (slotBase s.tp.slot) 256)
  if s.rollback < v then s.writeRecord 0x201 (le 8 v) else s

end Sys2Proof.Machine
end

