-- ==== Sys2Proof/Machine/Degrade.lean ====
section
/-! DEFINITION. Reductions and the causes that the next latch point judges (spec/01, R25 to R27; spec/04, Table 4.3). -/

namespace Sys2Proof.Machine

/-- A reduction cause is detected (R25); the next latch point applies and reports it. One that is in force stays one. -/
def State.detect (cause unit : Nat) (s : State) : State :=
  s.modMode fun m =>
    if (m.reductions ++ m.detected).any fun r => r.cause == cause && r.unit == unit then m
    else { m with detected := m.detected ++ [{ cause := cause, unit := unit, at_ := s.time }] }

/-- A reduction of the capability record that degrades no mode (R334). -/
def State.reduce (cause unit : Nat) (s : State) : State :=
  s.modMode fun m =>
    if m.reductions.any fun r => r.cause == cause && r.unit == unit then m
    else { m with reductions := m.reductions ++ [{ cause := cause, unit := unit, at_ := s.time }] }

/-- A reduction cause clears (R26). -/
def State.clearCause (cause unit : Nat) (s : State) : State :=
  s.modMode fun m => { m with
    reductions := m.reductions.filter fun r => !(r.cause == cause && r.unit == unit),
    detected := m.detected.filter fun r => !(r.cause == cause && r.unit == unit) }

/-- Causes that keep the device in DEGRADED-FIELD (R25): Table 4.10, 0x10 to 0x16. -/
def degrades (r : Reduction) : Bool := 0x10 ≤ r.cause && r.cause ≤ 0x16

/-- The light field is lost (R27): SAFE-VIEW at the next latch point. -/
def State.loseLight (s : State) : State := s.modMode fun m => { m with lightLost := true }

/-- The mode shows the light field. -/
def State.inField (s : State) : Bool := s.mode.mode == .field || s.mode.mode == .degraded

end Sys2Proof.Machine
end

