-- ==== Sys2Proof/Machine/Housekeeping.lean ====
section
/-! DEFINITION. Housekeeping conversions, thresholds, thermal steps, the hardware trip and background calibration (spec/17). -/

namespace Sys2Proof.Machine

def State.sensor (s : State) (i : Nat) : Sensor := s.hk.sensors.getD i {}
def State.modSensor (i : Nat) (f : Sensor → Sensor) (s : State) : State := s.modHk fun h => { h with sensors := h.sensors.modify i f }

/-- Offset trim of a sensor in S11.4 codes: the trim counts 0.125 °C (Table 17.6, log 31). -/
def State.sensorTrim (s : State) (i : Nat) : Int := 2 * listAt (s.hk.cal.getD 1 {}).trims i
/-- The corrected code of a sensor (R408). -/
def State.tempOf (s : State) (i raw : Nat) : Int := (raw : Int) - 1024 + s.sensorTrim i

/-- Voltage channels of 1 mV per code; the others take 0.5 mV (Table 17.1). -/
def milliVolt (c raw : Nat) : Nat := if 40 ≤ c ∧ c ≤ 47 then raw else (raw + 1) / 2
/-- Current channels in mA (Table 17.1). -/
def milliAmp (c raw : Nat) : Nat :=
  if c ≤ 57 then 40 * raw else if c == 58 then 20 * raw else if c ≤ 60 then 5 * raw else if c == 61 then 2 * raw
  else if c == 62 then roundNat raw 5 else roundNat raw 20
/-- VALUE of HK.CONVERT: m°C, mV or mA. -/
def State.hkValue (s : State) (c raw : Nat) : Int :=
  if c < 24 then roundDiv (125 * s.tempOf c raw) 2 else if c < 56 then milliVolt c raw else milliAmp c raw

/-! ### Sensor states and the thermal step (R411 to R414) -/

/-- The highest step a sensor requests (R413); a faulted sensor is left out (R411). -/
def Sensor.request (x : Sensor) : Nat :=
  if x.faulted then 0 else (List.range 5).foldl (fun a k => if x.holds.getD (3 + k) false then k + 1 else a) 0

/-- Groups of Table 17.1. -/
def sensorGroups : List (List Nat) := [List.range 17, [17, 18], [19, 20], [21, 22, 23]]
/-- Every sensor of some group is faulted (R411). -/
def State.groupLost (s : State) : Bool := sensorGroups.any fun g => g.all fun i => (s.sensor i).faulted

/-- The sensor that requests the highest step, and that step. -/
def State.hottestRequest (s : State) : Nat × Nat :=
  (List.range 24).foldl (fun (i, r) j => if r < (s.sensor j).request then (j, (s.sensor j).request) else (i, r)) (0, 0)

def State.setStep (step : Nat) (s : State) : State :=
  let (i, _) := s.hottestRequest
  let s := s.modHk fun h => { h with step := step, lastStep := some s.time }
  s.post 0x1081 2 (le 1 step ++ le 1 i ++ le 2 s.thermalLimit ++ le 2 (wrap 16 (s.sensor i).last))

/-- Move the step toward the highest request once 100 ms have passed (R414); a lost group sets step 5 (R411). -/
def State.moveStep (s : State) : State :=
  if s.groupLost then (if s.hk.step == 5 then s else s.setStep 5)
  else
    let r := s.hottestRequest.2
    if (match s.hk.lastStep with | some t => s.time < t + ms 100 | none => false) || r == s.hk.step then s
    else s.setStep (if s.hk.step < r then s.hk.step + 1 else s.hk.step - 1)

/-- The highest request differs from the step in force and its 100 ms end (R414). -/
def execThermalStepChange (s : State) : Result :=
  done (s.when (s.groupLost || s.hottestRequest.2 != s.hk.step) fun s =>
    (s.timeTo ((s.hk.lastStep.map (· + ms 100)).getD 0)).moveStep)

/-- Any unfaulted sensor holds LOW_STOP (R415). -/
def State.lowHold (s : State) : Bool := s.hk.sensors.any fun x => !x.faulted && x.holds.getD 0 false
/-- Unfaulted sensors read within 3 °C of each other (R421). -/
def State.isothermal (s : State) : Bool :=
  let l := (s.hk.sensors.filter (!·.faulted)).map (·.last)
  l.all fun a => l.all fun b => (a - b).natAbs ≤ 48

/-- HK_THERMAL. -/
def State.hkThermal (s : State) : Nat :=
  let hot := (List.range 24).foldl (fun (b : Option Nat) i => if (s.sensor i).faulted then b else match b with
    | some j => if (s.sensor j).last < (s.sensor i).last then some i else b
    | none => some i) none
  s.hk.step + s.thermalLimit * 256 + hot.getD 0 * 65536 + bitOf s.hk.selfHeating 21 + bitOf s.lowHold 22 + min 255 s.hk.trips.toNat * 2 ^ 24
def State.hkSensorFault (s : State) : Nat := maskOf 24 fun i => (s.sensor i).faulted

/-- One threshold of a sensor against a reading: its new state and run count (Table 17.2). Low thresholds come first. -/
def judge (low : Bool) (thr : Int) (held : Bool) (run : Nat) (v : Int) : Bool × Nat :=
  let toward := if low then (if held then thr + 48 ≤ v else v < thr) else (if held then v < thr - 48 else thr ≤ v)
  if !toward then (held, 0) else if run + 1 < 8 then (held, run + 1) else (!held, 0)

/-- A round conversion of a sensor (R411, R413). -/
def State.convertSensor (i raw : Nat) (s : State) : State :=
  let x := s.sensor i
  let rail := raw == 0 || raw == 4095
  let run := if rail != x.faulted then x.railRun + 1 else 0
  let flips := run == 8
  let faulted := if flips then !x.faulted else x.faulted
  let v := s.tempOf i raw
  let js := (List.range 8).map fun k => judge (k < 2) (x.thresholds.getD k 0) (x.holds.getD k false) (x.runs.getD k 0) v
  let y : Sensor := { x with last := v, railRun := if flips then 0 else run, faulted := faulted, peak := max x.peak v }
  let y := if faulted then { y with runs := List.replicate 8 0, hit := false } else { y with holds := js.map (·.1), runs := js.map (·.2) }
  let s := s.modSensor i fun _ => y
  (List.range 3).foldl (fun t k =>
    if x.holds.getD k false != y.holds.getD k false then
      t.post 0x1080 1 (le 1 i ++ le 1 k ++ [if y.holds.getD k false then 1 else 0, 0] ++ le 2 (wrap 16 v))
    else t) s

/-! ### Placard temperature (R410, R382) -/

/-- Interpolate the PLC_THERM table at twice the voltage in mV. -/
def thermAt : List (Nat × Int) → Nat → Int
  | (v0, t0) :: (v1, t1) :: rest, x =>
    if x ≤ 2 * v0 then t0
    else if x ≤ 2 * v1 then roundDiv (t0 * (2 * v1 - 2 * v0 : Int) + (t1 - t0) * (x - 2 * v0 : Int)) (2 * v1 - 2 * v0 : Int)
    else thermAt ((v1, t1) :: rest) x
  | [(_, t)], _ => t
  | [], _ => 400

/-- Band of a temperature (R382), and the band in force with its 1 °C hysteresis. -/
def bandOf (t : Int) : Nat := (clampI 0 7 ((t + 320).fdiv 160)).toNat
def nextBand (now : Nat) (t : Int) : Nat := if now < bandOf (t - 16) then bandOf (t - 16) else if bandOf (t + 16) < now then bandOf (t + 16) else now

/-! ### Rounds (R408, R409) -/

/-- Channels of a round: all of them, or the reduced round of DORMANT and the trip state. -/
def State.roundChannels (s : State) : List Nat :=
  if s.pwr.phase == .dormant || s.pwr.phase == .trip then List.range 24 ++ [34, 40, 41] else List.range 64

/-- A round is complete. -/
def State.endRound (s : State) : State :=
  let s := s.modHk fun h =>
    let second := h.rounds.toNat % 100 == 99
    { h with
      raw := h.rawNow, rounds := h.rounds + 1, slot := 0, demandsUsed := 0,
      sensors := h.sensors.map fun x =>
        let x := { x with hitOnce := x.hitNow, hitNow := false }
        let x := match x.next with | some t => { x with thresholds := t, next := none, runs := List.replicate 8 0 } | none => x
        if second then { x with peaks := (x.peak :: x.peaks).take 9, peak := -32768 } else x }
  let t := thermAt s.nvm.board.therm (s.hk.raw.getD 48 0)
  (s.modHk fun h => { h with placardTemp := t }).modPlc fun p => { p with bandNow := nextBand p.bandNow t }

/-- Self-heating ends when no sensor holds LOW_STOP (R416). -/
def State.stopHeating (s : State) : State :=
  s.when (s.hk.selfHeating && !s.lowHold) fun s =>
    let keep (d : Nat) := s.mode.mode == .field || s.mode.mode == .degraded || s.ray.safeDomains.contains d
    ((s.hk.heated.foldl (fun t d => if keep d then t else t.reqDomain d false 0) s).modHk fun h => { h with selfHeating := false, heated := [] }).modGov
      fun g => { g with cap := false, capSteps := 0 }

/-- The conversion of the next slot, whose code is `raw` (R408 to R414). -/
def State.conversion (raw : Nat) (s : State) : State :=
  let reduced := s.roundChannels.length < 64
  let s := if reduced && s.hk.slot == 0 then s.nextPeriod (ms 100) else s.nextPeriod 15625
  match s.hk.demands, decide (s.hk.demandsUsed < 4) with
    | d :: rest, true =>
      let s := s.modHk fun h => { h with demands := rest, demandsUsed := h.demandsUsed + 1 }
      (s.modCtl fun c => { c with executing := c.executing.filter fun e => !(e.master == d.master && e.code == 0x1002) }).answer
        d.master 0x1002 d.tag.toNat stOk 0 (le 2 raw ++ [0, 0] ++ le 4 (wrap 32 (s.hkValue d.channel raw)))
    | _, _ =>
      let chs := s.roundChannels
      let c := chs.getD s.hk.slot 63
      let s := s.modHk fun h => { h with rawNow := h.rawNow.set c raw, slot := h.slot + 1 }
      let s := if c < 24 then (s.convertSensor c raw).moveStep else s
      let s := s.modHk fun h => { h with
        isoSince := if s.isothermal then some (h.isoSince.getD s.time) else none,
        coolSince := if (h.sensors.all fun x => x.faulted || x.last ≤ 1520) then some (h.coolSince.getD s.time) else none }
      let s := s.stopHeating
      if chs.length ≤ s.hk.slot then s.endRound else s

/-- Taproot starts self-heating while a sensor holds LOW_STOP (R416): the clusters that do not render are switched on. -/
def execSelfHeatingStart (s : State) : Result :=
  done (s.when (s.tp.state == .running && s.lowHold && !s.hk.selfHeating) fun s =>
    let ds := (List.range 17).filter fun d => s.hasCluster d && !s.domOn d
    (ds.foldl (fun t d => t.reqDomain d true 0) s).modHk fun h => { h with selfHeating := true, heated := ds })

/-! ### The hardware trip (R417 to R420) -/

/-- The trip sequence of Table 17.4: no event is posted, no write but the trip marker reaches NVM. Where the steps it shares
with the abrupt-loss sequence have run already, it does its own alone (R59). -/
def State.trip (i : Nat) (s : State) : State :=
  let x := s.sensor i
  let peak := x.peaks.foldl max x.peak
  let aon := s.pwr.aonBase + s.time
  let rings := s.ctl.rings
  let queue := s.nvm.logQueue
  let s := ((s.emit (.pin .thermTripN false 0)).modPins fun p => { p with thermTripN := false }).cutWrites
  let s := s.modCtl fun c => { c with rings := c.rings.map fun r => { r with mask := 0 } }
  let ran := s.pwr.phase == .lossWait || s.pwr.phase == .heldReset || s.pwr.phase == .softReset
  let s := if ran then s else ((((s.displayPinsFall 1000).panelDown 1000).placardCut 50000).allOff 4).enablesLow 1500000
  let s := (s.modCtl fun c => { c with rings := rings }).modNvm fun n => { n with logQueue := queue }
  let n := s.hk.trips.toNat + 1
  let s := s.modHk fun h => { h with
    trips := BitVec.ofNat 32 n, tripTimes := (h.tripTimes ++ [aon]).filter fun t => aon < t + 3600 * 10 ^ 9,
    tripInfo := some (i, peak, aon), coolSince := none, slot := 0 }
  ((s.modNvm fun m => { m with tripMarker := some (aon, n, peak, i) }).modPwr fun p => { p with
    phase := .trip, tripSeq := true, lossSeq := p.phase == .lossWait }).modTime (· + 1600000)

/-- One fast-comparator sample of a sensor, every 5 µs (R417): two consecutive hits of one comparator start the trip. -/
def execFastComparatorSample (sensor : Nat) (hit : Bool) (s : State) : Result :=
  let s := if sensor == 0 then s.nextPeriod (us 5) else s
  let x := s.sensor sensor
  done (if x.faulted || s.pwr.phase == .trip || 24 ≤ sensor then s
  else if hit && x.hit then s.trip sensor
  else s.modSensor sensor fun x => { x with hit := hit, hitNow := x.hitNow || hit })

/-- Every unfaulted sensor has read at most 95 °C for 10 s: THERM_TRIP_N is released and the device cold-boots (R420); with
a coinciding abrupt loss it waits for power as well (R59). -/
def execTripRestart (s : State) : Result :=
  done (match s.hk.coolSince with
    | some t => s.when (s.pwr.phase == .trip && !s.pwr.lossSeq && s.pins.pwrOk) fun s =>
        let s := s.timeTo (t + 10 ^ 10)
        let now := s.pwr.aonBase + s.time
        let often := 3 ≤ (s.hk.tripTimes.filter fun x => now < x + 3600 * 10 ^ 9).length
        let s := s.coldBoot 8
        ((s.emit (.pin .thermTripN true 0)).modPins fun p => { p with thermTripN := true }).modHk fun h => { h with safeBoot := often }
    | none => s)

/-! ### HK commands (Table 4.7) -/

/-- The state byte of a sensor (Table 17.5). -/
def Sensor.byte (x : Sensor) : Nat :=
  (if x.holds.getD 0 false then 2 else if x.holds.getD 1 false then 1 else 0) + bitOf (x.holds.getD 2 false) 2 + x.request * 8
    + bitOf x.hitOnce 6 + bitOf x.faulted 7

def execHkQuery (m : Master) (s : State) : Result :=
  done (runCmd { code := 0x1000, cls := 0, len := 1, args := [{ off := 0, hi := 3 }] } noUnit noPre (fun c s =>
    let raw (i : Nat) := s.hk.raw.getD i 0
    (s, .ok (match c.u8 0 with
      | 0 => (List.range 24).flatMap fun i => le 2 (wrap 16 (s.tempOf i (raw i)))
      | 1 => (List.range 32).flatMap fun i => le 2 (milliVolt (24 + i) (raw (24 + i)))
      | 2 => (List.range 8).flatMap fun i => le 4 (milliAmp (56 + i) (raw (56 + i)))
      | _ => s.hk.sensors.map fun x => BitVec.ofNat 8 x.byte))) m s)

/-- HK.THRESHOLD_SET (R412): the new values apply from the next round. -/
def execHkThresholdSet (m : Master) (s : State) : Result :=
  done (runCmd { code := 0x1001, cls := 1, len := 20, args := [{ off := 0 }, { off := 2, n := 18 }] } noUnit
    (fun c _ =>
      let v := (List.range 9).map fun i => c.s16 (2 + 2 * i)
      if 24 ≤ c.u8 0 && c.u8 0 != 0xFF then some (0, 0)
      else if v.getD 0 0 < -880 then some (2, 0)
      else match (List.range 8).find? fun i => v.getD (i + 1) 0 ≤ v.getD i 0 with
        | some i => some (4 + 2 * i, 0)
        | none => if v.getD 8 0 < 1760 || 2000 < v.getD 8 0 then some (18, 0) else none)
    (fun c s =>
      let v := (List.range 9).map fun i => c.s16 (2 + 2 * i)
      let s := s.modHk fun h => { h with sensors := h.sensors.mapIdx fun i x => if c.u8 0 == 0xFF || c.u8 0 == i then { x with next := some v } else x }
      (s.deferRecord 5 (s.hk.sensors.flatMap fun x => (x.next.getD x.thresholds).flatMap fun t => le 2 (wrap 16 t)), .ok [])) m s)

/-- HK.CONVERT (R409): the answer waits for the slot of the conversion. -/
def execHkConvert (m : Master) (s : State) : Result :=
  done (runCmd { code := 0x1002, cls := 0, len := 1, args := [{ off := 0, hi := 63 }] } noUnit noPre
    (fun c s => (s.modHk fun h => { h with demands := h.demands ++ [{ channel := c.u8 0, master := c.m, tag := BitVec.ofNat 8 c.tag }] }, .wait (ms 5))) m s)

/-! ### Background calibration (R421, R422) -/

/-- The item has a trim of this INDEX in the part (Table 17.6). -/
def State.hasTrim (s : State) (item i : Nat) : Bool :=
  match item with
  | 1 => i < 24
  | 2 => s.hasLane i
  | 3 => i < 128 && s.hasLane i && (i < 96 || i % 2 == 0)
  | 4 => s.hasChannel (i / 18)
  | 7 => i < 4
  | _ => i == 0

/-- Bits of a trim, and whether it is signed. -/
def trimBits (item : Nat) : Nat × Bool :=
  match item with
  | 0 => (8, false)
  | 1 => (8, true)
  | 2 => (7, true)
  | 3 => (6, false)
  | 4 => (6, false)
  | 7 => (8, false)
  | _ => (10, false)
def trimClamp (item : Nat) (v : Int) : Int :=
  let (b, sg) := trimBits item
  if sg then clampI (-(2 ^ (b - 1) : Nat)) ((2 ^ (b - 1) : Nat) - 1) v else clampI 0 ((2 ^ b : Nat) - 1) v

/-- A calibration loop finds a new best trim; it enters the item's record under R422. -/
def State.calibrate (item i : Nat) (trim : Int) (s : State) : State :=
  (s.modHk fun h => { h with cal := h.cal.modify item fun c => { c with trims := setAt c.trims i (trimClamp item trim) } }).checkTrims item

/-- The loop of item 1 runs when the die has been isothermal for 10 s (R421), that of item 7 while the pump runs. -/
def State.calRuns (s : State) (item : Nat) : Bool :=
  match item with
  | 1 => s.hk.isoSince.any fun t => t + 10 ^ 10 ≤ s.time
  | 7 => s.plc.pump
  | _ => true

def execCalibrationLoop (item index : Nat) (trim : Int) (s : State) : Result :=
  done (s.when (item < 8 && s.hasTrim item index && !(s.hk.cal.getD item {}).held && s.calRuns item) (·.calibrate item index trim))

def execCalQuery (m : Master) (s : State) : Result :=
  done (runCmd { code := 0x1100, cls := 0, len := 4, args := [{ off := 0, hi := 7 }, { off := 2, n := 2 }] }
    (fun c s => if c.u8 0 < 8 && !s.hasTrim (c.u8 0) (c.u16 2) then some 0xFFFF else none) noPre
    (fun c s =>
      let x := s.hk.cal.getD (c.u8 0) {}
      (s, .ok (le 2 (wrap 16 (listAt x.trims (c.u16 2))) ++ [0, 0] ++ le 4 x.nvmWrites.toNat ++ le 8 (x.lastWrite.getD 0)))) m s)

/-- CAL.RUN: the loops run; the trim found completes it. -/
def execCalRun (m : Master) (s : State) : Result :=
  done (runCmd { code := 0x1101, cls := 1, len := 4, args := [{ off := 0, hi := 7 }, { off := 2, n := 2 }] }
    (fun c s => if c.u8 0 < 8 && c.u16 2 != 0xFFFF && !s.hasTrim (c.u8 0) (c.u16 2) then some 0xFFFF else none) noPre
    (fun c s => if s.opOn 0x1101 fun a => byteAt a 0 == c.u8 0 then (s, .fail stBusy) else (s, .pend (ms 100) 0)) m s)

/-- CAL.HOLD: in MAINTENANCE only; a hold that ends lets drifted trims be written. -/
def execCalHold (m : Master) (s : State) : Result :=
  done (runCmd { code := 0x1102, cls := 1, len := 2, args := [{ off := 0, hi := 7 }, { off := 1, hi := 1 }] } noUnit noPre
    (fun c s =>
      if s.mode.mode != .maintenance then (s, .fail stWrongMode)
      else if s.opOn 0x1101 fun a => byteAt a 0 == c.u8 0 then (s, .fail stBusy)
      else ((s.modHk fun h => { h with cal := h.cal.modify (c.u8 0) fun x => { x with held := c.u8 1 == 1 } }).checkTrims (c.u8 0), .ok [])) m s)

/-- Every hold of a calibration loop ends with MAINTENANCE (Table 4.7). -/
def State.endCalHolds (s : State) : State :=
  (List.range 8).foldl (fun t i => t.checkTrims i) (s.modHk fun h => { h with cal := h.cal.map fun x => { x with held := false } })

end Sys2Proof.Machine
end

