-- ==== Sys2Proof/Machine/Memory.lean ====
section
/-! DEFINITION. The memory controllers: start-up, requests, refresh, row hammer, ECC, scrub, retraining, removal and
re-allocation (spec/13). -/

namespace Sys2Proof.Machine

def State.memQ (s : State) (n : Nat) : MemQ := s.mem.queues.getD n {}
def State.modMemQ (n : Nat) (f : MemQ → MemQ) (s : State) : State := s.modMem fun m => { m with queues := m.queues.modify n f }

/-- `c` clocks of 1.2 GHz in ns, rounded up. -/
def clocksNs (c : Nat) : Nat := (10 * c + 11) / 12
def State.trcNs (s : State) : Nat := clocksNs s.mem.cfg.trc
/-- Refresh window in ns (Table 13.1). -/
def State.windowNs (s : State) : Nat := if s.mem.cfg.window32 then ms 32 else ms 64

/-- The channel serves requests: ACTIVE, or RETRAINING or under test in the interleave (R351, R353). -/
def MemCh.serving (c : MemCh) : Bool := c.inMap && !c.removing && (c.state == 3 || c.state == 4 || c.state == 6)

/-- UNIT_STATUS of the domain shows the channel's state (R352). -/
def memUnitState : Nat → Nat
  | 0 => 0
  | 3 => 4
  | 5 => 7
  | 6 => 6
  | _ => 2
def State.chanState (n st : Nat) (s : State) : State :=
  (s.modChan n fun c => { c with state := st }).setUnit (domMC n) fun u => { u with state := memUnitState st, flowing := st == 3 || st == 4, faulted := st == 5 }

/-! ### Where an access lands (R330, R331) -/

def burstOf (l : Nat) : Nat := l / 64
def bankOf (l : Nat) : Nat := bits (burstOf l) 3 0 ^^^ bits (burstOf l) 14 11
/-- First device address of the burst: one with BL8, the even one of two with BL4. -/
def State.devAddr (s : State) (l : Nat) : Nat := if s.mem.cfg.bl8 then bits (burstOf l) 23 4 else 2 * bits (burstOf l) 22 4
def State.rowOf (s : State) (l : Nat) : Nat := s.devAddr l / 64
def State.rowGroup (s : State) (l : Nat) : Nat := s.devAddr l / 512
/-- Rows of a bank. -/
def State.rowCount (s : State) : Nat := if s.mem.cfg.dense || !s.mem.cfg.bl8 then 16384 else 8192

/-- Device address of a channel-local address under the map in force (R330 read backwards). -/
def State.deviceOf (s : State) (n l : Nat) : Nat :=
  let k := s.mem.map.length
  let q := l / 2048
  let h := (List.range 5).foldl (fun x j => x ^^^ (q / 16 ^ j % 16)) 0
  let i := (s.mem.map.findIdx? (· == n)).getD 0
  (q * k + (i + 16 * k - h) % k) * 2048 + l % 2048

/-! ### Taproot's own regions (R203, R335, R355) -/

/-- The SAFE-VIEW window, the tracking granules (the last granule of each channel, R335) and below them the 17 MiB of the
directory area. Where Taproot puts its areas, and their identifiers: log 53. -/
def State.ownRegions (s : State) : List Lease :=
  let window : Lease := { id := 0x8000, base := cellarBase, len := cellarSize, cls := 1 }
  let track := 2048 * s.mem.map.length
  let dir := 17 * 2 ^ 20
  if dir + track ≤ s.dramTop then
    [window, { id := 0x8001, base := s.dramTop - track - dir, len := dir, cls := 4 }, { id := 0x8002, base := s.dramTop - track, len := track, cls := 4 }]
  else [window]

/-- The highest place below `top` for n bytes that meets no region. -/
def highestFit (l : List Lease) (top n : Nat) : Option Nat :=
  let places := (top :: l.map (·.base)).filterMap fun t => if n ≤ t then some ((t - n) / 64 * 64) else none
  let free := places.filter fun b => b + n ≤ top && !(l.any fun r => overlaps b n r.base r.len)
  match free with
  | [] => none
  | b :: t => some (t.foldl max b)

/-- Identifiers from here on name raw buffers and disparity rings. -/
def ringIds : Nat := 0x8010
/-- Taproot's areas for raw buffers and disparity rings are those of `needs`, (LEASE_ID, bytes): one that keeps its size stays
where it is, a new one goes to the highest free place, none where there is no room (R128, R169, R203). -/
def State.reserve (needs : List (Nat × Nat)) (s : State) : State :=
  let keep (r : Lease) : Bool := r.id < ringIds || needs.any fun (i, n) => i == r.id && n == r.len
  let add (l : List Lease) (r : Nat × Nat) : List Lease :=
    if r.2 == 0 || l.any (·.id == r.1) then l
    else match highestFit l s.dramTop r.2 with
      | some b => l ++ [{ id := r.1, base := b, len := r.2, cls := 4 }]
      | none => l
  s.modLeases fun x => { x with regions := needs.foldl add (x.regions.filter keep) }

/-- Taproot's areas are placed anew under the map in force. -/
def State.placeOwn (s : State) : State :=
  let rings := (s.leases.regions.filter fun r => ringIds ≤ r.id).map fun r => (r.id, r.len)
  (s.modLeases fun l => { l with regions := l.regions.filter (·.id < 0x8000) ++ s.ownRegions }).reserve rings

/-! ### Start-up (R329, R332 to R334) -/

/-- The memory fields of the board record lie within Table 13.1 (R329). -/
def MemCfg.ok (c : MemCfg) : Bool := 8 ≤ c.rl && c.rl ≤ 16 && 6 ≤ c.trc && c.trc ≤ 12 && (c.bl8 || !c.dense)

def insertNat (x : Nat) : List Nat → List Nat
  | [] => [x]
  | y :: t => if x < y then x :: y :: t else if x == y then y :: t else y :: insertNat x t

/-- Training starts once the domain is on, for a channel of CHANNEL_MASK, above LOW_STOP (R332, R415). -/
def execChannelStartup (n : Nat) (s : State) : Result :=
  done (s.when (s.hasChannel n && s.domOn (domMC n) && s.mem.cfg.ok && s.mem.cfg.channelMask.getLsbD n && (s.chan n).state == 0 && !s.lowHold)
    (·.chanState n 1))

/-- Smaller eye of each byte lane: `eyes` are nine read eyes and nine write eyes in taps (R333). -/
def laneEyes (eyes : List Nat) : List Nat := (List.range 9).map fun i => min (eyes.getD i 0) (eyes.getD (9 + i) 0)
def eyesPass (eyes : List Nat) : Bool := (laneEyes eyes).all (24 ≤ ·)
/-- First failing byte lane, 0xFF none. -/
def failingLane (eyes : List Nat) : Nat := ((laneEyes eyes).findIdx? (· < 24)).getD 0xFF

def State.memRemaining (s : State) : Nat := (s.mem.map.filter fun c => !(s.chan c).removing).length

/-- Start-up ends (R332, R334): the channel is all zero and joins the map, or stays out of the boot map. -/
def execChannelStartupDone (n : Nat) (eyes : List Nat) (s : State) : Result :=
  done (s.when ((s.chan n).state == 1 && !(s.chan n).inMap) fun s =>
    let s := s.modChan n fun c => { c with eyes := laneEyes eyes, offsets := List.replicate 9 0 }
    if eyesPass eyes then
      let s := s.modChan n fun c => { c with inMap := true, poisonList := [] }
      ((s.modMem fun m => { m with dram := memClear m.dram (n * 2 ^ 30) ((n + 1) * 2 ^ 30), map := insertNat n m.map }).chanState n 3).placeOwn
    else
      (((s.chanState n 5).unitFault (domMC n) 0x22).post 0xC83 2 (le 1 n ++ le 1 s.memRemaining)).reduce 0x22 (domMC n)
        |>.reqDomain (domMC n) false 3)

/-! ### Removal (R354) -/

/-- Take the requests of a channel out of its queues: reads return poisoned, writes are discarded. -/
def State.flushQueue (n : Nat) (s : State) : State :=
  let q := s.memQ n
  ((q.reads ++ q.flight).foldl (fun t r => t.emit (.readData (256 + r.requester) (List.replicate 64 0) true)) s).modMemQ n fun _ => {}

/-- A memory test runs on channel n (R353). -/
def State.memTested (s : State) (n : Nat) : Bool := s.mem.tests.any (·.1 == n)
/-- The channel goes back to service, or stays removed. -/
def State.memTestOver (n : Nat) (s : State) : State :=
  (s.modMem fun m => { m with tests := m.tests.filter (·.1 != n) }).chanState n (if (s.chan n).inMap then 3 else 5)

/-- A memory test ends with the count so far, which no operand measures (R353): free values. -/
def State.endMemTest (n status : Nat) (s : State) : State :=
  s.when (s.memTested n) fun s =>
    let (e, s) := s.freeNat
    let (k, s) := s.freeNat
    let s := (s.ctl.pendingOps.filter fun o => o.code == 0x0C02 && byteAt o.args 0 == n).foldl (fun t o => t.complete o status (le 4 e ++ le 4 k)) s
    s.memTestOver n
def State.endMemTests (status : Nat) (s : State) : State := s.mem.tests.foldl (fun t x => t.endMemTest x.1 status) s

/-- Step 1 of R354: reads poisoned, writes discarded, the event; the remap waits for the latch point. -/
def State.removeChannel (n cause : Nat) (s : State) : State :=
  if !(s.chan n).inMap || (s.chan n).removing then s
  else
    let s := s.endMemTest n stOk
    let s := (s.modChan n fun c => { c with removing := true, retrainNeeded := false }).flushQueue n
    let s := ((s.setUnit (domMC n) fun u => { u with cause := cause }).modDom (domMC n) fun d => { d with lastCause := cause }).post 0xC83 2 (le 1 n ++ le 1 s.memRemaining)
    (s.detect 0x11 (domMC n)).when (s.memRemaining == 0) State.loseLight

def execChannelRemoval (n cause : Nat) (s : State) : Result := done (s.removeChannel n cause)

/-! ### Requests (R336 to R342) -/

/-- Shared entries that the queue's classes use: each class fills its reserved entries first (R336). -/
def sharedUsed (rt iso : Nat) (q : List MemReq) : Nat :=
  let n (k : Nat) := (q.filter (·.cls == k)).length
  (n 2 - rt) + (n 1 - iso) + n 0
/-- Room for one more request of a class. -/
def MemQ.room (q : MemQ) (write : Bool) (cls : Nat) : Bool :=
  let n (l : List MemReq) := (l.filter (·.cls == cls)).length
  if write then (cls == 1 && n q.writes < 8) || sharedUsed 0 8 q.writes < 24
  else (cls == 2 && n q.reads < 16) || (cls == 1 && n q.reads < 8) || sharedUsed 16 8 q.reads < 40

/-- Entry numbers rise in the order of entry. -/
def MemQ.nextId (q : MemQ) : Nat := (q.reads ++ q.writes ++ q.flight).foldl (fun a r => max a (r.id + 1)) 0

/-- Service class of a request (Table 13.5): the request says it only where the kind of traffic decides, as for tap writes and
the controller's own accesses. Plane fetches of a cluster are BE, and RT while the line store is below LOW (R225). -/
def State.reqClass (s : State) (r : Req) : Nat :=
  let k := r.requester
  if k < 0x10 || (0x18 ≤ k && k ≤ 0x20) || k == 0x5B then 1
  else if 0x10 ≤ k && k < 0x14 then (if r.write then min 1 r.cls else 1)
  else if 0x30 ≤ k && k ≤ 0x40 then (if s.disp.rtClass then 2 else 0)
  else if k == 0x48 then 2
  else if [0x49, 0x4A, 0x50, 0x58, 0x59, 0x5A, 0x60, 0x61].contains k then 0
  else if k == 0x70 then (if r.cls == 2 then 2 else 0)
  else r.cls

/-- Reads of a requester in flight, over all channels. -/
def State.readsOf (s : State) (k : Nat) : Nat := (s.mem.queues.map fun q => ((q.reads ++ q.flight).filter fun r => !r.write && r.requester == k).length).sum
/-- Bursts that a cluster may have in flight (R225). -/
def burstLimit : Nat := 3072
/-- The requester has a landing slot for the read (R31): a cluster has 3,072 (R225). -/
def State.lands (s : State) (r : Req) : Bool := r.write || !(0x30 ≤ r.requester && r.requester ≤ 0x40) || s.readsOf r.requester < burstLimit

/-- A request enters the queue of its channel when an entry is free, else it waits at its requester (R336). -/
def execMemRequestEnqueue (n : Nat) (req : Req) (s : State) : Result :=
  let q := s.memQ n
  let cls := s.reqClass req
  done (if (s.chan n).removing || (s.chan n).state == 5 then
      if req.write then s else s.emit (.readData (256 + req.requester) (List.replicate 64 0) true)
    else s.when ((s.chan n).serving && q.room req.write cls && req.addr < chanBytes s && s.lands req) fun s =>
      let r : MemReq := { id := q.nextId, requester := req.requester, cls := cls, write := req.write, addr := req.addr, data := req.data, since := s.time }
      s.modMemQ n fun q => if req.write then { q with writes := q.writes ++ [r] } else { q with reads := q.reads ++ [r] })

/-- R340: a read and an older pending write meet in a bank and row, so the bank serves in queue order. -/
def State.ordered (s : State) (q : MemQ) (bank : Nat) : Bool :=
  q.reads.any fun r => bankOf r.addr == bank && q.writes.any fun w => bankOf w.addr == bank && s.rowOf w.addr == s.rowOf r.addr && w.id < r.id

/-- Eligible but for the write-batch rule (R338, R340, R346). -/
def State.eligible (s : State) (q : MemQ) (r : MemReq) : Bool :=
  let b := bankOf r.addr
  q.busy.getD b 0 ≤ s.time
    && (!s.ordered q b || (q.reads ++ q.writes).all fun x => bankOf x.addr != b || r.id ≤ x.id)
    && !(q.throttles.any fun (k, bank, last) => k == r.requester && bank == b && s.time < last + 8 * s.trcNs)
    -- two writes to one burst issue in their order
    && !(r.write && q.writes.any fun w => burstOf w.addr == burstOf r.addr && w.id < r.id)

/-- Oldest request of the highest class. -/
def pickReq (l : List MemReq) : Option MemReq :=
  l.foldl (fun a r => match a with
    | none => some r
    | some x => if x.cls < r.cls || (x.cls == r.cls && r.id < x.id) then some r else a) none

/-- A write batch runs from 24 entries (30 of class BE under panic, R343) or when no read is eligible, down to 8. -/
def State.batchOn (s : State) (q : MemQ) (reads : List MemReq) : Bool :=
  let rt := reads.any (·.cls == 2)
  let strict := s.disp.panic && q.writes.all (·.cls == 0)
  if q.batch && !rt && 8 < q.writes.length then true
  else !rt && ((if strict then 30 else 24) ≤ q.writes.length || (reads.isEmpty && !strict && !q.writes.isEmpty))

/-- The request the controller issues now. -/
def State.nextReq (s : State) (n : Nat) : Option MemReq × Bool :=
  let q := s.memQ n
  let reads := q.reads.filter (s.eligible q)
  let writes := q.writes.filter (s.eligible q)
  -- a write that R340 brings forward counts outside the batches
  let forced := writes.filter fun w => s.ordered q (bankOf w.addr)
  let batch := s.batchOn q reads
  (if batch then pickReq writes else match pickReq reads with
    | some r => some r
    | none => pickReq forced, batch)

/-- Activations per requester of a bank, over all row groups. -/
def bankActs (acts : List (Nat × Nat × Nat × Nat)) (bank r : Nat) : Nat :=
  ((acts.filter fun (b, _, k, _) => b == bank && k == r).map fun (_, _, _, c) => c).sum
/-- The row group under which counts of a refreshed neighbourhood are kept for their requesters. -/
def settledGroup : Nat := 2 ^ 20
def addAct (bank group r n : Nat) (acts : List (Nat × Nat × Nat × Nat)) : List (Nat × Nat × Nat × Nat) :=
  if acts.any fun (b, g, k, _) => b == bank && g == group && k == r then
    acts.map fun (b, g, k, c) => if b == bank && g == group && k == r then (b, g, k, c + n) else (b, g, k, c)
  else acts ++ [(bank, group, r, n)]

/-- R346: the neighbourhood is refreshed, the count restarts, the busiest requester of the bank is throttled. -/
def State.hammer (n bank group : Nat) (s : State) : State :=
  let q := s.memQ n
  let mine (x : Nat × Nat × Nat × Nat) : Bool := x.1 == bank && x.2.1 == group
  let count := ((q.acts.filter mine).map fun x => x.2.2.2).sum
  if count ≤ s.mem.actThreshold then s
  else
    let s := (List.range 10).foldl (fun t i =>
      let row := 8 * group + i
      if 1 ≤ row && row - 1 < s.rowCount then t.emit (.dram n 0 bank ((row - 1) * 64)) else t) s
    let users := (q.acts.filter fun x => x.1 == bank).map fun x => x.2.2.1
    let worst := users.foldl (fun a r => if bankActs q.acts bank a < bankActs q.acts bank r || (bankActs q.acts bank a == bankActs q.acts bank r && r < a) then r else a) (users.headD 0)
    let acts := (q.acts.filter mine).foldl (fun l x => addAct bank settledGroup x.2.2.1 x.2.2.2 l) (q.acts.filter fun x => !mine x)
    let s := s.modMemQ n fun q => { q with acts := acts, throttles := q.throttles.filter (fun x => !(x.1 == worst && x.2.1 == bank)) ++ [(worst, bank, s.time)] }
    (s.modChan n fun c => { c with rowhammer := satInc c.rowhammer }).post 0xC82 1 (le 1 n ++ le 1 bank ++ le 1 worst)

/-! ### ECC (R347, R348) -/

/-- Times within the last second. -/
def State.within (s : State) (span : Nat) (l : List Nat) : List Nat := l.filter fun t => s.time < t + span

/-- A corrected burst: counted, written back, reported at most once a second (R347); 10,000 in a second retrain (R350). -/
def State.eccCorrected (n l : Nat) (s : State) : State :=
  let a := l / 64 * 64
  let s := s.modChan n fun c => { c with corrected := satInc c.corrected, corrSinceEvent := c.corrSinceEvent + 1, correctedSec := s.within (10 ^ 9) c.correctedSec ++ [s.time] }
  let s := s.modMemQ n fun q => if q.room true 0 then
      { q with writes := q.writes ++ [{ id := q.nextId, requester := 0x70, cls := 0, write := true, addr := a,
                                        data := (List.range 64).map fun o => (o, memGet s.mem.dram (dramKey (n, a + o))), since := s.time }] } else q
  let c := s.chan n
  let s := if c.lastCorrEvent.any fun t => s.time < t + 10 ^ 9 then s
    else (s.modChan n fun c => { c with lastCorrEvent := some s.time, corrSinceEvent := 0 }).post 0xC80 0 (le 1 n ++ [0, 0, 0] ++ le 4 c.corrSinceEvent.toNat)
  s.when (10000 ≤ c.correctedSec.length) (·.modChan n fun c => { c with retrainNeeded := true })

/-- A burst found poisoned: an occurrence unless it is listed (R348); four in a second retrain (R350). -/
def State.eccPoison (n l : Nat) (s : State) : State :=
  let a := l / 64 * 64
  if (s.chan n).poisonList.contains a then s
  else
    let s := s.modChan n fun c => { c with uncorrected := satInc c.uncorrected, poisonList := (a :: c.poisonList).take 64, poisonTimes := s.within (10 ^ 9) c.poisonTimes ++ [s.time] }
    let s := s.post 0xC81 2 (le 1 n ++ [0] ++ le 5 (s.deviceOf n a))
    s.when (4 ≤ (s.chan n).poisonTimes.length) (·.modChan n fun c => { c with retrainNeeded := true })

def State.eccRead (n l : Nat) (ecc : Ecc) (s : State) : State :=
  match ecc with
  | .clean => s
  | .corrected => s.eccCorrected n l
  | .uncorrectable => s.eccPoison n l

/-! ### Issuing a request (R338 to R342) -/

/-- Bytes of a write reach DRAM (R341); a whole burst clears its poison, a partial one keeps it. -/
def State.memPut (n : Nat) (r : MemReq) (s : State) : State :=
  let a := r.addr / 64 * 64
  let whole := (List.range 64).all fun o => r.data.any (·.1 == o)
  let s := s.modMem fun m => { m with dram := r.data.foldl (fun d (o, v) => memSet d (dramKey (n, a + o)) v) m.dram }
  if whole then s.modChan n fun c => { c with poisonList := c.poisonList.filter (· != a) } else s

/-- The controller issues the oldest eligible request of the highest class (R338 to R342): the row cycle keeps the bank
busy for tRC, twice with BL4, twice again for a read-modify-write, whose read finds `ecc` in the burst. -/
def execMemRequestIssue (n : Nat) (ecc : Ecc) (s : State) : Result :=
  done (s.when (s.chan n).serving fun s =>
    match s.nextReq n with
    | (none, b) => s.modMemQ n fun q => { q with batch := b }
    | (some r, b) =>
      let bank := bankOf r.addr
      let partWrite := r.write && !((List.range 64).all fun o => r.data.any (·.1 == o))
      let cycles := (if s.mem.cfg.bl8 then 1 else 2) * (if partWrite then 2 else 1)
      let s := s.modMemQ n fun q => { q with
        reads := q.reads.filter (·.id != r.id), writes := q.writes.filter (·.id != r.id), batch := b,
        flight := if r.write then q.flight else q.flight ++ [r],
        busy := q.busy.set bank (s.time + cycles * s.trcNs),
        acts := addAct bank (s.rowGroup r.addr) r.requester cycles q.acts,
        throttles := q.throttles.map fun (k, bk, t) => if k == r.requester && bk == bank then (k, bk, s.time) else (k, bk, t) }
      let s := if partWrite then s.emit (.dram n 0 bank (s.devAddr r.addr)) else s
      let s := s.emit (.dram n (if r.write then 1 else 0) bank (s.devAddr r.addr))
      ((if r.write then s.memPut n r else s).when partWrite (·.eccRead n r.addr ecc)).hammer n bank (s.rowGroup r.addr))

/-- A request has waited longer than AGE_LIMIT_NS: one class up, its age starts again (R339). -/
def execAgePromotion (n : Nat) (s : State) : Result :=
  let q := s.memQ n
  let low := (q.reads ++ q.writes).filter (·.cls < 2)
  done (match low with
    | [] => s
    | r :: t =>
      let first := t.foldl (fun a x => min a x.since) r.since
      let s := s.timeTo (first + s.mem.ageLimit + 1)
      let up (x : MemReq) : MemReq := if x.cls < 2 && x.since + s.mem.ageLimit < s.time then { x with cls := x.cls + 1, since := s.time } else x
      s.modMemQ n fun q => { q with reads := q.reads.map up, writes := q.writes.map up })

/-! ### Data that returns, and the patrol (R347 to R349) -/

/-- Read data returns to its requester (R342, R347, R348). -/
def execReadDataReturn (n rid : Nat) (ecc : Ecc) (s : State) : Result :=
  done (match (s.memQ n).flight.find? (·.id == rid) with
    | none => s
    | some r =>
      let a := r.addr / 64 * 64
      let s := (s.modMemQ n fun q => { q with flight := q.flight.filter (·.id != rid) }).eccRead n r.addr ecc
      let bad := (s.chan n).poisonList.contains a || (s.chan n).removing
      s.emit (.readData (256 + r.requester) ((List.range 64).map fun o => memGet s.mem.dram (dramKey (n, a + o))) bad))

/-- One burst of the patrol (R349), suspended under panic. -/
def execPatrolScrub (n : Nat) (ecc : Ecc) (s : State) : Result :=
  done (s.when ((s.chan n).serving && !s.disp.panic) fun s =>
    let l := (s.chan n).scrubPos * 64
    (s.eccRead n l ecc).modChan n fun c => { c with scrubPos := (c.scrubPos + 1) % (chanBytes s / 64) })

/-! ### Refresh (R344) -/

/-- The lowest serving channel: its slots move the timebase for all (log 4). -/
def State.leadChan (s : State) (n : Nat) : Bool := (List.range n).all fun k => !(s.chan k).serving

/-- Refresh the bank that has waited longest. -/
def State.refreshBank (n : Nat) (s : State) : State :=
  let b := (s.chan n).nextBank
  ((s.modChan n fun c => { c with nextBank := (b + 1) % 16 }).modMemQ n fun q => { q with busy := q.busy.set b (max s.time (q.busy.getD b 0) + s.trcNs) }).emit (.dram n 2 b 0)

/-- Start of refresh slot k, in ns. -/
def State.slotTime (s : State) (k : Nat) : Nat := (k * s.windowNs + 131071) / 131072
def State.slotOf (s : State) (t : Nat) : Nat := t * 131072 / s.windowNs

def execRefreshSlot (n : Nat) (s : State) : Result :=
  done (s.when (s.chan n).serving fun s =>
    let s := if s.leadChan n then s.timeTo (s.slotTime (s.slotOf s.time + 1)) else s
    if s.disp.panic && (s.chan n).debt < 8 then s.modChan n fun c => { c with debt := c.debt + 1, maxDebt := max c.maxDebt (c.debt + 1) }
    else s.refreshBank n)

/-- An extra refresh midway between slots while a debt remains (R344). -/
def execRefreshCatchup (n : Nat) (s : State) : Result :=
  done (s.when ((s.chan n).serving && !s.disp.panic && (s.chan n).debt != 0) fun s =>
    let k := s.slotOf s.time
    let s := if s.leadChan n then s.timeTo ((s.slotTime k + s.slotTime (k + 1)) / 2) else s
    (s.refreshBank n).modChan n fun c => { c with debt := c.debt - 1 })

/-- A refresh window begins: activation counts and throttles end (R346). -/
def execRefreshWindowStart (s : State) : Result :=
  let s := s.nextPeriod s.windowNs
  done (s.modMem fun m => { m with queues := m.queues.map fun q => { q with acts := [], throttles := [] } })

/-! ### Tracking and retraining (R335, R350, R351) -/

/-- Tracking of the granule: per byte lane 1 when only the early read fails, -1 when only the late one fails, 0 otherwise,
2 when the read in force shows a mismatch (R335). -/
def execTrackingRead (n : Nat) (drifts : List Int) (s : State) : Result :=
  done (s.when ((s.chan n).serving && (s.chan n).state != 6) fun s =>
    let s := if s.leadChan n then s.nextPeriod (ms 10) else s
    let s := s.modChan n fun c => { c with offsets := c.offsets.mapIdx fun i o => let d := drifts.getD i 0; if d == 1 || d == -1 then clampI (-8) 8 (o + d) else o }
    s.when (drifts.contains 2 || (s.chan n).offsets.any fun o => o == 8 || o == -8) (·.modChan n fun c => { c with retrainNeeded := true }))

def State.othersOut (s : State) (n : Nat) (p : Nat → Bool) : Bool := (List.range 12).any fun k => k != n && p (s.chan k).state

/-- An automatic retrain starts in ascending channel order, one channel at a time, held back by LOW_STOP; the third within an
hour removes, one that MEM.RETRAIN asked for does not count (R350, R351, R415). -/
def execInServiceRetrainStart (n : Nat) (s : State) : Result :=
  done (s.when ((s.chan n).serving && (s.chan n).state == 3 && (s.chan n).retrainNeeded && !s.lowHold && !s.othersOut n (· == 4)
      && (List.range n).all fun k => !((s.chan k).serving && (s.chan k).retrainNeeded)) fun s =>
    let times := s.within (3600 * 10 ^ 9) (s.chan n).autoTimes
    let asked := s.opOn 0x0C01 fun a => byteAt a 0 == n
    if 2 ≤ times.length && !asked then s.removeChannel n 0x22
    else (s.modChan n fun c => { c with autoTimes := if asked then times else times ++ [s.time], retrains := c.retrains + 1 }).chanState n 4)

/-- A retrain ends (R351); MEM.RETRAIN completes with PASSED and the failing byte lane. -/
def execInServiceRetrainDone (n : Nat) (eyes : List Nat) (s : State) : Result :=
  let asked := s.opOn 0x0C01 fun a => byteAt a 0 == n
  done (s.when ((s.chan n).state == 4 || ((s.chan n).state == 5 && asked)) fun s =>
    let pass := eyesPass eyes
    let s := if (s.chan n).state == 5 then s.modChan n fun c => { c with eyes := laneEyes eyes }
      else if pass then (s.modChan n fun c => { c with eyes := laneEyes eyes, offsets := List.replicate 9 0, retrainNeeded := false }).chanState n 3
      else (s.modChan n fun c => { c with eyes := laneEyes eyes }).removeChannel n 0x22
    (s.ctl.pendingOps.filter fun o => o.code == 0x0C01 && byteAt o.args 0 == n).foldl
      (fun t o => t.complete o stOk ([if pass then 1 else 0] ++ le 1 (if pass then 0xFF else failingLane eyes))) s)

/-! ### Re-allocation after a remap (R355) -/

/-- Configurations that name a deleted owner region are removed as if set to none (R355). -/
def State.dropConfigs (gone : List Lease) (s : State) : State :=
  let hit (a n : Nat) := gone.any fun r => overlaps a n r.base r.len
  let s := s.modScene fun x => { x with pools := x.pools.map fun p => match p with | some (b, n) => if hit b n then none else some (b, n) | none => none }
  let s := s.modDepth fun x => { x with layers := x.layers.map fun l => if l.enabled && hit l.cfg.pool l.cfg.bytes then { l with enabled := false, cur := none, stalled := false, next := none } else l }
  let inGone (c : Capture) : Bool := c.enable && (hit c.bufA 1 || hit c.bufB 1)
  let s := s.modLayers fun x => { (if inGone x.capture then { x with capture := {}, capWaiting := false } else x) with captureNext := x.captureNext.filter fun c => !inGone c }
  let tapGone (t : Tap) : Bool := hit t.base t.len
  let s := s.modIsp fun x => { x with pipes := x.pipes.map fun p =>
    { p with tap := p.tap.filter fun t => !tapGone t, tapNext := p.tapNext.filter fun t => !t.any tapGone } }
  let s := if hit s.aud.ringBase s.aud.ringBytes then s.modAud fun a => { a with ringBase := 0, ringBytes := 0 } else s
  s.modCam fun c => { c with ports := c.ports.map fun p => if p.cfg.noSignal != 0 && hit p.cfg.noSignal 1 then { p with cfg := { p.cfg with noSignal := 0 } } else p }

def execTaprootReallocation (s : State) : Result :=
  done (s.when (s.mem.realloc && s.tp.state == .running) fun s =>
    let gone := s.leases.regions.filter fun r => r.id < 0x8000 && r.base < cellarBase && s.dramTop < r.base + r.len
    let s := ((s.modLeases fun l => { l with regions := l.regions.filter fun r => !gone.contains r }).placeOwn).dropConfigs gone
    (s.modMem fun m => { m with realloc := false }).modMode fun m => { m with
      reductions := m.reductions.filter (·.cause != 0x11), detected := m.detected.filter (·.cause != 0x11) })

/-! ### Registers (R352) -/

def State.memStatus (s : State) (n : Nat) : Nat :=
  let c := s.chan n
  c.state + bitOf c.inMap 4 + bitOf (!(s.memQ n).throttles.isEmpty) 5 + bitOf (s.disp.panic && s.hasChannel n) 6 + c.debt * 2 ^ 8 + (c.eyes.foldl min 127) % 128 * 2 ^ 16

/-- Errors of the last whole second (R352). -/
def State.lastSecond (s : State) (l : List Nat) : Nat := (l.filter fun t => t / 10 ^ 9 + 1 == s.time / 10 ^ 9).length
def State.memEcc (s : State) (n : Nat) : Nat :=
  let c := s.chan n
  min 65535 (s.lastSecond c.correctedSec) + min 255 (s.lastSecond c.poisonTimes) * 2 ^ 16 + (c.scrubPos * 100 / (chanBytes s / 64)) * 2 ^ 24
def State.memTrack (s : State) (n : Nat) : Nat :=
  let c := s.chan n
  let (o, l) := (List.range 9).foldl (fun (m, l) i => let v := (listAt c.offsets i).natAbs; if m < v then (v, i) else (m, l)) (0, 0)
  o + l * 16 + c.retrains.toNat * 2 ^ 16
def State.memMap (s : State) : Nat :=
  (s.mem.map.map (2 ^ ·)).sum + s.mem.map.length * 2 ^ 12 + s.mem.generation.toNat * 2 ^ 16 + (s.dramTop / 2 ^ 28) * 2 ^ 24
def State.memConfig (s : State) : Nat :=
  let c := s.mem.cfg
  c.rl + (c.rl + 1) * 2 ^ 5 + c.trc * 2 ^ 10 + bitOf c.bl8 14 + bitOf c.dense 15 + bitOf c.window32 16
def State.memPolicy (s : State) : Nat := s.mem.actThreshold + s.mem.scrubHours * 2 ^ 16

/-! ### Commands (Table 4.6) -/

def execMemQuery (m : Master) (s : State) : Result :=
  done (runCmd { code := 0x0C00, cls := 0, len := 1, args := [{ off := 0, hi := 11 }] } (absentIn 0 17 11 State.hasChannel) noPre (fun c s =>
    let n := c.u8 0
    let x := s.chan n
    (s.modChan n fun y => { y with maxDebt := y.debt },
      .ok (le 1 x.state ++ [if x.inMap then 1 else 0] ++ x.eyes.flatMap (le 1) ++ [0] ++ le 4 x.corrected.toNat ++ le 4 x.uncorrected.toNat
        ++ le 4 x.rowhammer.toNat ++ le 1 x.maxDebt))) m s)

/-- MEM.RETRAIN (R350, R356): ST_BUSY while another channel is out of service; under LOW_STOP the retrain waits (R415). -/
def execMemRetrain (m : Master) (s : State) : Result :=
  done (runCmd { code := 0x0C01, cls := 1, len := 1, args := [{ off := 0, hi := 11 }] } (absentIn 0 17 11 State.hasChannel) noPre (fun c s =>
    let n := c.u8 0
    if s.othersOut n fun st => st == 1 || st == 2 || st == 4 || st == 5 || st == 6 then (s, .busy (domMC n))
    else if (s.chan n).state == 4 || (s.chan n).state == 6 || s.opOn 0x0C01 (fun a => byteAt a 0 == n) then (s, .busy (domMC n))
    else if (s.chan n).serving && s.lowHold then (s.modChan n fun x => { x with retrainNeeded := true }, .pend (ms 600) 0)
    else if (s.chan n).serving then ((s.modChan n fun x => { x with retrains := x.retrains + 1 }).chanState n 4, .pend (ms 600) 0)
    else (s, .pend (ms 600) 0)) m s)

/-- MEM.TEST (R353). -/
def execMemTest (m : Master) (s : State) : Result :=
  done (runCmd { code := 0x0C02, cls := 1, len := 12, args := [{ off := 0, hi := 11 }, { off := 1, hi := 5 }, { off := 4, n := 4 }, { off := 8, n := 4, lo := 1 }] }
    (absentIn 0 17 11 State.hasChannel)
    (fun c s => if chanBytes s / 1024 < c.u32 4 + c.u32 8 then some (if chanBytes s / 1024 ≤ c.u32 4 then (4, 0) else (8, 0)) else none)
    (fun c s =>
      let n := c.u8 0
      if s.mode.mode != .maintenance then (s, .fail stWrongMode)
      else if (s.chan n).state == 4 || s.memTested n then (s, .busy (domMC n))
      else ((s.modMem fun x => { x with tests := x.tests ++ [(n, c.u8 1, c.u32 4, c.u32 8)] }).chanState n 6, .pend (60 * 10 ^ 9) 0)) m s)

/-- MEM.SET: a field of 0 leaves its setting (R352); the settings go to record 0x0006. -/
def execMemSet (m : Master) (s : State) : Result :=
  done (runCmd { code := 0x0C03, cls := 1, len := 6, args := [{ off := 0, n := 2 }, { off := 2, n := 2 }, { off := 4, n := 2, hi := 8760 }] } noUnit
    (fun c _ => if c.u16 0 != 0 && c.u16 0 < 1024 then some (0, 0) else if c.u16 2 != 0 && c.u16 2 < 500 then some (2, 0) else none)
    (fun c s =>
      let pick (v d : Nat) : Nat := if v == 0 then d else v
      let s := s.modMem fun x => { x with actThreshold := pick (c.u16 0) x.actThreshold, ageLimit := pick (c.u16 2) x.ageLimit, scrubHours := pick (c.u16 4) x.scrubHours }
      (s.deferRecord 6 (le 2 s.mem.actThreshold ++ le 2 s.mem.ageLimit ++ le 2 s.mem.scrubHours), .ok [])) m s)

end Sys2Proof.Machine
end

