-- ==== Sys2Proof/Machine/Link.lean ====
section
/-! DEFINITION. Striping, the minimum line slot and the maximum frame rate (spec/11, R281, R287 to R289; spec/00, R4). -/

namespace Sys2Proof.Machine

def State.lane (s : State) (l : Nat) : Lane := s.lanes.lanes.getD l {}
def State.laneAux (s : State) (l : Nat) : LaneAux := s.lanes.aux.getD l {}
def State.modLane (l : Nat) (f : Lane → Lane) (s : State) : State := s.modLanes fun x => { x with lanes := x.lanes.modify l f }
def State.modLaneAux (l : Nat) (f : LaneAux → LaneAux) (s : State) : State := s.modLanes fun x => { x with aux := x.aux.modify l f }

/-- UNIT_STATUS of a lane by Table 12.5. -/
def laneUnit : Nat → Nat
  | 1 => 2
  | 2 => 4
  | 3 => 3
  | 4 => 7
  | 5 => 6
  | 6 => 1
  | _ => 0
def State.laneState (l st : Nat) (s : State) : State :=
  (s.modLane l fun x => { x with state := st }).setUnit (unitLane l) fun u =>
    { u with state := laneUnit st, flowing := st == 2, faulted := st == 4, cause := if st == 4 then 0x22 else u.cause }

/-! ### Panel limits (R4, Table 0.4) -/

/-- The panel configuration lies within the limits of the part; `period` is the frame period in 1/256 ns, 0 when none is set. -/
def State.panelOk (s : State) (p : PanelCfg) (period : Nat) : Bool :=
  let rays := 3 * p.width * p.height * p.subframes
  (if s.is20 then 1 ≤ p.width && p.width ≤ 7680 && 1 ≤ p.height && p.height ≤ 4320 && 1 ≤ p.subframes && p.subframes ≤ 4
    else 1 ≤ p.width && p.width ≤ 16384 && 1 ≤ p.height && p.height ≤ 8704 && 1 ≤ p.subframes && p.subframes ≤ 8)
    && rays ≤ 2 ^ 31
    && (period == 0 || rays * 256 * 10 ^ 9 ≤ 160 * 10 ^ 9 * period)

/-- Frame period at E = 0 in 1/256 ns. -/
def framePeriodRaw (p : PanelCfg) (t : Timing) (line : Nat) : Nat := p.subframes * (t.activeLines + t.vtMin) * line

/-! ### Striping (R287) -/

/-- Data words of a line (R281). -/
def lineWords (width : Nat) : Nat := (width * 36 + 127) / 128
/-- Active lanes in ascending order (R287). -/
def State.activeLanes (s : State) : List Nat := (List.range 96).filter fun l => (s.lane l).included
/-- The lanes the capacity is judged by: active or in group training; before training every lane not excluded (R288). -/
def State.stripeN (s : State) : Nat :=
  let n := ((List.range 96).filter fun l => (s.lane l).included || ((s.lane l).state == 1 && !(s.laneAux l).alone)).length
  if n == 0 then ((List.range 96).filter fun l => s.hasLane l && (s.lane l).state != 4).length else n

/-! ### Capacity (R288), in 1/256 ns -/

/-- Block time of a Sapline lane rate: 132 bits at 25.6, 12.8 or 6.4 Gbit/s. -/
def blockRaw (rate : Nat) : Nat := 1320 * 2 ^ rate
/-- Minimum line slot T_min over n lanes. -/
def tMinRaw (width n rate : Nat) : Nat := ((lineWords width + n - 1) / n + 1) * blockRaw rate + 40 * 256

def State.tMin (s : State) : Nat := match s.disp.panel with
  | some p => tMinRaw p.width s.stripeN s.disp.timing.laneRate
  | none => 0

/-- Rate of the configured timing at E = 0, in whole Hz. -/
def State.configuredHz (s : State) : Nat := match s.disp.panel with
  | some p => 256 * 10 ^ 9 / framePeriodRaw p s.disp.timing s.disp.configuredLineNs
  | none => 0

/-- The governor's stage-1 limit: 10 Hz steps off the configured rate, down to 30 Hz (R35, Table 1.12). -/
def State.govHz (s : State) : Option Nat := if s.gov.rateSteps == 0 then none else some (max 30 (s.configuredHz - 10 * s.gov.rateSteps))

/-- MAX_HZ (R288); the LV9620 stops at 60 Hz (Table 0.4). -/
def State.maxHz (s : State) : Nat :=
  match s.disp.panel with
  | none => 0
  | some p =>
    let link := 256 * 10 ^ 9 / framePeriodRaw p s.disp.timing s.tMin
    let rays := 160 * 10 ^ 9 / (3 * p.width * p.height * p.subframes)
    min (min link rays) (min (s.govHz.getD 65535) (if s.is20 then 60 else 65535))

/-- LINE_NS that the frame rate limits allow: the configured one, raised to T_min (R289) and to the governor's rate. -/
def State.effectiveLine (s : State) : Nat :=
  match s.disp.panel with
  | none => s.disp.configuredLineNs
  | some p =>
    let slots := p.subframes * (s.disp.timing.activeLines + s.disp.timing.vtMin)
    let gov := match s.govHz with
      | some hz => (256 * 10 ^ 9 + slots * hz - 1) / (slots * hz)
      | none => 0
    max (max s.disp.configuredLineNs s.tMin) gov

/-- After an exclusion: the reduction cause SAPLINE_RESTRIPE when the configured LINE_NS no longer fits (R25, R289). -/
def State.restripe (l : Nat) (s : State) : State :=
  s.when (s.disp.panel.isSome && s.disp.configuredLineNs != 0 && s.disp.configuredLineNs < s.tMin) (·.detect 0x12 (unitLane l))

/-- The configured frame rate fits again: the cause SAPLINE_RESTRIPE clears (R26, R289). -/
def State.clearRestripe (s : State) : State :=
  s.modMode fun m => { m with reductions := m.reductions.filter (·.cause != 0x12), detected := m.detected.filter (·.cause != 0x12) }

/-- SG_FULL: the group stripes over its eight lanes (Table 4.3). -/
def State.sgFull (s : State) (g : Nat) : Bool := (List.range 8).all fun i => (s.lane (8 * g + i)).included

end Sys2Proof.Machine
end

