-- ==== Sys2Proof/Machine/Lanes.lean ====
section
/-! DEFINITION. Serial lanes: training, retries, adaptation, electrical idle, patterns and PCI Express links (spec/12). -/

namespace Sys2Proof.Machine

/-! ### Transmit equaliser (R301, Table 12.2) -/

/-- PRE and POST of a preset. -/
def presetTaps : Nat → Nat × Nat
  | 0 => (0, 16)
  | 1 => (0, 10)
  | 2 => (0, 12)
  | 3 => (0, 6)
  | 4 => (0, 0)
  | 5 => (6, 0)
  | 6 => (8, 0)
  | 7 => (6, 12)
  | 8 => (8, 8)
  | _ => (10, 0)
def Lane.setPreset (k : Nat) (x : Lane) : Lane :=
  let (a, b) := presetTaps k
  { x with pre := a, post := b, main := 63 - a - b, preset := k }

/-- One tap by a STEPS field: its new value and its TAP_STATUS (R305, Table 12.3). `room` is what the sum limit leaves. -/
def stepTap (lo hi v dir room : Nat) : Nat × Nat :=
  if dir == 1 then (if v == hi then (v, 2) else if room == 0 then (v, 3) else (v + 1, 0))
  else if dir == 2 then (if v == lo then (v, 1) else (v - 1, 0)) else (v, 0)

/-- A STEP request: each tap that no limit of R301 stops moves by one. Decreases free the sum before increases use it. -/
def Lane.applyStep (steps : Nat) (x : Lane) : Lane :=
  let d0 := bits steps 1 0
  let d1 := bits steps 3 2
  let d2 := bits steps 5 4
  let down (lo v d : Nat) := if d == 2 && lo < v then 1 else 0
  let room := 63 + down 0 x.pre d0 + down 27 x.main d1 + down 0 x.post d2 - (x.pre + x.main + x.post)
  let (a, sa) := stepTap 0 12 x.pre d0 room
  let room := room - (a - x.pre)
  let (b, sb) := stepTap 27 63 x.main d1 room
  let room := room - (b - x.main)
  let (c, sc) := stepTap 0 24 x.post d2 room
  { x with pre := a, main := b, post := c, tapStatus := sa + 4 * sb + 16 * sc, preset := 255 }

/-- Horizontal margin in 1/1,000 UI of a panel report in 1/256 UI (R312). -/
def marginMui (v : Nat) : Nat := roundNat (v * 1000) 256

/-- Taps stored for every lane and rate, as record 0x0011 lays them out (R302). -/
def State.tapsPayload (s : State) : Bytes :=
  s.lanes.aux.flatMap fun x => (List.range 3).flatMap fun r => match x.stored.getD r none with
    | some (a, b, c) => le 1 a ++ le 1 b ++ le 1 c ++ [0]
    | none => [0, 0, 0, 0]
/-- Taproot stores the taps of a lane that completed training (R302). -/
def State.storeTaps (l : Nat) (s : State) : State :=
  let x := s.lane l
  let s := s.modLaneAux l fun a => { a with stored := a.stored.set x.rate (some (x.pre, x.main, x.post)) }
  s.when (s.tp.state == .running) fun s => s.deferRecord 0x11 s.tapsPayload

/-! ### Sapline training (R302 to R309) -/

/-- A lane starts training from the taps stored for its rate, else from the default preset (R302). -/
def State.startTaps (l rate dflt : Nat) (s : State) : State :=
  let st := (s.laneAux l).stored.getD rate none
  s.modLane l fun x =>
    let y := match st with
      | some (a, b, c) => { x with pre := a, main := b, post := c, preset := 255 }
      | none => x.setPreset dflt
    { y with rate := rate, included := false, blockLock := false, margin := 0, ackSeq := 0, tapStatus := 0, ended := false, trained := false, step := none }

/-- The payload of the TRAIN block of a lane now (Table 12.3). -/
def Lane.trainBlock (l : Nat) (x : Lane) : Bytes :=
  [0x66] ++ le 1 l ++ [if x.ended then 2 else if x.blockLock then 1 else 0] ++ le 1 x.pre ++ le 1 x.main ++ le 1 x.post ++ le 1 x.preset ++ le 1 x.ackSeq
    ++ le 1 x.tapStatus ++ le 1 x.rate ++ List.replicate 6 0
/-- The next TRAIN block goes out (R303, R305). -/
def State.sendTrain (l : Nat) (s : State) : State := s.emit (.train l ((s.lane l).trainBlock l))

/-- Training blocks go out on a lane (R303). -/
def State.trainLane (l : Nat) (alone : Bool) (s : State) : State :=
  (((s.startTaps l s.disp.timing.laneRate 7).modLaneAux l fun a => { a with alone := alone, rejoin := false, idleAt := none }).laneState l 1).sendTrain l

/-- Group `g` of Sapline is in use: its domain is on. -/
def State.groupLanes (s : State) (g : Nat) : List Nat := ((List.range 8).map (8 * g + ·)).filter s.hasLane

/-- The group's lanes train together, held back by LOW_STOP (R306, R415); a lone retrain is abandoned for it (Table 12.8). A lane under test stays there. -/
def execSaplineGroupTraining (g : Nat) (s : State) : Result :=
  done (s.when (s.hasGroup g && s.domOn (domSG g) && !s.lowHold && s.pnl.up && (!s.disp.running || s.scan.relink.isSome)) fun s =>
    let s := s.modLanes fun x => { x with groupStart := x.groupStart.set g (some s.time) }
    (s.groupLanes g).foldl (fun t l => if (t.lane l).state == 5 then t else t.trainLane l false) s)

/-- A lane leaves the striping to retrain alone (R309, R315); under LOW_STOP the retrain waits (R415). -/
def State.retrainAlone (l : Nat) (s : State) : State :=
  if s.lowHold then s.modLaneAux l fun a => { a with waits := true }
  else
    let g := l / 8
    let s := (s.modLanes fun x => { x with groupStart := x.groupStart.set g (some s.time) }).modLaneAux l fun a => { a with waits := false }
    (s.trainLane l true).restripe l

/-- Complete the LANE.RETRAIN of a lane (Table 4.6). -/
def State.endRetrain (l : Nat) (s : State) : State :=
  (s.ctl.pendingOps.filter fun o => o.code == 0x0B02 && byteAt o.args 0 == l).foldl
    (fun t o => t.complete o stOk (le 1 (t.lane l).state ++ [if (t.lane l).included then 1 else 0])) s

/-- A lane fails training (R308): excluded, reported, retried in 10 minutes; a group without a lane goes off. -/
def State.failLane (l : Nat) (s : State) : State :=
  let s := (s.modLane l fun x => { x with ended := true, trained := false, included := false, blockLock := false }).laneState l 4
  let s := s.modLaneAux l fun a => { a with alone := false, rejoin := false, retryAt := s.time + 600 * 10 ^ 9 }
  let s := (s.post 0xB80 2 (le 1 l ++ [0] ++ le 2 s.maxHz)).restripe l
  let s := s.endRetrain l
  s.when (s.tp.state == .running && (s.groupLanes (l / 8)).all fun k => (s.lane k).state == 4) (·.reqDomain (domSG (l / 8)) false 3)

/-- A lane whose group goes off leaves the striping (R289). -/
def State.dropLane (l : Nat) (s : State) : State :=
  let s := s.modLane l fun x => { x with included := false }
  (s.post 0xB80 2 (le 1 l ++ [0] ++ le 2 s.maxHz)).restripe l

/-- A lane has trained (R306). Alone, it waits for the latch point (R309). -/
def State.passLane (l : Nat) (s : State) : State :=
  let s := (s.modLane l fun x => { x with ended := true, trained := true }).storeTaps l
  s.when ((s.laneAux l).alone) (·.modLaneAux l fun a => { a with rejoin := true, retries := 0 })

/-- A TRAIN_REQ of the panel (R304 to R306, R314): in training it is applied at once, in service a STEP waits for a free slot. -/
def execSaplineTrainReq (lane seq kind preset : Nat) (steps : W8) (margin : Nat) (s : State) : Result :=
  let x := s.lane lane
  done (
    if !(s.hasLane lane && 1 ≤ seq && seq < 256 && kind < 5 && margin < 256) || x.ackSeq == seq then s
    else if x.state == 1 && !x.ended then
      let s := s.modLane lane fun x => { x with margin := marginMui margin, ackSeq := seq, blockLock := true }
      match kind with
      | 1 => (s.modLane lane fun x => if preset < 10 then { x.setPreset preset with tapStatus := 0 } else x).sendTrain lane
      | 2 => (s.modLane lane (·.applyStep steps.toNat)).sendTrain lane
      | 3 => if 51 ≤ margin then (s.passLane lane).sendTrain lane else s.failLane lane
      | 4 => s.failLane lane
      | _ => s.sendTrain lane
    else if x.state == 2 || x.state == 3 then
      let s := s.modLane lane fun x => { x with margin := marginMui margin }
      s.when (kind == 2 && x.step.isNone && (x.lastStep == 0 || x.lastStep + ms 10 ≤ s.time)) (·.modLane lane fun x => { x with step := some (seq, steps.toNat) })
    else s)

/-- A waiting STEP is applied while the lane carries no line packet (R314). -/
def execStepRequestApply (lane : Nat) (s : State) : Result :=
  done (match (s.lane lane).step with
    | some (seq, steps) => s.modLane lane fun x => { x.applyStep steps with ackSeq := seq, step := none, lastStep := s.time }
    | none => s)

/-- 2 ms after the group's first TRAIN block, every lane without DONE has failed (R306). -/
def execTrainingBudgetExpiry (g : Nat) (s : State) : Result :=
  done (match s.lanes.groupStart.getD g none with
    | none => s
    | some t =>
      let s := s.timeTo (t + ms 2)
      let s := (s.groupLanes g).foldl (fun t l => if (t.lane l).state == 1 && !(t.lane l).ended then t.failLane l else t) s
      s.when ((s.groupLanes g).all fun l => (s.lane l).state != 1 || (s.laneAux l).alone) (·.modLanes fun x => { x with groupStart := x.groupStart.set g none }))

/-! ### Holds (R277, R285, R296, R297) -/

/-- Send HOLD sixteen times on every active lane and start the hold; one in progress goes on. -/
def State.startHold (reason : Nat) (s : State) : State :=
  if s.scan.hold.isSome then s
  else (s.emit (.ctrl 0x33 [reason, 16])).modScan fun x => { x with hold := some (reason, s.time) }

/-- A hold ends: EV_DISP_HOLD with its duration in µs. -/
def State.endHold (s : State) : State := match s.scan.hold with
  | none => s
  | some (r, t) => (s.modScan fun x => { x with hold := none, holdExceeded := false }).post 0xA82 2 (le 1 r ++ [0, 0, 0] ++ le 4 ((s.time - t) / 1000))

/-- The frame schedule starts as if vertical blanking began now (R270, R293). -/
def State.startSchedule (s : State) : State :=
  if s.disp.sched then s
  else s.modDisp fun d => { d with
    sched := true, frameStart := s.time, slotNo := 0, slot := 0, blanking := true, extending := false, ext := 0, latched := false,
    subframe := match d.panel with | some p => p.subframes - 1 | none => 0 }

/-- Lanes of group training that have trained. -/
def State.trainedLanes (s : State) : List Nat := (List.range 96).filter fun l => (s.lane l).state == 1 && (s.lane l).trained && !(s.laneAux l).alone

/-- Some lane of group training has neither trained nor failed. -/
def State.trainingRuns (s : State) : Bool := (List.range 96).any fun l => (s.lane l).state == 1 && !(s.lane l).ended && !(s.laneAux l).alone

/-- The trained lanes join the link, with ALIGN 16 times on each (R306). -/
def State.joinTrained (s : State) : State :=
  let s := s.trainedLanes.foldl (fun t l => (t.modLane l fun x => { x with included := true }).laneState l 2) s
  (s.modLanes fun x => { x with groupStart := List.replicate 12 none, alignCount := x.alignCount + 16 }).emit (.ctrl 0x4B [16])

/-- Every lane of every group has trained or failed: ALIGN 16 times on every included lane, and the link carries frames
(R306, R293); the first frame is a full write. -/
def execSaplineTrainingDone (s : State) : Result :=
  done (s.when (!s.trainingRuns && !s.trainedLanes.isEmpty) fun s =>
    let s := s.joinTrained
    s.when (s.pnl.up && s.scan.relink.isNone) fun s =>
      let s := s.modDisp fun d => { d with running := true, fullNext := true, unconfirmed := 0xFF }
      (if s.scan.hold.map (·.1) == some 1 then s.endHold else s).startSchedule)

/-- The 10-minute retry of an excluded lane, up to six times while the link runs (R309); in a hold the group training takes it. -/
def execLaneRetryTimer (lane : Nat) (s : State) : Result :=
  let a := s.laneAux lane
  done (s.when (lane < 96 && (s.lane lane).state == 4 && a.retries < 6 && s.disp.running && s.tp.state == .running) fun s =>
    let s := (s.timeTo a.retryAt).modLaneAux lane fun a => { a with retries := a.retries + 1, retryAt := s.time + 600 * 10 ^ 9 }
    if s.scan.hold.isSome then s else s.retrainAlone lane)

/-- Lanes that trained alone rejoin the striping at the latch point (R309). -/
def State.rejoinLanes (s : State) : State :=
  ((List.range 96).filter fun l => (s.laneAux l).rejoin).foldl (fun t l =>
    (((t.modLane l fun x => { x with included := true }).modLaneAux l fun a => { a with rejoin := false, alone := false }).laneState l 2).endRetrain l) s

/-- EYE_MARGIN below 120 mUI for 1 s, or back at 150 mUI for 1 s (R313). -/
def execLaneMarginTimer (lane : Nat) (s : State) : Result :=
  let m := (s.lane lane).margin
  let low := (s.laneAux lane).lowPosted
  let live := (s.lane lane).state == 2 || (s.lane lane).state == 3
  done (if live && m < 120 && !low then (s.modLaneAux lane fun a => { a with lowPosted := true }).post 0xB81 1 (le 1 lane ++ [0] ++ le 2 m)
    else if low && 150 ≤ m then s.modLaneAux lane fun a => { a with lowPosted := false } else s)

/-- Sixteen or more block errors in three consecutive LANE_STATS reports: the lane retrains alone (R315). -/
def execLaneStats (lane : Nat) (errors : W32) (s : State) : Result :=
  done (s.when (lane < 96 && (s.lane lane).included) fun s =>
    let s := s.modLaneAux lane fun a => { a with lastReport := errors, statsBad := if 16 ≤ errors.toNat then a.statsBad + 1 else 0 }
    s.when (3 ≤ (s.laneAux lane).statsBad) fun s => (s.modLaneAux lane fun a => { a with statsBad := 0 }).retrainAlone lane)

/-- LINE_ERROR with CAUSE 4 for line y of subframe sf counts against the lanes whose last report shows block errors; eight
consecutive lines retrain (R315). -/
def State.blockErrorLine (sf y : Nat) (s : State) : State :=
  (s.activeLanes.filter fun l => (s.laneAux l).lastReport != 0).foldl (fun t l =>
    let t := t.modLaneAux l fun a => { a with errLines := if a.errAt == some (sf, y - 1) && y != 0 then a.errLines + 1 else 1, errAt := some (sf, y) }
    if 8 ≤ (t.laneAux l).errLines then (t.modLaneAux l fun a => { a with errLines := 0, lastReport := 0 }).retrainAlone l else t) s

/-! ### Adaptation (R310 to R312) -/

/-- The lane has a receiver in the device: Rootline, PCIe, or the back-channel of a Sapline group. -/
def hasReceiver (l : Nat) : Bool := 96 ≤ l || l % 8 == 0
/-- The receiver carries signal: 1 TRAINING, 2 ACTIVE, 3 ELEC_IDLE or 5 TEST. -/
def Lane.signal (x : Lane) : Bool := x.state == 1 || x.state == 2 || x.state == 3 || x.state == 5

/-- One millisecond of the loops of a receiver: `better` is the side on which the neighbouring CTLE code is better, `steps`
the eye-monitor width in 1/64 UI, `corr` the signs of the LMS corrections of the DFE taps. -/
def execAdaptationUpdate (lane : Nat) (better : Int) (steps : Nat) (corr : List Int) (s : State) : Result :=
  done (s.when (hasReceiver lane && (s.lane lane).signal) (·.modLane lane fun x =>
    let b := better.sign
    let run : Int := if b == 0 then 0 else if x.better.sign == b then x.better + b else b
    let x := if run.natAbs == 4 then { x with ctle := (clampI 0 15 ((x.ctle : Int) + b)).toNat, better := 0 } else { x with better := run }
    if lane < 96 then x
    else { x with
      dfe := x.dfe.mapIdx fun i t => let lim : Int := if i == 0 then 120 else 40; clampI (-lim) lim (t + (corr.getD i 0).sign),
      margin := roundNat (steps * 1000) 64 }))

/-- The offset trim of a receiver, in 0.5 mV steps (R311); CAL.HOLD item 2 freezes it. -/
def execOffsetTrim (lane : Nat) (target : Int) (s : State) : Result :=
  done (s.when (hasReceiver lane && (s.lane lane).signal && !(s.hk.cal.getD 2 {}).held) fun s =>
    let v := clampI (-63) 63 target
    (s.modLane lane fun x => { x with offset := v }).calibrate 2 lane v)

/-! ### Electrical idle (R290, R316, R317) -/

/-- The fast-exit burst. -/
def State.burst (l : Nat) (s : State) : State := s.emit (.lane l 0 2048)

/-- After 1 ms of electrical idle: the burst and 64 IDLE blocks (R317). -/
def execElecIdleKeepalive (lane : Nat) (s : State) : Result :=
  done (match (s.laneAux lane).idleAt with
    | some t => s.when ((s.lane lane).state == 3) fun s =>
        let s := s.timeTo (t + ms 1)
        ((s.burst lane).emit (.lane lane 0x1E 64)).modLaneAux lane fun a => { a with idleAt := some s.time }
    | none => s)

/-- Active lanes enter electrical idle (R290). -/
def State.enterIdle (s : State) : State :=
  s.activeLanes.foldl (fun t l => if (t.lane l).state == 2 then (t.laneState l 3).modLaneAux l fun a => { a with idleAt := some t.time } else t) s
/-- They leave it before their next block (R290, R316). -/
def State.leaveIdle (s : State) : State :=
  s.activeLanes.foldl (fun t l => if (t.lane l).state == 3 then ((t.burst l).laneState l 2).modLaneAux l fun a => { a with idleAt := none } else t) s

/-! ### Patterns (R319 to R323) -/

/-- Mbit/s of a lane. -/
def laneMbps (l rate : Nat) : Nat := if l < 96 then 25600 / 2 ^ rate else 3125 * 2 ^ rate

/-- The near-end loop carries the checker's own pattern. -/
def LaneAux.looped (a : LaneAux) : Bool := a.genOn && a.chkOn && a.nearLoop && a.generator == a.checker

/-- BITS_CHECKED: bits since the checker came into sync. On a head's signal they are not known to the device's model. -/
def State.laneBits (s : State) (l : Nat) : Nat :=
  let a := s.laneAux l
  if a.looped then (s.time - a.chkStart) * laneMbps l (s.lane l).rate / 1000 else a.bits.toNat
/-- Errors counted per inverted bit: data and both feedback taps of a PRBS, the bit alone of a user pattern. -/
def LaneAux.perBit (a : LaneAux) : Nat := if a.checker == 5 then 1 else 3
/-- ERRORS: those counted, and those of a rate injection running. -/
def State.laneErrors (s : State) (l : Nat) : Nat :=
  let a := s.laneAux l
  a.errors.toNat + (if a.looped && a.inject == 3 then s.laneBits l / a.injectArg.toNat * a.perBit else 0)

/-- A one-shot injection of n bits into a loop (R320, R323): 64 errors lose the sync. -/
def LaneAux.injectBits (n : Nat) (a : LaneAux) : LaneAux :=
  if !a.looped then a
  else if n * a.perBit < 64 then { a with errors := satInc a.errors (n * a.perBit) }
  else { a with errors := satInc a.errors 64, syncLosses := min 255 (a.syncLosses + 1) }

/-- A Rootline port enters TEST with a pattern, or brings its link up again (R322). -/
def State.portTest (p : Nat) (on : Bool) (s : State) : State :=
  let s := (((s.endFrame p true).modPort p fun x => { x with state := if on then 8 else 1, after := 0, held := false }).modFlow p fun f => { f with req := f.req.filter (·.limit != 0) }).awaitFrame p
  s.unitState (unitPort p) (if on then 6 else 1)

/-- A lane leaves test (R322). -/
def State.leaveTest (l : Nat) (s : State) : State :=
  let s := s.modLaneAux l fun a => { a with genOn := false, chkOn := false, nearLoop := false, sync := false, generator := 0, checker := 0, inject := 0, injectArg := 0 }
  let s := s.modLane l fun x => { x with state := if l < 96 then 4 else 6 }
  if l < 96 then s.retrainAlone l
  else
    let p := (l - 96) / 2
    let other := if l % 2 == 0 then l + 1 else l - 1
    let s := s.laneState l 6
    if (s.lane other).state == 5 then s else s.portTest p false

/-- MAINTENANCE ends: every pattern stops (R322). -/
def State.endPatterns (s : State) : State := ((List.range 128).filter fun l => (s.lane l).state == 5).foldl (fun t l => t.leaveTest l) s

/-- LANE.PATTERN (R319, R321, R323). -/
def execLanePattern (m : Master) (s : State) : Result :=
  done (runCmd { code := 0x0B01, cls := 1, len := 24, args := [{ off := 0, hi := 127 }, { off := 1, mask := 15 }, { off := 2, hi := 5 }, { off := 3, hi := 3 }, { off := 4, n := 4 }, { off := 8, n := 16 }] }
    (absentIn 0 128 127 State.hasLane)
    (fun c _ =>
      let l := c.u8 0
      let gen := c.u8 1 % 8
      let near := bit (c.u8 1) 3
      let arg := c.u32 4
      if 5 < gen then some (1, 0)
      else if l < 96 && c.u8 2 != 0 && !near then some (2, 0)
      else if 96 ≤ l && l % 2 == 1 && gen != 0 && !near then some (1, 0)
      else match c.u8 3 with
        | 2 => if 1 ≤ arg && arg ≤ 128 then none else some (4, 0)
        | 3 => if 1000 ≤ arg then none else some (4, 0)
        | _ => if arg == 0 then none else some (4, 0))
    (fun c s =>
      let l := c.u8 0
      let gen := c.u8 1 % 8
      let chk := c.u8 2
      if s.mode.mode != .maintenance then (s, .fail stWrongMode)
      else if s.opOn 0x0B02 fun a => byteAt a 0 == l then (s, .busy (unitLane l))
      else if gen == 0 && chk == 0 then ((if (s.lane l).state == 5 then s.leaveTest l else s), .ok [])
      else
        let fresh := chk != 0
        let s := s.modLaneAux l fun a => { a with
          genOn := gen != 0, chkOn := chk != 0, generator := gen, checker := chk, nearLoop := bit (c.u8 1) 3, inject := c.u8 3, injectArg := BitVec.ofNat 32 (c.u32 4),
          user := slice c.args 8 16, sync := gen == chk && bit (c.u8 1) 3, alone := false, rejoin := false,
          chkStart := if fresh then s.time else a.chkStart, errors := if fresh then 0 else a.errors, bits := if fresh then 0 else a.bits, syncLosses := if fresh then 0 else a.syncLosses }
        let s := (s.modLane l fun x => { x with included := false }).laneState l 5
        let s := (s.emit (.lane l 5 (c.u8 1))).modLaneAux l (match c.u8 3 with
          | 1 => (·.injectBits 1)
          | 2 => (·.injectBits (c.u32 4))
          | _ => id)
        ((if l < 96 then s.restripe l else s.portTest ((l - 96) / 2) true), .ok [])) m s)

/-- LANE.QUERY. -/
def execLaneQuery (m : Master) (s : State) : Result :=
  done (runCmd { code := 0x0B00, cls := 0, len := 1, args := [{ off := 0, hi := 143 }] } (absentIn 0 128 143 State.hasLane) noPre (fun c s =>
    let l := c.u8 0
    let x := s.lane l
    (s, .ok (le 1 x.state ++ le 1 x.rate ++ le 1 x.pre ++ le 1 x.main ++ le 1 x.post ++ le 1 x.preset ++ le 2 x.margin
      ++ le 4 (min (2 ^ 32 - 1) (s.laneErrors l)) ++ le 8 (s.laneBits l)))) m s)

/-! ### Registers (R318) -/

def State.laneStatus (s : State) (l : Nat) : Nat :=
  let x := s.lane l
  x.state + x.rate * 16 + bitOf x.included 7 + bitOf x.blockLock 8 + bitOf (x.cdrLock && (96 ≤ l || l % 8 == 0)) 9 + bitOf (s.laneAux l).nearLoop 10 + x.margin % 1024 * 2 ^ 16
def State.laneEq (s : State) (l : Nat) : Nat :=
  let x := s.lane l
  x.pre + x.main * 2 ^ 5 + x.post * 2 ^ 11 + (if x.preset < 16 then x.preset else if x.state == 0 then 0 else 15) * 2 ^ 16 + (if hasReceiver l then x.ctle else 0) * 2 ^ 20
    + (if l < 96 then 0 else wrap 8 (listAt x.dfe 0)) * 2 ^ 24
def State.laneTest (s : State) (l : Nat) : Nat :=
  let a := s.laneAux l
  bitOf a.genOn 0 + bitOf a.chkOn 1 + bitOf a.sync 2 + a.syncLosses * 2 ^ 8 + min 65535 (s.laneErrors l) * 2 ^ 16

/-! ### PCI Express links (R324 to R326) -/

/-- Lanes of a link: L128 to L143 joined, or eight each when split. -/
def State.linkLanes (s : State) (link : Nat) : List Nat :=
  if s.pwr.linkSplit then (List.range 8).map (128 + 8 * link + ·) else if link == 0 then (List.range 16).map (128 + ·) else []

/-- A link trains to a width and rate, or goes down (R326). -/
def execPcieLinkChange (link : Nat) (up : Bool) (width rate : Nat) (s : State) : Result :=
  let lanes := s.linkLanes link
  done (s.when (!lanes.isEmpty && s.domOn (domHP link) && s.perstHigh link) fun s =>
    let s := s.modFn link fun x => { x with linkUp := up, width := if up then width else 0, rate := if up then rate else 0, l1 := false, d3hot := x.d3hot && up }
    if !up then lanes.foldl (fun t l => (t.modLane l fun x => { x with included := false, blockLock := false, cdrLock := false }).laneState l 6) s
    else
      let less := width < lanes.length || rate < 4
      lanes.foldl (fun t l =>
        let i := l - lanes.headD 0
        if i < width then
          ((t.modLane l fun x => { x with rate := rate, included := true, blockLock := true, cdrLock := true }).laneState l 2).setUnit (unitLane l) fun u => { u with reduced := less }
        else ((t.modLane l fun x => { x with rate := rate, included := false }).laneState l 4).post 0xB80 2 (le 1 l ++ [0] ++ le 2 t.maxHz)) s)

/-- D3hot and L1 act on the function that enters them alone (R325). -/
def execPciePowerState (link : Nat) (d3hot l1 : Bool) (s : State) : Result :=
  done (s.when (!(s.linkLanes link).isEmpty && (s.fn link).linkUp) (·.modFn link fun x => { x with d3hot := d3hot, l1 := l1 }))

end Sys2Proof.Machine
end

