-- ==== Sys2Proof/Machine/Pixel.lean ====
section
/-! DEFINITION. Pixels of 12-bit components: widening, narrowing and the packed formats (spec/08 R194, spec/10 R240 and
Table 10.2, spec/14 R363). -/

namespace Sys2Proof.Machine

/-- A pixel of four 12-bit components. -/
structure Px where
  a : Nat := 0
  r : Nat := 0
  g : Nat := 0
  b : Nat := 0
deriving DecidableEq, Repr




/-- A12R12G12B12 (R194): B [11:0], G [23:12], R [35:24], A [47:36]. -/
def Px.of48 (v : Nat) : Px := { a := bits v 47 36, r := bits v 35 24, g := bits v 23 12, b := bits v 11 0 }
def Px.to48 (p : Px) : Nat := p.b % 4096 + p.g % 4096 * 2 ^ 12 + p.r % 4096 * 2 ^ 24 + p.a % 4096 * 2 ^ 36

/-- Bit replication of an n-bit value to 12 bits (R240), n from 5 to 8. -/
def widen (n v : Nat) : Nat :=
  match n with
  | 8 => v * 16 + v / 16
  | 6 => v * 64 + v
  | 5 => v * 128 + v * 4 + v / 8
  | _ => v
/-- Narrowing to n bits (R363). -/
def narrow (n v : Nat) : Nat := roundNat (v * (2 ^ n - 1)) 4095

/-- Bytes of a pixel of a Churn format (Table 14.5). -/
def fmtBytes : Nat → Nat
  | 0 => 6
  | 1 => 4
  | 2 => 2
  | _ => 1

/-- A stored pixel widened (Table 10.2, R240). -/
def Px.load (fmt v : Nat) : Px :=
  match fmt with
  | 0 => Px.of48 v
  | 1 => { a := widen 8 (bits v 31 24), r := widen 8 (bits v 23 16), g := widen 8 (bits v 15 8), b := widen 8 (bits v 7 0) }
  | 2 => { a := 4095, r := widen 5 (bits v 15 11), g := widen 6 (bits v 10 5), b := widen 5 (bits v 4 0) }
  | _ => {}

/-- A pixel narrowed to a format (R363); RGB565 discards its alpha. -/
def Px.store (fmt : Nat) (p : Px) : Nat :=
  match fmt with
  | 0 => p.to48
  | 1 => narrow 8 p.b + narrow 8 p.g * 2 ^ 8 + narrow 8 p.r * 2 ^ 16 + narrow 8 p.a * 2 ^ 24
  | 2 => narrow 5 p.b + narrow 6 p.g * 2 ^ 5 + narrow 5 p.r * 2 ^ 11
  | _ => 0

/-- One component of a blend: k over d with coverage a (R364). -/
def mixOver (k a d : Nat) : Nat := min 4095 (k + roundNat (d * (4095 - a)) 4095)

/-- Blend s over d with layer alpha (R364): premultiplied or straight source. -/
def Px.blend (premult : Bool) (alpha : Nat) (s d : Px) : Px :=
  let a := roundNat (s.a * alpha) 4095
  let k (c : Nat) := if premult then min 4095 (roundNat (c * alpha) 4095) else roundNat (c * a) 4095
  { a := mixOver a a d.a, r := mixOver (k s.r) a d.r, g := mixOver (k s.g) a d.g, b := mixOver (k s.b) a d.b }

end Sys2Proof.Machine
end

