-- ==== Sys2Proof/Machine/Scenes.lean ====
section
/-! DEFINITION. The Melilno scene stream: the scene ring, parsing, tile records, application and retirement (spec/08,
R187 to R202, R210). -/

namespace Sys2Proof.Machine

/-! ### Tile records (R194, R196, R197) -/

/-- Unpadded bytes of a record (Table 8.4). -/
def recordData : Nat → Nat
  | 1 => 10
  | 2 => 144
  | 3 => 284
  | 4 => 612
  | 5 => 6148
  | 6 => 28
  | 7 => 10
  | _ => 4

/-- Texel of 6 bytes at offset o, 48 bits. -/
def texAt (b : Bytes) (o : Nat) : Nat := uAt 6 b o

/-- GRAD component c at (x, y). -/
def gradAt (b : Bytes) (c x y : Nat) : Nat :=
  let v := ((u16At b (4 + 6 * c) : Int) * 256 + s16At b (6 + 6 * c) * x + s16At b (8 + 6 * c) * y + 128).fdiv 256
  (clampI 0 4095 v).toNat

/-- Texel i of a record (R196). -/
def decodeTexel (b : Bytes) (i : Nat) : Nat :=
  let pal (nb : Nat) :=
    let at_ := 4 + 6 * 2 ^ nb
    texAt b (4 + 6 * (byteAt b (at_ + nb * i / 8) / 2 ^ (nb * i % 8) % 2 ^ nb))
  match byteAt b 0 % 8 with
  | 1 => texAt b 4
  | 2 => pal 1
  | 3 => pal 2
  | 4 => pal 4
  | 5 => texAt b (4 + 6 * i)
  | 6 => gradAt b 0 (i % 32) (i / 32) + gradAt b 1 (i % 32) (i / 32) * 2 ^ 12 + gradAt b 2 (i % 32) (i / 32) * 2 ^ 24 + gradAt b 3 (i % 32) (i / 32) * 2 ^ 36
  | _ => 0

/-- The header of a record that a directory entry points to is valid (R197): a stored mode, reserved bits 0. -/
def recordOk (b : Bytes) : Bool := let m := byteAt b 0; 1 ≤ m && m ≤ 6 && u16At b 2 == 0

/-- Texels of the tile that an entry points to; none when the tile counts as poisoned (R197, R235). -/
def State.sceneTile (s : State) (e : W32) : Option (List Nat) :=
  match s.recordAddr e with
  | none => some (List.replicate 1024 0)
  | some a =>
    let n := recordData ((s.devByte a).toNat % 8)
    let b := s.devRead a n
    if recordOk b && !s.poisoned a n then some ((List.range 1024).map (decodeTexel b)) else none

/-! ### The parser (R189 to R195, R198) -/

/-- A rejection: ERROR, PLANE and BYTE_OFFSET. -/
structure StreamError where
  err : Nat
  plane : Nat := 0xFF
  off : Nat
deriving DecidableEq, Repr

abbrev Planes := List (Option ScenePlane)

/-- What the parser knows of the entry: its stream, its pool, and which bytes read back poisoned. -/
structure Stream where
  b : Bytes
  scene : Nat
  /-- first directory entry value of the stream: pool in [31:30], offset in 16-byte units below -/
  entry : Nat
  bad : Nat → Nat → Bool

def planeTiles (p : ScenePlane) : Nat := ((p.w + 31) / 32) * ((p.h + 31) / 32)

/-- A REF record: the covered positions take source entries one at a time (R195). -/
def refRun (pl : Planes) (plane src pos from_ : Nat) : Nat → Planes
  | 0 => pl
  | n + 1 =>
    let (v, len) := match pl.getD src none with | some q => (q.dir.getD from_ 0xFFFFFFFF, q.sizes.getD from_ 0) | none => (0xFFFFFFFF, 0)
    refRun (pl.modify plane (·.map fun p => { p with dir := p.dir.set pos v, sizes := p.sizes.set pos len })) plane src (pos + 1) (from_ + 1) n

/-- Covered positions take one entry value, whose record has `len` bytes. -/
def fillRun (pl : Planes) (plane pos : Nat) (v : W32) (len n : Nat) : Planes :=
  pl.modify plane (·.map fun p => { p with
    dir := p.dir.take pos ++ List.replicate n v ++ p.dir.drop (pos + n),
    sizes := p.sizes.take pos ++ List.replicate n len ++ p.sizes.drop (pos + n) })

/-- One record at offset o covers `n` positions from `pos`. -/
def applyRecord (x : Stream) (pl : Planes) (plane o pos n : Nat) : Except StreamError Planes :=
  let e8 : StreamError := { err := 8, plane := plane, off := o }
  match byteAt x.b o with
  | 0 => .ok pl
  | 6 => if (List.range 4).any fun c => 4095 < u16At x.b (o + 4 + 6 * c) then .error e8 else .ok (fillRun pl plane pos (BitVec.ofNat 32 (x.entry + o / 16)) (recordBytes 6) n)
  | 7 =>
    let src := byteAt x.b (o + 4)
    if src == 0xFF then .ok (fillRun pl plane pos 0xFFFFFFFF 0 n)
    else match pl.getD src none with
      | none => .error e8
      | some q =>
        let tx := (q.w + 31) / 32
        let from_ := u16At x.b (o + 8) * tx + u16At x.b (o + 6)
        if byteAt x.b (o + 5) != 0 || q.scene != x.scene || tx ≤ u16At x.b (o + 6) || planeTiles q < from_ + n then .error e8
        else .ok (refRun pl plane src pos from_ n)
  | mode => .ok (fillRun pl plane pos (BitVec.ofNat 32 (x.entry + o / 16)) (recordBytes mode) n)

/-- Bytes of a record that the parser reads: its header, and the payload of REF and GRAD (R198). -/
def parserReads (mode : Nat) : Nat := if mode == 6 then 28 else if mode == 7 then 10 else 4

/-- The records of the TILE_RUN at offset `packet`, from offset o to `stop` (R193). Records that cover fewer positions than
COUNT are a fault of the packet. -/
def parseRecords (x : Stream) (plane packet stop tiles : Nat) : Nat → Planes → Nat → Nat → Nat → Except StreamError Planes
  | 0, _, _, _, _ => .error { err := 7, plane := plane, off := packet }
  | fuel + 1, pl, o, pos, left =>
    if o == stop then (if left == 0 then .ok pl else .error { err := 7, plane := plane, off := packet })
    else
      let mode := byteAt x.b o
      let n := byteAt x.b (o + 1) + 1
      if x.bad o (parserReads (mode % 8)) then .error { err := 10, plane := plane, off := o }
      else if 7 < mode || u16At x.b (o + 2) != 0 then .error { err := 8, plane := plane, off := o }
      else if stop < o + recordBytes mode || left < n || tiles < pos + n then .error { err := 7, plane := plane, off := o }
      else match applyRecord x pl plane o pos n with
        | .error e => .error e
        | .ok pl => parseRecords x plane packet stop tiles fuel pl (o + recordBytes mode) (pos + n) (left - n)

/-- PLANE_DEFINE (R191). -/
def defPlane (x : Stream) (pl : Planes) (o : Nat) : Except StreamError Planes :=
  let i := byteAt x.b (o + 8)
  let fl := byteAt x.b (o + 9)
  let w := u16At x.b (o + 10)
  let h := u16At x.b (o + 12)
  let z := s16At x.b (o + 14)
  let fail (e : Nat) : Except StreamError Planes := .error { err := e, plane := i, off := o }
  if 3 < fl || uAt 6 x.b (o + 26) != 0 then fail 2
  else if 31 < i || (pl.getD i none).any (·.scene != x.scene) then fail 5
  else if 8192 < w || 8192 < h || (w == 0) != (h == 0) || z < -16384 || 16384 < z || 4095 < u16At x.b (o + 24) then fail 6
  else if w == 0 then .ok (pl.set i none)
  else
    let keep := match pl.getD i none with
      | some p => if p.w == w && p.h == h && fl < 2 then some (p.dir, p.sizes) else none
      | none => none
    let tiles := ((w + 31) / 32) * ((h + 31) / 32)
    let (dir, sizes) := keep.getD (List.replicate tiles 0xFFFFFFFF, List.replicate tiles 0)
    .ok (pl.set i (some { scene := x.scene, w := w, h := h, z := z, x := s32At x.b (o + 16), y := s32At x.b (o + 20), alpha := u16At x.b (o + 24),
                          premult := fl % 2 == 1, dir := dir, sizes := sizes }))

/-- PLANE_MOVE (R191). -/
def movePlane (x : Stream) (pl : Planes) (o : Nat) : Except StreamError Planes :=
  let i := byteAt x.b (o + 8)
  let f := byteAt x.b (o + 9)
  let z := s16At x.b (o + 12)
  let fail (e : Nat) : Except StreamError Planes := .error { err := e, plane := i, off := o }
  if 7 < f || u16At x.b (o + 10) != 0 || uAt 8 x.b (o + 24) != 0 then fail 2
  else match pl.getD i none with
    | none => fail 5
    | some p =>
      if p.scene != x.scene then fail 5
      else if (bit f 1 && (z < -16384 || 16384 < z)) || (bit f 2 && 4095 < u16At x.b (o + 14)) then fail 6
      else .ok (pl.set i (some { p with
        x := if bit f 0 then s32At x.b (o + 16) else p.x, y := if bit f 0 then s32At x.b (o + 20) else p.y,
        z := if bit f 1 then z else p.z, alpha := if bit f 2 then u16At x.b (o + 14) else p.alpha }))

/-- TILE_RUN (R193). -/
def tileRun (x : Stream) (pl : Planes) (o len : Nat) : Except StreamError Planes :=
  let i := byteAt x.b (o + 8)
  if byteAt x.b (o + 9) != 0 then .error { err := 2, plane := i, off := o }
  else match pl.getD i none with
    | none => .error { err := 5, plane := i, off := o }
    | some p =>
      if p.scene != x.scene then .error { err := 5, plane := i, off := o }
      else
        let tx := (p.w + 31) / 32
        let c := u16At x.b (o + 14)
        let count := if c == 0 then 65536 else c
        let pos := u16At x.b (o + 12) * tx + u16At x.b (o + 10)
        if planeTiles p < count || tx ≤ u16At x.b (o + 10) || planeTiles p ≤ pos then .error { err := 7, plane := i, off := o }
        else parseRecords x i o (o + len) (planeTiles p) (len / 16 + 1) pl (o + 16) pos count

/-- Length that Table 8.2 gives a packet type; 0 for an unknown one. -/
def packetLen : Nat → Nat
  | 1 => 16
  | 2 => 32
  | 3 => 32
  | 4 => 16
  | 5 => 16
  | _ => 0

/-- The packets after SCENE_BEGIN; `before` is the offset of the packet before, which is at fault where no SCENE_END follows it. -/
def parsePackets (x : Stream) (sf : Nat) (crc : Bool) : Nat → Planes → Nat → Nat → Except StreamError Planes
  | 0, _, before, _ => .error { err := 3, off := before }
  | fuel + 1, pl, before, o =>
    if x.b.length ≤ o then .error { err := 3, off := before }
    else
      let t := byteAt x.b o
      let len := u32At x.b (o + 4)
      if x.bad o 8 then .error { err := 10, off := o }
      else if 1 < byteAt x.b (o + 1) || u16At x.b (o + 2) != 0 || len < 16 || len % 16 != 0 || x.b.length < o + len then .error { err := 2, off := o }
      else if packetLen t == 0 then
        if byteAt x.b (o + 1) == 1 then parsePackets x sf crc fuel pl o (o + len) else .error { err := 2, off := o }
      else if len < packetLen t then .error { err := 2, off := o }
      else if x.bad o (packetLen t) then .error { err := 10, off := o }
      else match t with
        | 1 => .error { err := 3, off := o }
        | 5 =>
          if o + len != x.b.length then .error { err := 3, off := o }
          else if u32At x.b (o + 8) != sf then .error { err := 4, off := o }
          else if crc && x.bad 0 x.b.length then .error { err := 10, off := o }
          else if crc && (crc32 (x.b.take o)).toNat != u32At x.b (o + 12) then .error { err := 9, off := o }
          else .ok pl
        | _ =>
          match (if t == 2 then defPlane x pl o else if t == 3 then movePlane x pl o else tileRun x pl o len) with
          | .error e => .error e
          | .ok pl => parsePackets x sf crc fuel pl o (o + len)

/-- The whole stream, from SCENE_BEGIN (R189 to R191). The second component is its SCENE_FRAME, 0 when none was read. -/
def parseStream (x : Stream) (pl : Planes) : Except StreamError Planes × Nat :=
  let fail (e : Nat) : Except StreamError Planes × Nat := (.error { err := e, off := 0 }, 0)
  let len := u32At x.b 4
  if x.b.isEmpty then fail 3
  else if x.bad 0 16 then fail 10
  else if byteAt x.b 0 != 1 then fail 3
  else if 1 < byteAt x.b 1 || u16At x.b 2 != 0 || len < 16 || len % 16 != 0 || x.b.length < len then fail 2
  else
    let sf := u32At x.b 12
    if byteAt x.b 9 != 1 then (.error { err := 1, off := 0 }, sf)
    else if 3 < byteAt x.b 11 then (.error { err := 2, off := 0 }, sf)
    else if byteAt x.b 10 != x.scene then (.error { err := 4, off := 0 }, sf)
    else
      let pl := if bit (byteAt x.b 11) 0 then pl.map fun p => if p.any (·.scene == x.scene) then none else p else pl
      (parsePackets x sf (bit (byteAt x.b 11) 1) (x.b.length / 16 + 1) pl 0 len, sf)

/-! ### The scene ring (R198 to R202) -/

/-- The pool that holds the whole range. -/
def State.poolOf (s : State) (a n : Nat) : Option Nat := (List.range 4).find? fun q => match s.scene.pools.getD q none with
  | some (b, len) => inside a n b len
  | none => false

/-- SCENE_RETIRED of a scene: the first of its entries that has not retired bounds the fence, the newest retired one where none
is left; 0 while none has retired. -/
def Scene.fence (x : Scene) (sc : Nat) : Scene :=
  let first := x.live.foldl (fun a e => if e.scene == sc then some (match a with | some k => min k e.k | none => e.k) else a) (none : Option Nat)
  let last := x.newest.getD sc 0
  { x with retired := x.retired.set sc (BitVec.ofNat 32 (if last == 0 then 0 else first.getD last)) }
/-- A scene entry retires (R201). -/
def State.retireEntry (sc k : Nat) (irq : Bool) (s : State) : State :=
  let s := s.modScene fun x => Scene.fence { x with live := x.live.filter (·.k != k), newest := x.newest.set sc (max (x.newest.getD sc 0) (k + 1)) } sc
  if irq then s.ownerVector 6 else s

/-- Reject entry k (R198). -/
def State.rejectEntry (k sc : Nat) (irq : Bool) (e : StreamError) (sf : Nat) (s : State) : State :=
  let s := s.modScene fun x => { x with consumed := x.consumed + 1, rejected := true, lastError := e.err, lastRejected := BitVec.ofNat 32 (k + 1) }
  let s := s.post 0x781 2 (le 1 e.err ++ le 1 e.plane ++ [0, 0] ++ le 4 e.off ++ le 4 sf)
  if sc < 4 then s.retireEntry sc k irq else if irq then s.ownerVector 6 else s

/-- Parse the oldest outstanding entry (R198, R199). -/
def execSceneEntryParse (s : State) : Result :=
  done (s.when (s.scene.producer != s.scene.consumed && !s.mem.map.isEmpty && s.domOn domCMP) fun s =>
    let k := s.scene.consumed.toNat
    let e := memRead s.win (sceneEntryAddr k) 32
    let a := a40At e 0
    let n := u32At e 8
    let sc := byteAt e 5
    let irq := bit (byteAt e 6) 1
    if 3 < byteAt e 6 || byteAt e 7 != 0 || !(slice e 16 16).all (· == 0) || 3 < sc then s.rejectEntry k sc irq { err := 4, off := 0 } 0
    else if a % 16 != 0 || n % 16 != 0 then s.rejectEntry k sc irq { err := 11, off := 0 } 0
    else match s.poolOf a n with
      | none => s.rejectEntry k sc irq { err := 11, off := 0 } 0
      | some q =>
        let base := match s.scene.pools.getD q none with | some (b, _) => b | none => 0
        let x : Stream := { b := s.devRead a n, scene := sc, entry := q * 2 ^ 30 + (a - base) / 16, bad := fun o len => s.poisoned (a + o) len }
        match parseStream x s.scene.pend with
        | (.error er, sf) => s.rejectEntry k sc irq er sf
        | (.ok pl, sf) => s.modScene fun y => Scene.fence (sc := sc) { y with
            consumed := y.consumed + 1, pend := pl,
            waiting := y.waiting ++ [{ k := k, scene := sc, irqApply := bit (byteAt e 6) 0, irqRetire := irq, notBefore := BitVec.ofNat 32 (u32At e 12),
                                       sceneFrame := BitVec.ofNat 32 sf, planes := pl }],
            live := y.live ++ [{ k := k, scene := sc, irqRetire := irq }] })

/-- SCENE_PRODUCER (R199, R472): writes from the owner only (R13). -/
def execSceneProducer (m : Master) (value : W32) (s : State) : Result := s.byPort m.code fun s =>
  done (if !s.isOwner m.code then s.dropWrite m 0x4F000
  else match producerRule 256 s.scene.producer s.scene.consumed value with
    | .nothing => s
    | .overrun => s.modScene fun x => { x with overrun := true }
    | .takes => s.modScene fun x => { x with producer := value })

/-- Frame f counts as at or after N (R200). -/
def atOrAfter (f n : W32) : Bool := n == 0 || (f - n).toNat < 2 ^ 31

/-- Apply one waiting entry at the latch point of frame f: earlier entries of its scene are due at the next fence, and the set
that was in force, or that the entry overtakes, keeps its pages until then (R206). -/
def State.applyScene (w : SceneWait) (s : State) : State :=
  let f := s.disp.frame
  let s := s.modScene fun x => { x with
    prevPlanes := some (x.prevPlanes.getD [] ++ x.planes), planes := w.planes, lastSf := w.sceneFrame,
    applied := x.applied.set w.scene (BitVec.ofNat 32 (w.k + 1)), appliedFrame := x.appliedFrame.set w.scene f, appliedSf := x.appliedSf.set w.scene w.sceneFrame,
    live := x.live.map fun e => if e.scene == w.scene && e.k < w.k then { e with due := true } else e }
  if w.irqApply then s.ownerVector 5 else s

/-- Parsed entries apply at the latch point, in ring order, up to the first that must wait (R200). -/
def State.applyScenes (s : State) : State :=
  let ready := s.scene.waiting.takeWhile fun w => atOrAfter s.disp.frame w.notBefore
  ready.foldl (fun t w => t.applyScene w) (s.modScene fun x => { x with waiting := x.waiting.drop ready.length })

/-- An entry of the scene waits to apply at the next latch point (R202). -/
def State.sceneSupplied (s : State) (sc : Nat) : Bool :=
  (s.scene.waiting.takeWhile fun w => atOrAfter s.nextFrame w.notBefore).any (·.scene == sc)

/-- The retire fence passes for scenes (R201, R206). -/
def State.retireScenes (s : State) : State :=
  let due := s.scene.live.filter (·.due)
  (due.foldl (fun t e => t.retireEntry e.scene e.k e.irqRetire) s).modScene fun x => { x with prevPlanes := none }

/-- A memory remap clears every scene (R210): planes deleted, pools lost, pages released. -/
def State.clearScenes (s : State) : State :=
  s.modScene fun x => { x with
    pools := List.replicate 4 none,
    planes := List.replicate 32 none, pend := List.replicate 32 none, prevPlanes := none,
    waiting := x.waiting.map fun w => { w with planes := List.replicate 32 none } }

/-- SCENE_STATUS. -/
def State.sceneStatus (s : State) : Nat :=
  bitOf s.scene.overrun 0 + bitOf s.scene.rejected 1 + bitOf s.scene.slotDropped 2 + s.scene.lastError * 256

end Sys2Proof.Machine
end

