-- ==== Sys2Proof/Machine/Layers.lean ====
section
/-! DEFINITION. Layers: shadow blocks, commits, the flip ring, the layer path and view-capture settings (spec/10, R237 to
R259). -/

namespace Sys2Proof.Machine

/-! ### The layer shadow block (Table 10.5) -/

abbrev Block := Bytes
def Block.type (b : Block) : Nat := byteAt b 1
def Block.fmt (b : Block) : Nat := byteAt b 2
def Block.flags (b : Block) : Nat := byteAt b 3
def Block.premult (b : Block) : Bool := bit b.flags 1
def Block.hide (b : Block) : Bool := bit b.flags 2
def Block.gating (b : Block) : Bool := bit b.flags 3
def Block.join (b : Block) : Bool := bit b.flags 4
def Block.x (b : Block) : Nat := u16At b 4
def Block.y (b : Block) : Nat := u16At b 6
def Block.w (b : Block) : Nat := u16At b 8
def Block.h (b : Block) : Nat := u16At b 10
def Block.z (b : Block) : Int := s16At b 12
def Block.alpha (b : Block) : Nat := u16At b 14
def Block.buffer (b : Block) : Nat := a40At b 16
def Block.pitch (b : Block) : Nat := u32At b 24
def Block.srcW (b : Block) : Nat := u16At b 28
def Block.srcH (b : Block) : Nat := u16At b 30
def Block.source (b : Block) : Nat := byteAt b 32
def Block.blend (b : Block) : Nat := byteAt b 33

/-- BAR0 address of layer l's shadow block and of L4-L7's palettes (Table 10.4). -/
def blockAddr (l : Nat) : Nat := 0x34000 + 64 * l
def paletteAddr (l : Nat) : Nat := 0x38000 + 2048 * (l - 4)
def State.shadow (s : State) (l : Nat) : Block := memRead s.win (blockAddr l) 64
def Commit.block (c : Commit) (l : Nat) : Block := memRead c.snap (blockAddr l) 64

/-- Video layout (Table 10.2). -/
def Block.layout (b : Block) : Nat := b.fmt % 8
def Block.depth (b : Block) : Nat := b.fmt / 8 % 4
def Block.is420 (b : Block) : Bool := b.layout ≤ 1
def Block.is422 (b : Block) : Bool := b.layout == 2 || b.layout == 3
def Block.planar3 (b : Block) : Bool := b.layout == 1 || b.layout == 3 || b.layout == 4
/-- Bytes of n samples of a plane. -/
def Block.sampleBytes (b : Block) (n : Nat) : Nat :=
  match b.depth with
  | 0 => n
  | 3 => (3 * n + 1) / 2
  | _ => 2 * n
/-- Bytes of one line of plane 0. -/
def Block.lineBytes (b : Block) : Nat := if b.type == 1 then b.sampleBytes b.srcW else fmtBytes b.fmt * b.srcW

/-- The planes of a buffer (R241): start, line pitch, lines. -/
def Block.planes (b : Block) : List (Nat × Nat × Nat) :=
  let p0 := (b.buffer, b.pitch, b.srcH)
  if b.type != 1 then [p0]
  else
    let ch := if b.is420 then b.srcH / 2 else b.srcH
    let cp := if b.layout == 1 || b.layout == 3 then b.pitch / 2 else b.pitch
    let c0 := b.buffer + b.pitch * b.srcH
    if b.planar3 then [p0, (c0, cp, ch), (c0 + cp * ch, cp, ch)] else [p0, (c0, cp, ch)]
/-- Bytes from BUFFER to the end of the last plane (R241). -/
def Block.bytes (b : Block) : Nat := (b.planes.map fun p => p.2.1 * p.2.2).sum

def Block.isFlat (b : Block) : Bool := b.type == 1 || b.type == 2
/-- Wholly within the SAFE-VIEW graphic window (R257). -/
def Block.inWindow (b : Block) : Bool := cellarBase ≤ b.buffer && b.buffer + b.bytes ≤ cellarBase + cellarSize

/-! ### Validation (R250, Table 10.7) -/

/-- Size limits of R246 on one axis. -/
def scaleBad (src out : Nat) : Bool := src == 0 || out == 0 || 4 * out < src || 16 * src < out

/-- The checks of Table 10.7 that need only the blocks and the machine's configuration: the lowest REASON below 8. -/
def Block.reason (blocks : Nat → Block) (l : Nat) : Option Nat :=
  let b := blocks l
  let partner := blocks (if l % 2 == 0 then l + 1 else l - 1)
  if 4 < b.type || (b.type == 1 && 4 ≤ l) then some 1
  else if b.type == 0 then none
  else if (b.type == 1 && (4 < b.layout || 128 ≤ b.fmt || (b.is420 && (b.srcW % 2 == 1 || b.srcH % 2 == 1)) || (b.is422 && b.srcW % 2 == 1)))
      || (b.type == 2 && (3 < b.fmt || (b.fmt == 3 && l < 4))) then some 2
  else if b.type == 1 && ((4096 < b.srcW && !b.join) || 8192 < b.srcW) then some 3
  else if b.join && (b.type != 1 || partner.type == 1 || (partner.type != 0 && partner.join)) then some 4
  else if b.type != 4 && (scaleBad b.srcW b.w || scaleBad b.srcH b.h || (b.type == 2 && (b.w != b.srcW || b.h != b.srcH))) then some 5
  else if b.type != 4 && (16384 < b.w || 8704 < b.h) then some 6
  else if b.isFlat && (b.buffer % 64 != 0 || b.pitch % 64 != 0 || b.pitch < b.lineBytes || (b.type == 1 && (b.layout == 1 || b.layout == 3) && b.pitch % 128 != 0)) then some 7
  else none

/-- REASON 11. -/
def Block.valueBad (b : Block) : Bool :=
  b.z < -16384 || 16384 < b.z || 4095 < b.alpha || 1 < b.blend || (3 ≤ b.type && b.blend != 0)
    || byteAt b 0 != 0 || bit b.flags 0 || 32 ≤ b.flags || uAt 3 b 21 != 0 || !(slice b 34 30).all (· == 0)

/-- Taps of one phase sum to 16,384 (R243). -/
def sumsOk (n : Nat) (t : List Int) : Bool := (List.range 64).all fun p => ((t.drop (n * p)).take n).sum == 16384

/-- Texels per second of the flat layers 0 to l at the maximum frame rate in force (R247). -/
def flatRate (blocks : Nat → Block) (hz l : Nat) : Nat :=
  ((List.range (l + 1)).map fun i => if (blocks i).isFlat then (blocks i).w * (blocks i).h else 0).sum * hz

/-- The ranges that layers 0 to l would hold (R204). -/
def flatRanges (blocks : Nat → Block) (l : Nat) : Nat := ((List.range (l + 1)).filter fun i => (blocks i).isFlat).length

/-- The first failing check of layer l (R250). -/
def State.layerReason (s : State) (l : Nat) : Option Nat :=
  let b := s.shadow l
  match Block.reason s.shadow l with
  | some r => some r
  | none =>
    if b.type == 0 then none
    else if b.isFlat && (!s.inRegion b.buffer b.bytes || (s.permanent b.buffer b.bytes).isSome) then some 8
    else if b.isFlat && 512 < s.leases.holds.length + s.leases.ending.length + flatRanges s.shadow l then some 9
    else if 3 ≤ b.type && (3 < b.source || (b.type == 3 && !(s.depth.layers.getD b.source {}).enabled)) then some 10
    else if b.valueBad then some 11
    else if b.type == 1 && (match s.layers.coef.getD l ([], []) with | (h, v) => !(sumsOk 8 h && sumsOk 6 v)) then some 12
    else if b.isFlat && 15 * 10 ^ 9 < flatRate s.shadow s.maxHz l then some 13
    else none

/-- The rejection of the shadows as they stand: REASON and layer. -/
def State.commitReason (s : State) : Option (Nat × Nat) :=
  (List.range 8).findSome? fun l => (s.layerReason l).map fun r => (r, l)

/-! ### Commits (R249 to R253) -/

/-- Bytes of the flip window that a commit takes a snapshot of: the layer blocks and the palettes. -/
def snapshot (w : Memory) : Memory := w.filter fun c => (0x34000 ≤ c.1 && c.1 < 0x34200) || (0x38000 ≤ c.1 && c.1 < 0x3A000)

/-- Accept the shadows as a commit that supplies `mask` and the buffers flipped since the last one (R249, R253). -/
def State.accept (mask : Nat) (irq : Bool) (s : State) : State :=
  let no := s.layers.last + 1
  let sup := BitVec.ofNat 8 mask ||| s.layers.maskSince
  let s := s.modLayers fun x => { x with
    last := no, maskSince := 0, supplied := x.supplied ||| sup,
    hidden := if s.mem.realloc then x.hidden else x.hidden &&& (~~~sup),
    accepted := x.accepted ++ [{ no := no, snap := snapshot s.win, coef := x.coef, supplies := sup, irqRetire := irq }] }
  s.modLeases fun x => { x with holds := x.holds ++ ((List.range 8).filter fun l => (s.shadow l).isFlat).map fun l =>
    { kind := 0, no := no, base := (s.shadow l).buffer, len := (s.shadow l).bytes, layer := l } }

/-- Validate and commit the shadows: none when accepted, else the REASON and the layer (R250). -/
def State.commit (mask : Nat) (irq : Bool) (s : State) : State × Option (Nat × Nat) :=
  match s.commitReason with
  | none => (s.accept mask irq, none)
  | some (r, l) => ((s.modLayers fun x => { x with rejected := true, lastReason := r, lastLayer := l }).ownerVector 4, some (r, l))

/-- DISP_COMMIT (R249): writes from the owner only (R13). -/
def execDispCommit (m : Master) (value : W32) (s : State) : Result := s.byPort m.code fun s =>
  done (if !s.isOwner m.code then s.dropWrite m 0x3F00C
  else if !s.domOn domCMP then s.offAccess m domCMP 0x3F00C true
  else if value.getLsbD 0 then (s.commit (value.toNat / 256 % 256) false).1 else s)

/-- LAYER.SET: the argument bytes 1 to 33 go into the shadow block, FLAGS bit 0 as 0 (R91); COMMIT commits (R249). -/
def execLayerSet (m : Master) (s : State) : Result :=
  done (runCmd { code := 0x0902, cls := 1, len := 34, args := [{ off := 0, hi := 7 }], reserved := false } noUnit noPre (fun c s =>
    let l := c.u8 0
    let commit := bit (c.u8 3) 0
    let b := patch (slice c.args 1 33) 2 [BitVec.ofNat 8 (c.u8 3 / 2 * 2)]
    let s := s.modWin fun w => memWrite w (blockAddr l + 1) b
    if !commit then (s, .ok (le 4 0))
    else match s.commit (2 ^ l) false with
      | (s, none) => (s, .ok (le 4 s.nextFrame.toNat))
      | (s, some (r, k)) => (s, .kept (if r == 9 then stNoResource else stCommitRejected) r (unitLayer k))) m s)

/-- LAYER.QUERY. -/
def execLayerQuery (m : Master) (s : State) : Result :=
  done (runCmd { code := 0x0900, cls := 0, len := 1, args := [{ off := 0, hi := 7 }] } noUnit noPre (fun c s =>
    let l := c.u8 0
    let b := match s.layers.force with | some k => k.block l | none => List.replicate 64 0
    (s, .ok (le 1 l ++ slice b 1 33 ++ le 4 s.layers.appliedFrame.toNat ++ le 1 (s.layers.states.getD l 0)))) m s)

/-! ### The flip ring (R248) -/

def flipEntryAddr (k : Nat) : Nat := 0x30000 + 64 * (k % 256)

def execFlipProducer (m : Master) (value : W32) (s : State) : Result := s.byPort m.code fun s =>
  done (if !s.isOwner m.code then s.dropWrite m 0x3F000
  else if !s.domOn domCMP then s.offAccess m domCMP 0x3F000 true
  else match producerRule 256 s.layers.producer s.layers.consumed value with
    | .nothing => s
    | .overrun => s.modLayers fun x => { x with overrun := true }
    | .takes => s.modLayers fun x => { x with producer := value })

/-- The oldest outstanding entry waits on NOT_BEFORE: it is consumed just after the latch point of frame N - 1. -/
def State.flipWaits (s : State) : Bool :=
  s.layers.producer != s.layers.consumed &&
    (let n := BitVec.ofNat 32 (u32At (memRead s.win (flipEntryAddr s.layers.consumed.toNat) 64) 4)
     (n != 0 && 2 ^ 31 ≤ (s.nextFrame - n).toNat))

/-- Reserved bytes of an entry (Table 10.6). -/
def flipEntryBad (e : Bytes) : Bool := 3 < byteAt e 0 || u16At e 2 != 0 || u64At e 48 != 0 || byteAt e 63 != 0

/-- ADDR[l] of the layers in MASK goes into their shadows. -/
def State.flipBuffers (e : Bytes) (s : State) : State :=
  (List.range 8).foldl (fun t l => if bit (byteAt e 1) l then t.modWin fun w => memWrite w (blockAddr l + 16) (slice e (8 + 5 * l) 5) else t) s

/-- Consume the oldest outstanding entry: buffers, commit, bytes 56 to 63 (R248). -/
def execFlipEntryConsume (s : State) : Result :=
  done (s.when (s.layers.producer != s.layers.consumed && !s.flipWaits && s.domOn domCMP) fun s =>
    let a := flipEntryAddr s.layers.consumed.toNat
    let e := memRead s.win a 64
    let finish (no result reason layer : Nat) (s : State) : State :=
      (s.modWin fun w => memWrite w (a + 56) (le 4 no ++ [BitVec.ofNat 8 result, BitVec.ofNat 8 reason, BitVec.ofNat 8 layer, 0])).modLayers
        fun x => { x with consumed := x.consumed + 1 }
    if flipEntryBad e then finish 0 3 0 0xFF s
    else
      let s := (s.flipBuffers e).modLayers fun x => { x with maskSince := x.maskSince ||| e.getD 1 0 }
      if !bit (byteAt e 0) 0 then finish 0 0 0 0xFF s
      else match s.commit 0 (bit (byteAt e 0) 1) with
        | (s, none) => finish s.layers.last 1 0 0xFF s
        | (s, some (r, l)) => finish 0 2 r l s)

/-- FLIP_STATUS. -/
def State.flipStatus (s : State) : Nat :=
  bitOf s.layers.overrun 0 + bitOf s.layers.rejected 1 + bitOf s.layers.slotDropped 2 + bitOf s.flipWaits 3 + s.layers.lastReason * 256 + s.layers.lastLayer * 2 ^ 16

/-- COMMIT_RETIRED: the largest v such that every commit numbered up to v has retired. -/
def State.commitRetired (s : State) : Nat :=
  let live := (s.layers.accepted ++ s.layers.force.toList ++ s.layers.retiring).map (·.no)
  live.foldl (fun a n => min a (n - 1)) s.layers.last

/-- Commits apply at a latch point: the newest is in force, the others retire at the next fence (R251, R252). -/
def State.applyCommits (s : State) : State :=
  match s.layers.accepted.getLast? with
  | none => s
  | some c => s.modLayers fun x => { x with
      retiring := x.retiring ++ x.force.toList ++ x.accepted.dropLast, force := some c, accepted := [], appliedFrame := s.disp.frame }

/-- A hold of a flat layer that goes on: its commit has not retired, or its layer still shows the range (R204, R205, R254);
a hidden layer's ends. -/
def State.keepsHold (s : State) (h : Hold) : Bool :=
  let shown := (s.layers.shown.getD h.layer {}).block
  let st := s.layers.states.getD h.layer 0
  h.kind != 0
    || (s.layers.accepted.any (·.no == h.no))
    || (s.layers.force.any (·.no == h.no) && st != 3)
    || (st == 2 && Block.buffer shown == h.base && Block.bytes shown == h.len)

/-- The retire fence passes for commits (R252): vector 3, holds released. -/
def State.retireCommits (s : State) : State :=
  let due := s.layers.retiring
  let s := s.modLayers fun x => { x with retiring := [] }
  let s := s.modLeases fun x => { x with holds := x.holds.filter s.keepsHold, ending := [] }
  due.foldl (fun t c => if c.irqRetire then t.ownerVector 3 else t) s

/-! ### The layer path (R240 to R244) -/

/-- Sample i of a line of a plane, widened to 12 bits (R240). -/
def State.videoSample (s : State) (b : Block) (start pitch : Nat) (i row : Nat) : Nat :=
  let a := start + pitch * row
  match b.depth with
  | 0 => 16 * (s.devByte (a + i)).toNat
  | 1 => 4 * (u16At (s.devRead (a + 2 * i) 2) 0 % 1024)
  | 2 => u16At (s.devRead (a + 2 * i) 2) 0 % 4096
  | _ => u16At (s.devRead (a + 3 * i / 2) 2) 0 / 2 ^ (12 * i % 8) % 4096

/-- Position of output index o: source size n, output size d, in 1/65,536 sample (R242). -/
def posLuma (o n d : Nat) : Int := (((2 * o + 1) * n * 65536 / (2 * d) : Nat) : Int) - 32768

/-- One plane scaled (R242): vertical filter, then horizontal. `sample` gives the sample at a column and line. -/
def scaled (sample : Nat → Nat → Nat) (coef : List Int × List Int) (cols lines : Nat) (px py : Int) : Nat :=
  let ix := px.fdiv 65536
  let iy := py.fdiv 65536
  let phx := (px.fdiv 1024 % 64).toNat
  let phy := (py.fdiv 1024 % 64).toNat
  let col (c : Int) := (clampI 0 ((cols : Int) - 1) c).toNat
  let row (r : Int) := (clampI 0 ((lines : Int) - 1) r).toNat
  let vq (c : Int) : Int := clampI (-2048) 6143 (roundDiv
    (((List.range 6).map fun k => coef.2.getD (6 * phy + k) 0 * (sample (col c) (row (iy - 2 + k)) : Int)).sum) 16384)
  (clampI 0 4095 (roundDiv (((List.range 8).map fun k => coef.1.getD (8 * phx + k) 0 * vq (ix - 3 + k)).sum) 16384)).toNat

/-- Conversion coefficients (Table 10.3): Y0, KY, KRV, KGU, KGV, KBU by MATRIX and RANGE. -/
def yuvCoef (matrix range : Nat) : Int × Int × Int × Int × Int × Int :=
  match matrix, range with
  | 0, 0 => (256, 9574, 14740, -1753, -4382, 17368)
  | 0, _ => (0, 8192, 12901, -1535, -3835, 15201)
  | _, 0 => (256, 9574, 13802, -1540, -5348, 17610)
  | _, _ => (0, 8192, 12080, -1348, -4681, 15412)

/-- Conversion of a sample triple (R244). -/
def yuvToPx (matrix range : Nat) (y cb cr : Nat) : Px :=
  let (y0, ky, krv, kgu, kgv, kbu) := yuvCoef matrix range
  let l : Int := ky * ((y : Int) - y0)
  let u : Int := (cb : Int) - 2048
  let v : Int := (cr : Int) - 2048
  let lim (n : Int) : Nat := (clampI 0 4095 (roundDiv n 8192)).toNat
  { a := 4095, r := lim (l + krv * v), g := lim (l + kgu * u + kgv * v), b := lim (l + kbu * u) }

/-- Output texel (x, y) of a video layer. -/
def State.videoTexel (s : State) (c : Shown) (x y : Nat) : Px :=
  let b : Block := c.block
  let lx := posLuma x b.srcW b.w
  let ly := posLuma y b.srcH b.h
  let cx := if b.is420 || b.is422 then lx.fdiv 2 else lx
  let cy := if b.is420 then (ly - 32768).fdiv 2 else ly
  let cw := if b.is420 || b.is422 then b.srcW / 2 else b.srcW
  let smp (i step off : Nat) (c r : Nat) : Nat := match b.planes.getD i (0, 0, 0) with
    | (start, pitch, _) => s.videoSample b start pitch (step * c + off) r
  let lines (i : Nat) := (b.planes.getD i (0, 0, 0)).2.2
  let luma := scaled (smp 0 1 0) c.coef b.srcW (lines 0) lx ly
  let cb := if b.planar3 then scaled (smp 1 1 0) c.coef cw (lines 1) cx cy else scaled (smp 1 2 0) c.coef cw (lines 1) cx cy
  let cr := if b.planar3 then scaled (smp 2 1 0) c.coef cw (lines 2) cx cy else scaled (smp 1 2 1) c.coef cw (lines 1) cx cy
  yuvToPx (b.fmt / 32 % 2) (b.fmt / 64 % 2) luma cb cr

/-- Texel (x, y) of a graphic layer (R240): PAL8 through the palette of the commit shown. -/
def State.graphicTexel (s : State) (c : Shown) (x y : Nat) : Px :=
  let b : Block := c.block
  let n := fmtBytes b.fmt
  let v := uAt n (s.devRead (b.buffer + b.pitch * y + n * x) n) 0
  if b.fmt == 3 then Px.of48 (uAt 6 (memRead c.palette (8 * v) 6) 0) else Px.load b.fmt v

/-- Texel (x, y) of a flat layer's plane (R239, R247): all components 0 beyond W or H. -/
def State.flatTexel (s : State) (c : Shown) (x y : Nat) : Nat :=
  let b : Block := c.block
  if b.w ≤ x || b.h ≤ y then 0
  else
    let p := if b.type == 1 then s.videoTexel c x y else s.graphicTexel c x y
    (if b.blend == 1 then { p with a := 4095 } else p).to48

/-- Samples that outputs o to o + 31 read along one axis (R242): the first and the last, of positions `pos` with `before` and
`after` taps around them, the edges repeated. -/
def tapSpan (pos : Nat → Int) (o d size before after : Nat) : Nat × Nat :=
  let lim (v : Int) : Nat := (clampI 0 ((size : Int) - 1) v).toNat
  (lim ((pos o).fdiv 65536 - before), lim ((pos (min (o + 31) (d - 1))).fdiv 65536 + after))

/-- Bytes of samples lo to hi of a line: offset and count. -/
def Block.sampleSpan (b : Block) (lo hi : Nat) : Nat × Nat :=
  match b.depth with
  | 0 => (lo, hi + 1 - lo)
  | 3 => (3 * lo / 2, (3 * hi + 4) / 2 - 3 * lo / 2)
  | _ => (2 * lo, 2 * (hi + 1 - lo))

/-- A source read of tile (tx, ty) returns an uncorrectable error (R247). -/
def State.flatPoisoned (s : State) (c : Shown) (tx ty : Nat) : Bool :=
  let b : Block := c.block
  if b.type == 1 then
    let subX := b.is420 || b.is422
    let hx (o : Nat) : Int := posLuma o b.srcW b.w
    let vy (o : Nat) : Int := posLuma o b.srcH b.h
    (List.range b.planes.length).any fun i =>
      let (start, pitch, lines) := b.planes.getD i (0, 0, 0)
      let chroma := i != 0
      let width := if chroma && subX then b.srcW / 2 else b.srcW
      let (x0, x1) := tapSpan (fun o => if chroma && subX then (hx o).fdiv 2 else hx o) (32 * tx) b.w width 3 4
      let (y0, y1) := tapSpan (fun o => if chroma && b.is420 then (vy o - 32768).fdiv 2 else vy o) (32 * ty) b.h lines 2 3
      let (o, n) := if chroma && !b.planar3 then b.sampleSpan (2 * x0) (2 * x1 + 1) else b.sampleSpan x0 x1
      (List.range (y1 + 1 - y0)).any fun r => s.poisoned (start + pitch * (y0 + r) + o) n
  else
    let n := fmtBytes b.fmt
    (List.range (min 32 (b.h - 32 * ty))).any fun r => s.poisoned (b.buffer + b.pitch * (32 * ty + r) + n * (32 * tx)) (n * min 32 (b.w - 32 * tx))

/-! ### View capture settings (R258, R259) -/

/-- Capture size in pixels. -/
def State.captureSize (s : State) : Nat × Nat := match s.disp.panel with
  | some p => ((p.width + 3) / 4, (p.height + 3) / 4)
  | none => (0, 0)
def captureLine (format w : Nat) : Nat := if format == 0 then (9 * w + 1) / 2 else 4 * w

def execLayerCaptureSet (m : Master) (s : State) : Result :=
  done (runCmd { code := 0x0903, cls := 1, len := 24, args := [{ off := 0, hi := 1 }, { off := 1, hi := 1 }, { off := 4, n := 5 }, { off := 12, n := 5 }, { off := 20, n := 4 }] } noUnit
    (fun c s =>
      let (w, h) := s.captureSize
      let p := c.u32 20
      if c.u8 0 == 0 then none
      else if !s.inRegion (c.a40 4) (p * h) (some 3) then some (4, 0)
      else if !s.inRegion (c.a40 12) (p * h) (some 3) then some (12, 0)
      else if p % 64 != 0 || p < captureLine (c.u8 1) w then some (20, 0) else none)
    (fun c s =>
      let n := c.u32 20 * s.captureSize.2
      if c.u8 0 == 1 && (s.held (c.a40 4) n || s.held (c.a40 12) n) then (s, .fail stLeaseHeld)
      else (s.modLayers fun x => { x with captureNext := some { enable := c.u8 0 == 1, format := c.u8 1, bufA := c.a40 4, bufB := c.a40 12, pitch := c.u32 20 } }, .ok [])) m s)

/-- CAPTURE_STATUS. -/
def State.captureStatus (s : State) : Nat :=
  bitOf s.layers.capture.enable 0 + bitOf (s.layers.capLast == 1) 1 + bitOf s.layers.capIncomplete 2 + bitOf s.layers.capWaiting 3

end Sys2Proof.Machine
end

