-- ==== Sys2Proof/Machine/Ray.lean ====
section
/-! DEFINITION. The ray engine: calibration map, planes of a frame, rays, strips, clusters, the Cellar and view capture
(spec/09, R211 to R236; spec/10, R257 to R259). -/

namespace Sys2Proof.Machine

/-! ### The ray calibration map (R212 to R214) -/

def mapBytes : Nat := 17792

/-- The fields of REASON 3 match the panel configuration in force (R213, R214). -/
def State.mapMatches (s : State) (m : Bytes) : Bool := match s.disp.panel with
  | none => false
  | some p => byteAt m 2 == p.subframes && byteAt m 3 == p.layout && u16At m 8 == p.width && u16At m 10 == p.height && u16At m 12 == p.pitchUm

/-- Reserved bytes and unused subframe records of a map (Table 9.1). -/
def mapReservedBad (m : Bytes) : Bool :=
  let nz (o n : Nat) := (slice m o n).any (· != 0)
  nz 14 2 || nz 32 32 || nz 194 62 || (List.range 8).any fun i =>
    if i < byteAt m 2 then nz (258 + 144 * i) 2 || nz (390 + 144 * i) 10 else nz (256 + 144 * i) 144

/-- The REASON a map is refused for (R213). -/
def State.mapError (s : State) (m : Bytes) (crc : Nat) : Option Nat :=
  if m.length != mapBytes || u16At m 0 != 1 || u32At m 4 != mapBytes then some 2
  else if (crc32 m).toNat != crc then some 1
  else if !s.mapMatches m then some 3
  else if u32At m 20 == 0 || 65535 < u32At m 20 || s32At m 16 < -65535 || 65535 < s32At m 16 then some 4
  else if u32At m 24 < 2 * 65536 || 255 * 65536 < u32At m 24 then some 5
  else if mapReservedBad m then some 6 else none

def State.mapValid (s : State) : Bool := match s.ray.map with
  | some m => s.mapMatches m
  | none => false

/-- RAY_CAL_STATUS. -/
def State.calStatus (s : State) : Nat := bitOf s.mapValid 0 + bitOf (s.ray.load.any fun l => !l.written) 1 + bitOf (s.ray.map.isSome && !s.mapValid) 2
def State.calCrc (s : State) : Nat := match s.ray.map with | some m => (crc32 m).toNat | none => 0

/-- Frame period of the timing in force at E = 0, ns. -/
def State.framePeriod (s : State) : Nat := match s.disp.panel with
  | some p => framePeriodRaw p s.disp.timing s.disp.timing.lineNs / 256
  | none => 0

/-- RAY.CAL_LOAD (R213). -/
def execRayCalLoad (m : Master) (s : State) : Result :=
  done (runCmd { code := 0x0801, cls := 1, bulk := some 0, len := 20, args := [{ off := 16, n := 4 }] } noUnit noPre (fun c s =>
    let b := c.bulkBytes s
    match s.mapError b (c.u32 16) with
    | some r => (s, .badArg (if r == 1 then 16 else if b.length != mapBytes then 8 else 0xFF) r)
    | none =>
      if s.ray.load.isSome then (s, .fail stBusy)
      else (s.modRay fun x => { x with load := some { bytes := b, crc := BitVec.ofNat 32 (c.u32 16), id := 0, master := c.m } }, .pend (2 * s.framePeriod + ms 20) 0)) m s)

/-- Every shadow of the map, the spare's included, is written (R213). -/
def execMapShadowsWritten (s : State) : Result := done (s.modRay fun x => { x with load := x.load.map fun l => { l with written := true } })

/-- A written map applies at the latch point when it still matches the panel then in force, and goes to its NVM record (R213).
RESULT is FRAME; the REASON of a map that no longer matches follows it (log 58). -/
def State.applyMap (s : State) : State :=
  match s.ray.load with
  | none => s
  | some l =>
    if !l.written then s
    else
      let s := s.modRay fun x => { x with load := none }
      let frame := le 4 s.nextFrame.toNat
      if s.mapMatches l.bytes then ((s.modRay fun x => { x with map := some l.bytes }).completeAll 0x0801 stOk frame).deferRecord 0x40 l.bytes
      else s.completeAll 0x0801 stBadArg (frame ++ [3])

/-- RAY.LIMITS (R221). -/
def execRayLimits (m : Master) (s : State) : Result :=
  done (runCmd { code := 0x0802, cls := 1, len := 4, args := [{ off := 0, lo := 1, hi := 64 }, { off := 2, n := 2, lo := 1, hi := 128 }] } noUnit noPre
    (fun c s => (s.modRay fun x => { x with limitsNext := some (c.u8 0, c.u16 2) }, .ok [])) m s)

/-- Limits apply at the latch point (R221). -/
def State.applyLimits (s : State) : State := s.modRay fun x => match x.limitsNext with
  | some (a, b) => { x with planesPerRay := a, planesPerFrame := b, limitsNext := none }
  | none => x

/-- The per-ray limit: RAY.LIMITS and the governor's stage 2 (R221, R35). -/
def State.rayLimit (s : State) : Nat := min s.ray.planesPerRay (match s.gov.planeSteps with | 0 => 64 | 1 => 32 | _ => 16)

/-! ### Direction of a ray (R215) -/

/-- Signed 16-bit entry of the map at byte offset o. -/
def mapS (m : Bytes) (o : Nat) : Int := s16At m o

/-- Grid position on one axis: node and weight in 1/65,536 (R215); at node 63 the weight is 0. -/
def gridPos (x size : Nat) : Nat × Nat :=
  let f := if size ≤ 1 then 0 else x * 63 * 65536 / (size - 1)
  if 63 ≤ f / 65536 then (63, 0) else (f / 65536, f % 65536)

/-- Bilinear correction from the grid, component `o` (0 for u, 2 for v). -/
def gridAt (m : Bytes) (gx wx gy wy o : Nat) : Int :=
  let n (i j : Nat) : Int := mapS m (1408 + 4 * (min 63 j * 64 + min 63 i) + o)
  roundDiv (n gx gy * (65536 - wx : Int) * (65536 - wy : Int) + n (gx + 1) gy * wx * (65536 - wy : Int)
    + n gx (gy + 1) * (65536 - wx : Int) * wy + n (gx + 1) (gy + 1) * wx * wy) (2 ^ 32)

/-- The direction (u, v) of the ray of subpixel c of pixel (x, y) in subframe s. -/
def direction (m : Bytes) (width height sf x y c : Nat) : Int × Int :=
  let den := u32At m 20
  let qn : Int := (((3 * x + c) * den : Nat) + (y : Int) * s32At m 16) * 65536 + s32At m 28 * den
  let pd : Int := ((u32At m 24 * den : Nat) : Int)
  let ph := ((qn % pd).toNat * 65536 / pd.toNat + u16At m (256 + 144 * sf)) % 65536
  let i := ph / 1024
  let f : Int := (ph % 1024 : Nat)
  let t (k : Nat) := mapS m (64 + 2 * k)
  let u0 := t i + roundDiv ((t (i + 1) - t i) * f) 1024
  let yq := if height == 1 then 0 else y * 65536 / (height - 1)
  let j := yq / 1024
  let g : Int := if j == 64 then 0 else (yq % 1024 : Nat)
  let v (k : Nat) := mapS m (260 + 144 * sf + 2 * min 64 k)
  let v0 := v j + roundDiv ((v (j + 1) - v j) * g) 1024
  let (gx, wx) := gridPos x width
  let (gy, wy) := gridPos y height
  (clampI (-32768) 32767 (u0 + gridAt m gx wx gy wy 0), clampI (-32768) 32767 (v0 + gridAt m gx wx gy wy 2))

/-! ### Texels of a plane (R218, R226, R235) -/

/-- Start of the tile slots of a pool half (R179). -/
def tileBase (planes tiles : Nat) : Nat := (64 + 4 * planes * tiles + 63) / 64 * 64

/-- The entry of a slice plane's tile map: the slot's device address, none for an empty tile (R179). -/
def State.sliceSlot (s : State) (half k tx ty : Nat) : Option Nat :=
  let hd := s.devRead half 24
  let cols := u16At hd 18
  let tiles := cols * u16At hd 20
  let e := u32At (s.devRead (half + 64 + 4 * (k * tiles + ty * cols + tx)) 4) 0
  if e == 0xFFFFFFFF then none else some (half + tileBase (byteAt hd 16) tiles + 6144 * e)

/-- The Cellar key of a tile of plane p; none for an empty tile and for content shown without the tile cache. -/
def State.tileKey (s : State) (f : RayFrame) (sf : Nat) (p : RayPlane) (tx ty : Nat) : Option TileKey :=
  match p.src with
  | .scene dir _ => (match dir.getD (ty * ((p.w + 31) / 32) + tx) 0xFFFFFFFF with | 0xFFFFFFFF => none | e => some (.record e.toNat))
  | .slice half k => (s.sliceSlot half k tx ty).map .slot
  | .flat _ => some (.flat p.layer f.frame sf tx ty)
  | _ => none

/-- Texels of a tile as fetched and decoded; none when it counts as poisoned (R196, R197, R235). -/
def State.decodeTile (s : State) : TileKey → Option (List Nat)
  | .record e => s.sceneTile (BitVec.ofNat 32 e)
  | .slot a => if s.poisoned a 6144 then none else some ((List.range 1024).map fun i => uAt 6 (s.devRead (a + 6 * i) 6) 0)
  | .flat .. => none

/-- Texel of an output buffer shown flat (R184): converted as the layer path converts video. -/
def bufferTexel (b : OutBuf) (x y : Nat) : Nat :=
  let at_ (pl : Plane) (step off : Nat) (c r : Nat) : Nat := (pl.getD r []).getD (step * c + off) 0
  let cx := ((65536 * x : Nat) : Int).fdiv 2
  let cy := (((65536 * y : Nat) : Int) - 32768).fdiv 2
  let cb := scaled (at_ b.c 2 0) (catmullH, catmullV) (b.width / 2) (b.height / 2) cx cy
  let cr := scaled (at_ b.c 2 1) (catmullH, catmullV) (b.width / 2) (b.height / 2) cx cy
  (yuvToPx b.matrix b.range (at_ b.y 1 0 x y) cb cr).to48

/-- What a texel read gives: it waits for a tile that is not in the cache, reads as all components 0 for a reason of R218, or
gives the texel. -/
inductive TexelRead | wait (k : TileKey) | zero | texel (v : Nat)
deriving DecidableEq, Repr

def State.texel (s : State) (f : RayFrame) (sf : Nat) (p : RayPlane) (ix iy : Int) : TexelRead :=
  if ix < 0 || iy < 0 || (p.w : Int) ≤ ix || (p.h : Int) ≤ iy then .zero
  else
    let x := ix.toNat
    let y := iy.toNat
    match p.src with
    | .image base => .texel (Px.load 1 (u32At (s.devRead (base + 4 * (y * p.w + x)) 4) 0)).to48
    | .buffer b => .texel (bufferTexel b x y)
    | _ =>
      match s.tileKey f sf p (x / 32) (y / 32) with
      | none => .zero
      | some k =>
        if f.poisoned.contains k then .zero
        else match s.cellar.tiles.find? fun t => t.key == k with
          | some t => .texel (t.tex.getD (y % 32 * 32 + x % 32) 0)
          | none => .wait k

/-- Component of a texel: 0 red, 1 green, 2 blue, 3 alpha. -/
def comp (v c : Nat) : Nat := match c with
  | 0 => bits v 35 24
  | 1 => bits v 23 12
  | 2 => bits v 11 0
  | _ => bits v 47 36

/-- Result of sampling a plane: not possible before some tiles come, not met, or met with its alpha and colour. -/
inductive Sample | missing (tiles : List TileKey) | miss | met (a col : Nat)
deriving DecidableEq, Repr

/-- Bilinear sample of plane p at (tx, ty) in 1/256 texel, channel c (R218). -/
def State.sample (s : State) (f : RayFrame) (sf : Nat) (p : RayPlane) (tx ty : Int) (c : Nat) : Sample :=
  let ix := tx.fdiv 256
  let iy := ty.fdiv 256
  let fx := (tx % 256).toNat
  let fy := (ty % 256).toNat
  let t := [s.texel f sf p ix iy, s.texel f sf p (ix + 1) iy, s.texel f sf p ix (iy + 1), s.texel f sf p (ix + 1) (iy + 1)]
  let lacks := t.filterMap fun v => match v with
    | .wait k => some k
    | _ => none
  if !lacks.isEmpty then .missing lacks
  else if t.all fun v => v == .zero then .miss
  else
    let v (i k : Nat) : Nat := match t.getD i .zero with | .texel w => comp w k | _ => 0
    let mix (k : Nat) : Nat := roundNat ((v 0 k * (256 - fx) + v 1 k * fx) * (256 - fy) + (v 2 k * (256 - fx) + v 3 k * fx) * fy) 65536
    .met (mix 3) (mix c)

/-- Where the ray of pixel (x, y) with direction (u, v) samples plane p (R217). -/
def RayPlane.hit (p : RayPlane) (pitch x y : Nat) (u v : Int) : Int × Int :=
  let o (d : Int) := roundDiv (p.z * d * 1000) (1024 * pitch)
  (((256 * x + o u - p.x0) * p.invx + 32768).fdiv 65536, ((256 * y + o v - p.y0) * p.invy + 32768).fdiv 65536)

/-- Compositing of a ray so far (R220). -/
structure RayAcc where
  c : Nat := 0
  acc : Nat := 0
  n : Nat := 0
  stop : Bool := false
  limited : Bool := false
  /-- the tiles the ray waits for -/
  need : List TileKey := []
deriving DecidableEq, Repr

/-- The ray waits for tiles. -/
def RayAcc.missing (r : RayAcc) : Bool := !r.need.isEmpty

/-- One met plane composited front to back (R220). -/
def RayAcc.over' (al : Nat) (straight : Bool) (a0 col : Nat) (r : RayAcc) : RayAcc :=
  let a := roundNat (a0 * al) 4095
  let k := if straight then roundNat (col * a) 4095 else min 4095 (roundNat (col * al) 4095)
  let acc := r.acc + roundNat (a * (4095 - r.acc)) 4095
  { r with n := r.n + 1, c := min 4095 (r.c + roundNat (k * (4095 - r.acc)) 4095), acc := acc, stop := acc == 4095 }

/-- The next plane of the order of R219. -/
def State.rayPlane (s : State) (f : RayFrame) (sf x y c : Nat) (u v : Int) (r : RayAcc) (p : RayPlane) : RayAcc :=
  if r.stop then r
  else
    let (tx, ty) := p.hit (u16At f.map 12) x y u v
    match s.sample f sf p tx ty c with
    | .miss => r
    | .missing tiles => if r.n == f.lim then { r with stop := true, limited := true } else { r with stop := true, need := tiles }
    | .met a col => if r.n == f.lim then { r with stop := true, limited := true } else r.over' p.alpha p.straight a col

def State.rayIn (s : State) (f : RayFrame) (sf x y c : Nat) (u v : Int) : RayAcc := f.planes.foldl (s.rayPlane f sf x y c u v) {}
/-- The ray of a subpixel (R215 to R220). -/
def State.ray1 (s : State) (f : RayFrame) (sf x y c : Nat) : RayAcc :=
  let (u, v) := direction f.map f.width f.height sf x y c
  s.rayIn f sf x y c u v

/-! ### Planes of a frame (R216, R219, Table 9.2) -/

def limitZ (z : Int) : Int := clampI (-16384) 16384 z

/-- The planes that layer l contributes to the frame latched; a held layer shows what it showed in the frame before (R254). -/
def State.layerPlanes (s : State) (l : Nat) : List RayPlane :=
  let c := s.layers.shown.getD l {}
  let b : Block := c.block
  let p (ident : Nat) (src : PlaneSrc) (w h : Nat) (straight : Bool) : RayPlane :=
    { layer := l, ident := ident, src := src, w := w, h := h, z := limitZ b.z, x0 := 256 * b.x, y0 := 256 * b.y, invx := 65536, invy := 65536, alpha := b.alpha, straight := straight }
  let st := s.layers.states.getD l 0
  let slicer := s.depth.layers.getD b.source {}
  let port := slicer.cfg.port
  if st == 2 then s.ray.layerPlanes.getD l []
  else if st == 5 then
    let a := (s.cam.ports.getD port {}).cfg.noSignal
    if a == 0 then [] else [p 0 (.image a) b.w b.h true]
  else if !(st == 1 || st == 6) then []
  else match b.type with
    | 1 | 2 => [p 0 (.flat c) b.w b.h (b.type == 1 || !b.premult)]
    | 3 =>
      if !s.domOn domSL then (match (s.isp.ports.getD port {}).bufs.find? (·.complete) with | some o => [p 0 (.buffer o) o.width o.height true] | none => [])
      else match slicer.inForce with
      | none => []
      | some h =>
        let hd := s.devRead h.base 64
        (List.range (byteAt hd 16)).map fun k => { p k (.slice h.base k) (u16At hd 12) (u16At hd 14) true with
          z := limitZ (b.z + s16At hd (24 + 2 * k)),
          x0 := 256 * b.x + (roundNat (128 * b.w) b.srcW : Int) - 128, y0 := 256 * b.y + (roundNat (128 * b.h) b.srcH : Int) - 128,
          invx := 65536 * b.srcW / b.w, invy := 65536 * b.srcH / b.h }
    | 4 => (List.range 32).filterMap fun i => match s.scene.planes.getD i none with
      | some q => if q.scene == b.source then some { p i (.scene q.dir q.sizes) q.w q.h (!q.premult) with
          z := limitZ (b.z + q.z), x0 := 256 * b.x + q.x, y0 := 256 * b.y + q.y, alpha := roundNat (b.alpha * q.alpha) 4095 } else none
      | none => none
    | _ => []

/-- Plane a comes before plane b in the order of R219. -/
def RayPlane.before (a b : RayPlane) : Bool :=
  b.z < a.z || (a.z == b.z && (b.layer < a.layer || (a.layer == b.layer && b.ident ≤ a.ident)))
def insertPlane (p : RayPlane) : List RayPlane → List RayPlane
  | [] => [p]
  | q :: t => if p.before q then p :: q :: t else q :: insertPlane p t
def sortPlanes (l : List RayPlane) : List RayPlane := l.foldr insertPlane []

/-! ### Clusters (R230, R232, R234) -/

def State.cluster (s : State) (c : Nat) : Cluster := s.ray.clusters.getD c {}
def State.modCluster (c : Nat) (f : Cluster → Cluster) (s : State) : State := s.modRay fun r => { r with clusters := r.clusters.modify c f }

/-- The clusters in service: tested, neither retired, parked nor the spare (Table 4.3). -/
def State.rendering (s : State) : List Nat := (List.range 17).filter fun c =>
  s.hasCluster c && s.domOn c && (s.cluster c).passed == some true && !(s.cluster c).retired && !(s.cluster c).parked && s.ray.spare != some c

/-- A cluster is retired (R232); the replacement and the event come at the latch point. A spare that fails is unusable at once. -/
def State.retireCluster (c cause : Nat) (s : State) : State :=
  if (s.cluster c).retired then s
  else
    let s := ((s.dropStrips c).modCluster c fun x => { x with retired := true, cause := cause }).unitFault c cause
    if s.ray.spare == some c then (s.modRay fun r => { r with spare := none }).post 0x880 2 (le 1 c ++ [0xFF] ++ le 1 cause)
    else s.modRay fun r => { r with replacing := r.replacing ++ [(c, cause)] }

/-- Replacement at the latch point: the spare takes the lowest index, the other losses degrade (R232, R236). -/
def State.replaceClusters (s : State) : State :=
  let due := (List.range 17).filterMap fun c => s.ray.replacing.find? (·.1 == c)
  let s := due.foldl (fun t (c, cause) => match t.ray.spare with
    | some sp => (t.modRay fun r => { r with spare := none }).post 0x880 2 (le 1 c ++ le 1 sp ++ le 1 cause)
    | none => (t.detect 0x10 c).post 0x880 2 (le 1 c ++ [0xFF] ++ le 1 cause)) (s.modRay fun r => { r with replacing := [] })
  if s.inField && !due.isEmpty && s.rendering.isEmpty then s.loseLight else s

/-- The slice of cluster c serves: its domain is on, its self-test has passed and it has not faulted (R229, R230). -/
def State.sliceServes (s : State) (c : Nat) : Bool :=
  s.hasCluster c && s.domOn c && (s.ray.slices.getD c {}).passed == some true && !(s.ray.slices.getD c {}).faulted
/-- The slices of the tile cache (Table 9.3): all that serve but the two of the SAFE-VIEW regions and the spare. -/
def State.cacheSlices (s : State) : List Nat := (List.range 17).filter fun c => s.sliceServes c && !s.ray.safeDomains.contains c && s.ray.spareSlice != some c
/-- Tile slots in service (R226, R234). -/
def State.slots (s : State) : Nat := 2048 * s.cacheSlices.length
/-- The flat-layer slot limit over m clusters (R234). -/
def State.flatLimitOf (s : State) (m : Nat) : Nat := min 8192 (s.slots - 1024 * m - 1024)

/-- Park the highest-numbered clusters until F is 2,048 or one is left (R234). -/
def State.parkClusters : Nat → State → State
  | 0, s => s
  | n + 1, s =>
    let m := s.rendering.length
    if s.flatLimitOf m < 2048 && 1 < m then
      let c := s.rendering.getLastD 0
      ((((s.dropStrips c).modCluster c fun x => { x with parked := true }).detect 0x16 c)).parkClusters n
    else s

/-- A parked cluster returns when F stays at 2,048 with it (R234). -/
def State.unparkClusters (s : State) : State :=
  (List.range 17).foldl (fun t c =>
    if (t.cluster c).parked && 2048 ≤ t.flatLimitOf (t.rendering.length + 1) then (t.modCluster c fun x => { x with parked := false }).clearCause 0x16 c else t) s

/-- The cache limits of a latch point at which the engine renders or is about to (R234). In SAFE-VIEW, whose clusters are off
(R19), it is bypassed. -/
def State.setCellar (s : State) : State :=
  if !(s.inField || s.mode.fieldIn.isSome) then s
  else
    let s := (s.unparkClusters).parkClusters 17
    let s := s.modRay fun r => { r with flatLimit := s.flatLimitOf s.rendering.length }
    if s.slots < 4096 && s.inField then s.loseLight else s

/-- A slice is declared faulted (R229): its tiles and regions are lost; the spare takes its role at the latch point (R233). -/
def State.declareSlice (c : Nat) (s : State) : State :=
  if (s.ray.slices.getD c {}).faulted then s
  else ((s.modRay fun r => { r with slices := r.slices.modify c fun x => { x with faulted := true, pending := true, errors := [] } }).dropTiles (·.slice == c)).loseRegions c

/-- A cluster and its slice end their self-test (R230): a cluster that fails is retired (R232), a slice that fails is faulted
(R229). -/
def execClusterSelfTestDone (cluster : Nat) (pass slicePass : Bool) (s : State) : Result :=
  done (s.when (s.hasCluster cluster && s.domOn cluster) fun s =>
    let s := (s.modCluster cluster fun x => { x with passed := some pass }).modRay fun r => { r with slices := r.slices.modify cluster fun x => { x with passed := some slicePass } }
    if s.opOn 0x1503 (fun a => byteAt a 0 == cluster) then s.modDom cluster fun d => { d with service := if pass && slicePass then 3 else 4 }
    else
      let s := if slicePass then s else s.declareSlice cluster
      if pass then s else s.retireCluster cluster 0x20)

/-- The spare is tested again every 10 minutes (R230). -/
def execSpareRetestTimer (s : State) : Result :=
  done (s.when s.ray.spare.isSome fun s =>
    let s := s.timeTo (s.cellar.spareTestAt + 600 * 10 ^ 9)
    s.modCellar fun c => { c with spareTestAt := s.time })

/-! ### Slices (R229, R233, R20) -/

/-- Uncorrectable errors within the last second, this one included (R229). -/
def Slice.count (x : Slice) (now : Nat) : List Nat := x.errors.filter (fun t => now < t + 10 ^ 9) ++ [now]

/-- An uncorrectable error in a slice is counted; the eighth within 1 s declares the slice faulted (R229). -/
def State.sliceError (c : Nat) (s : State) : State :=
  let l := (s.ray.slices.getD c {}).count s.time
  if 8 ≤ l.length then s.declareSlice c
  else s.modRay fun r => { r with slices := r.slices.modify c fun x => { x with errors := l } }

/-- The Heartwood copy in a slice is lost; it is re-created in the spare slice from the latch point (R20). -/
def State.loseCopy (c : Nat) (s : State) : State :=
  if !s.ray.safeDomains.contains c then s
  else (s.modHw fun h => { h with copies := h.copies.mapIdx fun i x => if s.ray.safeDomains[i]? == some c then { x with usable := false, bytes := [], lostFrom := some c } else x }).modRay
    fun r => { r with slices := r.slices.modify c fun x => { x with pending := true } }

/-- An error in a Cellar slice (R229): a corrected one is counted; an uncorrectable one in a tile slot invalidates the slot, and
whoever needs the tile fetches it again; one in a Heartwood copy acts under R20; or the slice as a whole is faulted. -/
def execSliceFault (slice : Nat) (err : CellarError) (s : State) : Result :=
  done (s.when (s.hasCluster slice && s.domOn slice && !(s.ray.slices.getD slice {}).faulted) fun s => match err with
    | .corrected => s.modCellar fun c => { c with corrected := c.corrected + 1 }
    | .tile n => (match (s.cellar.tiles.filter (·.slice == slice))[n]? with
      | some x => (s.dropTiles (· == x)).sliceError slice
      | none => s)
    | .heartwood => s.when (s.ray.safeDomains.contains slice) fun s => (s.loseCopy slice).sliceError slice
    | .other => s.sliceError slice
    | .whole => s.declareSlice slice)

/-- The SAFE-VIEW regions of slice i move to slice k. -/
def State.moveSafe (i k : Nat) (s : State) : State :=
  (s.modRay fun r => { r with safeDomains := r.safeDomains.map fun d => if d == i then k else d, spareSlice := if r.spareSlice == some k then none else r.spareSlice }).dropTiles (·.slice == k)

/-- The spare slice takes a faulted slice's role at the latch point, or the regions that a healthy one has lost (R20, R233).
Without a spare the cache shrinks: lost regions of Table 9.3 go into a cache slice, or stay where the slice still serves. -/
def State.spareSlices (s : State) : State :=
  (List.range 17).foldl (fun t i =>
    let x := t.ray.slices.getD i {}
    if !x.pending then t
    else
      let t := t.modRay fun r => { r with slices := r.slices.modify i fun x => { x with pending := false } }
      let safe := t.ray.safeDomains.contains i
      if t.ray.spareSlice == some i then t.modRay fun r => { r with spareSlice := if x.faulted then none else r.spareSlice }
      else if !x.faulted && !safe then t
      else match t.ray.spareSlice.filter t.sliceServes with
        | some k =>
          let t := t.when x.faulted (·.post 0x882 2 (le 1 i ++ le 1 k))
          if safe then t.moveSafe i k else t.modRay fun r => { r with spareSlice := none }
        | none => (match if safe && !t.sliceServes i then t.cacheSlices.head? else none with
          | some k => t.moveSafe i k
          | none => t)) s

/-- Taproot re-creates the halves of the graphic window that were lost, from the SAFE-VIEW graphics of the configuration bundle
(R233, R257). -/
def State.latchWindow (s : State) : State :=
  (List.range 2).foldl (fun t i =>
    if !t.taprootUp || !t.cellar.windowLost.getD i false || !t.sliceServes (t.ray.safeDomains.getD i 0) then t
    else t.modCellar fun c =>
      let low (m : Memory) : Memory := m.filter (·.1 < 2 ^ 23)
      let high (m : Memory) : Memory := m.filter fun x => 2 ^ 23 ≤ x.1
      { c with windowLost := c.windowLost.set i false, window := if i == 0 then low c.image ++ high c.window else low c.window ++ high c.image }) s

/-! ### The beam (R270, R278, R279) -/

def State.panelHeight (s : State) : Nat := match s.disp.panel with | some p => p.height | none => 0
def State.subframes (s : State) : Nat := match s.disp.panel with | some p => p.subframes | none => 0

/-- Lines of the frame latched last whose slot has begun, in scan order. -/
def State.begun (s : State) : Nat :=
  if s.disp.latched || !s.disp.sched then 0
  else if s.disp.blanking || s.disp.extending then (s.disp.subframe + 1) * s.panelHeight
  else s.disp.subframe * s.panelHeight + s.disp.slot + 1
/-- Index of the beam's line, or of the next subframe's first line in blanking. -/
def State.beamLine (s : State) : Nat :=
  if s.disp.latched || !s.disp.sched then 0
  else if s.disp.blanking || s.disp.extending then (s.disp.subframe + 1) * s.panelHeight
  else s.disp.subframe * s.panelHeight + s.disp.slot

def State.stored (s : State) (sf y : Nat) : Option StoredLine := s.disp.store.find? fun l => l.sf == sf && l.y == y

/-- LEAD and REM (R279). -/
def State.rem (s : State) : Nat := s.subframes * s.panelHeight - s.beamLine
def State.leadNow (s : State) : Nat :=
  ((List.range (min 128 s.rem)).takeWhile fun i => (s.stored ((s.beamLine + i) / s.panelHeight) ((s.beamLine + i) % s.panelHeight)).isSome).length

/-- The watermarks of Table 11.3A, evaluated at slot boundaries and line completions. -/
def State.watermarks (s : State) : State :=
  let lead := s.leadNow
  let rem := s.rem
  s.modDisp fun d => { d with
    lead := lead,
    rtClass := if lead < min 32 rem then true else if min 48 rem ≤ lead then false else d.rtClass,
    panic := if lead < min 8 rem then true else if min 16 rem ≤ lead then false else d.panic,
    minLeadNow := if 96 ≤ rem then min d.minLeadNow lead else d.minLeadNow }

/-! ### Strips (R223, R224) -/

def RayFrame.cols (f : RayFrame) : Nat := (f.width + 479) / 480
def RayFrame.rowsPer (f : RayFrame) : Nat := (f.height + 7) / 8
def RayFrame.strips' (f : RayFrame) : Nat := f.subs * f.rowsPer * f.cols
/-- Subframe, strip row and column of strip n. -/
def RayFrame.place (f : RayFrame) (n : Nat) : Nat × Nat × Nat := (n / (f.rowsPer * f.cols), n / f.cols % f.rowsPer, n % f.cols)
/-- Index in scan order of the last line of strip row q (counted over all subframes). -/
def RayFrame.lastLine (f : RayFrame) (q : Nat) : Nat := q / f.rowsPer * f.height + min (f.height - 1) (8 * (q % f.rowsPer) + 7)
/-- The slot of the last line of strip row q has begun. -/
def State.rowLate (s : State) (f : RayFrame) (q : Nat) : Bool := f.lastLine q < s.begun

/-- Strip row q has completed or counts as completed (R223, R234). -/
def RayFrame.rowDone (f : RayFrame) (q : Nat) : Bool :=
  f.skipped.contains q || (List.range f.cols).all fun k => f.finished.contains (q * f.cols + k)

/-- Largest vertical reach of a plane in lines: from its z and the map's largest |V| + |dV| (R247, R217). -/
def RayFrame.reach (f : RayFrame) (p : RayPlane) : Nat :=
  let v := (List.range f.subs).foldl (fun a i => (List.range 65).foldl (fun a j => max a (mapS f.map (260 + 144 * i + 2 * j)).natAbs) a) 0
  let dv := (List.range 4096).foldl (fun a g => max a (mapS f.map (1408 + 4 * g + 2)).natAbs) 0
  (p.z.natAbs * (v + dv) * 1000 / (1024 * u16At f.map 12)) / 256 + 1

/-- First and last strip row of a subframe whose rays can reach tile row ty of a flat plane, none when no row can. -/
def RayFrame.reachRows (f : RayFrame) (p : RayPlane) (ty : Nat) : Option (Nat × Nat) :=
  let top := p.y0.fdiv 256 + 32 * ty
  let lo := top - 1 - f.reach p
  let hi := top + 31 + f.reach p
  if hi < 0 || (f.height : Int) ≤ lo then none else some ((clampI 0 (f.height - 1) lo).toNat / 8, (clampI 0 (f.height - 1) hi).toNat / 8)

/-- Flat tiles whose last strip row is done leave the cache (R247); those of the frame before stay while its strips run. -/
def State.releaseFlat (s : State) : State :=
  match s.ray.cur with
  | none => s
  | some f => s.modCellar fun c => { c with tiles := c.tiles.filter fun t => match t.key with
      | .flat l fr sf _ ty => if fr == f.frame then (match f.planes.find? (·.layer == l) with
          | some p => (match f.reachRows p ty with | some (_, r) => !f.rowDone (sf * f.rowsPer + r) | none => false)
          | none => false) else s.ray.prev.any fun g => g.frame == fr && !g.strips.isEmpty
      | _ => true }

/-- A capture ends (R259); it lacks the pixels of strips skipped in subframe 0, every one of which holds some. -/
def State.endCapture (f : RayFrame) (s : State) : State :=
  match f.capture with
  | some c =>
    let lost := if f.bypass then (List.range ((f.height + 3) / 4)).any fun j => !f.finished.contains (min (f.height - 1) (4 * j + 2)) else f.skipped.any (· < f.rowsPer)
    s.modLayers fun x => { x with capLast := c.index, capIncomplete := c.lacks || lost, capFrame := f.frame, capWaiting := false }
  | none => s

/-- A frame's last strip has completed: RAY_FRAME_STATUS, CELLAR_MISSES, the capture (R222, R228, R259). -/
def State.endRayFrame (f : RayFrame) (s : State) : State :=
  let s := s.endCapture f
  if f.bypass then s
  else (s.modRay fun r => { r with frameStatus := BitVec.ofNat 32 (min 256 f.total + min 255 f.dropped * 2 ^ 16 + min 64 f.maxMet * 2 ^ 24 + bitOf f.limited 31) }).modCellar
    fun c => { c with lastMisses := BitVec.ofNat 32 f.misses }

/-- Skip the strips whose last line's slot has begun (R224). -/
def State.skipLate (s : State) (f : RayFrame) : RayFrame :=
  let late (n : Nat) := s.rowLate f (n / f.cols)
  let first := (List.range (f.subs * f.rowsPer)).countP fun q => s.rowLate f q
  let next := min f.strips' (max f.next (first * f.cols))
  let rows := ((List.range (f.subs * f.rowsPer)).filter fun q => f.next < (q + 1) * f.cols && q * f.cols < next) ++ (f.again.filter late).map (· / f.cols)
  { f with next := next, again := f.again.filter fun n => !late n, skipped := (f.skipped ++ rows).eraseDups }

/-- Room in the output line store for the strip row that starts at strip n (R278). -/
def State.roomFor (s : State) (f : RayFrame) (n : Nat) : Bool :=
  n % f.cols != 0 ||
    (let q := n / f.cols
     q / f.rowsPer * f.height + 8 * (q % f.rowsPer) + 8 ≤ s.beamLine + 96)

/-- Does R231 check strip n of frame f now? -/
def State.checked (s : State) (f : RayFrame) (n : Nat) : Bool :=
  (n + 1021 * f.frame.toNat) % 4096 == 0 || (s.time < s.cellar.denseUntil && n % 16 == 0)

/-- The checker of a strip that cluster c pulled (R231); none with a single cluster. -/
def State.checkerOf (s : State) (c : Nat) (f : RayFrame) : Option Nat :=
  let r := s.rendering
  let m := r.length
  if m ≤ 1 then none else some (r.getD ((r.idxOf c + 1 + f.frame.toNat % (m - 1)) % m) 0)

/-- Strips that a cluster holds. -/
def State.stripsOf (s : State) (c : Nat) : Nat :=
  ((s.ray.cur.toList ++ s.ray.prev.toList).map fun f => (f.strips.filter (·.cluster == c)).length).sum

/-- Panel pixels of a strip's columns. -/
def RayFrame.xs (f : RayFrame) (k : Nat) : List Nat := (List.range (min 480 (f.width - 480 * k))).map (480 * k + ·)
def RayFrame.ys (f : RayFrame) (r : Nat) : List Nat := (List.range (min 8 (f.height - 8 * r))).map (8 * r + ·)

/-- Capture columns i whose panel pixel lies in `lo` to `hi`, and the capture row of panel line y. -/
def captureCols (width lo hi : Nat) : List Nat := (List.range ((width + 3) / 4)).filter fun i => lo ≤ min (width - 1) (4 * i + 2) && min (width - 1) (4 * i + 2) ≤ hi
def captureRow (height y : Nat) : Option Nat := (List.range ((height + 3) / 4)).find? fun j => min (height - 1) (4 * j + 2) == y

/-- Panel pixels whose capture rays a strip of subframe 0 holds (R258). -/
def RayFrame.capturePixels (f : RayFrame) (n : Nat) : List (Nat × Nat) :=
  let (sf, r, k) := f.place n
  if sf != 0 || f.capture.isNone then []
  else ((f.ys r).filter fun y => (captureRow f.height y).isSome).flatMap fun y => (captureCols f.width (480 * k) (480 * k + 479)).map fun i => (min (f.width - 1) (4 * i + 2), y)

/-- The tiles that the rays of a strip wait for; a duplicate render has no capture rays (R218, R258). -/
def State.stripNeeds (s : State) (f : RayFrame) (x : Strip) : List TileKey :=
  if f.planes.isEmpty then []
  else
    let (sf, r, k) := f.place x.n
    (((f.ys r).flatMap fun y => (f.xs k).flatMap fun px => (List.range 3).flatMap fun c => (s.ray1 f sf px y c).need)
      ++ (if x.check then [] else (f.capturePixels x.n).flatMap fun (px, y) => (List.range 3).flatMap fun c => (s.rayIn f 0 px y c 0 0).need)).eraseDups

/-- Source of a tile in device memory, none for a tile the layer path makes. -/
def State.tileRange (s : State) : TileKey → Option (Nat × Nat)
  | .record e => (s.recordAddr (BitVec.ofNat 32 e)).map fun a => (a, recordData ((s.devByte a).toNat % 8))
  | .slot a => some (a, 6144)
  | .flat .. => none
/-- 64-byte bursts that a range touches (R194). -/
def burstsOf (a n : Nat) : Nat := (a % 64 + n + 63) / 64
/-- Bursts that a cluster has in flight for tiles. -/
def State.burstsIn (s : State) (c : Nat) : Nat := ((s.cellar.flight.filter (·.cluster == c)).map (·.bursts)).sum

/-- A cluster fetches the tiles its strips wait for, as far as its landing places go (R225); the others wait. -/
def State.askTiles (c : Nat) (s : State) : State :=
  ((s.ray.prev.toList ++ s.ray.cur.toList).flatMap fun f => (f.strips.filter (·.cluster == c)).flatMap (s.stripNeeds f)).foldl (fun t k => match t.tileRange k with
    | some (a, n) =>
      if t.cellar.flight.any (·.key == k) || burstLimit < t.burstsIn c + burstsOf a n then t
      else t.modCellar fun x => { x with flight := x.flight ++ [{ cluster := c, key := k, bursts := burstsOf a n }] }
    | none => t) s

def State.startStrip (c n : Nat) (f : RayFrame) (s : State) : State :=
  let s := s.modRay fun r => { r with cur := some { f with strips := f.strips ++ [{ cluster := c, n := n }] } }
  let s : State := match if s.checked f n then s.checkerOf c f else none with
    | some k => s.modCellar fun x => { x with checks := x.checks ++ [({ n := n, frame := f.frame, primary := c, checker := k } : DupCheck)] }
    | none => s
  s.askTiles c

/-- A render of the check that cluster c has yet to pull: the second or the third (R231). -/
def DupCheck.dueOn (k : DupCheck) (c : Nat) : Bool := (k.checker == c && !k.taken) || (k.third == some c && !k.thirdTaken)
def DupCheck.pulled (k : DupCheck) : DupCheck := if k.taken then { k with thirdTaken := true } else { k with taken := true }
/-- The check that cluster c renders next, of either frame. -/
def State.checkFor (s : State) (c : Nat) : Option DupCheck := s.cellar.checks.find? fun k =>
  k.dueOn c && (s.ray.prev.toList ++ s.ray.cur.toList).any fun f => f.frame == k.frame

/-- Cluster c starts its render of a check. -/
def State.startCheck (c : Nat) (k : DupCheck) (s : State) : State :=
  let add (f : RayFrame) : RayFrame := if f.frame == k.frame then { f with strips := f.strips ++ [{ cluster := c, n := k.n, check := true }] } else f
  ((s.modRay fun r => { r with cur := r.cur.map add, prev := r.prev.map add }).modCellar fun x => { x with checks := x.checks.map fun y => if y == k then y.pulled else y }).askTiles c

/-- A cluster with capacity pulls a strip: a duplicate check first, then a strip to be pulled again, then the next number
(R223, R224, R231, R232). -/
def execStripPull (cluster : Nat) (s : State) : Result :=
  done (match s.ray.cur with
    | none => s
    | some f =>
      if f.bypass || !s.rendering.contains cluster || 2 ≤ s.stripsOf cluster then s
      else match s.checkFor cluster with
        | some k => s.startCheck cluster k
        | none =>
          let f := s.skipLate f
          let s := (s.modRay fun r => { r with cur := some f }).releaseFlat
          match f.again with
          | n :: rest => s.startStrip cluster n { f with again := rest }
          | [] => if f.next < f.strips' && s.roomFor f f.next then s.startStrip cluster f.next { f with next := f.next + 1 } else s)

/-! ### Rendering a strip -/

/-- The rays of a strip, line by line. -/
def State.stripRays (s : State) (f : RayFrame) (n : Nat) : List (Nat × List RayAcc) :=
  let (sf, r, k) := f.place n
  (f.ys r).map fun y => (y, (f.xs k).flatMap fun x => (List.range 3).map fun c => s.ray1 f sf x y c)

/-- Heartwood colour of panel pixel (x, y), none outside every enabled rectangle (R260, R261). -/
def hwColour (geom : List W32) (bank : Memory) (off : Nat) (x y : Nat) : Option (Nat × Nat × Nat) :=
  (List.range 4).findSome? fun r =>
    let g (i : Nat) := (geom.getD (4 * r + i) 0).toNat
    let sc := 2 ^ (g 3 / 2 ^ 16 % 4)
    let x0 := g 0 % 65536
    let y0 := g 0 / 65536
    if bit (g 3) 31 && x0 ≤ x && x < x0 + g 1 % 65536 * sc && y0 ≤ y && y < y0 + g 1 / 65536 * sc then
      let i := (memGet bank (off + g 2 % 2 ^ 21 + (y - y0) / sc * (g 3 % 2 ^ 15) + (x - x0) / sc)).toNat
      let v := uAt 8 (memRead bank (off + 8 * i) 8) 0
      some (bits v 35 24, bits v 23 12, bits v 11 0)
    else none

/-- Is the Heartwood layer on glass (R260)? -/
def State.hwShown (s : State) : Bool :=
  s.mode.mode == .safeView || s.inField || (s.mode.mode == .maintenance && !s.own.hwRelease)

/-- The Heartwood colour now: both copies lost shows drive code 0 (R267). -/
def State.hwPixel (s : State) (x y : Nat) : Option (Nat × Nat × Nat) :=
  if !s.hwShown || s.hw.geomInvalid then none
  else
    let c := s.hw.copies.getD s.hw.inUse {}
    (hwColour s.hw.geom c.bytes (2 ^ 21 * s.hw.bank) x y).map fun v => if s.hw.copies.any (·.usable) then v else (0, 0, 0)

/-- SAFE-VIEW composite of a pixel (R257): the shown and held graphic layers of the window, L7 first, sampled without
interpolation at z = 0. A texel in a lost half of the window is free (log 57). -/
def State.safePixel (s : State) (x y c : Nat) : Nat :=
  ((List.range 4).foldl (fun (r : RayAcc) i =>
    let l := 7 - i
    let k := s.layers.shown.getD l {}
    let b : Block := k.block
    if r.stop || !(s.layers.states.getD l 0 == 1 || s.layers.states.getD l 0 == 2) || b.type != 2 || !b.inWindow
        || x < b.x || y < b.y || b.x + b.w ≤ x || b.y + b.h ≤ y then r
    else
      let a := b.buffer + b.pitch * (y - b.y) + fmtBytes b.fmt * (x - b.x)
      let v := if s.cellar.windowLost.getD ((a - cellarBase) / 2 ^ 23) false then Config.lostTexel a else s.flatTexel k (x - b.x) (y - b.y)
      r.over' b.alpha (!b.premult) (comp v 3) (comp v c)) ({} : RayAcc)).c

/-- A capture pixel's bytes (R258): FORMAT 1, or the 12-bit codes of a FORMAT 0 row to be packed. -/
def capture8 (v : Nat) : Nat := min 255 ((v + 8) / 16)

/-- 12-bit codes as a little-endian bit stream (R141, R281). -/
def pack12 : List Nat → Bytes
  | a :: b :: t => BitVec.ofNat 8 a :: BitVec.ofNat 8 (a / 256 + b * 16) :: BitVec.ofNat 8 (b / 16) :: pack12 t
  | [a] => [BitVec.ofNat 8 a, BitVec.ofNat 8 (a / 256)]
  | [] => []

def captureBytes (format : Nat) (px : List (Nat × Nat × Nat)) : Bytes :=
  if format == 0 then pack12 (px.flatMap fun (r, g, b) => [r, g, b])
  else px.flatMap fun (r, g, b) => le 4 (capture8 b + capture8 g * 2 ^ 8 + capture8 r * 2 ^ 16 + 255 * 2 ^ 24)

/-- The centre view of a panel pixel under the frame's planes, the Heartwood layer on top (R258). -/
def State.centrePixel (s : State) (f : RayFrame) (x y : Nat) : Nat × Nat × Nat :=
  (s.hwPixel x y).getD (if f.bypass then (s.safePixel x y 0, s.safePixel x y 1, s.safePixel x y 2)
    else ((s.rayIn f 0 x y 0 0 0).c, (s.rayIn f 0 x y 1 0 0).c, (s.rayIn f 0 x y 2 0 0).c))

/-- Write the capture pixels of line y between columns lo and hi (R258); a held row is not written (R259). -/
def State.captureLine' (f : RayFrame) (y lo hi : Nat) (s : State) : State × Bool :=
  match f.capture, captureRow f.height y with
  | some c, some j =>
    let cols := captureCols f.width lo hi
    let i0 := cols.headD 0
    let d := captureBytes c.format (cols.map fun i => s.centrePixel f (min (f.width - 1) (4 * i + 2)) y)
    let a := c.base + c.pitch * j + (if c.format == 0 then 9 * i0 / 2 else 4 * i0)
    if s.mem.map.isEmpty && s.inDram a then (s, true)
    else if s.held a d.length then (s.modLayers fun x => { x with capWaiting := true }, true)
    else ((s.devWrite a d).modLayers fun x => { x with capWaiting := false }, false)
  | _, _ => (s, false)

/-- Tiles of the four texels of a sample at (tx, ty) (R218). -/
def State.tilesAt (s : State) (f : RayFrame) (sf : Nat) (p : RayPlane) (tx ty : Int) : List TileKey :=
  [(0, 0), (1, 0), (0, 1), (1, 1)].filterMap fun ((i, j) : Int × Int) =>
    let x := tx.fdiv 256 + i
    let y := ty.fdiv 256 + j
    if x < 0 || y < 0 || (p.w : Int) ≤ x || (p.h : Int) ≤ y then none else s.tileKey f sf p (x.toNat / 32) (y.toNat / 32)

/-- Tiles that a ray samples, those of the planes it composites (R220, R228). -/
def State.rayTiles (s : State) (f : RayFrame) (sf x y c : Nat) : List TileKey :=
  let (u, v) := direction f.map f.width f.height sf x y c
  (f.planes.foldl (fun (r : RayAcc × List TileKey) p =>
    let a := s.rayPlane f sf x y c u v r.1 p
    let (tx, ty) := p.hit (u16At f.map 12) x y u v
    (a, if a.n == r.1.n then r.2 else r.2 ++ s.tilesAt f sf p tx ty)) ({}, [])).2

/-- The tiles that a strip has sampled note its number (R228). -/
def State.touchTiles (f : RayFrame) (n : Nat) (s : State) : State :=
  if f.planes.isEmpty then s
  else
    let (sf, r, k) := f.place n
    let keys := (f.ys r).flatMap fun y => (f.xs k).flatMap fun x => (List.range 3).flatMap fun c => s.rayTiles f sf x y c
    s.modCellar fun c => { c with tiles := c.tiles.map fun t => if keys.contains t.key then { t with last := n } else t }

/-- The frame before is gone once none of its strips runs and none of its checks is open (R224, R231). -/
def State.closePrev (s : State) : State :=
  s.modRay fun r => { r with prev := r.prev.filter fun f => !f.strips.isEmpty || s.cellar.checks.any fun k => k.frame == f.frame }

/-- Strips that are to reach the output line store still run. -/
def RayFrame.busy (f : RayFrame) : Bool := f.strips.any (!·.check)

/-- Strip x is held by nobody any more; with its last strip the frame has ended. -/
def State.stripEnd (old : Bool) (x : Strip) (f : RayFrame) (s : State) : State :=
  let s := s.modRay fun r => if old then { r with prev := some f } else { r with cur := some f }
  let s := s.closePrev.releaseFlat
  if !x.check && !f.busy && (old || (f.next == f.strips' && f.again.isEmpty)) then s.endRayFrame f else s

/-- A check whose strip is not rendered is discarded (R234, R236). -/
def State.dropCheck (frame : W32) (n : Nat) (s : State) : State :=
  s.modCellar fun c => { c with checks := c.checks.filter fun k => !(k.frame == frame && k.n == n) }

/-- Capture rows of a strip of subframe 0. -/
def State.stripCapture (f : RayFrame) (n : Nat) (s : State) : State × RayFrame :=
  let (sf, r, k) := f.place n
  if sf != 0 then (s, f)
  else (f.ys r).foldl (fun (t, g) y =>
    let (t, lacks) := t.captureLine' g y (480 * k) (480 * k + 479)
    (t, { g with capture := g.capture.map fun c => { c with lacks := c.lacks || lacks } })) (s, f)

/-- A cluster completes the oldest of its strips (R222, R223). A strip goes on waiting for tiles in flight, and for a flat tile
not yet produced until the slot of its last line begins (R234). A render of a duplicate check reaches no line store (R231). -/
def execStripComplete (cluster : Nat) (s : State) : Result :=
  let run (old : Bool) (f : RayFrame) (x : Strip) : State :=
    let g : RayFrame := { f with strips := f.strips.erase x }
    let q := x.n / f.cols
    let needs := s.stripNeeds f x
    if !needs.isEmpty then
      if (old || s.rowLate f q) && needs.any (fun k => (s.tileRange k).isNone) then
        (s.dropCheck f.frame x.n).stripEnd old x (if x.check then g else { g with skipped := (g.skipped ++ [q]).eraseDups })
      else s.askTiles cluster
    else if x.check then (s.touchTiles f x.n).stripEnd old x g
    else
      let lines := s.stripRays f x.n
      let rays := lines.flatMap (·.2)
      let s := s.touchTiles f x.n
      let g := { g with
        finished := g.finished ++ [x.n],
        parts := if old then [] else g.parts ++ lines.map fun (y, r) => (x.n, y, r.map (·.c)),
        maxMet := rays.foldl (fun a r => max a r.n) g.maxMet, limited := g.limited || rays.any (·.limited) }
      let (s, g) := s.stripCapture g x.n
      s.stripEnd old x g
  done (match s.ray.prev.bind (fun f => (f.strips.find? (·.cluster == cluster)).map fun x => (f, x)) with
    | some (f, x) => run true f x
    | none => match s.ray.cur.bind (fun f => (f.strips.find? (·.cluster == cluster)).map fun x => (f, x)) with
      | some (f, x) => run false f x
      | none => s)

/-- Line (sf, y) of the frame latched last is complete: every strip of its strip row has completed, or the compositor has
made it in SAFE-VIEW (R223, R257). A line complete after its slot has begun is discarded (R280). -/
def execLineComplete (sf line : Nat) (s : State) : Result :=
  done (match s.ray.cur with
    | none => s
    | some f =>
      let idx := sf * f.height + line
      if f.subs ≤ sf || f.height ≤ line || (s.stored sf line).isSome then s
      else if f.bypass then
        if idx < s.begun || s.beamLine + 128 ≤ idx then s
        else
          let codes := (List.range f.width).flatMap fun x => (List.range 3).map fun c => s.safePixel x line c
          let (t, lacks) := if sf == 0 then s.captureLine' f line 0 (f.width - 1) else (s, false)
          let t := t.modRay fun r => { r with cur := some { f with finished := if sf == 0 then f.finished ++ [line] else f.finished, capture := f.capture.map fun c => { c with lacks := c.lacks || lacks } } }
          (t.modDisp fun d => { d with store := d.store ++ [{ sf := sf, y := line, codes := codes }] }).watermarks
      else
        let q := sf * f.rowsPer + line / 8
        let parts := (List.range f.cols).map fun k => f.parts.find? fun p => p.1 == q * f.cols + k && p.2.1 == line
        if !parts.all Option.isSome then s
        else
          let s := s.modRay fun r => { r with cur := some { f with parts := f.parts.filter fun p => !(p.1 / f.cols == q && p.2.1 == line) } }
          if idx < s.begun then s
          else (s.modDisp fun d => { d with store := d.store ++ [{ sf := sf, y := line, codes := parts.flatMap fun p => match p with | some (_, _, c) => c | none => [] }] }).watermarks)

/-! ### Tiles (R227, R228, R235, R247) -/

/-- A tile is poisoned for the rest of the frame (R235). -/
def State.poisonTile (f : RayFrame) (p : RayPlane) (k : TileKey) (tx ty : Nat) (s : State) : State :=
  let mark (g : RayFrame) : RayFrame := if g.frame == f.frame then { g with poisoned := g.poisoned ++ [k] } else g
  ((s.modRay fun r => { r with cur := r.cur.map mark, prev := r.prev.map mark }).modCellar fun c => { c with poisonCount := c.poisonCount + 1 }).perFrame 0x881 0
    (le 1 p.ident ++ [0] ++ le 2 tx ++ le 2 ty ++ [0, 0] ++ le 4 f.frame.toNat)

/-- Make room: the tile whose last sample came in the lowest strip leaves (R228). Flat tiles are never evicted (R247). -/
def evictTile (slots : Nat) (l : List Tile) : List Tile :=
  if l.length < slots then l
  else
    let cand := l.filter fun t => match t.key with | .flat .. => false | _ => true
    match cand with
    | [] => l
    | c :: t => l.erase (t.foldl (fun a b => if b.last < a.last then b else a) c)

/-- A number by which the ray engine places a tile: the spec names the hash and does not give it, so it is free (log 12). -/
def TileKey.hash : TileKey → Nat
  | .record e => Config.tileHash [0, e]
  | .slot a => Config.tileHash [1, a]
  | .flat l f sf tx ty => Config.tileHash [2, l, f.toNat, sf, tx, ty]

/-- A tile takes a slot of the cache slice it hashes to (R226, R228); without a cache slice it is not cached. -/
def State.placeTile (k : TileKey) (tex : List Nat) (last len : Nat) (s : State) : State :=
  match s.cacheSlices with
  | [] => s
  | l => s.modCellar fun c => { c with tiles := evictTile s.slots (c.tiles.filter (·.key != k))
      ++ [{ key := k, tex := tex, last := last, slice := l.getD (k.hash % l.length) 0, len := len }] }

/-- Tile (tx, ty) of plane number `plane` is in flight: its frame, plane and key. -/
def State.inFlight (s : State) (plane tx ty : Nat) : Option (RayFrame × RayPlane × TileKey) :=
  (s.ray.prev.toList ++ s.ray.cur.toList).findSome? fun f => (f.planes[plane]?).bind fun p =>
    if (p.w + 31) / 32 ≤ tx || (p.h + 31) / 32 ≤ ty then none
    else (s.tileKey f 0 p tx ty).bind fun k => if s.cellar.flight.any (·.key == k) then some (f, p, k) else none

/-- A tile's fetch returns (R225 to R228, R235): its landing places are free, it is decoded into a slot, or counts as poisoned for
the frame; then the clusters fetch what still waits. CELLAR_MISSES counts the fetches of tiles that the frame had fetched. -/
def execTileFetchReturn (plane tx ty : Nat) (poisoned : Bool) (s : State) : Result :=
  done (match s.inFlight plane tx ty with
    | none => s
    | some (f, p, k) =>
      let again := f.fetched.contains k
      let note (g : RayFrame) : RayFrame := if g.frame == f.frame then { g with fetched := if again then g.fetched else g.fetched ++ [k], misses := if again then g.misses + 1 else g.misses } else g
      let len := ((s.tileRange k).map fun r => if r.2 == 6144 then 6144 else (r.2 + 15) / 16 * 16).getD 16
      let s := (s.modRay fun r => { r with cur := r.cur.map note, prev := r.prev.map note }).modCellar fun c => { c with flight := c.flight.filter (·.key != k) }
      let s := match if poisoned then none else s.decodeTile k with
        | none => s.poisonTile f p k tx ty
        | some tex => s.placeTile k tex f.next len
      (List.range 17).foldl (fun t c => t.askTiles c) s)

/-- The layer path produces the next tile of a flat layer, in passes over the subframes (R247). -/
def execFlatTileProduce (layer : Nat) (s : State) : Result :=
  done (match s.ray.cur with
    | none => s
    | some f => match f.planes.find? (·.layer == layer) with
      | none => s
      | some p => match p.src with
        | .flat c =>
          let nx := (p.w + 31) / 32
          let per := nx * ((p.h + 31) / 32)
          let flat := (s.cellar.tiles.filter fun t => match t.key with | .flat .. => true | _ => false).length
          let from_ := f.flatNext.getD layer 0
          let key (n : Nat) : TileKey := .flat layer f.frame (n / per) (n % per % nx) (n % per / nx)
          -- a tile already made is not made again after one lost with its slot
          let open_ (n : Nat) : Bool := (f.reachRows p (n % per / nx)).isSome && !(s.cellar.tiles.any fun t => t.key == key n) && !f.poisoned.contains (key n)
          match if s.ray.flatLimit ≤ flat || s.cacheSlices.isEmpty then none else (List.range (f.subs * per - from_)).find? fun i => open_ (from_ + i) with
          | none => s
          | some i =>
            let n := from_ + i
            let s := s.modRay fun r => { r with cur := some { f with flatNext := f.flatNext.set layer (n + 1) } }
            if s.flatPoisoned c (n % per % nx) (n % per / nx) then s.poisonTile f p (key n) (n % per % nx) (n % per / nx)
            else
              let tex := (List.range 1024).map fun j => s.flatTexel c (32 * (n % per % nx) + j % 32) (32 * (n % per / nx) + j / 32)
              (s.placeTile (key n) tex f.next 0).releaseFlat
        | _ => s)

/-- Tiles whose source range is no longer held whole leave the cache at the retire fence (R227). -/
def State.retireTiles (s : State) : State := s.modCellar fun c => { c with tiles := c.tiles.filter fun t => match t.key with
  | .record e => (match s.recordAddr (BitVec.ofNat 32 e) with | some a => s.pagesKept a t.len | none => false)
  | .slot a => s.commitTouched a 6144
  | .flat .. => true }

/-! ### Duplicate checks (R231) -/

/-- The open check whose renders so far are done. -/
def State.checkDue (s : State) : Option DupCheck := s.cellar.checks.find? fun k => k.taken && (k.third.isNone || k.thirdTaken) &&
  (s.ray.cur.toList ++ s.ray.prev.toList).all fun f => f.frame != k.frame || f.strips.all fun x => x.n != k.n

/-- The rendering cluster after c in index order (R231). -/
def State.clusterAfter (s : State) (c : Nat) : Option Nat := s.rendering[(s.rendering.idxOf c + 1) % s.rendering.length]?

/-- Both renders of a checked strip are compared; where they differ the next cluster renders it a third time, and then the
cluster whose result differs from the two that agree is retired (R231). Every render reads the state of the frame, its poisoned
tiles included (R223, R235), so renders without a fault agree: an operand is what a faulty cluster changes in the CRC-32. -/
def execDuplicateCheckCompare (primary checker third : W32) (s : State) : Result :=
  done (match s.checkDue with
    | none => s
    | some k =>
      let closed := (s.modCellar fun c => { c with checks := c.checks.erase k }).closePrev
      match k.third with
      | none =>
        if primary == checker then closed.modCellar fun c => { c with dupChecks := c.dupChecks + 1 }
        else s.modCellar fun c => { c with
          dupFails := c.dupFails + 1, checks := c.checks.map fun y => if y == k then { y with third := s.clusterAfter k.checker, seen := (primary, checker) } else y }
      | some _ =>
        if third == k.seen.1 then closed.retireCluster k.checker 0x21
        else if third == k.seen.2 then closed.retireCluster k.primary 0x21
        else closed.modCellar fun c => { c with denseUntil := s.time + 10 ^ 9 })

/-! ### The latch point of the ray engine -/

/-- The frame latched: bypassed outside FIELD and DEGRADED-FIELD (R216, R219, R221, R224, R257). -/
def State.latchRay (s : State) : State :=
  match s.disp.panel with
  | none => s
  | some p =>
    -- the strips of the frame before that no cluster has pulled are skipped; running ones finish
    let s := match s.ray.prev with | some f => s.when f.busy (·.endRayFrame f) | none => s
    let left := s.ray.cur.map fun f => ({ f with
      next := f.strips', again := [],
      skipped := (f.skipped ++ ((List.range (f.subs * f.rowsPer)).filter fun q => f.next < (q + 1) * f.cols) ++ f.again.map (· / f.cols)).eraseDups } : RayFrame)
    let s := match left with | some f => if !f.busy then s.endRayFrame f else s | none => s
    let bypass := !s.inField
    let shown := (List.range 8).map s.layerPlanes
    let all := if bypass then [] else sortPlanes shown.flatten
    let lim := min s.ray.planesPerFrame 128
    let c := s.layers.capture
    let cap : Option CapRun := if c.enable && !s.mem.map.isEmpty then some { index := s.layers.capBuf, base := if s.layers.capBuf == 0 then c.bufA else c.bufB, pitch := c.pitch, format := c.format } else none
    let f : RayFrame := { frame := s.disp.frame, bypass := bypass, width := p.width, height := p.height, subs := p.subframes, map := s.ray.map.getD [],
                          planes := all.take lim, lim := s.rayLimit, total := all.length, dropped := all.length - lim, capture := cap }
    let s := s.modCellar fun c => { c with checks := if bypass then [] else c.checks.filter fun k => left.any fun g => g.frame == k.frame }
    let s := (s.modRay fun r => { r with cur := some f, prev := left, layerPlanes := shown }).closePrev
    let s := s.modLayers fun x => { x with capBuf := if cap.isSome then 1 - x.capBuf else x.capBuf }
    s.modCellar fun c => { c with tiles := c.tiles.filter fun t => match t.key with
      | .flat _ fr _ _ _ => s.ray.prev.any fun g => g.frame == fr && !g.strips.isEmpty
      | _ => true }

/-- RAY.QUERY. -/
def execRayQuery (m : Master) (s : State) : Result :=
  done (runCmd { code := 0x0800, cls := 0 } noUnit noPre (fun _ s =>
    let mhz := s.rendering.foldl (fun a c => min a (s.gov.clusterMhz.getD c 1400)) 1400 - 50 * s.gov.capSteps
    (s, .ok (le 4 (maskOf 17 fun c => s.rendering.contains c) ++ le 4 (maskOf 17 fun c => (s.cluster c).retired) ++ le 1 (s.ray.spare.getD 255) ++ le 1 (s.ray.spareSlice.getD 255)
      ++ le 2 mhz ++ le 4 s.cellar.lastMisses.toNat ++ le 4 s.cellar.poisonCount.toNat ++ le 4 s.cellar.dupChecks.toNat ++ le 4 s.cellar.dupFails.toNat))) m s)

end Sys2Proof.Machine
end

