-- ==== Sys2Proof/Machine/Heartwood.lean ====
section
/-! DEFINITION. The Heartwood layer: content port, commits, copies, frame reports, refreshes and SAFE_OK (spec/10, R260 to
R268; spec/01, R20). -/

namespace Sys2Proof.Machine

/-! ### Content and geometry (R261 to R263) -/

/-- A word of geometry register i of rectangle r. -/
def hwReg (g : List W32) (r i : Nat) : Nat := (g.getD (4 * r + i) 0).toNat
def hwEnabled (g : List W32) (r : Nat) : Bool := bit (hwReg g r 3) 31

/-- Rectangle r lies wholly on the panel. -/
def State.hwOnPanel (s : State) (g : List W32) (r : Nat) : Bool := match s.disp.panel with
  | none => false
  | some p =>
    let sc := 2 ^ (hwReg g r 3 / 2 ^ 16 % 4)
    hwReg g r 0 % 65536 + hwReg g r 1 % 65536 * sc ≤ p.width && hwReg g r 0 / 65536 + hwReg g r 1 / 65536 * sc ≤ p.height

/-- The REJECT_REASON of a rectangle, in the order of R263's list. -/
def State.hwRectReason (s : State) (g : List W32) (r : Nat) : Option Nat :=
  let w := hwReg g r 1 % 65536
  let h := hwReg g r 1 / 65536
  let off : Nat := hwReg g r 2 % 2 ^ 21
  let pitch : Nat := hwReg g r 3 % 2 ^ 15
  if !hwEnabled g r then none
  else if !s.hwOnPanel g r then some 1
  else if off < 4096 then some 4
  else if 2 ^ 21 < (off : Int) + ((h : Int) - 1) * pitch + w then some 2
  else if pitch < w then some 3
  else if w == 0 || h == 0 then some 5 else none

def State.safeDropped (s : State) : State := s.modCtl fun c => { c with ports := c.ports.modify 1 fun p => { p with writeDropped := true } }

/-- HW_PORT_DATA: a word into the staging bank of both copies; discarded while a commit is pending (R262, R263). -/
def execHwPortData (m : Master) (data : W32) (s : State) : Result := s.byPort m.code fun s =>
  done (if m != .safe then s.dropWrite m 0x10C4
  else if s.hw.stage != .idle then s.safeDropped
  else
    let a := s.hw.portAddr.toNat
    let at_ := 2 ^ 21 * (1 - s.hw.bank) + a / 4 % 2 ^ 19 * 4
    s.modHw fun h => { h with
      copies := h.copies.map fun c => { c with bytes := memWrite c.bytes at_ (le 4 data.toNat) },
      portAddr := BitVec.ofNat 32 (a / 2 ^ 21 * 2 ^ 21 + (a / 4 + 1) % 2 ^ 19 * 4 + a % 4) })

/-- HW_COMMIT (R263): checked at once; a passing one waits for its latch point. -/
def execHwCommit (m : Master) (value : W32) (s : State) : Result := s.byPort m.code fun s =>
  done (if m != .safe then s.dropWrite m 0x10C8
  else if !value.getLsbD 0 then s
  else if s.hw.stage != .idle then s.safeDropped
  else match (List.range 4).findSome? (s.hwRectReason s.hw.regs) with
    | some r => s.modHw fun h => { h with rejectReason := r }
    | none => s.modHw fun h => { h with stage := .waitLatch, nextGeom := h.regs })

/-- Banks and geometry switch at the latch point (R263, R265, R267); content lost with both copies becomes usable again. -/
def State.latchHw (s : State) : State :=
  s.when (s.hw.stage == .waitLatch) fun s => s.modHw fun h => { h with
    bank := 1 - h.bank, geom := h.nextGeom, geomInvalid := false, stage := .copying, ageFrom := some s.time, stale := false,
    copies := if h.copies.any (·.usable) then h.copies else h.copies.mapIdx fun i c =>
      let d := s.ray.safeDomains.getD i 0
      { c with usable := s.domOn d && !(s.ray.slices.getD d {}).faulted } }

/-- The bank in force has been copied into the staging bank (R263). -/
def execHwBankCopyDone (s : State) : Result :=
  done (s.when (s.hw.stage == .copying) fun s =>
    let lo := 2 ^ 21 * s.hw.bank
    let dst := 2 ^ 21 * (1 - s.hw.bank)
    s.modHw fun h => { h with stage := .idle, copies := h.copies.map fun c =>
      let src := (c.bytes.filter fun x => lo ≤ x.1 && x.1 < lo + 2 ^ 21).map fun x => (x.1 + dst - lo, x.2)
      let keep := memClear c.bytes dst (dst + 2 ^ 21)
      { c with bytes := if dst < lo then src ++ keep else keep ++ src } })

/-- Copies lost since the latch point are reported, scan-out takes the other one (R20), and a lost copy is re-created where
its slice has a replacement (R233, R267). -/
def State.latchCopies (s : State) : State :=
  let lost := (List.range 2).filterMap fun i => ((s.hw.copies.getD i {}).lostFrom).map fun d => (i, d)
  let s := lost.foldl (fun t (i, d) =>
    let t := t.modHw fun h => { h with
      copies := h.copies.modify i fun c => { c with lostFrom := none },
      inUse := if h.inUse == i && (h.copies.getD (1 - i) {}).usable then 1 - i else h.inUse }
    t.post 0x87 3 (le 1 d ++ le 1 (t.ray.safeDomains.getD t.hw.inUse 0))) s
  (List.range 2).foldl (fun t i =>
    let d := t.ray.safeDomains.getD i 0
    let other := t.hw.copies.getD (1 - i) {}
    if t.taprootUp && !(t.hw.copies.getD i {}).usable && other.usable && t.domOn d && !(t.ray.slices.getD d {}).faulted then
      t.modHw fun h => { h with copies := h.copies.set i { usable := true, bytes := other.bytes } }
    else t) s

/-- A panel that leaves an enabled rectangle partly off it disables the geometry (R267). -/
def State.hwPanelChanged (s : State) : State :=
  s.when ((List.range 4).any fun r => hwEnabled s.hw.geom r && !s.hwOnPanel s.hw.geom r) (·.modHw fun h => { h with geomInvalid := true })

/-- UNIT_STATUS[104] (R267). -/
def State.hwUnit (s : State) : State :=
  let st := match s.mode.mode with
    | .dormant | .boot => 0
    | _ => if !s.hw.copies.any (·.usable) then 7 else if s.hwShown then 4 else 3
  s.setUnit unitHeartwood fun u => { u with state := st, flowing := st == 4, faulted := st == 7 }

/-! ### Frame reports (R264) -/

/-- Heartwood pixels of line y: their columns and colours. -/
def State.hwLine (s : State) (width y : Nat) : List (Nat × Nat × Nat × Nat) :=
  (List.range width).filterMap fun x => (s.hwPixel x y).map fun (r, g, b) => (x, r, g, b)

/-- The Heartwood CRC of a frame (R264); 0 with no enabled rectangle or with the layer released. -/
def State.hwCrc (s : State) : W32 :=
  match s.disp.panel with
  | none => 0
  | some p =>
    if !s.hwShown || s.hw.geomInvalid || !(List.range 4).any (hwEnabled s.hw.geom) then 0
    else crc32 ((List.range p.subframes).flatMap fun sf => (List.range p.height).flatMap fun y =>
      match s.hwLine p.width y with
      | [] => []
      | px => le 2 y ++ le 1 sf ++ [0] ++ px.flatMap fun (x, r, g, b) => le 2 x ++ le 2 r ++ le 2 g ++ le 2 b)

/-- A frame starts: its report is due, and the age counts from the first Heartwood frame (R264, R265). -/
def State.hwFrameStart (s : State) : State := s.modHw fun h => { h with
  frames := h.frames ++ [{ frame := s.disp.frame, crc := s.hwCrc }],
  ageFrom := if s.hwShown && (h.ageFrom.isSome || s.sec.heartSlot.isSome) then some (h.ageFrom.getD s.time) else h.ageFrom }

/-- A line that holds Heartwood pixels slips (R264). -/
def State.hwSlip (y : Nat) (s : State) : State := match s.disp.panel with
  | none => s
  | some p => s.when (!(s.hwLine p.width y).isEmpty) (·.modHw fun h => { h with
      frames := h.frames.map fun f => if f.frame == s.disp.frame then { f with slipped := f.slipped + 1 } else f })

/-- SAFE_OK rises with a matching report while every condition holds (R266). -/
def State.riseSafeOk (s : State) : State :=
  if s.safeConds && !s.pins.safeOk then (s.modPins fun p => { p with safeOk := true }).emit (.pin .safeOk true 0) else s

/-- Publish the reports of frames all of whose subframes are decided (R264, R266). No report is published during a hold of
a compositor restart (R297). -/
def State.publish (s : State) : State :=
  match s.hw.frames with
  | [] => s
  | f :: rest =>
    if f.decided.length < s.subframes then s
    else
      let s := s.modHw fun h => { h with
        frames := rest, misses := if f.ok then 0 else h.misses + 1,
        reports := ({ frame := f.frame, crc := f.crc, panelMatch := f.ok, slipped := f.slipped } :: h.reports).take 2 }
      if f.ok then s.riseSafeOk else s

/-- Subframe sf of frame `frame` is decided: its signature matched or not (R264, R283). -/
def State.decideSf (frame : W32) (sf : Nat) (ok : Bool) (s : State) : State :=
  (s.modHw fun h => { h with frames := h.frames.map fun f =>
    if f.frame == frame && !f.decided.contains sf then { f with decided := f.decided ++ [sf], ok := f.ok && ok } else f }).publish

/-! ### Refresh, age and registers (R262, R265) -/

/-- HW_REFRESH: accepted when it equals the CRC of one of the two newest reports (R265). -/
def execHwRefresh (m : Master) (crc : W32) (s : State) : Result := s.byPort m.code fun s =>
  done (if m != .safe then s.dropWrite m 0x10CC
  else if s.hw.reports.any (·.crc == crc) then s.modHw fun h => { h with ageFrom := h.ageFrom.map fun _ => s.time, stale := false }
  else s.dropWrite m 0x10CC)

/-- Reading HW_FRAME captures HW_CRC and HW_STATUS for the reading master. -/
def State.hwCapture (m : Nat) (s : State) : State := match s.hw.reports with
  | r :: _ => s.modHw fun h => { h with captured := h.captured.set m (r.crc, r.panelMatch, r.slipped) }
  | [] => s
def State.hwFrame (s : State) : Nat := match s.hw.reports with | r :: _ => r.frame.toNat | [] => 0

def execHwFrameRead (m : Master) (s : State) : Result := s.byPort m.code fun s =>
  done ((s.hwCapture m.code).emit (.readData m.code (le 4 s.hwFrame) false))

/-- AGE_MS as read: whole milliseconds, saturating. -/
def State.hwAge (s : State) : Nat := match s.hw.ageFrom with | some t => min 65535 ((s.time - t) / 1000000) | none => 0

/-- The age exceeds AGE_MS (R265): STALE and one event per lapse; SAFE_OK falls. -/
def execHeartwoodAgeExpiry (s : State) : Result :=
  done (match s.hw.ageFrom with
    | none => s
    | some t => s.when (!s.hw.stale) fun s =>
      let s := (s.timeTo (t + ms s.hw.ageMs + 1)).modHw fun h => { h with stale := true }
      s.post 0x981 3 (le 2 s.hwAge ++ [0]))

/-- HW_STATUS as master m reads it. -/
def State.hwStatus (s : State) (m : Nat) : Nat :=
  let (_, ok, slipped) := s.hw.captured.getD m (0, false, 0)
  bitOf s.pins.safeOk 0 + bitOf ok 1 + bitOf (s.hw.inUse == 1) 2 + bitOf (s.hw.bank == 1) 3 + bitOf (s.hw.stage != .idle) 4
    + bitOf (s.mode.mode == .maintenance && s.own.hwRelease) 5 + bitOf s.hw.geomInvalid 6 + bitOf s.hw.stale 7
    + s.hw.rejectReason * 2 ^ 8 + min 15 slipped * 2 ^ 12 + s.hwAge * 2 ^ 16

/-- LAYER.HW_QUERY. -/
def execLayerHwQuery (m : Master) (s : State) : Result :=
  done (runCmd { code := 0x0904, cls := 0 } noUnit noPre (fun _ s =>
    let (crc, ok) := match s.hw.reports with | r :: _ => (r.crc.toNat, r.panelMatch) | [] => (0, false)
    (s, .ok (le 4 s.hwFrame ++ le 4 crc ++ le 2 s.hwAge ++ le 1 (bitOf s.pins.safeOk 0 + bitOf ok 1) ++ le 1 s.hw.inUse))) m s)

/-- LAYER.HW_AGE_SET (R265). -/
def execLayerHwAgeSet (m : Master) (s : State) : Result :=
  done (runCmd { code := 0x0906, cls := 2, len := 2, args := [{ off := 0, n := 2, lo := 50, hi := 2000 }] } noUnit noPre
    (fun c s => (s.modHw fun h => { h with ageMs := c.u16 0 }, .ok [])) m s)

end Sys2Proof.Machine
end

