-- ==== Sys2Proof/Machine/Scan.lean ====
section
/-! DEFINITION. Scan-out: the slot schedule, extensions and frame lock, changed-line writing, signature reports, holds,
timing and panel settings, panel power and the compositor restart (spec/11). -/

namespace Sys2Proof.Machine

/-! ### Holds (R277, R285, R296, R297) -/

/-- The hold in progress has lasted 100 ms (R266). -/
def execPanelHoldLimit (s : State) : Result :=
  done (match s.scan.hold with
    | none => s
    | some (_, t) => (s.timeTo (t + ms 100 + 1)).modScan fun x => { x with holdExceeded := true })

/-! ### The slot schedule (R270, R271) -/

/-- Start of slot n of the frame in scan. -/
def State.slotStart (s : State) (n : Nat) : Nat := s.disp.frameStart + n * s.disp.timing.lineNs / 256
def State.frameSlots (s : State) : Nat := s.subframes * (s.disp.timing.activeLines + s.disp.timing.vtMin)
/-- Frame period at E = 0, in ns. -/
def State.framePeriod0 (s : State) : Nat := s.frameSlots * s.disp.timing.lineNs / 256
/-- The frame in scan: the one before the latest latch point until it starts. -/
def State.scanNo (s : State) : W32 := s.disp.frame
/-- All subframes of the panel, one bit each. -/
def State.allSubframes (s : State) : W8 := BitVec.ofNat 8 (2 ^ s.subframes - 1)

/-- The block of layer l that the next latch point puts in force. -/
def State.nextBlock (s : State) (l : Nat) : Block :=
  match s.layers.accepted.getLast? <|> s.layers.force with
  | some c => c.block l
  | none => []

/-- Layer l has been supplied since the previous latch point (R202, R253). -/
def State.layerSupplied (s : State) (l : Nat) (b : Block) : Bool :=
  match b.type with
  | 3 => (s.depth.layers.getD b.source {}).posted.isSome
  | 4 => s.sceneSupplied b.source
  | _ => s.layers.supplied.getLsbD l
def State.gatingUnsupplied (s : State) (l : Nat) : Bool :=
  let b := s.nextBlock l
  b.type != 0 && b.gating && !s.layerSupplied l b

/-- The last mean edge period P in ns (R275). -/
def State.meanPeriod (s : State) : Option Nat := if s.scan.periods.length < 8 then none else some (s.scan.periods.sum / 8)
/-- Extension slots a free-running frame takes (R275). -/
def State.freeRunExt (s : State) : Nat :=
  let lim := s.disp.timing.vtMax - s.disp.timing.vtMin
  match s.meanPeriod with
  | none => lim
  | some p => if s.disp.timing.lineNs == 0 then 0 else min lim (roundNat ((p - s.framePeriod0) * 256) s.disp.timing.lineNs)

/-- Timing follows FRAME_LOCK_IN (R275). -/
def State.lockIn (s : State) : Bool := s.disp.timing.mode == 2 && s.disp.timing.lockSource == 0

/-- SAFE_STOP_N has been low, or SAFE has forced SAFE-VIEW, since the latch point (R28). -/
def State.stopSeen (s : State) : Bool := s.mode.safeTrigger == some 0x02 || s.mode.safeTrigger == some 0x03

/-- Another extension slot follows, `n` having passed (R273 to R275, R28). -/
def State.extends (s : State) (n : Nat) : Bool :=
  let t := s.disp.timing
  if t.mode == 1 then n < t.vtMax - t.vtMin && s.pins.safeStopN && !s.own.forceSafeView && !s.stopSeen && (List.range 8).any s.gatingUnsupplied
  else if s.lockIn then s.scan.edge.isNone && n < (if s.scan.locked then t.vtMax - t.vtMin else s.freeRunExt)
  else false

/-- Vertical blanking starts: E of the frame, and a frame without an edge at the limit is MISSED (R274, R275). -/
def State.startVertical (s : State) : State :=
  let t := s.disp.timing
  let missed := s.lockIn && s.scan.edge.isNone && s.disp.ext == t.vtMax - t.vtMin
  let gate : W8 := if t.mode == 1 && s.disp.ext == t.vtMax - t.vtMin then BitVec.ofNat 8 (maskOf 8 s.gatingUnsupplied) else 0
  let s := s.modLayers fun x => { x with gateMissed := gate }
  (s.modDisp fun d => { d with blanking := true, extending := false, slot := 0, vtHistory := (d.ext :: d.vtHistory).take 64 }).when missed
    (·.modScan fun x => { x with missed := satInc x.missed, frameBad := true })

/-- Edges and lock, judged at the latch point for the frame that ends (R275). -/
def State.latchLock (s : State) : State :=
  if !s.lockIn then s.modScan fun x => { x with edge := none, frameBad := false, locked := false, lockGood := 0 }
  else s.modScan fun x =>
    let good := if x.frameBad then 0 else if x.edge.isSome then x.lockGood + 1 else x.lockGood
    { x with lockGood := good, locked := !x.frameBad && 8 ≤ good, edge := none, frameBad := false }

/-- A qualified rising edge on FRAME_LOCK_IN (R275), which CMP receives (R39). -/
def execFrameLockInEdge (s : State) : Result :=
  done (s.when (s.lockIn && s.domOn domCMP) fun s =>
    if s.scan.edge.isSome then s.modScan fun x => { x with early := satInc x.early, frameBad := true }
    else s.modScan fun x => { x with
      edge := some s.time, lastEdge := some s.time,
      periods := match x.lastEdge with | some t => ((s.time - t) :: x.periods).take 8 | none => x.periods })

/-! ### Lines (R280 to R287) -/

/-- Put a signature at line y. -/
def setSig (l : List W32) (y : Nat) (v : W32) : List W32 := (l ++ List.replicate (y + 1 - l.length) 0).set y v

/-- Line data of R281: drive codes packed and padded to whole 128-bit words. -/
def lineData (width : Nat) (codes : List Nat) : Bytes := pad (16 * lineWords width) (pack12 codes)
/-- L(s, y) of R281. -/
def lineSig (width y : Nat) (codes : List Nat) : W32 := crc32 (lineData width codes ++ le 2 y)

/-- What a LINE_HDR says on every lane of its packet (Table 11.5). -/
structure LineInfo where
  y : Nat
  sf : Nat
  full : Bool
  scrub : Bool
  frame : Nat
  sig : Nat

/-- WORDS on ACTIVE_INDEX a of n lanes, for a line of wd words (R287). -/
def laneWords (wd n a : Nat) : Nat := (wd - a + n - 1) / n

/-- The LINE_HDR payload on ACTIVE_INDEX a (Table 11.5). -/
def lineHdr (i : LineInfo) (wd n a : Nat) : Bytes :=
  [0x78] ++ le 1 a ++ le 2 i.y ++ le 1 (i.sf + bitOf i.full 3 + bitOf i.scrub 4) ++ le 1 i.frame ++ le 2 (laneWords wd n a) ++ le 1 n ++ [0]
    ++ le 4 i.sig ++ [0, 0]

/-- The packet of a line over the active lanes: word w travels on ACTIVE_INDEX w mod n as data block w / n (R286, R287). -/
def linePacket (i : LineInfo) (lanes : List Nat) (data : Bytes) : List (Nat × Bytes × List Bytes) :=
  let n := lanes.length
  let wd := data.length / 16
  lanes.mapIdx fun a l => (l, lineHdr i wd n a, (List.range (laneWords wd n a)).map fun k => slice data (16 * (k * n + a)) 16)

/-- The drive codes of line y with the Heartwood layer composited on top (R260). -/
def State.composite (s : State) (width y : Nat) (codes : List Nat) : List Nat :=
  (List.range width).flatMap fun x => match s.hwPixel x y with
    | some (r, g, b) => [r, g, b]
    | none => (codes.drop (3 * x)).take 3

def State.expected (s : State) (sf y : Nat) : W32 := (s.disp.sigs.getD sf []).getD y 0
/-- Line y of the subframe in scan, whose signature is `sig`, is sent (R282). -/
def State.mustSend (s : State) (sf y : Nat) (sig : W32) : Bool :=
  sig != s.expected sf y || s.disp.scanFull || s.disp.full || y % 64 == s.disp.frame.toNat % 64

/-- Scan-out drives the link. -/
def State.linkLive (s : State) : Bool := s.disp.running && s.scan.hold.isNone && !s.activeLanes.isEmpty

/-- The line slips (R280). -/
def State.slipLine (sf y : Nat) (s : State) : State :=
  let s := s.modScan fun x => { x with slips := satInc x.slips, slipsFrame := x.slipsFrame + 1 }
  (s.perFrame 0xA80 0 (le 2 y ++ le 1 sf ++ [0] ++ le 4 s.disp.frame.toNat)).hwSlip y

/-- Scan line y of subframe sf at the start of its slot (R280 to R282). -/
def State.scanLine (sf y : Nat) (s : State) : State :=
  match s.disp.panel, s.stored sf y with
  | some p, some l =>
    let codes := s.composite p.width y l.codes
    let sig := lineSig p.width y codes
    if !s.linkLive then s
    else if s.mustSend sf y sig then
      let info : LineInfo := { y := y, sf := sf, full := s.disp.scanFull || s.disp.full, scrub := y % 64 == s.disp.frame.toNat % 64, frame := s.disp.frame.toNat, sig := sig.toNat }
      ((s.leaveIdle.emit (.line (linePacket info s.activeLanes (lineData p.width codes)))).modDisp fun d => { d with sigs := d.sigs.modify sf fun e => setSig e y sig }).modScan
        fun x => { x with sent := x.sent + 1, sentSub := x.sentSub + 1 }
    else s.modScan fun x => { x with skipped := x.skipped + 1 }
  | _, _ => s.slipLine sf y

/-- Consecutive slots from the beam on that are known to carry no block (R290): complete lines that are skipped, or blanking. -/
def State.quietSlots (s : State) : Nat :=
  match s.disp.panel with
  | none => 0
  | some p =>
    let quiet (sf y : Nat) : Bool := match s.stored sf y with
      | some l => !s.mustSend sf y (lineSig p.width y (s.composite p.width y l.codes))
      | none => false
    let from_ (sf y : Nat) : Nat := ((List.range (min 128 (p.height - y))).takeWhile fun i => quiet sf (y + i)).length
    if s.disp.extending then 0
    else if s.disp.blanking then (s.disp.timing.vtMin - s.disp.slot) + (if s.disp.subframe + 1 < p.subframes then from_ (s.disp.subframe + 1) 0 else 0)
    else from_ s.disp.subframe s.disp.slot

/-- Lanes with no block to send for at least 4 µs enter electrical idle (R290). -/
def State.idleLanes (sent : Bool) (s : State) : State :=
  s.when (s.linkLive && !sent && 4000 * 256 ≤ s.quietSlots * s.disp.timing.lineNs) (·.enterIdle)

/-- The first slot after the active lines of a subframe: SUBFRAME_END and ALIGN on every active lane, the signature X as it
stands, and the report due (R283, R285). -/
def State.endSubframe (sf : Nat) (s : State) : State :=
  match s.disp.panel with
  | none => s
  | some p =>
    if s.scan.hold.isSome then s
    else
      let x := ((s.disp.sigs.getD sf []).take p.height).foldl (· ^^^ ·) (0 : W32)
      let s := s.modDisp fun d => { d with endXor := d.endXor.set sf x, sigDue := d.sigDue.set sf (some s.time), scanFrame := d.scanFrame.set sf d.frame }
      let s := if s.linkLive then
          let n := s.lanes.alignCount.toNat
          ((s.leaveIdle.emit (.ctrl 0x5A [sf, s.disp.frame.toNat % 256, s.scan.sentSub.toNat])).emit (.ctrl 0x4B [n])).modLanes fun l => { l with alignCount := l.alignCount + 1 }
        else s
      s.modScan fun x => { x with sentSub := 0 }

/-- The scan of a subframe starts: how it is written is decided by the state now (R283). -/
def State.startSubframe (sf : Nat) (s : State) : State :=
  s.modDisp fun d => { d with scanFull := d.full || d.unconfirmed.getLsbD sf, lineErr := d.lineErr &&& ~~~(BitVec.ofNat 8 (2 ^ sf)) }

/-- Enter active slot y of the subframe in scan. -/
def State.enterActive (y : Nat) (s : State) : State :=
  let sf := s.disp.subframe
  let s := s.modDisp fun d => { d with slot := y, blanking := false, extending := false }
  let s := s.when (y == 0) (·.startSubframe sf)
  if s.scan.hold.isSome || !s.domOn domCMP then s
  else
    let n := s.scan.sent
    let s := s.scanLine sf y
    let h := s.panelHeight
    let s := s.idleLanes (s.scan.sent != n)
    (s.modDisp fun d => { d with store := d.store.filter fun l => sf * h + y < l.sf * h + l.y }).watermarks

/-- Counters of the frame that ends move to those of the last frame (R280, R282, R298). -/
def State.rollFrame (s : State) : State :=
  (s.modScan fun x => { x with sentLast := x.sent, skippedLast := x.skipped, slipsLast := x.slipsFrame, sent := 0, skipped := 0, slipsFrame := 0, sentSub := 0 }).modDisp
    fun d => { d with minLead := if d.minLeadNow == 129 then 0 else d.minLeadNow, minLeadNow := 129 }

/-- A frame starts at the time in force (R271, R284). In a hold the schedule runs on and no frame starts. -/
def State.startFrame (s : State) : State :=
  let held := !s.disp.latched
  let s := s.modDisp fun d => { d with frameStart := s.time, slotNo := 0, subframe := 0, ext := 0, latched := false }
  if held then s.enterActive 0
  else
    let s := s.rollFrame.modDisp fun d => { d with full := d.fullNext, fullNext := false, store := d.store }
    let s := s.when (s.domOn domCMP) fun s => (s.modPins fun p => { p with frameOut := true }).emit (.pin .frameOut true 0)
    -- Rootline returns from its backup at a frame boundary (R66)
    let s := s.modClk fun c => { c with camBackup := c.camBackup && c.lost.getD 3 false }
    s.hwFrameStart.enterActive 0

/-- The latch point of the vertical blanking in scan is withheld by a hold (R277, R296, R297). -/
def State.latchBlocked (s : State) : Bool := s.pnl.cmpDown || match s.scan.hold with
  | some (0, _) => s.scan.relink.isSome
  | some (1, _) => true
  | some (3, _) => !s.domOn domCMP
  | _ => false

/-- A slot boundary of the schedule. The latch point two slots into vertical blanking comes first (LATCH_POINT). -/
def execSlotBoundary (s : State) : Result :=
  let t := s.disp.timing
  let last := s.disp.subframe + 1 == s.subframes
  let next (s : State) : State := (s.timeTo (s.slotStart (s.disp.slotNo + 1))).modDisp fun d => { d with slotNo := d.slotNo + 1 }
  let low (s : State) : State := s.when (s.pins.frameOut && s.disp.slotNo == 1) fun s => (s.modPins fun p => { p with frameOut := false }).emit (.pin .frameOut false 0)
  done (s.when (s.disp.sched && s.disp.panel.isSome) fun s =>
    if s.disp.extending then
      let s := (next s).modDisp fun d => { d with ext := d.ext + 1 }
      if s.extends s.disp.ext then s.modDisp fun d => { d with slot := d.slot + 1 } else (s.startVertical.idleLanes false).watermarks
    else if !s.disp.blanking then
      let s := low (next s)
      if s.disp.slot + 1 < t.activeLines then s.enterActive (s.disp.slot + 1)
      else
        let s := s.endSubframe s.disp.subframe
        if !last then (s.modDisp fun d => { d with blanking := true, slot := 0 }).watermarks
        else if s.extends 0 then (s.modDisp fun d => { d with extending := true, slot := 0 }).watermarks
        else s.startVertical.watermarks
    else if last && s.disp.slot == 2 && !s.disp.latched && !s.latchBlocked then s
    else if s.disp.slot + 1 < t.vtMin then (((next s).modDisp fun d => { d with slot := d.slot + 1 }).idleLanes false).watermarks
    else if !last then ((next s).modDisp fun d => { d with subframe := d.subframe + 1 }).enterActive 0
    else (next s).startFrame)

/-! ### Reports of the panel (R283, R291) -/

/-- Subframe sf differed or sent no report in time. -/
def State.sigMismatch (sf : Nat) (panelSig : W32) (s : State) : State :=
  let f := s.disp.scanFrame.getD sf 0
  let s := s.modScan fun x => { x with sigMismatches := satInc x.sigMismatches }
  let s := s.modDisp fun d => { d with unconfirmed := d.unconfirmed ||| BitVec.ofNat 8 (2 ^ sf), sigDue := d.sigDue.set sf none }
  (s.post 0xA81 2 (le 1 sf ++ [0, 0, 0] ++ le 4 f.toNat ++ le 4 (s.disp.endXor.getD sf 0).toNat ++ le 4 panelSig.toNat)).decideSf f sf false

/-- SIG_REPORT: compared when it names the last scan of its subframe and arrives within 1 ms (R283, R291). -/
def execSigReport (sf : Nat) (frame : W32) (sig : W32) (lines : Nat) (s : State) : Result :=
  let _ := lines
  done (match s.disp.sigDue.getD sf none with
    | none => s
    | some t =>
      let f := s.disp.scanFrame.getD sf 0
      if s.subframes ≤ sf || t + ms 1 < s.time || f.toNat % 256 != frame.toNat % 256 then s
      else if sig != s.disp.endXor.getD sf 0 then s.sigMismatch sf sig
      else
        (s.modDisp fun d => { d with
          sigDue := d.sigDue.set sf none,
          unconfirmed := if d.lineErr.getLsbD sf then d.unconfirmed else d.unconfirmed &&& ~~~(BitVec.ofNat 8 (2 ^ sf)) }).decideSf f sf true)

/-- No SIG_REPORT within 1 ms of the subframe's last line (R264, R283). -/
def execSigReportMissing (sf : Nat) (s : State) : Result :=
  done (match s.disp.sigDue.getD sf none with
    | none => s
    | some t => (s.timeTo (t + ms 1)).sigMismatch sf 0)

/-- LINE_ERROR: the subframe is unconfirmed, whatever its report says (R283, R299). -/
def execLineError (sf : Nat) (frame : W32) (line cause : Nat) (s : State) : Result :=
  let _ := frame
  done (s.when (sf < s.subframes) fun s =>
    let b := BitVec.ofNat 8 (2 ^ sf)
    let s := s.modDisp fun d => { d with unconfirmed := d.unconfirmed ||| b, lineErr := d.lineErr ||| b }
    s.when (cause == 4) (·.blockErrorLine sf line))

def execPanelStatus (temp : W16) (flags : W8) (s : State) : Result :=
  done (s.modScan fun x => { x with panelTemp := temp, panelFlags := flags &&& 3, lastStatus := s.time, statusLost := false })

def execPanelStatusLost (s : State) : Result :=
  done ((s.timeTo (s.scan.lastStatus + ms 500)).modScan fun x => { x with statusLost := true })

/-! ### DISP commands (R272, R276, R284) -/

/-- The PANEL record (0x0004): the panel arguments, then the timing arguments. -/
def panelArgs (p : PanelCfg) : Bytes :=
  le 2 p.width ++ le 2 p.height ++ le 1 p.subframes ++ le 1 p.layout ++ le 2 p.pitchUm ++ le 1 p.rails ++ [0] ++ le 2 p.railGapMs
def timingArgs (t : Timing) : Bytes :=
  le 1 t.mode ++ le 1 t.lockSource ++ le 1 t.laneRate ++ [0] ++ le 4 t.lineNs ++ le 2 t.activeLines ++ le 2 t.vtMin ++ le 2 t.vtMax ++ [0, 0] ++ le 4 t.lockOffset.toNat
def panelOf (b : Bytes) : PanelCfg :=
  { width := u16At b 0, height := u16At b 2, subframes := byteAt b 4, layout := byteAt b 5, pitchUm := u16At b 6, rails := byteAt b 8, railGapMs := u16At b 10 }
def timingOf (b : Bytes) : Timing :=
  { mode := byteAt b 0, lockSource := byteAt b 1, laneRate := byteAt b 2, lineNs := u32At b 4, activeLines := u16At b 8, vtMin := u16At b 10, vtMax := u16At b 12, lockOffset := BitVec.ofNat 32 (u32At b 16) }

/-- Taproot stores the panel and timing settings (Table 17.8). -/
def State.storePanel (p : Option PanelCfg) (t : Timing) (s : State) : State :=
  match p with
  | some p => s.deferRecord 4 (panelArgs p ++ timingArgs t)
  | none => s

def execDispQuery (m : Master) (s : State) : Result :=
  done (runCmd { code := 0x0A00, cls := 0 } noUnit noPre (fun _ s =>
    let t := s.disp.timing
    (s, .ok (le 1 t.mode ++ le 1 t.laneRate ++ le 2 s.maxHz ++ le 4 s.disp.frame.toNat ++ le 4 s.scan.slips.toNat ++ le 4 s.scan.sigMismatches.toNat
      ++ le 4 s.scan.sentLast.toNat ++ le 4 s.scan.skippedLast.toNat ++ le 2 (s.disp.vtHistory.foldl max 0)))) m s)

/-- The field of a panel configuration beyond R4 or Table 0.4. -/
def State.panelBad (s : State) (p : PanelCfg) (period : Nat) : Option (Nat × Nat) :=
  let (w, h, n) := if s.is20 then (7680, 4320, 4) else (16384, 8704, 8)
  if p.width == 0 || w < p.width then some (0, 0)
  else if p.height == 0 || h < p.height then some (2, 0)
  else if n < p.subframes then some (4, 0)
  else if !s.panelOk p period then some (0, 0) else none

/-- The timing that goes with a new panel: ACTIVE_LINES its HEIGHT, LINE_NS at least the new minimum slot (R272). -/
def State.timingFor (s : State) (p : PanelCfg) : Timing :=
  let t := s.disp.timingNext.getD s.disp.timing
  { t with activeLines := p.height, lineNs := max t.lineNs (tMinRaw p.width s.stripeN t.laneRate) }

/-- DISP.PANEL_SET (R4, R272): applied at the next latch point as a hold and full write; a panel given up is tried again (R294). -/
def execDispPanelSet (m : Master) (s : State) : Result :=
  done (runCmd { code := 0x0A01, cls := 1, len := 12,
                 args := [{ off := 0, n := 2 }, { off := 2, n := 2 }, { off := 4, lo := 1, hi := 8 }, { off := 5, hi := 0 }, { off := 6, n := 2 }, { off := 8, lo := 1, hi := 4 }, { off := 10, n := 2 }] } noUnit
    (fun c s => let p := panelOf c.args
      let t := s.timingFor p
      s.panelBad p (framePeriodRaw p t t.lineNs))
    (fun c s =>
      let p := panelOf c.args
      if s.mode.mode != .safeView && s.mode.mode != .maintenance then (s, .fail stWrongMode)
      else
        let t := s.timingFor p
        let s := (s.modDisp fun d => { d with panelNext := some p, timingNext := some t }).modPnl fun x =>
          if x.gaveUp then { x with gaveUp := false, faults := [], retryAt := none } else x
        (s.storePanel (some p) t, .ok [])) m s)

/-- The conditions of Table 11.2: REASON 7, then 1 to 6, with the field concerned. -/
def State.timingBad (s : State) (t : Timing) : Option (Nat × Nat) :=
  let port := t.lockSource - 1
  let locked := t.mode == 2 && t.lockSource != 0 &&
    (16 < t.lockSource || !s.hasPort port || !(s.cam.ports.getD port {}).cfg.fsyncEn)
  if 2 < t.mode then some (0, 7)
  else if 2 < t.laneRate then some (2, 7)
  else match s.disp.panelNext <|> s.disp.panel with
    | none => some (8, 1)
    | some p =>
      let raw := framePeriodRaw p t t.lineNs
      if t.activeLines != p.height then some (8, 1)
      else if t.vtMin < 8 || 4096 < t.vtMin then some (10, 2)
      else if t.vtMax < t.vtMin then some (12, 2)
      else if t.lineNs < tMinRaw p.width s.stripeN t.laneRate then some (4, 3)
      else if !s.panelOk p raw then some (4, 4)
      else if locked then some (1, 5)
      else if t.lockOffset != 0xFFFFFFFF && 2 * raw < t.lockOffset.toNat * 256 then some (16, 6)
      else none

/-- DISP.TIMING_SET (R272, R276, R277). -/
def execDispTimingSet (m : Master) (s : State) : Result :=
  done (runCmd { code := 0x0A02, cls := 1, len := 20,
                 args := [{ off := 0 }, { off := 1 }, { off := 2 }, { off := 4, n := 4 }, { off := 8, n := 2 }, { off := 10, n := 2 }, { off := 12, n := 2 }, { off := 16, n := 4 }] } noUnit
    (fun c s => s.timingBad (timingOf c.args))
    (fun c s =>
      let t := timingOf c.args
      if s.opOn 0x0A02 then (s, .fail stBusy) else
      let s' := (s.modDisp fun d => { d with timingNext := some t }).storePanel (s.disp.panelNext <|> s.disp.panel) t
      if t.laneRate == s.disp.timing.laneRate then (s', .ok (le 4 s.nextFrame.toNat)) else (s', .pend (ms 100) 0)) m s)

/-- DISP.FULL_WRITE: every subframe unconfirmed, the frame after written in full (R283, R284). -/
def execDispFullWrite (m : Master) (s : State) : Result :=
  done (runCmd { code := 0x0A03, cls := 1 } noUnit noPre (fun _ s =>
    (s.modDisp fun d => { d with unconfirmed := s.allSubframes, fullNext := d.fullNext || !d.latched, fullAfter := d.fullAfter || d.latched },
      .ok (le 4 s.nextFrame.toNat))) m s)

/-! ### Panel power (R293 to R295) -/

/-- The panel power-up starts (R293): rail 0 enabled, discharge released. -/
def State.panelUp (s : State) : State :=
  match s.disp.panel with
  | none => s
  | some p =>
    if !s.domOn domCMP || s.pnl.up || s.pnl.rail.isSome || s.pnl.gaveUp then s
    else
      let s := (s.modPins fun x => { x with pnlPwrEn := x.pnlPwrEn.set 0 true, pnlDischN := true }).modPnl fun x =>
        { x with rail := some 0, railAt := s.time + ms 50, railsUsed := p.rails, gapUsed := p.railGapMs, retryAt := none }
      (s.emit (.pin (.pnlPwrEn 0) true 0)).emit (.pin .pnlDischN true 0)

def execPanelPowerUp (s : State) : Result := done (s.when s.pnl.retryAt.isNone (·.panelUp))

/-- A PNL_PG rises: the next rail follows RAIL_GAP_MS later; with the last one the panel is up (R293). -/
def execPnlPgRise (rail : Nat) (s : State) : Result :=
  let s := s.modPins fun p => { p with pnlPg := p.pnlPg.set rail true }
  done (s.when (s.pnl.rail == some rail) fun s =>
    if rail + 1 < s.pnl.railsUsed then
      let s := s.modPnl fun x => { x with rail := some (rail + 1), railAt := s.time + ms x.gapUsed + ms 50 }
      (s.modPins fun p => { p with pnlPwrEn := p.pnlPwrEn.set (rail + 1) true }).emit (.pin (.pnlPwrEn (rail + 1)) true (ms s.pnl.gapUsed))
    else (s.modPnl fun x => { x with rail := none, up := true }).modScan fun x => { x with railFault := false })

/-- A power-good that misses its 50 ms or falls while its enable is high (R294). -/
def execPanelRailFault (rail : Nat) (s : State) : Result :=
  done (s.when (s.pins.pnlPwrEn.getD rail false) fun s =>
    let s := if s.pins.pnlPg.getD rail false then s else s.timeTo s.pnl.railAt
    let ok := s.pins.safeOk
    let frameOut := s.pins.frameOut
    let s := s.endHold.panelDown 0
    let s := s.modPins fun p => { p with pnlPg := p.pnlPg.set rail false, safeOk := ok, frameOut := frameOut }
    let recent := s.pnl.faults.filter (fun t => s.time < t + 60 * 10 ^ 9) ++ [s.time]
    let s := s.modPnl fun x => { x with faults := recent, gaveUp := 3 ≤ recent.length, retryAt := if 3 ≤ recent.length then none else some (s.time + 10 ^ 9) }
    (s.modScan fun x => { x with railFault := true, relink := none, relinkBack := false }).post 0xA83 3 (le 1 3))

def execPanelRetryTimer (s : State) : Result :=
  done (match s.pnl.retryAt with
    | some t => ((s.timeTo t).modPnl fun x => { x with retryAt := none }).panelUp
    | none => s)

/-! ### Compositor fault (R297) -/

/-- The hold sequencer of a Sapline group sends HOLD with REASON 3 when CMP delivers no block for two slots. -/
def execHoldSequencerTimeout (g : Nat) (s : State) : Result :=
  done (s.when (s.hasGroup g && s.domOn (domSG g) && (s.groupLanes g).any fun l => (s.lane l).included) (·.emit (.ctrl 0x33 [3, 16, g])))

/-- CMP declares a fault: HOLD with REASON 3, CMP off and on again; off for good after the third within 10 minutes. -/
def State.cmpFault (s : State) : State :=
  s.when (s.domOn domCMP) fun s =>
    let s := (s.startHold 3).post 0x85 3 (le 2 domCMP ++ le 1 0x0A)
    let recent := s.pnl.cmpFaults.filter (fun t => s.time < t + 600 * 10 ^ 9) ++ [s.time]
    let gone := 3 ≤ recent.length
    let s := (s.modPnl fun x => { x with cmpFaults := recent, cmpDown := !gone, cmpOff := gone }).modHw fun h => { h with frames := [] }
    let s := s.modDisp fun d => { d with sigDue := List.replicate 8 none }
    let s := (s.dropDomain domCMP 3).setUnit domCMP fun u => { u with faulted := true, cause := 0x0A, state := 7, flowing := false }
    if gone then s else s.reqDomain domCMP true 3

def execCmpFault (s : State) : Result := done s.cmpFault

/-- CMP has restarted from the mirror in AON: every subframe unconfirmed, a full write from the next latch point. -/
def execCmpRestartComplete (s : State) : Result :=
  done (s.when (s.pnl.cmpDown && s.domOn domCMP) fun s =>
    let s := match s.pnl.mirror with
      | none => s
      | some (c, t, f, p, cap) =>
        let s := s.modDisp fun d => { d with timing := t, frame := f, panel := p }
        let s := s.modLayers fun x => { x with force := c, capture := cap, coef := match c with | some k => k.coef | none => x.coef }
        match c with
        | some k => s.modWin fun w => (snapshot k.snap).foldl (fun (w : Memory) (x : Host.Cell) => memSet w x.1 x.2) (memClear (memClear w 0x34000 0x34200) 0x38000 0x3A000)
        | none => s
    let live := s.pnl.up && !s.activeLanes.isEmpty
    (s.modPnl fun x => { x with cmpDown := false }).modDisp fun d => { d with unconfirmed := s.allSubframes, fullAfter := true, running := live })

/-! ### Registers (R298) -/

def State.dispPosition (s : State) : Nat :=
  s.disp.slot % 2 ^ 14 + bitOf s.disp.blanking 14 + bitOf s.disp.extending 15 + s.disp.subframe * 2 ^ 16 + bitOf s.scan.hold.isSome 19
def State.dispLineStore (s : State) : Nat :=
  s.disp.lead + bitOf s.disp.rtClass 8 + bitOf s.disp.panic 9 + s.disp.minLead * 2 ^ 16 + min 255 s.scan.slipsLast * 2 ^ 24
def State.dispLinkStatus (s : State) : Nat :=
  s.activeLanes.length + s.disp.timing.laneRate * 2 ^ 8 + bitOf s.clk.pnlBackup 10 + bitOf s.scan.locked 11 + bitOf s.disp.fullNext 12
    + (s.disp.unconfirmed &&& s.allSubframes).toNat * 2 ^ 16
def State.dispPanelStatus (s : State) : Nat :=
  s.scan.panelTemp.toNat + s.scan.panelFlags.toNat % 4 * 2 ^ 16 + bitOf s.scan.railFault 18 + bitOf s.scan.statusLost 19
    + maskOf 4 (s.pins.pnlPg.getD · false) * 2 ^ 20 + maskOf 4 (s.pins.pnlPwrEn.getD · false) * 2 ^ 24

end Sys2Proof.Machine
end

