-- ==== Sys2Proof/Machine/Depth.lean ====
section
/-! DEFINITION. Stereo depth and camera slicing: pair units, rectification, disparity, the slicer and its pools (spec/07). -/

namespace Sys2Proof.Machine

/-! ### Depth inputs (R143, R158) -/

def State.pairUnit (s : State) (u : Nat) : PairUnit := s.depth.units.getD u {}
def State.modPair (u : Nat) (f : PairUnit → PairUnit) (s : State) : State := s.modDepth fun d => { d with units := d.units.modify u f }
def State.slicer (s : State) (l : Nat) : SliceLayer := s.depth.layers.getD l {}
def State.modSlicer (l : Nat) (f : SliceLayer → SliceLayer) (s : State) : State := s.modDepth fun d => { d with layers := d.layers.modify l f }

/-- AUX_DIV of a port's active context. -/
def State.auxDiv (s : State) (p : Nat) : Nat := byteAt (s.ispPort p).active 52
/-- The a of the chapter: AUX_DIV, or 1 when it is 0. -/
def State.auxA (s : State) (p : Nat) : Nat := max 1 (s.auxDiv p)
/-- Width and height of a port's depth input. -/
def State.depthInput (s : State) (p : Nat) : Nat × Nat := ((s.camPort p).cfg.width / s.auxA p, (s.camPort p).cfg.height / s.auxA p)

/-- The raw buffers and disparity rings that Taproot reserves now: three buffers of a configured memory-fed port, three sets of
an enabled unit (R128, R169). -/
def State.ownNeeds (s : State) : List (Nat × Nat) :=
  ((List.range 16).filterMap fun p =>
    let c := (s.camPort p).cfg
    if (s.camPort p).configured && (s.maskPipe p).isSome then some (ringIds + p, 3 * c.height * line64 (lineBytes c.width c.dataType)) else none)
    ++ (List.range 8).filterMap fun u =>
      let (w, h) := s.depthInput (s.pairUnit u).cfg.refPort
      if (s.pairUnit u).enabled then some (ringIds + 16 + u, 3 * (h / 2) * (line64 (w / 2 * 2) + line64 (w / 2))) else none
def State.reserveOwn (s : State) : State := s.reserve s.ownNeeds

/-- The first REASON of Table 7.1 that holds, with the argument concerned. -/
def State.pairBad (s : State) (u : Nat) (c : PairCfg) : Option (Nat × Nat) :=
  let a := (s.camPort c.refPort).cfg
  let b := (s.camPort c.other).cfg
  let (wa, ha) := s.depthInput c.refPort
  let (wb, hb) := s.depthInput c.other
  let period := s.framePeriod0 * a.fsyncDiv
  if c.refPort == c.other then some (2, 1)
  else if !a.fsyncEn || !b.fsyncEn || a.fsyncDiv != b.fsyncDiv then some (1, 2)
  else if wa != wb || ha != hb then some (1, 3)
  else if 3840 < wa || 2160 < ha || (period != 0 && 124416000 * period < wa / 2 * (ha / 2) * 10 ^ 9) then some (1, 4)
  else if c.baselineUm == 0 then some (4, 5)
  else if c.focalPx == 0 then some (8, 5)
  else if (List.range 8).any fun v => v != u && (s.pairUnit v).enabled && (s.pairUnit v).cfg.refPort == c.refPort then some (1, 6)
  else if wa % 2 == 1 || ha % 2 == 1 then some (1, 7)
  else none

/-! ### Warp maps (R161, R162) -/

/-- The nodes of a warp map block (Table 7.2). -/
def warpNodes (b : Bytes) : List (Int × Int) := (List.range 2304).map fun i => (s32At b (8 * i), s32At b (8 * i + 4))
/-- The REASON of the first node that fails R162 for a depth input of win by hin. -/
def warpBad (m : List (Int × Int)) (win hin : Nat) : Option Nat :=
  (List.range 2304).findSome? fun i =>
    let (x, y) := m.getD i (0, 0)
    let yd2 : Int := 2 * (i / 64 * (hin / 2 - 1) : Nat)
    if y * 35 < (yd2 - 64 * 35) * 65536 || (yd2 + 24 * 35) * 65536 < y * 35 then some 1
    else if x < -16 * 65536 || ((win : Int) + 15) * 65536 < x then some 2 else none
/-- Node (gx, gy) of the identity map: twice its position, in S15.16. -/
def identityNode (wd hd gx gy : Nat) : Int × Int := ((2 * gx * (wd - 1) * 65536 / 63 : Nat), (2 * gy * (hd - 1) * 65536 / 35 : Nat))
def warpNode (m : Option (List (Int × Int))) (wd hd gx gy : Nat) : Int × Int := match m with
  | some l => l.getD (64 * gy + gx) (0, 0)
  | none => identityNode wd hd gx gy

/-- The unit stops: its ports are free for other pairs (R158). -/
def State.stopPair (u : Nat) (s : State) : State :=
  ((s.modPair u fun x => { x with enabled := false, state := 0, next := none, cur := none }).setUnit (unitPair u) fun x =>
    { x with state := 0, flowing := false, faulted := false, reduced := false }).clearCause 0x13 (unitPair u)

/-- A fault of pair unit u (Table 7.4): EV_DEPTH_PAIR_FAULT, the frame in progress abandoned, its layers flat (R184). A stop that
waited for that frame takes place (R158). -/
def State.pairFault (u cause : Nat) (s : State) : State :=
  let s := (s.modPair u fun x => { x with state := 4, cause := cause, cur := none, prev := none, mapWaits := false }).unitFault (unitPair u) cause
  let s := s.post 0x680 2 (le 1 u ++ le 1 cause)
  let s := if s.depth.layers.any fun l => l.enabled && l.cfg.port == (s.pairUnit u).cfg.refPort then s.detect 0x13 (unitPair u) else s
  if (s.pairUnit u).next == some none then s.stopPair u else s

/-- A faulted unit is usable again. -/
def State.pairRecover (u : Nat) (s : State) : State :=
  s.when ((s.pairUnit u).enabled && (s.pairUnit u).state == 4) fun s =>
    ((s.modPair u fun x => { x with state := 1, cause := 0 }).setUnit (unitPair u) fun x => { x with state := 3, faulted := false, flowing := false }).clearCause 0x13 (unitPair u)

/-- Units whose pair uses a port. -/
def State.pairsOf (s : State) (p : Nat) : List Nat := (List.range 8).filter fun u => (s.pairUnit u).enabled && ((s.pairUnit u).cfg.refPort == p || (s.pairUnit u).cfg.other == p)

/-- UNIT_STATUS.REDUCED of the pairs that use a port: a divider is raised (R159). -/
def State.showPairs (p : Nat) (s : State) : State :=
  let raised (q : Nat) : Bool := (s.camPort q).effDiv != (s.camPort q).cfg.fsyncDiv
  (s.pairsOf p).foldl (fun t u => t.setUnit (unitPair u) fun x => { x with reduced := raised (s.pairUnit u).cfg.refPort || raised (s.pairUnit u).cfg.other }) s

/-- The depth-input size of a port has changed: maps and pairs are judged again (R162, R185). -/
def State.recheckPairs (p : Nat) (s : State) : State :=
  State.reserveOwn <| (s.pairsOf p).foldl (fun t u =>
    let bad (q : Nat) : Bool := match t.depth.warps.getD q none with
      | some m => let (w, h) := t.depthInput q
        (warpBad m w h).isSome
      | none => false
    let c := (t.pairUnit u).cfg
    let wrong := bad c.refPort || bad c.other || (t.pairBad u c).isSome
    if wrong && (t.pairUnit u).state != 4 then t.pairFault u 3
    else if !wrong && (t.pairUnit u).cause == 3 then t.pairRecover u else t) s

/-! ### DEPTH commands -/

def execDepthQuery (m : Master) (s : State) : Result :=
  done (runCmd { code := 0x0600, cls := 0, len := 1, args := [{ off := 0, hi := 7 }] } (absentIn 0 80 7 State.hasPair) noPre (fun c s =>
    let u := s.pairUnit (c.u8 0)
    (s, .ok (le 1 (if s.domOn domDE then u.state else 0) ++ le 1 u.cfg.refPort ++ le 1 u.cfg.other ++ [0] ++ le 4 u.frames.toNat ++ le 1 u.meanConf))) m s)

/-- A setting for a unit with no pair frame in progress; a new REF_PORT, OTHER_PORT, BASELINE_UM or FOCAL_PX clears the
temporal history (R160). -/
def State.applyPair (u : Nat) (c : Option PairCfg) (s : State) : State := match c with
  | none => (s.stopPair u).reserveOwn
  | some c =>
    let s := s.modPair u fun x =>
      let same := x.cfg.refPort == c.refPort && x.cfg.other == c.other && x.cfg.baselineUm == c.baselineUm && x.cfg.focalPx == c.focalPx
      { x with enabled := true, cfg := c, next := none, state := 1, cause := 0, prev := if same then x.prev else none }
    (s.setUnit (unitPair u) fun x => { x with state := 3, faulted := false }).recheckPairs c.refPort

/-- DEPTH.PAIR_SET (R158, R160). -/
def execDepthPairSet (m : Master) (s : State) : Result :=
  let cfg (c : Ctx) : PairCfg := { refPort := c.u8 1, other := c.u8 2, temporal := bit (c.u8 3) 1, lrCheck := bit (c.u8 3) 2,
                                   baselineUm := c.u32 4, focalPx := c.u32 8, lrTol := c.u8 12, weight := c.u8 13 }
  done (runCmd { code := 0x0601, cls := 1, len := 14,
                 args := [{ off := 0, hi := 7 }, { off := 1, hi := 15 }, { off := 2, hi := 15 }, { off := 3, mask := 7 }, { off := 4, n := 4 }, { off := 8, n := 4 }, { off := 12 }, { off := 13 }] }
    (fun c s => (absentIn 0 80 7 State.hasPair c s) <|> (absentIn 1 64 15 State.hasPort c s) <|> (absentIn 2 64 15 State.hasPort c s))
    (fun c s => if bit (c.u8 3) 0 then s.pairBad (c.u8 0) (cfg c) else none)
    (fun c s =>
      let u := c.u8 0
      let x := s.pairUnit u
      let new := if bit (c.u8 3) 0 then some (cfg c) else none
      if x.cur.isSome && (x.next.isSome || x.mapWaits) then (s, .busy (unitPair u))
      else if x.cur.isSome then (s.modPair u fun x => { x with next := some new }, .ok [])
      else (s.applyPair u new, .ok [])) m s)

/-- DEPTH.WARP_LOAD (R160 to R162). -/
def execDepthWarpLoad (m : Master) (s : State) : Result :=
  done (runCmd { code := 0x0602, cls := 1, bulk := some 0, len := 17, args := [{ off := 16, hi := 15 }] } (absentIn 16 64 15 State.hasPort)
    (fun c _ => if c.u32 8 != 18432 then some (8, 0) else none)
    (fun c s =>
      let p := c.u8 16
      let b := c.bulkBytes s
      let nodes := warpNodes b
      let (w, h) := s.depthInput p
      match if w == 0 then none else warpBad nodes w h with
      | some r => (s, .badArg 0xFF r)
      | none =>
        let running := (s.pairsOf p).filter fun u => (s.pairUnit u).cur.isSome
        match running.find? fun u => (s.pairUnit u).next.isSome || (s.pairUnit u).mapWaits with
        | some u => (s, .busy (unitPair u))
        | none =>
          let s := s.modDepth fun d => { d with warps := d.warps.set p (some nodes) }
          let s := running.foldl (fun t u => t.modPair u fun x => { x with mapWaits := true }) s
          ((s.recheckPairs p).deferRecord (0x60 + p) b, .ok [])) m s)

/-! ### Rectification (R161, R163) -/

/-- Mirroring about the edge sample (R138). -/
def mirror (n : Nat) (i : Int) : Nat := (if i < 0 then -i else if (n : Int) ≤ i then 2 * ((n : Int) - 1) - i else i).toNat
def sampleAt (p : Plane) (x y : Nat) : Nat := (p.getD y []).getD x 0
/-- The box image B of a depth input (R161). -/
def boxAt (p : Plane) (win hin x y : Nat) : Nat :=
  let f (dx dy : Nat) := sampleAt p (mirror win (x + dx : Nat)) (mirror hin (y + dy : Nat))
  (f 0 0 + f 1 0 + f 0 1 + f 1 1 + 2) / 4

/-- Grid index and weight of a position num/den on an axis of n + 1 nodes over size wd (R163). -/
def warpPos (num : Int) (den n wd : Nat) : Nat × Nat :=
  let f := clampI 0 (n * 65536 : Nat) ((num * n * 65536).tdiv (den * (wd - 1) : Nat))
  (f.toNat / 65536, f.toNat % 65536)

/-- The map evaluated at disparity position (xn/den, yn/den): S15.16 (R163). -/
def warpAt (m : Option (List (Int × Int))) (wd hd : Nat) (xn yn : Int) (den : Nat) : Int × Int :=
  let (gx, wx) := warpPos xn den 63 wd
  let (gy, wy) := warpPos yn den 35 hd
  let node (i j : Nat) := warpNode m wd hd (min 63 (gx + i)) (min 35 (gy + j))
  let mix (f : Int × Int → Int) : Int :=
    roundDiv ((f (node 0 0) * (65536 - wx : Nat) + f (node 1 0) * wx) * (65536 - wy : Nat) + (f (node 0 1) * (65536 - wx : Nat) + f (node 1 1) * wx) * wy) (2 ^ 32)
  (mix (·.1), mix (·.2))

/-- A rectified sample and whether it is marked outside (R163). -/
def rectified (p : Plane) (m : Option (List (Int × Int))) (win hin xd yd : Nat) : Nat × Bool :=
  let (sx, sy) := warpAt m (win / 2) (hin / 2) xd yd 1
  let cx := (clampI 0 ((win : Int) * 65536 - 65536) sx).toNat
  let cy := (clampI 0 ((hin : Int) * 65536 - 65536) sy).toNat
  let ix := cx / 65536
  let iy := cy / 65536
  let fx := cx / 256 % 256
  let fy := cy / 256 % 256
  let b (i j : Nat) := boxAt p win hin (ix + i) (iy + j)
  (((b 0 0 * (256 - fx) + b 1 0 * fx) * (256 - fy) + (b 0 1 * (256 - fx) + b 1 1 * fx) * fy + 32768) / 65536, (cx : Int) != sx || (cy : Int) != sy)

/-! ### Disparity (R164 to R168) -/

/-- The 48-bit census of a pixel of a rectified image (R164). -/
def census (img : Int → Int → Nat) (x y : Nat) : List Bool :=
  (List.range 49).filterMap fun i => if i == 24 then none else some (img (x + (i % 7 : Nat) - 3) (y + (i / 7 : Nat) - 3) < img x y)
/-- Bits that differ. -/
def hamming (a b : List Bool) : Nat := ((a.zip b).filter fun (x, y) => x != y).length

/-- Rows of a rectified image: value and outside mark, mirrored at the edges for the census. -/
def rectRow (p : Plane) (m : Option (List (Int × Int))) (win hin y : Nat) : List (Nat × Bool) := (List.range (win / 2)).map fun x => rectified p m win hin x y

/-- Census row y of an input: bits and outside mark. -/
def censusRow (p : Plane) (m : Option (List (Int × Int))) (win hin y : Nat) : List (List Bool × Bool) :=
  let wd := win / 2
  let hd := hin / 2
  let rows := (List.range 7).map fun j => rectRow p m win hin (mirror hd ((y : Int) + (j : Nat) - 3))
  let img (x' y' : Int) : Nat := ((rows.getD (y' - y + 3).toNat []).getD (mirror wd x') (0, false)).1
  (List.range wd).map fun x => (census img x y, ((rows.getD 3 []).getD x (0, false)).2)

/-- Matching costs of row y: for each x, the cost at d from 0 to 191 (R163, R164). -/
def costRow (ref other : List (List Bool × Bool)) : List (List Nat) :=
  (List.range ref.length).map fun x => (List.range 192).map fun d =>
    if x < d then 48
    else
      let o := other.getD (x - d) ([], true)
      if o.2 then 48 else hamming (ref.getD x ([], false)).1 o.1

def minOf (l : List Nat) : Nat := match l with | [] => 0 | a :: t => t.foldl min a

/-- One step of a path from pixel q to the pixel with costs c (R165). -/
def pathStep (q c : List Nat) : List Nat :=
  let m := minOf q
  (List.range 192).map fun d =>
    let near := [q.getD d 0, m + 96] ++ (if 0 < d then [q.getD (d - 1) 0 + 8] else []) ++ (if d < 191 then [q.getD (d + 1) 0 + 8] else [])
    c.getD d 0 + minOf near - m

/-- The horizontal path over a row, from its first pixel on. -/
def pathRow : List (List Nat) → Option (List Nat) → List (List Nat)
  | [], _ => []
  | c :: t, q =>
    let l := match q with | some q => pathStep q c | none => c
    l :: pathRow t (some l)

/-- The vertical and diagonal paths at row y, from the costs of rows 0 to y, newest first (R165). -/
def pathDown : List (List (List Nat)) → List (List Nat) × List (List Nat)
  | [] => ([], [])
  | c :: above =>
    let (v, g) := pathDown above
    if above.isEmpty then (c, c)
    else (c.mapIdx fun x k => pathStep (v.getD x []) k, c.mapIdx fun x k => if x == 0 then k else pathStep (g.getD (x - 1) []) k)

/-- S(x, y, d) of row y, from the costs of rows 0 to y, newest first. -/
def aggregate (rows : List (List (List Nat))) : List (List Nat) :=
  let c := rows.headD []
  let lr := pathRow c none
  let rl := (pathRow c.reverse none).reverse
  let (v, g) := pathDown rows
  (List.range c.length).map fun x => (List.range 192).map fun d =>
    (lr.getD x []).getD d 0 + (rl.getD x []).getD d 0 + (v.getD x []).getD d 0 + (g.getD x []).getD d 0

/-- Index of the smallest entry, lowest on a tie. -/
def argmin (l : List Nat) : Nat := l.idxOf (minOf l)

/-- The disparity code (R166). -/
def codeOf (sx : List Nat) : Nat :=
  let d := argmin sx
  if d == 0 || d == 191 then 16 * d
  else
    let a : Int := sx.getD (d - 1) 0
    let b : Int := sx.getD d 0
    let c : Int := sx.getD (d + 1) 0
    let den := a + c - 2 * b
    let off := if den == 0 then 0 else clampI (-8) 8 (roundDiv (8 * (a - c)) den)
    (16 * (d : Int) + off).toNat

/-- The confidence (R167). -/
def confOf (sx : List Nat) : Nat :=
  let d := argmin sx
  let c1 := sx.getD d 0
  let c2 := minOf ((List.range 192).filterMap fun k => if k + 2 ≤ d || d + 2 ≤ k then some (sx.getD k 0) else none)
  min 255 (256 * (c2 - c1) / (c2 + 1))

/-- Code and confidence of pixel x of a row of sums; invalid is 0xFFF with 0 (R167). -/
def pixelCode (sums : List (List Nat)) (outside : Bool) (lrCheck : Bool) (lrTol : Nat) (x : Nat) : Nat × Nat :=
  let sx := sums.getD x []
  let d := argmin sx
  let code := codeOf sx
  let conf := confOf sx
  let other (x' : Nat) : Nat := argmin ((List.range (min 192 (sums.length - x'))).map fun d => (sums.getD (x' + d) []).getD d 0)
  let lr := !lrCheck || (d ≤ x && (16 * (other (x - d) : Int) - code).natAbs ≤ lrTol)
  if outside || !lr || conf < 16 then (0xFFF, 0) else (code, conf)

/-- The temporal filter against the code before (R168). -/
def temporal (w prev code : Nat) : Nat :=
  if code == 0xFFF || prev == 0xFFF || 32 < ((prev : Int) - code).natAbs then code
  else ((code : Int) + roundDiv (((prev : Int) - code) * w) 256).toNat

/-- The codes of the row in progress of pair frame q after the temporal filter, which needs the pair frame just before (R168). -/
def State.rowCodes (s : State) (unit : Nat) (q : W32) (row : List Nat) : List Nat :=
  let u := s.pairUnit unit
  let step := BitVec.ofNat 32 (Nat.lcm (s.camPort u.cfg.refPort).effDiv (s.camPort u.cfg.other).effDiv)
  match if u.cfg.temporal then u.prev else none with
  | some (pq, old) => if pq + step == q then row.mapIdx fun x c => temporal u.cfg.weight (sampleAt old x u.rows) c else row
  | none => row

/-- The output buffer of a port that carries frame SEQ. -/
def State.bufOf (s : State) (p : Nat) (seq : W32) : Option OutBuf := (s.ispPort p).bufs.find? (·.seq == seq)
def OutBuf.depthPlane (b : OutBuf) : Plane := if b.auxDiv == 0 then b.y else b.aux
def OutBuf.depthSize (b : OutBuf) : Nat × Nat := (b.width / max 1 b.auxDiv, b.height / max 1 b.auxDiv)
/-- Flags that shut a frame out of depth (R122): SHORT, TRUNCATED. -/
def OutBuf.flagged (b : OutBuf) : Bool := b.flags.getLsbD 0 || b.flags.getLsbD 2

/-- Row r of the disparity of unit u: code and confidence of each pixel. -/
def State.disparityRow (u : PairUnit) (a b : OutBuf) (r : Nat) : List (Nat × Nat) :=
  let (win, hin) := a.depthSize
  let refRow (y : Nat) := censusRow a.depthPlane u.maps.1 win hin y
  let rows := ((List.range (r + 1)).reverse).map fun y => costRow (refRow y) (censusRow b.depthPlane u.maps.2 win hin y)
  let sums := aggregate rows
  let out := refRow r
  (List.range (win / 2)).map fun x => pixelCode sums (out.getD x ([], false)).2 u.cfg.lrCheck u.cfg.lrTol x

/-! ### Pair frames (R159, R160, R170) -/

/-- Layers fed by a port. -/
def State.layersOf (s : State) (p : Nat) : List Nat := (List.range 4).filter fun l => (s.slicer l).enabled && (s.slicer l).cfg.port == p
/-- Every layer fed by the pair is flat by governor stage 3 (R184). -/
def State.allFlat (s : State) (p : Nat) : Bool := !(s.layersOf p).isEmpty && (s.layersOf p).all fun l => s.gov.flatLayers.getLsbD l

/-- Frame SEQ is newer than the last one taken. -/
def newer (last : Option W32) (q : W32) : Bool := match last with
  | some l => q != l && (q - l).toNat < 2 ^ 31
  | none => true
/-- SEQ of the newest pair frame that both ports have begun, after the last one that unit u took (R159). -/
def State.pairReady (s : State) (u : PairUnit) : Option W32 :=
  ((s.ispPort u.cfg.refPort).bufs.filter fun a => !a.flagged && newer u.lastSeq a.seq && (match s.bufOf u.cfg.other a.seq with
    | some b => !b.flagged && b.depthSize == a.depthSize
    | none => false)).head?.map (·.seq)

/-- The unit starts a pair frame; a waiting setting applies first (R160). -/
def execPairFrameStart (unit : Nat) (s : State) : Result :=
  let u := s.pairUnit unit
  done (if u.cur.isSome || !u.enabled || !s.domOn domDE || u.state == 4 then s
  else
    let s := match u.next with | some c => s.applyPair unit c | none => s
    let u := s.pairUnit unit
    if !u.enabled || u.state == 4 then s
    else if s.allFlat u.cfg.refPort then
      (s.modPair unit fun x => { x with state := 3, prev := none }).setUnit (unitPair unit) fun x => { x with state := 3, flowing := false }
    else match s.pairReady u with
      | none => s.modPair unit fun x => { x with state := 1 }
      | some q =>
        (s.modPair unit fun x => { x with
          state := 2, cur := some (q, s.time), rows := 0, codes := [], conf := [], lastSeq := some q, mapWaits := false,
          maps := (s.depth.warps.getD x.cfg.refPort none, s.depth.warps.getD x.cfg.other none) }).setUnit (unitPair unit) fun x =>
            { x with state := 4, flowing := true })

/-- After a pair frame a waiting setting or map applies (R160). -/
def State.pairSettled (unit : Nat) (s : State) : State :=
  let s := s.modPair unit fun x => { x with mapWaits := false }
  match (s.pairUnit unit).next with
  | some c => s.applyPair unit c
  | none => s

/-- A pair frame is given up: no disparity, and the slicer gives up its slices of it (R159). -/
def State.abandonPair (unit : Nat) (s : State) : State :=
  match (s.pairUnit unit).cur with
  | none => s
  | some (q, _) =>
    let p := (s.pairUnit unit).cfg.refPort
    let s := (s.modPair unit fun x => { x with cur := none, state := 1, codes := [], conf := [], rows := 0 }).setUnit (unitPair unit) fun x => { x with state := 3, flowing := false }
    ((s.layersOf p).foldl (fun t l => if (t.slicer l).cur == some q then t.modSlicer l fun x => { x with cur := none, stalled := false } else t) s).pairSettled unit

/-- A frame of a port turns out flagged: pair frames and slices that use it are given up (R159, R122). -/
def State.flagFrame (p : Nat) (seq : W32) (s : State) : State :=
  (s.pairsOf p).foldl (fun t u => if (t.pairUnit u).cur.map (·.1) == some seq then t.abandonPair u else t) s

/-! ### The slicer: colour and depth of a pixel (R171 to R175) -/

/-- What a frame of slices is made from. -/
structure SliceSrc where
  w : Nat
  h : Nat
  a : Nat
  map : Option (List (Int × Int))
  buf : OutBuf
  /-- disparity codes, filled (R172) -/
  codes : Plane
  pair : PairCfg
  cfg : SliceCfg
  flat : Bool

/-- Bilinear sample of a plane at an S15.16 position, U0.8 weights truncated, rounded (R171). -/
def bilinear (f : Nat → Nat → Nat) (w h : Nat) (px py : Int) : Nat :=
  let cx := (clampI 0 ((w : Int) * 65536 - 65536) px).toNat
  let cy := (clampI 0 ((h : Int) * 65536 - 65536) py).toNat
  let fx := cx / 256 % 256
  let fy := cy / 256 % 256
  let v (i j : Nat) := f (min (w - 1) (cx / 65536 + i)) (min (h - 1) (cy / 65536 + j))
  ((v 0 0 * (256 - fx) + v 1 0 * fx) * (256 - fy) + (v 0 1 * (256 - fx) + v 1 1 * fx) * fy + 32768) / 65536

def SliceSrc.scale (e : SliceSrc) : Nat := 2 * e.a
/-- Luma position of colour pixel (x, y), S15.16 (R171). -/
def SliceSrc.lumaPos (e : SliceSrc) (x y : Nat) : Int × Int :=
  let s := e.scale
  let (px, py) := warpAt e.map (e.w / s) (e.h / s) (2 * (x : Int) + 1 - s) (2 * (y : Int) + 1 - s) (2 * s)
  (e.a * px + e.a * 65536 - 32768, e.a * py + e.a * 65536 - 32768)
def SliceSrc.luma (e : SliceSrc) (x y : Nat) : Nat :=
  let (px, py) := e.lumaPos x y
  bilinear (sampleAt e.buf.y) e.w e.h px py
/-- R, G and B of colour pixel (x, y) (R171). -/
def SliceSrc.colour (e : SliceSrc) (x y : Nat) : Px :=
  let (px, py) := e.lumaPos x y
  let cx := px.fdiv 2 - 16384
  let cy := py.fdiv 2 - 16384
  let ch (k : Nat) := bilinear (fun i j => sampleAt e.buf.c (2 * i + k) j) (e.w / 2) (e.h / 2) cx cy
  yuvToPx e.buf.matrix e.buf.range (e.luma x y) (ch 0) (ch 1)

/-- Invalid codes filled from their own row (R172). -/
def fillRow (r : List Nat) : List Nat :=
  r.mapIdx fun i c =>
    if c != 0xFFF then c
    else match ((r.take i).filter (· != 0xFFF)).getLast?, ((r.drop i).filter (· != 0xFFF)).head? with
      | some a, some b => min a b
      | some a, none => a
      | none, some b => b
      | none, none => 0

/-- The upsampled code of colour pixel (x, y) (R173). -/
def SliceSrc.code (e : SliceSrc) (x y : Nat) : Nat :=
  let s := e.scale
  let wd := e.w / s
  let hd := e.h / s
  let un : Int := 2 * (x : Int) + 1 - s
  let vn : Int := 2 * (y : Int) + 1 - s
  let i := un.fdiv (2 * s)
  let j := vn.fdiv (2 * s)
  let fu := ((un - i * (2 * s)) * 256 / (2 * s)).toNat
  let fv := ((vn - j * (2 * s)) * 256 / (2 * s)).toNat
  let cl (n : Nat) (k : Int) : Nat := (clampI 0 ((n : Int) - 1) k).toNat
  let pos := [(cl wd i, cl hd j), (cl wd (i + 1), cl hd j), (cl wd i, cl hd (j + 1)), (cl wd (i + 1), cl hd (j + 1))]
  let code (p : Nat × Nat) := sampleAt e.codes p.1 p.2
  let yc : Int := e.luma x y
  let diff (p : Nat × Nat) : Nat := ((e.luma (s * p.1 + s / 2 - 1) (s * p.2 + s / 2 - 1) : Int) - yc).natAbs
  let c (k : Nat) := code (pos.getD k (0, 0))
  if pos.all fun p => diff p ≤ 64 then
    ((c 0 * (256 - fu) + c 1 * fu) * (256 - fv) + (c 2 * (256 - fu) + c 3 * fu) * fv + 32768) / 65536
  else c (argmin (pos.map diff))

/-- Metric depth in 1/16 cm (R174). -/
def metric (p : PairCfg) (code : Nat) : Nat := if code == 0 then 1048575 else min 1048575 (p.baselineUm * p.focalPx / (2560000 * code))

/-- Panel depth through the curve (R175). -/
def curveZ (c : List (Nat × Int)) (zq : Nat) : Int :=
  let pt (i : Nat) := c.getD i (0, 0)
  if zq < 16 * (pt 0).1 then (pt 0).2
  else match (List.range 32).find? fun i => 16 * (pt i).1 ≤ zq && zq < 16 * (pt (i + 1)).1 with
    | some i =>
      let (x0, z0) := (16 * (pt i).1, (pt i).2)
      let (x1, z1) := (16 * (pt (i + 1)).1, (pt (i + 1)).2)
      z0 + roundDiv ((z1 - z0) * ((zq : Int) - x0)) ((x1 : Int) - x0)
    | none => (pt 32).2

/-- Depths of the planes (R176). -/
def planeZs (c : SliceCfg) : List Int :=
  let zs := c.curve.map (·.2)
  let lo := zs.foldl min (zs.headD 0)
  let hi := zs.foldl max (zs.headD 0)
  (List.range c.slices).map fun k => if c.slices ≤ 1 then lo else lo + roundDiv (k * (hi - lo)) ((c.slices : Int) - 1)

def SliceSrc.zs (e : SliceSrc) : List Int := if e.flat then [0] else planeZs e.cfg

/-- Planes and alphas that a pixel is splatted to (R176, R184). -/
def SliceSrc.splat (e : SliceSrc) (x y : Nat) : List (Nat × Nat) :=
  if e.w ≤ x || e.h ≤ y then []
  else
    let zs := e.zs
    let n := zs.length
    if n ≤ 1 || zs.headD 0 == zs.getLastD 0 then [(0, 4095)]
    else
      let z := curveZ e.cfg.curve (metric e.pair (e.code x y))
      if zs.getD (n - 1) 0 ≤ z then [(n - 1, 4095)]
      else if z ≤ zs.getD 0 0 then [(0, 4095)]
      else
        let k := ((List.range n).filter fun k => zs.getD k 0 ≤ z).length - 1
        let a := (roundDiv (4095 * (z - zs.getD k 0)) (zs.getD (k + 1) 0 - zs.getD k 0)).toNat
        (k, 4095) :: (if 0 < a then [(k + 1, a)] else [])

/-- Alpha of plane k at a pixel after splatting. -/
def alphaIn (l : List (Nat × Nat)) (k : Nat) : Nat := ((l.filter fun p => p.1 == k).map (·.2)).foldl max 0

/-- Offsets of the 7 by 7 window in order of Chebyshev distance, then raster order (R177). -/
def dilateOrder : List (Int × Int) :=
  let cell (i : Nat) : Int × Int := ((i % 7 : Nat) - 3, (i / 7 : Nat) - 3)
  [1, 2, 3].flatMap fun d => ((List.range 49).map cell).filter fun p => max p.1.natAbs p.2.natAbs == d

/-- Texel (x, y) of plane k after dilation (R177). -/
def SliceSrc.texel (e : SliceSrc) (k x y : Nat) : Px :=
  let sp := e.splat x y
  let a := alphaIn sp k
  if e.w ≤ x || e.h ≤ y then {}
  else if 0 < a then { e.colour x y with a := a }
  else if !(sp.any fun p => k < p.1 && 0 < p.2) then {}
  else match dilateOrder.find? fun o => 0 ≤ (x : Int) + o.1 && 0 ≤ (y : Int) + o.2 && 0 < alphaIn (e.splat ((x : Int) + o.1).toNat ((y : Int) + o.2).toNat) k with
    | some o => { e.colour ((x : Int) + o.1).toNat ((y : Int) + o.2).toNat with a := 4095 }
    | none => {}

/-! ### Slice pools (R178 to R182) -/

/-- HALF, TX, TY and TILE_BASE of a pool (R179). -/
def halfBytes (c : SliceCfg) : Nat := c.bytes / 8192 * 4096
def halfTileBase (slices tx ty : Nat) : Nat := (64 + 4 * slices * tx * ty + 63) / 64 * 64
def SliceLayer.halfBase (l : SliceLayer) : Nat := l.cfg.pool + l.half * halfBytes l.cfg

/-- The half header (Table 7.5). -/
def sliceHeader (seq : W32) (done used : Nat) (e : SliceSrc) : Bytes :=
  let zs := e.zs
  le 4 seq.toNat ++ le 4 done ++ le 4 used ++ le 2 e.w ++ le 2 e.h ++ le 1 zs.length ++ le 1 (bitOf e.flat 0 + bitOf (e.buf.flags.getLsbD 1) 1)
    ++ le 2 ((e.w + 31) / 32) ++ le 2 ((e.h + 31) / 32) ++ [0, 0] ++ pad 32 (zs.flatMap fun z => le 2 (wrap 16 z)) ++ List.replicate 8 0

/-- Layer l is shown flat from its next frame (R184). -/
def State.slicesFlat (s : State) (l : Nat) : Bool :=
  let x := s.slicer l
  let unit := s.depth.units.find? fun u => u.enabled && u.cfg.refPort == x.cfg.port
  s.gov.flatLayers.getLsbD l || !s.domOn domDE || (s.unit domDE).faulted || (match unit with | some u => u.state == 4 | none => false)

/-- The unit that feeds a layer. -/
def State.feeder (s : State) (l : Nat) : Option Nat := (List.range 8).find? fun u => (s.pairUnit u).enabled && (s.pairUnit u).cfg.refPort == (s.slicer l).cfg.port

/-- What the slicer would take next for layer l: SEQ, flat, warp map, pair unit and its setting. -/
def State.sliceReady (s : State) (l : Nat) : Option (W32 × Bool × Option (List (Int × Int)) × Nat × PairCfg) :=
  let x := s.slicer l
  if s.slicesFlat l then
    ((s.ispPort x.cfg.port).bufs.find? (·.complete)).bind fun b =>
      let m := (s.depth.warps.getD x.cfg.port none).filter fun m => (warpBad m b.depthSize.1 b.depthSize.2).isNone
      if x.last == some b.seq then none else some (b.seq, true, m, 0, {})
  else (s.feeder l).bind fun i =>
    let u := s.pairUnit i
    match u.cur, u.done with
    | some (q, _), _ => if x.last == some q then none else some (q, false, u.maps.1, i, u.cfg)
    | none, some (q, _, _) => if x.last == some q || u.doneCfg.refPort != x.cfg.port then none else some (q, false, u.doneMap, i, u.doneCfg)
    | none, none => none

/-- Sources of the frame in progress of layer l, and how many disparity rows it has. -/
def State.sliceSrc (s : State) (l : Nat) (q : W32) : Option (SliceSrc × Nat) :=
  let x := s.slicer l
  (s.bufOf x.cfg.port q).bind fun b =>
    let src (p : PairCfg) (codes : Plane) : SliceSrc :=
      { w := b.width, h := b.height, a := max 1 b.auxDiv, map := x.map, buf := b, codes := codes.map fillRow, pair := p, cfg := x.cfg, flat := x.flat }
    if x.flat then (if b.complete then some (src {} [], b.height) else none)
    else
      let u := s.pairUnit x.unit
      if u.cur.map (·.1) == some q then some (src x.pair u.codes, u.rows)
      else match u.done with
        | some (d, codes, _) => if d == q then some (src x.pair codes, codes.length) else none
        | none => none

/-- The frame of layer l is given up; its half serves the next one (R180). -/
def State.abandonSlices (l : Nat) (s : State) : State := s.modSlicer l fun x => { x with cur := none, stalled := false }

/-- A commit that holds n more ranges exceeds the 512 (R204). -/
def State.holdsFull (s : State) (n : Nat) : Bool := 512 < s.leases.holds.length + s.leases.ending.length + n

/-- The slicer posts the layer's automatic commit; one not yet applied is overtaken and its half released at the fence. A commit
for which no range is left is not accepted: the layer keeps its slices (R204). -/
def State.postSlices (l : Nat) (q : W32) (s : State) : State :=
  if s.holdsFull 1 then s.abandonSlices l else
  let x := s.slicer l
  let c : SliceCommit := { base := x.halfBase, len := halfBytes x.cfg, seq := q }
  let s := s.modLeases fun h => match x.posted with
    | some o =>
      let old (y : Hold) : Bool := y.kind == 1 && y.no == l && y.base == o.base
      { h with holds := h.holds.filter fun y => !old y, ending := h.ending ++ h.holds.filter old }
    | none => h
  (s.modLeases fun h => { h with holds := h.holds ++ [{ kind := 1, no := l, base := c.base, len := c.len, layer := l }] }).modSlicer l fun x =>
    { x with posted := some c, cur := none, half := 1 - x.half, fullRun := false }

/-- Write the tile row of every plane: tiles with any texel of alpha > 0 after dilation, slots in ascending order (R180). -/
def State.writeTiles (l : Nat) (e : SliceSrc) (t : Nat) (s : State) : Option State :=
  let x := s.slicer l
  let tx := (e.w + 31) / 32
  let ty := (e.h + 31) / 32
  let base := x.halfBase
  let tb := halfTileBase e.zs.length tx ty
  let cap := (halfBytes x.cfg - tb) / 6144
  let cells := (List.range e.zs.length).flatMap fun k => (List.range tx).map fun i => (k, i)
  cells.foldl (fun o (k, i) => o.bind fun (s : State) =>
    let px := (List.range 1024).map fun n => e.texel k (32 * i + n % 32) (32 * t + n / 32)
    let slot := (s.slicer l).slots
    if !e.flat && px.all (·.a == 0) then some s
    else if cap ≤ slot then none
    else some (((s.devWrite (base + tb + 6144 * slot) (px.flatMap fun p => le 6 p.to48)).devWrite (base + 64 + 4 * (k * tx * ty + t * tx + i)) (le 4 slot)).modSlicer l
      fun x => { x with slots := slot + 1 })) (some s)

/-- A layer whose pair has faulted is flat by a fault (R184, R25). -/
def State.noteFlat (l : Nat) (s : State) : State :=
  match s.feeder l with
  | some u => s.when ((s.pairUnit u).state == 4) (·.detect 0x13 (unitPair u))
  | none => s

/-- Start a frame of layer l: the waiting setting applies, the header says it is being written, every map entry is empty. -/
def State.startSlices (l : Nat) (s : State) : State :=
  let s := match (s.slicer l).next with
    | some (some c) => (s.modSlicer l fun x => { x with enabled := true, cfg := c, next := none }).noteFlat l
    | some none => s.modSlicer l fun x => { x with enabled := false, next := none }
    | none => s
  if !(s.slicer l).enabled then s
  else match s.sliceReady l with
    | none => s
    | some (q, flat, m, u, c) => s.modSlicer l fun x => { x with cur := some q, last := some q, flat := flat, map := m, unit := u, pair := c, tileRow := 0, slots := 0, stalled := s.held x.halfBase (halfBytes x.cfg) }

/-! ### Disparity rows (R169, R170) -/

/-- Bytes of a disparity set: the u16 codes and, after them, the u8 confidences (R169). -/
def ringSet (wd hd : Nat) : Nat := hd * (line64 (2 * wd) + line64 wd)
/-- Row r of a unit's disparity goes to the set that its next complete pair frame takes in the ring (R169). -/
def State.ringWrite (unit r wd hd : Nat) (codes conf : List Nat) (s : State) : State :=
  match s.leases.regions.find? (·.id == ringIds + 16 + unit) with
  | none => s
  | some g =>
    let a := g.base + (s.pairUnit unit).frames.toNat % 3 * ringSet wd hd
    (s.devWrite (a + r * line64 (2 * wd)) (pad (line64 (2 * wd)) (codes.flatMap (le 2)))).devWrite (a + hd * line64 (2 * wd) + r * line64 wd) (pad (line64 wd) (conf.flatMap (le 1)))

/-- A pair frame is complete; a slicer that waits for its half takes the newer frame (R182). -/
def State.pairDone (unit : Nat) (q : W32) (s : State) : State :=
  let u := s.pairUnit unit
  let all := u.conf.flatMap fun r => r
  let s := (s.modPair unit fun x => { x with
    cur := none, state := 1, frames := x.frames + 1, meanConf := if all.isEmpty then 0 else all.sum / all.length,
    prev := some (q, x.codes), done := some (q, x.codes, x.conf), doneCfg := x.cfg, doneMap := x.maps.1 }).setUnit (unitPair unit) fun x => { x with state := 3, flowing := false }
  ((s.layersOf u.cfg.refPort).foldl (fun t l =>
    if (t.slicer l).stalled && !(t.slicer l).flat && (t.slicer l).cur != some q then (t.abandonSlices l).startSlices l else t) s).pairSettled unit

/-- A burst of a depth input could not be corrected (R185, R348). -/
def State.depthRead (err : Option Nat) (s : State) : State := match err with
  | some a => s.when (s.inDram a) fun s => let (n, l) := s.dramPlace a
      s.eccPoison n l
  | none => s

/-- The unit emits its next disparity row, once the input rows it needs are complete in both buffers (R170). `err` is the address
of an uncorrectable burst that the row uses: its pixels are invalid (R185). -/
def execDisparityRowEmit (unit : Nat) (err : Option Nat) (s : State) : Result :=
  let u := s.pairUnit unit
  done (match u.cur with
    | none => s
    | some (q, _) => match s.bufOf u.cfg.refPort q, s.bufOf u.cfg.other q with
      | some a, some b =>
        let (win, hin) := a.depthSize
        let need := min (2 * u.rows + 40) (hin - 1)
        if a.flagged || b.flagged then s.abandonPair unit
        else if a.depthPlane.length ≤ need || b.depthPlane.length ≤ need then s
        else
          let s := s.depthRead err
          let row := if err.isSome then List.replicate (win / 2) (0xFFF, 0) else State.disparityRow u a b u.rows
          let codes := s.rowCodes unit q (row.map (·.1))
          let s := s.ringWrite unit u.rows (win / 2) (hin / 2) codes (row.map (·.2))
          let s := s.modPair unit fun x => { x with codes := x.codes ++ [codes], conf := x.conf ++ [row.map (·.2)], rows := x.rows + 1 }
          if u.rows + 1 == hin / 2 then s.pairDone unit q else s
      | _, _ => s.abandonPair unit)

/-- The slicer works on the next tile row of layer l (R180 to R182). -/
def execSlicerTileRow (layer : Nat) (s : State) : Result :=
  done (if !s.domOn domSL then s
  else
    let s := if (s.slicer layer).cur.isNone then s.startSlices layer else s
    let s := s.when (s.held (s.slicer layer).halfBase (halfBytes (s.slicer layer).cfg)) (·.modSlicer layer fun y => { y with stalled := y.cur.isSome })
    let x := s.slicer layer
    if x.stalled then s
    else match x.cur with
      | none => s
      | some q => match s.sliceSrc layer q with
        | none => s.abandonSlices layer
        | some (e, rows) =>
          let hd := e.h / e.scale
          if rows ≤ min ((32 * x.tileRow + 34) / e.scale + 1) (hd - 1) then s
          else
            let tx := (e.w + 31) / 32
            let ty := (e.h + 31) / 32
            let s := if x.tileRow != 0 then s
              else (s.devWrite x.halfBase (sliceHeader q 0xFFFFFFFF 0 e)).devWrite (x.halfBase + 64) (List.replicate (4 * e.zs.length * tx * ty) 0xFF)
            match s.writeTiles layer e x.tileRow with
            | none =>
              let first := !x.fullRun
              let s := (s.abandonSlices layer).modSlicer layer fun y => { y with fullRun := true }
              if first then s.post 0x680 2 (le 1 ((s.feeder layer).getD 0) ++ le 1 4) else s
            | some s =>
              if x.tileRow + 1 < ty then s.modSlicer layer fun y => { y with tileRow := y.tileRow + 1 }
              else (s.devWrite x.halfBase (sliceHeader q q.toNat (s.slicer layer).slots e)).postSlices layer q)

/-- The half that the slicer waits for is released (R182). -/
def execSlicerHalfRelease (layer : Nat) (s : State) : Result :=
  let x := s.slicer layer
  done (s.when (x.stalled && !s.held x.halfBase (halfBytes x.cfg)) (·.modSlicer layer fun y => { y with stalled := false }))

/-- The first REASON of R178 that holds. -/
def State.sliceBad (s : State) (l : Nat) (c : SliceCfg) : Option (Nat × Nat) :=
  let cam := (s.camPort c.port).cfg
  let tx := (cam.width + 31) / 32
  let ty := (cam.height + 31) / 32
  let pt (i : Nat) := c.curve.getD i (0, 0)
  match (List.range 32).find? fun i => (pt (i + 1)).1 ≤ (pt i).1 with
  | some i => some (20 + 4 * i, 1)
  | none => match (List.range 33).find? fun i => (pt i).2 < -16384 || 16384 < (pt i).2 with
    | some i => some (18 + 4 * i, 2)
    | none =>
      if !(s.depth.units.any fun u => u.enabled && u.cfg.refPort == c.port) then some (1, 3)
      else if !s.inRegion c.pool c.bytes (some 2) then some (4, 4)
      else if halfBytes c < halfTileBase c.slices tx ty + 6144 * tx * ty then some (12, 5)
      else if (List.range 4).any fun k => k != l && (s.slicer k).enabled && (s.slicer k).cfg.port == c.port then some (1, 6)
      else none

/-- DEPTH.SLICE_SET (R178). -/
def execDepthSliceSet (m : Master) (s : State) : Result :=
  let cfg (c : Ctx) : SliceCfg := { port := c.u8 1, slices := c.u8 2, pool := c.a40 4, bytes := c.u32 12,
                                    curve := (List.range 33).map fun i => (c.u16 (16 + 4 * i), c.s16 (18 + 4 * i)) }
  done (runCmd { code := 0x0603, cls := 1, len := 148,
                 args := [{ off := 0, hi := 3 }, { off := 1, hi := 15 }, { off := 2, lo := 1, hi := 16 }, { off := 3, mask := 1 }, { off := 4, n := 5 }, { off := 12, n := 4 }, { off := 16, n := 132 }] }
    (absentIn 1 64 15 State.hasPort)
    (fun c s => s.sliceBad (c.u8 0) (cfg c))
    (fun c s =>
      let l := c.u8 0
      let on := bit (c.u8 3) 0
      let new := cfg c
      if s.commitTouched new.pool new.bytes then (s, .fail stLeaseHeld)
      else if (s.slicer l).cur.isSome then (s.modSlicer l fun x => { x with next := some (if on then some new else none) }, .ok [])
      else if on then ((s.modSlicer l fun x => { x with enabled := true, cfg := new, next := none, half := 0 }).noteFlat l, .ok [])
      else (s.modSlicer l fun x => { x with enabled := false, next := none }, .ok [])) m s)

end Sys2Proof.Machine
end

