-- ==== Sys2Proof/Machine/Isp.lean ====
section
/-! DEFINITION. Image pipelines: in-line and memory-fed processing, slot masks, contexts, stages, output buffers, raw taps,
statistics and exposure control (spec/06). -/

namespace Sys2Proof.Machine

/-- The in-line port of a pipeline (R126). -/
def State.inlinePort (s : State) (i : Nat) : Nat := 4 * i + (s.pipe i).inline
/-- The pipeline that processes a memory-fed frame that is ready: the one of its frame start (R126), the one that took the port
over where that one has faulted (R156), none where the masks have dropped the port (R133). -/
def State.rawPipe (s : State) (p : Nat) (r : RawFrame) : Option Nat :=
  match r.fed, s.maskPipe p with
  | some i, some k => some (if (s.pipe i).faulted then k else i)
  | _, _ => none
/-- The effective frame period of a port in ns. -/
def State.portPeriod (s : State) (p : Nat) : Nat := s.framePeriod0 * (s.camPort p).effDiv
/-- A YUV422 data type (Table 5.3). -/
def isYuv (dt : Nat) : Bool := dt == 0x1E || dt == 0x1F

/-! ### Contexts (R134 to R137) -/

def ctxU8 (c : Bytes) (o : Nat) : Nat := byteAt c o
def ctxOn (c : Bytes) (stage : Nat) : Bool := bit (byteAt c 5) stage
/-- Colour of the pixel at (x, y): 0 R, 1 G on R rows, 2 G on B rows, 3 B. -/
def cfaKind (c : Bytes) (x y : Nat) : Nat := (x % 2 + 2 * (y % 2)) ^^^ (byteAt c 4 % 4)
def cfaPos (x y : Nat) : Nat := x % 2 + 2 * (y % 2)

/-- The byte ranges of Table 6.2 that must be 0. -/
def ctxReserved : List (Nat × Nat) := [(53, 11), (578, 62), (5656, 8)]
/-- The context block is refused (R135). -/
def ctxBad (b : Bytes) : Bool :=
  b.length != 9760 || u16At b 0 != 1 || ctxReserved.any (fun r => !(slice b r.1 r.2).all (· == 0)) || 1024 < u16At b 26
    || !([0, 1, 2, 4].contains (byteAt b 52)) || (List.range 257).any fun i => 4095 < u16At b (64 + 2 * i)

/-- A block for a port: the shadow set, and a commit that carries it (R135, R136). -/
def State.setContext (p : Nat) (b : Bytes) (commit : Bool) (s : State) : State :=
  s.modIspPort p fun x => { x with shadow := b, committed := if commit then some b else x.committed, gen := if commit then x.gen + 1 else x.gen }

/-- Processing of the port's next frame starts: a committed set becomes the active one (R136). -/
def State.applyContext (p : Nat) (seq : W32) (s : State) : State :=
  let s := s.modIspPort p fun x => { x with lastStarted := some seq }
  match (s.ispPort p).committed with
  | none => s
  | some c =>
    let old := s.auxDiv p
    let s := s.modIspPort p fun x => { x with active := c, committed := none }
    if s.auxDiv p != old then s.recheckPairs p else s

/-- ISP.CONTEXT_SET (R135, R136). -/
def execIspContextSet (m : Master) (s : State) : Result :=
  done (runCmd { code := 0x0501, cls := 1, bulk := some 0, len := 18, args := [{ off := 16, hi := 15 }, { off := 17, mask := 1 }] } (absentIn 16 64 15 State.hasPort)
    (fun c _ => if c.u32 8 != 9760 then some (8, 0) else none)
    (fun c s =>
      let b := c.bulkBytes s
      let p := c.u8 16
      if ctxBad b then (s, .badArg 0xFF)
      else
        let commit := c.u8 17 == 1
        let next := match (s.ispPort p).lastStarted with | some q => q + 1 | none => 0
        (s.setContext p b commit, .ok (le 4 (if commit then next.toNat else 0)))) m s)

/-! ### Stages (R138 to R140, Table 6.3) -/

def lim12 (v : Int) : Nat := (clampI 0 4095 v).toNat

/-- What a frame is processed with: context, size, data type, its received lines padded to the frame's height. -/
structure IspEnv where
  c : Bytes
  w : Nat
  h : Nat
  yuv : Bool
  rows : Plane

/-- Received lines with the last one repeated (R142). -/
def IspEnv.of (c : Bytes) (w h dt : Nat) (rows : Plane) : IspEnv :=
  { c := c, w := w, h := h, yuv := isYuv dt, rows := rows ++ List.replicate (h - rows.length) (rows.getLastD []) }

def IspEnv.at_ (e : IspEnv) (f : Nat → Nat → Nat) (x y : Int) : Nat := f (mirror e.w x) (mirror e.h y)

/-- Stage 1: the unpacked CFA sample. -/
def IspEnv.s1 (e : IspEnv) (x y : Nat) : Nat := sampleAt e.rows x y
/-- Stage 2: black level. -/
def IspEnv.s2 (e : IspEnv) (x y : Nat) : Nat :=
  let v := e.s1 x y
  if !ctxOn e.c 0 then v else lim12 (roundNat ((v - u16At e.c (8 + 2 * cfaPos x y)) * u16At e.c (16 + 2 * cfaPos x y)) 16384)
def placeNat (v : Nat) : List Nat → List Nat
  | [] => [v]
  | a :: t => if v ≤ a then v :: a :: t else a :: placeNat v t
def sortNat (l : List Nat) : List Nat := l.foldr placeNat []
/-- Stage 3: defect correction. -/
def IspEnv.s3 (e : IspEnv) (x y : Nat) : Nat :=
  let v := e.s2 x y
  if !ctxOn e.c 1 then v
  else
    let n := ([(-2, -2), (0, -2), (2, -2), (-2, 0), (2, 0), (-2, 2), (0, 2), (2, 2)] : List (Int × Int)).map fun d => e.at_ e.s2 (x + d.1) (y + d.2)
    let o := sortNat n
    let m := (o.getD 3 0 + o.getD 4 0 + 1) / 2
    let t := u16At e.c 24
    let listed := (List.range (min 1024 (u16At e.c 26))).any fun i => u16At e.c (5664 + 4 * i) == x && u16At e.c (5666 + 4 * i) == y
    if listed || (t != 0 && (o.getD 7 0 + t < v || v + t < o.getD 0 0)) then m else v
/-- Lens-shading gain at (x, y), times 2^32. -/
def IspEnv.gain (e : IspEnv) (x y : Nat) : Nat :=
  let pos (v n d : Nat) : Nat := v * n * 65536 / (d - 1)
  let gx := pos x 32 e.w
  let gy := pos y 18 e.h
  let node (i j : Nat) := u16At e.c (640 + 2 * ((min 18 (gy / 65536 + j) * 33 + min 32 (gx / 65536 + i)) * 4 + cfaPos x y))
  let wx := gx % 65536
  let wy := gy % 65536
  (node 0 0 * (65536 - wx) + node 1 0 * wx) * (65536 - wy) + (node 0 1 * (65536 - wx) + node 1 1 * wx) * wy
/-- Stage 4: lens shading. -/
def IspEnv.s4 (e : IspEnv) (x y : Nat) : Nat := if !ctxOn e.c 2 then e.s3 x y else lim12 (roundNat (e.s3 x y * e.gain x y) (4096 * 2 ^ 32))

/-- Stage 5: demosaic (R139). -/
def IspEnv.s5 (e : IspEnv) (x y : Nat) : Nat × Nat × Nat :=
  let f (dx dy : Int) : Int := e.at_ e.s4 (x + dx) (y + dy)
  let c := f 0 0
  let n := f 0 (-1)
  let s := f 0 1
  let ea := f 1 0
  let w := f (-1) 0
  let n2 := f 0 (-2)
  let s2 := f 0 2
  let e2 := f 2 0
  let w2 := f (-2) 0
  let d := f (-1) (-1) + f 1 (-1) + f (-1) 1 + f 1 1
  let out (v : Int) : Nat := lim12 (roundDiv v 16)
  let green := out (8 * c + 4 * (n + s + ea + w) - 2 * (n2 + s2 + e2 + w2))
  let row := out (10 * c + 8 * (ea + w) - 2 * (e2 + w2) - 2 * d + (n2 + s2))
  let col := out (10 * c + 8 * (n + s) - 2 * (n2 + s2) - 2 * d + (e2 + w2))
  let diag := out (12 * c + 4 * d - 3 * (n2 + s2 + e2 + w2))
  match cfaKind e.c x y with
  | 0 => (c.toNat, green, diag)
  | 1 => (row, c.toNat, col)
  | 2 => (col, c.toNat, row)
  | _ => (diag, green, c.toNat)

/-- Stage 6: colour matrix. -/
def IspEnv.s6 (e : IspEnv) (x y : Nat) : Nat × Nat × Nat :=
  let (r, g, b) := e.s5 x y
  if !ctxOn e.c 3 then (r, g, b)
  else
    let o (i : Nat) : Nat := lim12 (roundDiv (s16At e.c (28 + 6 * i) * r + s16At e.c (30 + 6 * i) * g + s16At e.c (32 + 6 * i) * b) 4096)
    (o 0, o 1, o 2)

/-- Stage 7: tone curve. -/
def toneCurveAt (c : Bytes) (v : Nat) : Nat :=
  let p (i : Nat) : Int := u16At c (64 + 2 * i)
  lim12 (p (v / 16) + roundDiv ((p (v / 16 + 1) - p (v / 16)) * (v % 16 : Nat)) 16)
def IspEnv.s7 (e : IspEnv) (x y : Nat) : Nat × Nat × Nat :=
  let (r, g, b) := e.s6 x y
  if !ctxOn e.c 4 then (r, g, b) else (toneCurveAt e.c r, toneCurveAt e.c g, toneCurveAt e.c b)

/-- Stage 8 on one channel: the mean of the samples within NR_SIGMA of the centre. -/
def IspEnv.denoise (e : IspEnv) (f : Nat → Nat → Nat) (x y : Nat) : Nat :=
  let c := f x y
  if !ctxOn e.c 5 then c
  else
    let near := ((List.range 25).map fun (i : Nat) => e.at_ f (x + (i % 5 : Nat) - 2) (y + (i / 5 : Nat) - 2)).filter fun (v : Nat) => ((v : Int) - c).natAbs ≤ u16At e.c 46
    roundNat near.sum near.length

/-- Luma coefficients of R, G and B in S1.14 (BT.709, BT.2020). -/
def lumaCoef (matrix : Nat) : Nat × Nat × Nat := if matrix == 0 then (3483, 11718, 1183) else (4304, 11108, 972)
def lumaOf (matrix : Nat) (p : Nat × Nat × Nat) : Nat :=
  let (r, g, b) := lumaCoef matrix
  min 4095 (roundNat (r * p.1 + g * p.2.1 + b * p.2.2) 16384)

/-- What stage 9 adds to a sample, from the luma image (R138). -/
def IspEnv.sharpen (e : IspEnv) (luma : Nat → Nat → Nat) (x y : Nat) : Int :=
  if !ctxOn e.c 6 then 0
  else
    let m : Int := roundNat (((List.range 9).map fun i => e.at_ luma (x + (i % 3 : Nat) - 1) (y + (i / 3 : Nat) - 1)).sum) 9
    let d : Int := (luma x y : Int) - m
    let core : Int := u16At e.c 50
    let d := if (d.natAbs : Int) ≤ core then 0 else d - d.sign * core
    roundDiv (d * u16At e.c 48) 4096

def IspEnv.s8 (e : IspEnv) (x y : Nat) : Nat × Nat × Nat :=
  (e.denoise (fun x y => (e.s7 x y).1) x y, e.denoise (fun x y => (e.s7 x y).2.1) x y, e.denoise (fun x y => (e.s7 x y).2.2) x y)
def IspEnv.s9 (e : IspEnv) (x y : Nat) : Nat × Nat × Nat :=
  let (r, g, b) := e.s8 x y
  let d := e.sharpen (fun x y => lumaOf (byteAt e.c 6) (e.s8 x y)) x y
  (lim12 (r + d), lim12 (g + d), lim12 (b + d))

/-- Conversion coefficients of stage 10 in S1.14: rows Y, Cb, Cr over R, G, B. -/
def convCoef (matrix range : Nat) : List Int :=
  match matrix, range with
  | 0, 0 => [2981, 10027, 1012, -1643, -5527, 7170, 7170, -6512, -657]
  | 0, _ => [3483, 11718, 1183, -1877, -6315, 8192, 8192, -7441, -751]
  | _, 0 => [3683, 9505, 831, -2002, -5168, 7170, 7170, -6593, -577]
  | _, _ => [4304, 11108, 972, -2288, -5904, 8192, 8192, -7533, -659]

/-- Stage 10 of one pixel: Y, Cb, Cr before the chroma is averaged. -/
def IspEnv.s10 (e : IspEnv) (x y : Nat) : Nat × Nat × Nat :=
  let (r, g, b) := e.s9 x y
  let k := convCoef (byteAt e.c 6) (byteAt e.c 7)
  let o (i : Nat) (off : Int) : Int := roundDiv (k.getD (3 * i) 0 * r + k.getD (3 * i + 1) 0 * g + k.getD (3 * i + 2) 0 * b) 16384 + off
  let narrow := byteAt e.c 7 == 0
  (lim12 (o 0 (if narrow then 256 else 0)), lim12 (o 1 2048), lim12 (o 2 2048))

/-- YUV422 input (R140): samples of a line are Cb, Y, Cr, Y. -/
def IspEnv.yIn (e : IspEnv) (x y : Nat) : Nat := sampleAt e.rows (2 * x + 1) y
def IspEnv.cIn (e : IspEnv) (k x y : Nat) : Nat := sampleAt e.rows (4 * x + 2 * k) y
def IspEnv.yYuv (e : IspEnv) (x y : Nat) : Nat := lim12 (e.denoise e.yIn x y + e.sharpen (e.denoise e.yIn) x y)

/-- Output luma (R138, R140). -/
def IspEnv.luma (e : IspEnv) (x y : Nat) : Nat := if e.yuv then e.yYuv x y else (e.s10 x y).1
/-- Output chroma sample k (0 Cb, 1 Cr) of chroma position (x, y). -/
def IspEnv.chroma (e : IspEnv) (k x y : Nat) : Nat :=
  if e.yuv then (e.cIn k x (2 * y) + e.cIn k x (min (2 * y + 1) (e.h - 1)) + 1) / 2
  else
    let f (dx dy : Nat) : Nat := let p := e.s10 (min (2 * x + dx) (e.w - 1)) (min (2 * y + dy) (e.h - 1))
      if k == 0 then p.2.1 else p.2.2
    (f 0 0 + f 1 0 + f 0 1 + f 1 1 + 2) / 4

def IspEnv.lumaRow (e : IspEnv) (y : Nat) : List Nat := (List.range e.w).map fun x => e.luma x y
def IspEnv.chromaRow (e : IspEnv) (y : Nat) : List Nat := (List.range (e.w / 2)).flatMap fun x => [e.chroma 0 x y, e.chroma 1 x y]
/-- A row of the auxiliary plane from luma rows (stage 11). -/
def auxRow (a : Nat) (rows : Plane) (w : Nat) : List Nat :=
  (List.range (w / a)).map fun x => roundNat (((List.range a).flatMap fun j => (List.range a).map fun i => sampleAt rows (a * x + i) j).sum) (a * a)

/-- Append output row y to a buffer: luma, the chroma row of rows 2m and 2m + 1, the auxiliary row (R127, R143). -/
def OutBuf.addRow (e : IspEnv) (y : Nat) (b : OutBuf) : OutBuf :=
  let r := e.lumaRow y
  let b := { b with y := b.y ++ [r] }
  let b := if y % 2 == 1 then { b with c := b.c ++ [e.chromaRow (y / 2)] } else b
  if b.auxDiv == 0 || (y + 1) % b.auxDiv != 0 then b else { b with aux := b.aux ++ [auxRow b.auxDiv (b.y.drop (y + 1 - b.auxDiv)) e.w] }

/-! ### Processing (R126 to R130, R141, R142) -/

/-- The buffer of a port that carries a frame, changed. -/
def State.modBuf (p : Nat) (seq : W32) (f : OutBuf → OutBuf) (s : State) : State :=
  s.modIspPort p fun x => { x with bufs := x.bufs.map fun b => if b.seq == seq then f b else b }

/-- A consumer works on the output buffer of a port that carries frame SEQ: a pair frame, or the slicer. -/
def State.inUse (s : State) (p : Nat) (seq : W32) : Bool :=
  ((s.pairsOf p).any fun u => (s.pairUnit u).cur.map (·.1) == some seq) || (s.layersOf p).any fun l => (s.slicer l).cur == some seq
/-- The output buffers that stay when a new frame of a port takes one: the newest complete one and those in use; none when no
buffer of the three is free (R141). -/
def State.keptBufs (s : State) (p : Nat) : Option (List OutBuf) :=
  let l := (s.ispPort p).bufs
  if l.length < 3 then some l
  else
    let newest := (l.find? (·.complete)).map (·.seq)
    (l.reverse.find? fun b => some b.seq != newest && !s.inUse p b.seq).map fun d => l.filter (·.seq != d.seq)

/-- EV_ISP_SLOT_MISSED (R128, R141). -/
def State.slotMissed (i p : Nat) (s : State) : State :=
  (s.perFrame 0x580 p (le 1 i ++ le 1 p ++ [0, 0] ++ le 4 s.isp.epoch.toNat)).modIspPort p fun x => { x with missed := x.missed + 1 }

/-- Bytes of one line of n samples. -/
def packedLine (n : Nat) : Nat := ((12 * n + 7) / 8 + 63) / 64 * 64
/-- Bytes of a tap slot (R144). -/
def tapSlot (point w h dt : Nat) : Nat :=
  let data := if point == 4 then h * packedLine w + h / 2 * packedLine w
    else if isYuv dt then h * packedLine (2 * w)
    else if point ≤ 1 then h * packedLine w else h * packedLine (3 * w)
  (64 + data + 4095) / 4096 * 4096
/-- Address and bytes of the slot that a frame of w by h takes in a tap's ring. -/
def Tap.slot (t : Tap) (w h dt : Nat) : Nat × Nat :=
  let n := tapSlot t.point w h dt
  (t.base + t.next % max 1 (t.len / n) * n, n)

/-- A frame's processing starts: a tap setting that waits takes over; a tap of the port takes its next slot, whose DONE says that
it is being written (R144, R145). -/
def State.openTap (i p w h dt : Nat) (s : State) : State × Option Tap :=
  let s := s.modPipe i fun y => match y.tapNext with | some t => { y with tap := t, tapNext := none } | none => y
  match (s.pipe i).tap.filter (·.port == p) with
  | none => (s, none)
  | some t =>
    let (a, n) := t.slot w h dt
    ((s.modPipe i fun y => { y with tap := some { t with next := (t.next + 1) % max 1 (t.len / n) } }).devWrite (a + 60) (le 4 0xFFFFFFFF), some t)

/-- Start processing a frame in pipeline i (R136, R144), with the flags it has so far; without a free output buffer it is not
processed (R141). -/
def State.startProc (i : Nat) (p : Nat) (inl : Bool) (seq : W32) (start w h dt : Nat) (raw : Option RawFrame) (s : State) : State :=
  match s.keptBufs p with
  | none => (s.slotMissed i p).modIspPort p fun x => { x with skip := some seq }
  | some kept =>
    let s := s.applyContext p seq
    let x := s.ispPort p
    let s := s.modIspPort p fun x => { x with bufs :=
      { seq := seq, flags := raw.elim 0 (·.flags), width := w, height := h, time := start, matrix := byteAt x.active 6, range := byteAt x.active 7, auxDiv := byteAt x.active 52 } :: kept }
    let (s, tap) := s.openTap i p w h dt
    let f : ProcFrame := { pipe := i, port := p, inline := inl, seq := seq, ctx := x.active, gen := x.gen, raw := raw, w := w, h := h, dt := dt, tap := tap }
    s.modPipe i fun y => if inl then { y with cur := some f } else { y with mem := some f }

/-- The lines of a frame in processing that have arrived, and whether it has ended. -/
def State.procRows (s : State) (f : ProcFrame) : Plane × Bool :=
  match f.raw with
  | some r => (r.rows, true)
  | none => match (s.camFlow f.port).frame with
    | some c => if c.seq == f.seq then (c.rows, c.rows.length == f.h) else ([], true)
    | none => ([], true)

/-- The in-line pipeline processes its next line: output row y once input row y + 8, or the whole frame, has arrived (R127).
The frame's processing starts with its first line. -/
def execInlineLineProcess (pipe : Nat) (s : State) : Result :=
  done (s.when (s.domOn (domIP pipe) && s.hasPipe pipe && !(s.pipe pipe).faulted) fun s =>
    let s := match (s.pipe pipe).cur with
      | some _ => s
      | none =>
        match ((List.range 16).findSome? fun p => ((s.camFlow p).raw.filter fun r => r.inline == some pipe)) with
        | some r => (s.modFlow r.port fun x => { x with raw := none }).startProc pipe r.port true r.seq r.start r.w r.h r.dt (some r)
        | none => match (List.range 16).findSome? fun p => ((s.camFlow p).frame.filter fun c => c.inline == some pipe && !c.rows.isEmpty && (s.ispPort p).lastStarted != some c.seq && (s.ispPort p).skip != some c.seq).map fun c => (p, c) with
          | some (p, c) => s.startProc pipe p true c.seq c.start c.w c.h c.dt none
          | none => s
    match (s.pipe pipe).cur with
    | none => s
    | some f =>
      let (rows, all) := s.procRows f
      if f.h ≤ f.done || rows.isEmpty || !(all || f.done + 8 < rows.length) then s
      else
        let e := IspEnv.of f.ctx f.w f.h f.dt rows
        (s.modBuf f.port f.seq fun b => b.addRow e f.done).modPipe pipe fun y => { y with cur := some { f with done := f.done + 1 } })

/-- A memory-fed raw frame is ready (R126, R133); an older one of the port that has not started is missed (R128). -/
def State.rawReady (p : Nat) (s : State) : State :=
  match (s.camFlow p).raw, (s.camFlow p).raw.bind (s.rawPipe p) with
  | some r, some i =>
    if r.inline.isSome then s
    else
      let s := s.modFlow p fun x => { x with raw := none }
      let s := if (s.ispPort p).ready.isSome then s.slotMissed i p else s
      (s.modIspPort p fun x => { x with ready := some r }).modPipe i fun y => { y with order := y.order.filter (· != p) ++ [p] }
  | some r, none => if r.inline.isSome then s else s.modFlow p fun x => { x with raw := none }
  | none, _ => s

def execRawFrameReady (port : Nat) (s : State) : Result := done (s.rawReady port)

/-- The pipeline loads a context and starts the next ready memory-fed frame (R129). -/
def execMemfedFrameStart (pipe : Nat) (s : State) : Result :=
  done (s.when (s.domOn (domIP pipe) && s.hasPipe pipe && !(s.pipe pipe).faulted && (s.pipe pipe).mem.isNone) fun s =>
    match (s.pipe pipe).order with
    | [] => s
    | p :: rest => match (s.ispPort p).ready with
      | none => s.modPipe pipe fun y => { y with order := rest }
      | some r =>
        let s := (s.modPipe pipe fun y => { y with order := rest }).modIspPort p fun x => { x with ready := none }
        let s := s.startProc pipe p false r.seq r.start r.w r.h r.dt (some r)
        let e := IspEnv.of (s.ispPort p).active r.w r.h r.dt r.rows
        let s := if r.rows.isEmpty then s else s.modBuf p r.seq fun b => (List.range r.h).foldl (fun b y => b.addRow e y) b
        s.modPipe pipe fun y => { y with mem := y.mem.map fun f => { f with done := f.h } })

/-! ### Raw taps (R144 to R146) -/

/-- A line of samples packed and padded as R141 says. -/
def packLine (l : List Nat) : Bytes := let b := pack12 l
  pad ((b.length + 63) / 64 * 64) b

/-- The data of a tap (Table 6.4). -/
def tapData (point : Nat) (e : IspEnv) (b : OutBuf) : Bytes :=
  let rgb (f : Nat → Nat → Nat × Nat × Nat) : Bytes := (List.range e.h).flatMap fun y => packLine ((List.range e.w).flatMap fun x => let p := f x y
    [p.1, p.2.1, p.2.2])
  let cfa (f : Nat → Nat → Nat) : Bytes := (List.range e.h).flatMap fun y => packLine ((List.range e.w).map fun x => f x y)
  if point == 4 then b.y.flatMap packLine ++ b.c.flatMap packLine
  else if e.yuv then e.rows.flatMap packLine
  else match point with
    | 0 => cfa e.s1
    | 1 => cfa e.s3
    | 2 => rgb e.s5
    | _ => rgb e.s7

/-- FRAME_FLAGS of a frame of a port: SHORT, LONG, TRUNCATED and, when its lines were padded, PADDED (Table 6.5). -/
def RawFrame.frameFlags (r : RawFrame) : W8 := (r.flags &&& 7) ||| (if r.pad && r.rows.length < r.h then 0x80 else 0)

/-- The header of a tap slot (R145). -/
def tapHeader (r : RawFrame) (label : Nat × W8) (point gen done : Nat) : Bytes :=
  le 4 r.seq.toNat ++ le 1 label.1 ++ [label.2] ++ le 2 r.lines ++ le 1 point ++ le 1 r.port ++ le 2 gen ++ le 2 r.w ++ le 2 r.h ++ le 8 r.start
    ++ List.replicate 36 0 ++ le 4 done

/-! ### Settings IDs (R150 to R152) -/

/-- The newest message completed before tick j - L + 1 (R151). A free-running port takes the newest one. -/
def State.expectedId (s : State) (p : Nat) (seq : W32) : Nat :=
  let c := s.camPort p
  let ids := (s.ispPort p).ids
  let hit := if c.cfg.fsyncEn then ids.find? fun i => (seq - BitVec.ofNat 32 c.latency - i.tick).toNat < 2 ^ 31 else ids.head?
  match hit with | some i => i.id | none => 0

/-- Head profile slot (R115). -/
def State.profile (s : State) (slot : Nat) : Option Bytes := s.recPayload (0x20 + slot)
/-- Field of the profile that a port's head matched. -/
def State.profileOf (s : State) (p : Nat) : Option Bytes := (s.camPort p).profile.bind s.profile

/-- SETTINGS_ID of a frame with ID_INFERRED and ID_UNKNOWN (R152). -/
def State.labelOf (s : State) (r : RawFrame) : Nat × Bool × Bool :=
  let off := (s.profileOf r.port).map fun b => u16At b 28
  let (id, inferred) := match r.embedded, off with
    | some e, some o => if o < e.length then (byteAt e o, false) else (s.expectedId r.port r.seq, true)
    | _, _ => (s.expectedId r.port r.seq, true)
  (id, inferred, id == 0 || !(s.ispPort r.port).ids.any (·.id == id))

/-- Add to an entry of a list of numbers, saturating at 2^32 - 1. -/
def bump (l : List Nat) (i v : Nat) : List Nat := l.modify i fun a => min (2 ^ 32 - 1) (a + v)

def pixelsOf (w lines : Nat) : List (Nat × Nat) := (List.range lines).flatMap fun y => (List.range w).map fun x => (x, y)

/-- AE histogram of the received lines; a YUV422 frame's is taken on Y (R140, R147). -/
def aeHist (e : IspEnv) (lines : Nat) : List Nat :=
  (pixelsOf e.w lines).foldl (fun l (x, y) => bump l ((if e.yuv then e.yIn x y else lumaOf (byteAt e.c 6) (e.s6 x y)) / 16) 1) (List.replicate 256 0)
/-- The loop of a port runs (R149). -/
def State.loopOn (s : State) (p : Nat) : Bool := (s.camPort p).cfg.aeEn && ((s.ispPort p).aeOn || (s.ispPort p).awbOn)

/-- SETTINGS_ID and FRAME_FLAGS of a processed frame, the same in its tap header and its statistics (R152, Table 6.5); the loop
skips a frame that is TRUNCATED, half missing, of an unknown ID or without a histogram (R153). -/
def State.frameLabel (s : State) (f : ProcFrame) (r : RawFrame) : Nat × W8 :=
  let (id, inferred, unknown) := s.labelOf r
  let ae := aeHist (IspEnv.of f.ctx r.w r.h r.dt r.rows) (min r.rows.length r.h)
  let skip := s.loopOn r.port && (r.flags.getLsbD 2 || 2 * r.lines < r.h || unknown || ae.sum == 0)
  (id, r.frameFlags ||| (if inferred then 0x10 else 0) ||| (if unknown then 0x20 else 0) ||| (if skip then 0x40 else 0))

/-- The tap of a frame that ends is written into the slot it took at its start, or abandoned, DONE staying 0xFFFF_FFFF, where the
slot is held, write credits lacked or the frame is not whole (R144 to R146). -/
def State.writeTap (i : Nat) (f : ProcFrame) (r : RawFrame) (whole : Bool) (s : State) : State :=
  match f.tap with
  | none => s
  | some t =>
    let (a, n) := t.slot f.w f.h f.dt
    if s.held a n || !whole then s.modPipe i fun y => { y with missedTaps := satInc y.missedTaps }
    else match s.bufOf f.port f.seq with
      | none => s
      | some b =>
        let e := IspEnv.of f.ctx f.w f.h f.dt r.rows
        s.devWrite a (tapHeader r (s.frameLabel f r) t.point f.gen.toNat r.seq.toNat ++ tapData t.point e b)

/-- A frame of a port has been processed whole: its buffer is complete unless the short-frame policy holds it back, its
tap, which has had write credits when `credits` says so, is written, its statistics are due (R141, R142, R144, R146). -/
def State.frameDone (i : Nat) (f : ProcFrame) (r : RawFrame) (credits : Bool) (s : State) : State :=
  let short := r.flags.getLsbD 0 || r.flags.getLsbD 2
  let whole := (!short || r.pad) && f.done == f.h
  let s := s.writeTap i f r (whole && credits)
  let s := if whole then s.modBuf f.port f.seq fun b => { b with complete := true, flags := r.flags }
    else s.modIspPort f.port fun x => { x with bufs := x.bufs.filter (·.seq != f.seq) }
  let s := (s.modIspPort f.port fun x => { x with statsDue := some f }).modPipe i fun y => if f.inline then { y with cur := none } else { y with mem := none }
  let s := s.modPipe (f.port / 4) fun y => { y with processed := y.processed.modify (f.port % 4) (· + 1) }
  (s.modIsp fun x => { x with unfed := x.unfed.set f.port false }).when whole (·.signalBack f.port r.gen)

def execPipelineFrameDone (port : Nat) (credits : Bool) (s : State) : Result :=
  let held (f : ProcFrame) : Option (ProcFrame × RawFrame) := if f.port != port then none else f.raw.bind fun r =>
    let short := r.flags.getLsbD 0 || r.flags.getLsbD 2
    if f.done == f.h || r.rows.isEmpty || (short && !r.pad) then some (f, r) else none
  done (match (List.range 4).findSome? fun i => (((s.pipe i).cur.bind held) <|> ((s.pipe i).mem.bind held)).map fun x => (i, x) with
    | some (i, f, r) => s.frameDone i f r credits
    | none => s)

/-! ### Statistics (R147, R148) -/

/-- Zone of a pixel. -/
def zoneOf (w h x y : Nat) : Nat :=
  let zw := w / 32
  let zh := h / 18
  (if zh == 0 then 17 else min 17 (y / zh)) * 32 + (if zw == 0 then 31 else min 31 (x / zw))

/-- AWB zones: sums of R, G and B, and the count. -/
def awbZones (e : IspEnv) (lines : Nat) : List (Nat × Nat × Nat × Nat) :=
  (pixelsOf e.w lines).foldl (fun l (x, y) =>
    let (r, g, b) := e.s5 x y
    if r < 3968 && g < 3968 && b < 3968 then l.modify (zoneOf e.w e.h x y) fun (sr, sg, sb, n) => (sr + r, sg + g, sb + b, n + 1) else l) (List.replicate 576 (0, 0, 0, 0))
/-- Focus sums. -/
def focusZones (e : IspEnv) (lines : Nat) : List Nat :=
  (pixelsOf e.w lines).foldl (fun l (x, y) =>
    let g (dx dy : Int) : Int := (e.at_ (fun x y => (e.s5 x y).2.1) (x + dx) (y + dy) : Nat)
    bump l (zoneOf e.w e.h x y) (4 * g 0 0 - g 0 (-1) - g 0 1 - g 1 0 - g (-1) 0).natAbs) (List.replicate 576 0)

/-- The statistics block (Table 6.5); KINDS not asked for, or not in the set, read 0. -/
def StatsSet.bytes (t : StatsSet) (port asked : Nat) : Bytes :=
  let kinds := asked &&& t.kinds
  let unknown := t.flags.getLsbD 5
  let f (v : Nat) : Bytes := le 2 (if unknown then 0 else v)
  le 4 t.seq.toNat ++ le 1 t.settingsId ++ [t.flags] ++ le 2 t.lines ++ le 1 port ++ le 1 t.pipe ++ le 2 t.gen.toNat ++ le 2 t.width ++ le 2 t.height ++ le 8 t.time
    ++ le 2 (t.width / 32) ++ le 2 (t.height / 18) ++ f t.sent.exposure ++ f t.sent.gain ++ f t.sent.wbR ++ f t.sent.wbB ++ le 1 kinds ++ List.replicate 27 0
    ++ (if bit kinds 0 then pad 1024 (t.ae.flatMap (le 4)) else List.replicate 1024 0)
    ++ (if bit kinds 1 then pad 9216 (t.awb.flatMap fun (r, g, b, n) => le 4 r ++ le 4 g ++ le 4 b ++ le 4 n) else List.replicate 9216 0)
    ++ (if bit kinds 2 then pad 2304 (t.focus.flatMap (le 4)) else List.replicate 2304 0)

/-- ISP.STATS (R148): the newest complete set; one of zeros before the first (log). -/
def execIspStats (m : Master) (s : State) : Result :=
  done (runCmd { code := 0x0504, cls := 0, bulk := some 1, len := 18, args := [{ off := 16, hi := 15 }, { off := 17, mask := 7 }] } (absentIn 16 64 15 State.hasPort)
    (fun c _ => if c.u32 8 < 12608 then some (8, 0) else none)
    (fun c s =>
      let t := (s.ispPort (c.u8 16)).stats.headD {}
      (s.devWrite c.base (t.bytes (c.u8 16) (c.u8 17)), .ok (le 4 t.seq.toNat ++ le 1 t.settingsId ++ [t.flags] ++ le 2 t.lines))) m s)

/-! ### SETTINGS messages and the AE/AWB loop (R108, R149 to R155) -/

/-- One byte of the CRC-16 of polynomial 0x1021 (R108, R291). -/
def crc16Bits : Nat → W16 → W16
  | 0, c => c
  | n + 1, c => crc16Bits n (if c.getLsbD 15 then (c <<< 1) ^^^ 0x1021 else c <<< 1)
def crc16 (b : Bytes) : W16 := b.foldl (fun (c : W16) (x : W8) => crc16Bits 8 (c ^^^ (BitVec.setWidth 16 x <<< 8))) 0xFFFF
/-- A reverse message: TYPE, TAG, LEN, payload, CRC-16 low byte first (R108). -/
def headMsg (type tag : Nat) (payload : Bytes) : Bytes :=
  let b := le 1 type ++ le 1 tag ++ le 1 payload.length ++ payload
  b ++ le 2 (crc16 b).toNat

/-- Send a SETTINGS message; a port that trains or retrains gets none (R150, Table 6.7). -/
def State.sendSettings (p : Nat) (t : Settings) (s : State) : State :=
  if (s.camPort p).state != 5 && (s.camPort p).state != 4 then s
  else s.emit (.head p (headMsg 3 0 (le 1 t.id ++ [0] ++ le 2 t.exposure ++ le 2 t.gain ++ le 2 t.wbR ++ le 2 t.wbB)))

/-- New values: a new ID only when one of them changes, or when `fresh` asks for it (R150). A port that cannot send keeps them for
its return to STREAMING, which gives them their ID (Table 6.7). -/
def State.newSettings (p : Nat) (t : Settings) (fresh : Bool) (s : State) : State :=
  let o := (s.ispPort p).last
  let same := o.exposure == t.exposure && o.gain == t.gain && o.wbR == t.wbR && o.wbB == t.wbB && o.id != 0
  if same && !fresh then s.sendSettings p o
  else if (s.camPort p).state != 5 && (s.camPort p).state != 4 then s.modIspPort p fun x => { x with last := { t with id := o.id, tick := o.tick } }
  else
    let n : Settings := { t with id := if o.id < 255 then o.id + 1 else 1, tick := s.cam.tick }
    (s.modIspPort p fun x => { x with last := n, ids := (n :: x.ids.filter (·.id != n.id)).take 16 }).sendSettings p n

/-- On entry to STREAMING the loop sends its last values under a new ID (R150). -/
def State.resendSettings (p : Nat) (s : State) : State := s.when (s.loopOn p) fun s => s.newSettings p (s.ispPort p).last true

/-- Exposure of the next frame in µs/256 (R153). -/
def nextE (target m l : Nat) (ek enew : Nat) : Nat :=
  if 32 * ((m : Int) - target).natAbs ≤ target then enew
  else
    let r := (clampI 32768 131072 ((target * 65536 / max m 16 : Nat) : Int))
    let delta := (r - 65536).tdiv (l + 1 : Nat)
    (((ek : Int) * (65536 + delta) + 32768).fdiv 65536).toNat

/-- Exposure and gain of E (R154); `period` is the frame period in µs. -/
def splitE (e maxExp maxGain period : Nat) : Nat × Nat :=
  let lim := period - 100
  let x := max 10 (min (e / 256) (if maxExp == 0 then lim else min maxExp lim))
  (x, max 256 (min maxGain ((e + x / 2) / x)))

/-- One AWB gain: the target, and the step towards it (R155). A sum of zero states no target: a free value in the limits. -/
def nextWb (wb l sumG sumC free : Nat) : Nat :=
  let t : Nat := if sumC == 0 then 1024 + free % (65536 - 1024) else max 1024 (min 65535 (roundNat (wb * sumG) sumC))
  ((wb : Int) + ((t : Int) - wb).tdiv (l + 1 : Nat)).toNat

/-- Pixels of a zone. -/
def zonePixels (w h i : Nat) : Nat :=
  let zw := w / 32
  let zh := h / 18
  (if i % 32 == 31 then w - 31 * zw else zw) * (if i / 32 == 17 then h - 17 * zh else zh)

/-- The loop's step for a statistics set that it does not skip (R153 to R155). -/
def State.aeStep (p : Nat) (t : StatsSet) (yuv : Bool) (s : State) : State :=
  let x := s.ispPort p
  let l := (s.camPort p).latency
  let total := t.ae.sum
  let m := ((List.range 256).map fun b => t.ae.getD b 0 * (16 * b + 8)).sum / total
  let e := nextE x.target m l (t.sent.exposure * t.sent.gain) (x.last.exposure * x.last.gain)
  let (exposure, gain) := if x.aeOn then splitE e x.maxExposure x.maxGain (s.portPeriod p / 1000) else (x.last.exposure, x.last.gain)
  let zones := (List.range 576).filter fun i => let n := (t.awb.getD i (0, 0, 0, 0)).2.2.2
    0 < n && zonePixels t.width t.height i ≤ 2 * n
  let sum (f : Nat × Nat × Nat × Nat → Nat) : Nat := (zones.map fun i => f (t.awb.getD i (0, 0, 0, 0))).sum
  let (f1, s) := s.freeNat
  let (f2, s) := s.freeNat
  let wb := x.awbOn && !yuv && !zones.isEmpty
  let r := if wb then nextWb t.sent.wbR l (sum (·.2.1)) (sum (·.1)) f1 else x.last.wbR
  let b := if wb then nextWb t.sent.wbB l (sum (·.2.1)) (sum (·.2.2.1)) f2 else x.last.wbB
  s.newSettings p { exposure := exposure, gain := gain, wbR := r, wbB := b } false

/-- A frame's statistics set completes, and the AE/AWB loop runs (R147 to R155). -/
def execStatsComplete (port : Nat) (s : State) : Result :=
  done (match (s.ispPort port).statsDue with
    | none => s
    | some f => match f.raw with
    | none => s
    | some r =>
      let e := IspEnv.of f.ctx r.w r.h r.dt r.rows
      let lines := min r.rows.length r.h
      let (id, flags) := s.frameLabel f r
      let t : StatsSet := {
        seq := r.seq, settingsId := id, flags := flags, lines := r.lines, pipe := f.pipe, gen := f.gen,
        width := r.w, height := r.h, time := r.start, kinds := if e.yuv then 1 else 7, sent := ((s.ispPort port).ids.find? (·.id == id)).getD { gain := 0, wbR := 0, wbB := 0 },
        ae := aeHist e lines, awb := if e.yuv then List.replicate 576 (0, 0, 0, 0) else awbZones e lines, focus := if e.yuv then List.replicate 576 0 else focusZones e lines }
      let s := s.modIspPort port fun x => { x with stats := (t :: x.stats).take 3, statsDue := none }
      let s := s.post 0x581 0 (le 1 port ++ le 1 id ++ [flags, 0] ++ le 4 r.seq.toNat)
      if !s.loopOn port then s
      else if flags.getLsbD 6 then s.newSettings port (s.ispPort port).last false
      else s.aeStep port t e.yuv)

/-- ISP.AE_CONFIG. -/
def execIspAeConfig (m : Master) (s : State) : Result :=
  done (runCmd { code := 0x0505, cls := 1, len := 8, args := [{ off := 0, hi := 15 }, { off := 1, mask := 3 }, { off := 2, n := 2, hi := 4095 }, { off := 4, n := 2 }, { off := 6, n := 2 }] }
    (absentIn 0 64 15 State.hasPort) noPre
    (fun c s => (s.modIspPort (c.u8 0) fun x => { x with aeOn := bit (c.u8 1) 0, awbOn := bit (c.u8 1) 1, target := c.u16 2, maxExposure := c.u16 4, maxGain := c.u16 6 }, .ok [])) m s)

/-! ### Slot masks and taps (R131 to R133, R144) -/

/-- Samples of a frame of a port per second, times 2 for YUV422 input, as a fraction of its period: samples and ns. -/
def State.portLoad (s : State) (p : Nat) : Nat :=
  let c := (s.camPort p).cfg
  let n := c.width * c.height * (if isYuv c.dataType then 2 else 1)
  if !(s.camPort p).configured || s.portPeriod p == 0 then 0 else n * 10 ^ 9 / s.portPeriod p

/-- Mask and in-line local index that a pipeline will have at the next epoch. -/
def State.pipeNext (s : State) (i : Nat) : Nat × W16 := (s.pipe i).next.getD ((s.pipe i).inlineNext.getD (s.pipe i).inline, (s.pipe i).mask)

/-- The first REASON of R132 that holds for pipeline i with in-line index j and mask. -/
def State.maskBad (s : State) (i j : Nat) (mask : W16) : Option (Nat × Nat) :=
  -- the in-line port of a faulted pipeline is no in-line port any more (R156)
  let clash := (List.range 4).any fun k => k != i && (let (j', m') := s.pipeNext k
    (m' &&& mask) != 0 || (!(s.pipe k).faulted && mask.getLsbD (4 * k + j')))
  let ports := (List.range 16).filter fun p => mask.getLsbD p
  if clash then some (2, 1)
  else if mask.getLsbD (4 * i + j) then some (2, 2)
  else if 8640000000 < s.portLoad (4 * i + j) + (ports.map s.portLoad).sum then some (2, 3)
  else if 7 < ports.length then some (2, 4)
  else none

/-- The tick of the generator that is next: its number, its time and its period (R111): a LOCK_OFFSET before its panel frame starts;
every period in TM_VARIABLE and in a hold. -/
def State.nextTick (s : State) : Option (W32 × Nat × Nat) :=
  let d := s.disp
  let p := if s.lockIn then s.meanPeriod.getD s.framePeriod0 else s.framePeriod0
  if !d.sched || p == 0 then none
  else if s.cam.ticked && (d.timing.mode == 1 || s.scan.hold.isSome) then some (s.cam.tick + 1, s.cam.tickAt + p, p)
  else
    let (f0, t0) := if d.latched then (d.frame, s.slotStart (d.slotNo + d.timing.vtMin - d.slot)) else (d.frame, d.frameStart)
    let low := if s.cam.ticked && s.time < s.cam.tickAt + 2 * p then s.cam.tickAt + 1 else s.time
    let n : Int := -((t0 - s.cam.lockOffset - low : Int).fdiv p)
    some (f0 + BitVec.ofInt 32 n, ((t0 : Int) - s.cam.lockOffset + n * p).toNat, p)
/-- A tick less than half a period after the last is not sent (R276). -/
def State.tickSent (s : State) (t p : Nat) : Bool := !(s.cam.ticked && t < s.cam.tickAt + p / 2)
/-- Number of the next epoch: that of the next tick that is sent (R133). -/
def State.nextEpoch (s : State) : W32 := match s.nextTick with
  | some (f, t, p) => if s.tickSent t p then f else f + 1
  | none => s.isp.epoch + 1

/-- ISP.SLOT_MASK (R132, R133). -/
def execIspSlotMask (m : Master) (s : State) : Result :=
  done (runCmd { code := 0x0502, cls := 1, len := 4, args := [{ off := 0, hi := 3 }, { off := 1, hi := 3 }, { off := 2, n := 2 }] }
    (fun c s => (absentIn 0 47 3 State.hasPipe c s) <|> ((List.range 16).find? fun p => bit (c.u16 2) p && !s.hasPort p).map unitPort)
    (fun c s => s.maskBad (c.u8 0) (c.u8 1) (BitVec.ofNat 16 (c.u16 2)))
    (fun c s => (s.modPipe (c.u8 0) fun y => { y with next := some (c.u8 1, BitVec.ofNat 16 (c.u16 2)) }, .ok (le 4 s.nextEpoch.toNat))) m s)

/-- The old in-line port lies between a frame start and the end of its processing (R133). -/
def State.inlineBusy (s : State) (i : Nat) : Bool :=
  let p := s.inlinePort i
  (s.pipe i).cur.isSome || (match (s.camFlow p).frame with | some f => f.inline == some i | none => false)
    || (match (s.camFlow p).raw with | some r => r.inline == some i | none => false)

/-- An epoch begins at a tick: new masks and in-line ports apply (R131, R133). -/
def State.newEpoch (tick : W32) (s : State) : State :=
  let s := s.modIsp fun x => { x with epoch := tick, pipes := x.pipes.map fun y => match y.next with
    | some (j, mask) => { y with mask := mask, next := none, inlineNext := if j == y.inline then none else some j }
    | none => y }
  State.reserveOwn <| (List.range 16).foldl (fun t p =>
    if (t.ispPort p).ready.isSome && (t.maskPipe p).isNone then
      (t.modIspPort p fun x => { x with ready := none }).modIsp fun x => { x with pipes := x.pipes.map fun y => { y with order := y.order.filter (· != p) } }
    else t) s

/-- At a port's frame start: the pipeline whose in-line port it is, now or from now on (R126, R133). -/
def State.inlineAt (p : Nat) (s : State) : State × Option Nat :=
  let i := p / 4
  let j := p % 4
  let s := if (s.pipe i).inlineNext == some j && !s.inlineBusy i then (s.modPipe i fun y => { y with inline := j, inlineNext := none }).reserveOwn else s
  (s, if (s.pipe i).inline == j && !(s.pipe i).faulted && s.hasPipe i && s.domOn (domIP i) then some i else none)

/-- ISP.TAP (R144). -/
def execIspTap (m : Master) (s : State) : Result :=
  done (runCmd { code := 0x0503, cls := 1, len := 16, args := [{ off := 0, hi := 3 }, { off := 1 }, { off := 2, hi := 15 }, { off := 4, n := 5 }, { off := 12, n := 4 }] }
    (fun c s => (absentIn 0 47 3 State.hasPipe c s) <|> (absentIn 2 64 15 State.hasPort c s))
    (fun c s =>
      let p := c.u8 2
      let cam := (s.camPort p).cfg
      if c.u8 1 == 255 then none
      else if 4 < c.u8 1 then some (1, 0)
      else if !(s.inlinePort (c.u8 0) == p || s.maskPipe p == some (c.u8 0)) then some (2, 0)
      else if !s.inRegion (c.a40 4) (c.u32 12) then some (4, 0)
      else if c.u32 12 < tapSlot (c.u8 1) cam.width cam.height cam.dataType then some (12, 0) else none)
    (fun c s =>
      if c.u8 1 == 255 then (s.modPipe (c.u8 0) fun y => { y with tapNext := some none }, .ok [])
      else if s.held (c.a40 4) (c.u32 12) then (s, .fail stLeaseHeld)
      else (s.modPipe (c.u8 0) fun y => { y with tapNext := some (some { point := c.u8 1, port := c.u8 2, base := c.a40 4, len := c.u32 12 }) }, .ok [])) m s)

/-- ISP.QUERY; the missed taps of R146 follow the listed fields (log 54). -/
def execIspQuery (m : Master) (s : State) : Result :=
  done (runCmd { code := 0x0500, cls := 0, len := 1, args := [{ off := 0, hi := 3 }] } (absentIn 0 47 3 State.hasPipe) noPre (fun c s =>
    let y := s.pipe (c.u8 0)
    let tap := match y.tap with | some t => t.point | none => 255
    (s, .ok (le 1 y.inline ++ le 1 tap ++ le 2 y.mask.toNat ++ le 4 s.isp.epoch.toNat ++ (List.range 4).flatMap (fun j => le 4 (y.processed.getD j 0).toNat) ++ le 4 y.missedTaps.toNat))) m s)

/-! ### Faults (R156) -/

/-- Layers fed by a port that no pipeline processes: a reduction for camera 3D layers (R156). -/
def State.portUnfed (p : Nat) (s : State) : State :=
  let s := ((s.modIsp fun x => { x with unfed := x.unfed.set p true }).modIspPort p fun x => { x with ready := none }).signalLost p
  if (s.layersOf p).isEmpty then s else s.detect 0x13 (unitPort p)

/-- Give a port of a faulted pipeline to another as a memory-fed port, the pipelines taken in turn (R156). -/
def State.lendPort (p : Nat) (turn : Nat) (s : State) : State × Nat :=
  let cand := ((List.range 4).map fun k => (turn + k) % 4).filter fun k => s.hasPipe k && !(s.pipe k).faulted && s.domOn (domIP k)
  let fits (k : Nat) : Bool :=
    let (j, mask) := s.pipeNext k
    !mask.getLsbD p && 4 * k + j != p && (s.maskBad k j (mask ||| BitVec.ofNat 16 (2 ^ p))).isNone
  match cand.find? fits with
  | some k => (s.modPipe k fun y => { y with
      mask := y.mask ||| BitVec.ofNat 16 (2 ^ p), order := if (s.ispPort p).ready.isSome then y.order ++ [p] else y.order, lent := y.lent ||| BitVec.ofNat 16 (2 ^ p),
      next := (match y.next with | some (j, m) => some (j, m ||| BitVec.ofNat 16 (2 ^ p)) | none => none) }, k + 1)
  | none => (s.portUnfed p, turn)

/-- A pipeline's domain faults (R156): what it processed is lost, its ports go to the other pipelines. -/
def State.pipelineFault (pipe cause : Nat) (s : State) : State :=
  s.when (s.hasPipe pipe && !(s.pipe pipe).faulted) fun s =>
    let own := (List.range 16).filter fun p => s.hasPort p && (s.inlinePort pipe == p || s.maskPipe p == some pipe)
    let lost := ((s.pipe pipe).cur.toList ++ (s.pipe pipe).mem.toList).map fun f => (f.port, f.seq)
    let s := (s.unitFault (domIP pipe) cause).post 0x85 3 (le 2 (domIP pipe) ++ le 1 cause)
    let s := s.modPipe pipe fun y => { y with faulted := true, cur := none, mem := none, order := [] }
    let s := lost.foldl (fun t (p, q) => t.modIspPort p fun x => { x with bufs := x.bufs.filter fun b => b.complete || b.seq != q }) s
    let s := s.modPipe pipe fun y => { y with saved := y.mask, mask := 0 }
    (own.foldl (fun (t, n) p => State.lendPort p n t) (s, pipe + 1)).1.reserveOwn

def execPipelineFault (pipe : Nat) (s : State) : Result :=
  done (s.when (s.hasPipe pipe && !(s.pipe pipe).faulted) fun s => (s.pipelineFault pipe 0x20).reduce 0x20 (domIP pipe))

/-- The ports of a pipeline return to it after SVC.RETURN (R156). -/
def State.pipeReturned (i : Nat) (s : State) : State :=
  if !(s.pipe i).faulted then s
  else
    let own := (s.pipe i).saved ||| BitVec.ofNat 16 (2 ^ s.inlinePort i) ||| (match (s.pipe i).inlineNext with | some j => BitVec.ofNat 16 (2 ^ (4 * i + j)) | none => 0)
    let s := s.modIsp fun x => { x with pipes := x.pipes.map fun y => { y with mask := y.mask &&& ~~~(y.lent &&& own), lent := y.lent &&& ~~~own } }
    let s := s.modPipe i fun y => { y with faulted := false, mask := y.saved, saved := 0 }
    State.reserveOwn <| ((List.range 16).filter fun p => own.getLsbD p).foldl (fun t p => (t.modIsp fun x => { x with unfed := x.unfed.set p false }).clearCause 0x13 (unitPort p)) s

end Sys2Proof.Machine
end

