-- ==== Sys2Proof/Machine/Camera.lean ====
section
/-! DEFINITION. Camera ports: bring-up, training, profiles, faults, capacity, the reverse channel, FSYNC and the reception
of frames (spec/05; spec/12, R300 to R308). -/

namespace Sys2Proof.Machine

/-! ### Port state (Table 5.6) -/

/-- UNIT_STATUS state of a port state. -/
def portUnitState : Nat → Nat
  | 0 => 0
  | 1 => 1
  | 4 => 3
  | 5 => 4
  | 7 => 7
  | 8 => 6
  | _ => 2

/-- The port runs on fewer lanes, at a lower rate or with a raised divider than configured (R103, R119). -/
def CamPort.isReduced (x : CamPort) : Bool :=
  x.configured && (x.stopped || x.degraded || x.runLanes < x.cfg.lanes || x.runRate < x.cfg.rate || x.cfg.fsyncDiv < x.effDiv)

/-- UNIT_STATUS of a port as its state has it, and of the pairs that use it (R159). -/
def State.showPort (p : Nat) (s : State) : State :=
  let x := s.camPort p
  (s.setUnit (unitPort p) fun u => { u with
    state := portUnitState x.state, flowing := x.state == 5, faulted := x.state == 7, cause := if x.state == 7 then 0x22 else 0, reduced := x.isReduced }).showPairs p
def State.portTo (p st : Nat) (s : State) : State := (s.modPort p fun x => { x with state := st, held := x.held && (st == 2 || st == 6) }).showPort p

def portLane (p i : Nat) : Nat := 96 + 2 * p + i
/-- Active lanes of a port: its first, or its second when the first is excluded, or both (R102). -/
def CamPort.lanesIn (x : CamPort) : List Nat := if x.runLanes == 2 then [0, 1] else if x.excluded == some 0 then [1] else [0]
def State.otherLanes (s : State) (p : Nat) : List Nat := [0, 1].filter fun i => !(s.camPort p).lanesIn.contains i

/-- EV_CAM_PORT_DEGRADED. -/
def State.postDegraded (p : Nat) (s : State) : State :=
  let x := s.camPort p
  s.post 0x483 2 (le 1 p ++ le 1 x.runLanes ++ le 1 x.runRate ++ le 1 x.state)

/-! ### The reverse channel (R108, R109) -/

/-- Send a request that the head answers; `limit` is the end of a register command, 0 for the device's own. -/
def State.sendReq (p kind : Nat) (payload : Bytes) (limit : Nat) (s : State) : State :=
  let tag := (s.camFlow p).nextTag % 256
  let msg := headMsg kind tag payload
  (s.emit (.head p msg)).modFlow p fun f => { f with
    nextTag := (tag + 1) % 256, req := f.req ++ [{ kind := kind, tag := tag, msg := msg, resends := 0, window := s.time + us 200, limit := limit }] }
/-- Write one byte of a head register. -/
def State.headByte (p addr v : Nat) (s : State) : State := s.sendReq p 1 (le 2 addr ++ le 1 v) 0
/-- Entries of a profile's write list (Table 5.7). -/
def State.writeList (p : Nat) (prof : Bytes) (first n : Nat) (s : State) : State :=
  (List.range n).foldl (fun t k => let o := 64 + 4 * (first + k)
    t.headByte p (u16At prof o) (byteAt prof (o + 2))) s
def State.dropReq (p tag : Nat) (s : State) : State := s.modFlow p fun f => { f with req := f.req.filter (·.tag != tag) }
def State.modReq (p tag : Nat) (g : RevReq → RevReq) (s : State) : State := s.modFlow p fun f => { f with req := f.req.map fun r => if r.tag == tag then g r else r }
/-- The link takes register messages: IDLE or STREAMING. -/
def State.linkIdleUp (s : State) (p : Nat) : Bool := (s.camPort p).state == 4 || (s.camPort p).state == 5

/-- Answer the register command that waits. -/
def State.answerHead (st : Nat) (data : Bytes) (s : State) : State :=
  let mine := s.ctl.executing.filter fun e => e.code == 0x0402 || e.code == 0x0403
  let s := s.modCtl fun c => { c with executing := c.executing.filter fun e => !(e.code == 0x0402 || e.code == 0x0403) }
  mine.foldl (fun t e => t.answer e.master e.code e.tag.toNat st 0 data) s

/-- An attempt of a request failed: resent at most twice; a register command waits for its 2 ms; a register message of a port
that trains is sent again after training (R109, Table 5.9). -/
def State.retryReq (p : Nat) (r : RevReq) (s : State) : State :=
  if r.limit != 0 && r.limit ≤ s.time then (s.dropReq p r.tag).answerHead stTimeout (failData 0xFF 2 (unitPort p))
  else if r.kind != 4 && !s.linkIdleUp p then s.modReq p r.tag fun q => { q with window := if q.limit == 0 then s.time + us 200 else min q.limit (s.time + us 200) }
  else if r.resends < 2 then
    (s.emit (.head p r.msg)).modReq p r.tag fun q => { q with resends := q.resends + 1, window := if q.limit == 0 then s.time + us 200 else min q.limit (s.time + us 200), data := [] }
  else if r.limit != 0 then s.modReq p r.tag fun q => { q with window := q.limit }
  else s.dropReq p r.tag

def State.findReq (s : State) (p tag : Nat) : Option RevReq := (s.camFlow p).req.find? (·.tag == tag)

/-- The answer window of the oldest request ends (R109). -/
def execHeadAnswerTimeout (port : Nat) (s : State) : Result :=
  done (match (s.camFlow port).req with
    | [] => s
    | r :: rest =>
      let w := rest.foldl (fun (b : RevReq) x => if x.window < b.window then x else b) r
      (s.timeTo w.window).retryReq port w)

/-- ACK of a head: 0 done, 1 request CRC error, 2 bad address, which no attempt can mend (R109, Table 5.2). -/
def execHeadAck (port tag status : Nat) (s : State) : Result :=
  done (match s.findReq port tag with
    | none => s
    | some r =>
      if r.kind == 2 then s
      else match status with
        | 0 => let s := s.dropReq port tag
               if r.limit != 0 then s.answerHead stOk [] else s
        | 1 => s.retryReq port r
        | _ => s.retryReq port { r with resends := 2 })

/-- REG_RESP: four data bytes of a read; the last block completes the command (R106, R109). -/
def execRegResp (port tag index status : Nat) (data : List W8) (s : State) : Result :=
  done (match s.findReq port tag with
    | none => s
    | some r =>
      if r.kind != 2 then s
      else match status with
        | 0 =>
          let n := byteAt r.msg 5
          let blocks := (n + 3) / 4
          let s := s.modReq port tag fun q => { q with data := q.data.filter (·.1 != index) ++ [(index, pad 4 data)] }
          let got := match s.findReq port tag with | some q => q.data | none => []
          if (List.range blocks).all fun i => got.any (·.1 == i) then
            (s.dropReq port tag).answerHead stOk (((List.range blocks).flatMap fun i => match got.find? (·.1 == i) with | some d => d.2 | none => []).take n)
          else s
        | 1 => s.retryReq port r
        | _ => s.retryReq port { r with resends := 2 })

/-! ### Capacity (R103) -/

/-- The load is at most 99 % of the capacity of `lanes` at `rate` for a frame every `period` ns. -/
def capacityOk (lanes rate w h dt period : Nat) : Bool :=
  let bytes := (lineBytes w dt + 6 + 7) / 8 * 8
  period == 0 || bytes * 8 * h * 10 ^ 9 * 66 * 2048 * 100 ≤ 99 * lanes * (3125000000 * 2 ^ rate) * 64 * 2047 * period

/-- The divider R103 starts from: the configured one, or the profile's fallback while degraded (R119). -/
def State.baseDiv (s : State) (p : Nat) : Nat :=
  let x := s.camPort p
  if x.degraded then (match s.profileOf p with | some b => max 1 (byteAt b 31) | none => x.cfg.fsyncDiv) else x.cfg.fsyncDiv
/-- The smallest divider up to 8 that fits. -/
def State.fitDiv (s : State) (p : Nat) : Option Nat :=
  let x := s.camPort p
  ((List.range 9).drop (s.baseDiv p)).find? fun d => capacityOk x.runLanes x.runRate x.cfg.width x.cfg.height x.cfg.dataType (s.framePeriod0 * d)

/-- A port enters STREAMING (R112, R119, R150). -/
def State.enterStreaming (p : Nat) (s : State) : State :=
  (((s.modPort p fun x => { x with after := 0, cleanSince := s.time }).modFlow p fun f => { f with freeSeq := 0, lastStart := s.time }).portTo p 5).resendSettings p
/-- The device starts the head's stream (R115, R117, R125): SETTINGS goes before the register writes (R109). -/
def State.streamOn (p : Nat) (s : State) : State :=
  let c := (s.camPort p).cfg
  let s := s.enterStreaming p
  let s := if c.audioEn then s.headByte p 0x12 1 else s
  (s.headByte p 0x11 (if c.fsyncEn then 1 else 0)).headByte p 0x10 1

/-- R103 for a port: raise the divider, stop the head, or start it again. -/
def State.refit (p : Nat) (s : State) : State :=
  let x := s.camPort p
  if !x.configured then s
  else match s.fitDiv p with
    | some d =>
      let s := s.modPort p fun x => { x with effDiv := d, stopped := false }
      let s := if x.stopped && x.state == 4 then s.streamOn p else s.showPort p
      if x.stopped || (x.effDiv < d && s.baseDiv p < d) then s.postDegraded p else s
    | none =>
      if x.stopped && x.state != 5 then s
      else
        let s := (s.modPort p fun x => { x with stopped := true }).signalLost p
        let s := if x.state == 5 then (s.headByte p 0x10 0).portTo p 4 else s.showPort p
        if x.stopped then s else s.postDegraded p

/-- Every port repeats the check at a change of the panel frame rate (R103). -/
def State.refitAll (s : State) : State := (List.range 16).foldl (fun t p => t.refit p) s

/-! ### Training (R114, R118, R119, R307) -/

/-- The attempt of a port begins: LINK_CTRL, and the tap search on its lanes (R114, R307). -/
def State.beginTraining (p : Nat) (s : State) : State :=
  let lanes := (s.camPort p).runLanes
  let rate := (s.camPort p).runRate
  let s := s.modPort p fun x => { x with held := false, attemptAt := s.time }
  let s := s.sendReq p 4 (le 1 lanes ++ le 1 rate ++ [1]) 0
  let s := (s.otherLanes p).foldl (fun t i => (t.modLane (portLane p i) fun x => { x with included := false, blockLock := false, cdrLock := false }).laneState (portLane p i) 6) s
  let s := (s.camPort p).lanesIn.foldl (fun t i =>
    (((t.startTaps (portLane p i) rate 3).modLane (portLane p i) fun x => { x with cdrLock := true }).modLaneAux (portLane p i) fun a => { a with search := some {} }).laneState (portLane p i) 1) s
  s.modLanes fun l => { l with portTapLimit := l.portTapLimit.set p (some (s.time + ms 2)) }

/-- Start a training attempt in state `st` with `lanes` and `rate`; under LOW_STOP it waits (R415). -/
def State.trainPort (p st lanes rate after : Nat) (s : State) : State :=
  let s := s.modPort p fun x => { x with runLanes := lanes, runRate := rate, after := after, attemptAt := s.time, held := s.lowHold }
  let s := (s.portTo p st).modFlow p fun f => { f with req := f.req.filter (·.kind != 4), laneCount := [none, none] }
  if s.lowHold then s else s.beginTraining p

/-- The third failure: one lane at half the rate, the fallback divider and writes (R119). -/
def State.degradePort (p : Nat) (s : State) : State :=
  let x := s.camPort p
  let s := s.modPort p fun x => { x with degraded := true, excluded := some (if x.lostLane == 0 then 0 else 1), runLanes := 1, runRate := x.runRate - 1 }
  let s := s.trainPort p (if x.state == 2 then 2 else 6) 1 (x.runRate - 1) x.after
  let s := match s.profileOf p with
    | some b => (s.modPort p fun y => { y with effDiv := max 1 (byteAt b 31) }).writeList p b (byteAt b 34) (byteAt b 35)
    | none => s
  (s.showPort p).postDegraded p

/-- The port gives up (R119). -/
def State.faultPort (p : Nat) (s : State) : State :=
  let s := (s.signalLost p).modLanes fun l => { l with portTapLimit := l.portTapLimit.set p none }
  (s.portTo p 7).post 0x481 2 (le 1 p ++ [1])

/-- Complete the LANE.RETRAIN of a port's lanes. -/
def State.endPortRetrain (p : Nat) (s : State) : State := (s.endRetrain (portLane p 0)).endRetrain (portLane p 1)

/-- A failure is counted, and the port tries again, degrades or gives up (R119). -/
def State.countFailure (p : Nat) (s : State) : State :=
  let x := s.camPort p
  let st := if x.state == 2 then 2 else 6
  if x.uncounted then ((s.modPort p fun x => { x with uncounted := false }).endPortRetrain p).trainPort p st x.runLanes x.runRate x.after
  else
    let n := x.failures + 1
    let s := (s.modPort p fun x => { x with failures := n }).endPortRetrain p
    if 6 ≤ n then s.faultPort p
    else if n == 3 then s.degradePort p
    else s.trainPort p st x.runLanes x.runRate x.after

/-- A training attempt runs. -/
def State.portTraining (s : State) (p : Nat) : Bool := ((s.camPort p).state == 2 || (s.camPort p).state == 6) && !(s.camPort p).held

/-- Signal for 1 ms on a forward lane: the port trains at its configured lanes and rate, or on one lane at the lowest rate
(R114). -/
def execSignalDetect (port : Nat) (s : State) : Result :=
  done (s.when ((s.camPort port).state == 1 && s.domOn (domRG port)) fun s =>
    let x := s.camPort port
    if x.configured then s.trainPort port 2 x.cfg.lanes x.cfg.rate 0 else s.trainPort port 2 1 0 0)

def execBringUpTimeout (port : Nat) (s : State) : Result :=
  done (s.when (s.portTraining port) fun s => (s.timeTo ((s.camPort port).attemptAt + ms 20)).countFailure port)

def execTapExchangeLimit (port : Nat) (s : State) : Result :=
  done (match s.lanes.portTapLimit.getD port none with
    | none => s
    | some t => s.when (s.portTraining port && (s.camPort port).lanesIn.any fun i => !(s.lane (portLane port i)).ended) fun s =>
        (s.timeTo t).countFailure port)

/-- Request of the tap search: KIND, PRESET, STEPS, with the margin just seen in 1/64 UI (R304, Table 12.4). -/
def State.tapReq (p i kind preset steps margin : Nat) (s : State) : State :=
  let l := portLane p i
  let q := match (s.laneAux l).search with | some t => t.seq | none => 0
  let n := if q < 255 then q + 1 else 1
  let tag := (s.camFlow p).nextTag % 256
  ((s.modLaneAux l fun a => { a with search := a.search.map fun t => { t with seq := n } }).modFlow p fun f => { f with nextTag := (tag + 1) % 256 }).emit
    (.head p (headMsg 5 tag (le 1 i ++ le 1 n ++ le 1 kind ++ le 1 preset ++ le 1 steps ++ le 1 (min 255 (4 * margin)) ++ [0, 0])))

def State.modSearch (l : Nat) (f : TapSearch → TapSearch) (s : State) : State := s.modLaneAux l fun a => { a with search := a.search.map f }
/-- STEPS of one step of a tap. -/
def stepsOf (pre : Bool) (dir : Nat) : Nat := if pre then dir else 16 * dir

/-- The search of a lane ends: DONE from 200 mUI, else GIVE_UP, which fails the attempt (R307). -/
def State.endSearch (p i best margin : Nat) (s : State) : State :=
  let l := portLane p i
  if 200 ≤ best then ((s.tapReq p i 3 0 0 margin).modLane l fun x => { x with ended := true, trained := true }).storeTaps l
  else ((s.tapReq p i 4 0 0 margin).modLane l fun x => { x with ended := true }).countFailure p

/-- The next direction, the next tap, or the end of the search. -/
def State.nextTap (p i margin : Nat) (s : State) : State :=
  let l := portLane p i
  match (s.laneAux l).search with
  | none => s
  | some t =>
    if t.dir == 1 && !t.moved then (s.modSearch l fun t => { t with phase := 3, dir := 2 }).tapReq p i 2 0 (stepsOf t.pre 2) margin
    else if !t.pre then (s.modSearch l fun t => { t with phase := 3, pre := true, dir := 1, moved := false }).tapReq p i 2 0 (stepsOf true 1) margin
    else s.endSearch p i t.margin margin

/-- A head's TRAIN block acknowledges the last request: the eye monitor has measured `margin` steps of 1/64 UI, and the
device asks for the next change (R305, R307). -/
def execRootlineTrainAck (port lane seq status margin : Nat) (s : State) : Result :=
  let l := portLane port lane
  done (match (s.laneAux l).search with
    | none => s
    | some t =>
      if !(s.portTraining port && (s.lane l).state == 1 && !(s.lane l).ended && seq == t.seq) then s
      else
        let m := roundNat (margin * 1000) 64
        let s := s.modLane l fun x => { x with ackSeq := seq, tapStatus := status % 64, margin := m, blockLock := true }
        let st := if t.pre then status % 4 else status / 16 % 4
        let move (x : Lane) (dir : Nat) : Lane := if st != 0 then { x with preset := 255 }
          else if t.pre then { x with preset := 255, pre := if dir == 1 then x.pre + 1 else x.pre - 1 }
          else { x with preset := 255, post := if dir == 1 then x.post + 1 else x.post - 1 }
        match t.phase with
        | 0 => if 250 ≤ m then s.endSearch port lane m margin else (s.modSearch l fun t => { t with phase := 1, preset := 0 }).tapReq port lane 1 0 0 margin
        | 1 =>
          let s := (s.modLane l fun x => x.setPreset t.preset).modSearch l fun u => if u.preset == 0 || u.margin < m then { u with best := u.preset, margin := m } else u
          if t.preset < 9 then (s.modSearch l fun u => { u with preset := u.preset + 1 }).tapReq port lane 1 (t.preset + 1) 0 margin
          else
            let best := match (s.laneAux l).search with | some u => u.best | none => 0
            (s.modSearch l fun u => { u with phase := 2 }).tapReq port lane 1 best 0 margin
        | 2 => ((s.modLane l fun x => x.setPreset t.best).modSearch l fun u => { u with phase := 3, pre := false, dir := 1, moved := false }).tapReq port lane 2 0 (stepsOf false 1) margin
        | 3 =>
          let s := s.modLane l fun x => move x t.dir
          if st == 0 && t.margin < m then (s.modSearch l fun u => { u with margin := m, moved := true }).tapReq port lane 2 0 (stepsOf t.pre t.dir) margin
          else if st == 0 then (s.modSearch l fun u => { u with phase := 4 }).tapReq port lane 2 0 (stepsOf t.pre (3 - t.dir)) margin
          else s.nextTap port lane margin
        | _ => (s.modLane l fun x => move x (3 - t.dir)).nextTap port lane margin)

/-! ### Identification and profiles (R114, R115) -/

/-- A head matches a profile. -/
def profileMatches (id : W32) (b : Bytes) : Bool := id &&& BitVec.ofNat 32 (u32At b 4) == BitVec.ofNat 32 (u32At b 0) &&& BitVec.ofNat 32 (u32At b 4)
def State.matchProfile (s : State) (id : W32) : Option (Nat × Bytes) :=
  (List.range 32).findSome? fun k => ((s.profile k).filter (profileMatches id)).map fun b => (k, b)

/-- The parameters that a profile record or a CAM.CONFIG layout holds from its LANES byte on, WIDTH at `w`. -/
def camCfgOf (b : Bytes) (o w : Nat) (noSignal : Nat) : CamCfg :=
  { lanes := byteAt b o, rate := byteAt b (o + 1), vc := byteAt b (o + 2), dataType := byteAt b (o + 3), fsyncEn := bit (byteAt b (o + 4)) 0,
    shortPad := bit (byteAt b (o + 4)) 1, aeEn := bit (byteAt b (o + 4)) 2, audioEn := bit (byteAt b (o + 4)) 3,
    width := u16At b w, height := u16At b (w + 2), fsyncDiv := byteAt b (w + 4), noSignal := noSignal }

/-- New parameters of a port: a size that changes is judged again by its pairs (R162). -/
def State.setCamCfg (p : Nat) (c : CamCfg) (s : State) : State :=
  let o := s.camPort p
  let s := s.modPort p fun x => { x with configured := true, cfg := c, effDiv := c.fsyncDiv, failures := 0, degraded := false, excluded := none, lostLane := 255, fromProfile := false }
  if o.cfg.width != c.width || o.cfg.height != c.height then s.recheckPairs p else s.reserveOwn

/-- Apply the profile of slot k (R115): parameters, INIT writes, the stored context, STREAM_CTRL = 1. -/
def State.applyProfile (p : Nat) (b : Bytes) (s : State) : State :=
  let s := s.writeList p b 0 (byteAt b 34)
  let s := match if byteAt b 30 == 0xFF then none else s.recPayload (0x50 + byteAt b 30) with
    | some ctx => s.setContext p ctx true
    | none => s
  (s.streamOn p).refit p

/-- The port has read the head registers: the lowest matching profile applies; a head without one leaves the port IDLE,
unless the owner has configured it (R114, R115). -/
def State.identify (p : Nat) (s : State) : State :=
  let x := s.camPort p
  let arrived (slot : Nat) (s : State) : State := s.post 0x480 0 (le 1 p ++ le 1 slot ++ [0, 0] ++ le 4 x.headId.toNat)
  match s.matchProfile x.headId with
  | some (k, b) =>
    let c := camCfgOf b 8 14 x.cfg.noSignal
    let s := if x.profile == some k && x.fromProfile then s else (s.setCamCfg p c).modPort p fun y => { y with profile := some k, fromProfile := true, owned := false }
    if !x.degraded && (x.runLanes != c.lanes || x.runRate != c.rate) then s.trainPort p 2 c.lanes c.rate 0
    else (s.applyProfile p b).when true (arrived k)
  | none =>
    let s := s.modPort p fun y => { y with profile := none }
    arrived 0xFF (if x.owned then ((s.modPort p fun y => { y with owned := false }).streamOn p).refit p else s.portTo p 4)

/-- The port reads HEAD_ID to HEAD_CAPS and SETTINGS_LATENCY (R114, R151): eleven bytes from address 0. -/
def State.readHead (p : Nat) (s : State) : State :=
  let tag := (s.camFlow p).nextTag % 256
  (s.modFlow p fun f => { f with nextTag := (tag + 1) % 256 }).emit (.head p (headMsg 2 tag (le 2 0 ++ [11])))

/-- Every active lane has trained and the port has deskewed: bring-up goes on to identification, recovery goes back to where
it was (R114, R118). The head's registers are the row's operands. -/
def execRootlineTrainingDone (port : Nat) (headId headSerial : W32) (headVer headCaps : W8) (latency : Nat) (s : State) : Result :=
  let x := s.camPort port
  done (s.when (s.portTraining port && x.lanesIn.all fun i => (s.lane (portLane port i)).trained) fun s =>
    let s := (s.modLanes fun l => { l with portTapLimit := l.portTapLimit.set port none })
    let s := x.lanesIn.foldl (fun t i => ((t.modLane (portLane port i) fun y => { y with included := true, blockLock := true }).laneState (portLane port i) 2).setUnit (unitLane (portLane port i))
      fun u => { u with reduced := x.configured && x.runRate < x.cfg.rate }) s
    let s := s.modPort port fun y => { y with uncounted := false }
    if x.state == 2 then
      let s := s.modPort port fun y => { y with headId := headId, headSerial := headSerial, headVer := headVer, headCaps := headCaps, latency := max 1 (min 4 latency) }
      ((s.portTo port 3).readHead port).identify port
    else
      let s := (s.modPort port fun y => { y with lastRetrain := s.time }).endPortRetrain port
      let s := match x.after with
        | 2 => s.streamOn port
        | 3 => s.portTo port 4
        | _ => s.enterStreaming port
      let s := if x.runRate != x.cfg.rate && !x.degraded && x.configured then s.postDegraded port else s
      s.refit port)

/-! ### CAM.CONFIG (R103, R117) -/

/-- A stopped head is configured and started again. -/
def State.finishConfig (p : Nat) (s : State) : State :=
  match (s.camPort p).nextCfg with
  | none => s
  | some c =>
    let s := (s.modPort p fun x => { x with nextCfg := none }).setCamCfg p c
    let x := s.camPort p
    if x.runLanes != c.lanes || x.runRate != c.rate then s.trainPort p 6 c.lanes c.rate 2 else (s.streamOn p).refit p

/-- A change of the port's parameters runs (R117). -/
def State.configRuns (s : State) (p : Nat) : Bool := (s.camPort p).nextCfg.isSome || ((s.camPort p).state == 6 && (s.camPort p).after == 2)

/-- A frame of a port ends; the pairs that use it are told, and a waiting CAM.CONFIG takes over (R117, R121, R159). -/
def State.portFrameEnd (p : Nat) (cut : Bool) (s : State) : State :=
  match (s.camFlow p).frame with
  | none => s
  | some f =>
    let s := s.endFrame p cut
    let s := if f.extra || f.flagsAt cut == 0 || f.flagsAt cut == 2 then s else s.flagFrame p f.seq
    if s.linkIdleUp p then s.finishConfig p else s

def dataTypes : List Nat := [0x1E, 0x1F, 0x2B, 0x2C, 0x2D, 0x2E]

/-- Configure a port whose link is not streaming. -/
def State.configPort (p : Nat) (c : CamCfg) (s : State) : State :=
  let st := (s.camPort p).state
  let s := s.setCamCfg p c
  let x := s.camPort p
  if st == 4 then (if x.runLanes != c.lanes || x.runRate != c.rate then s.trainPort p 6 c.lanes c.rate 2 else (s.streamOn p).refit p)
  else if st == 6 then (s.awaitFrame p).trainPort p 6 c.lanes c.rate 2
  else
    let s := s.modPort p fun x => { x with owned := true }
    if st == 2 || st == 3 || st == 7 then s.trainPort p 2 c.lanes c.rate 0 else s.showPort p

def execCamConfig (m : Master) (s : State) : Result :=
  done (runCmd { code := 0x0401, cls := 1, len := 17, args := [{ off := 0, hi := 15 }, { off := 1, lo := 1, hi := 2 }, { off := 2, hi := 2 }, { off := 3, hi := 3 }, { off := 4 }, { off := 5, mask := 15 },
      { off := 6, n := 2 }, { off := 8, n := 2 }, { off := 10, lo := 1, hi := 4 }, { off := 12, n := 5 }] }
    (absentIn 0 64 15 State.hasPort)
    (fun c s =>
      if !dataTypes.contains (c.u8 4) then some (4, 0)
      else if !capacityOk (c.u8 1) (c.u8 2) (c.u16 6) (c.u16 8) (c.u8 4) (s.framePeriod0 * c.u8 10) then some (1, 0)
      else if c.a40 12 != 0 && (s.regionAt (c.a40 12)).isNone then some (12, 0) else none)
    (fun c s =>
      let p := c.u8 0
      let x := s.camPort p
      let cfg := camCfgOf c.args 1 6 (c.a40 12)
      if s.configRuns p then (s, .busy (unitPort p))
      else if x.state == 5 then
        let s := ((s.headByte p 0x10 0).modPort p fun x => { x with nextCfg := some cfg }).awaitFrame p
        ((if (s.camFlow p).frame.isSome then s else s.finishConfig p), .ok [])
      else (s.configPort p cfg, .ok [])) m s)

/-! ### Faults and unplug (R116 to R120) -/

/-- The port loses its link and retrains at a rate the head now sends (R118). Lane 2 stands for both lanes; a fault of the other
lane during RETRAIN makes it both (R119). -/
def State.lockFault (p lane : Nat) (ppm : Int) (s : State) : State :=
  let x := s.camPort p
  if x.state == 6 then s.when (x.lostLane < 2 && x.lostLane != lane) (·.modPort p fun y => { y with lostLane := 2 })
  else if !(s.linkIdleUp p) then s
  else
    let s := s.portFrameEnd p true
    let x := if x.nextCfg.isSome then s.camPort p else x
    if (s.camPort p).state == 6 then s
    else
      let s := ((s.awaitFrame p).modFlow p fun f => { f with retrains := f.retrains + 1 }).modPort p fun y => { y with
        lostLane := lane, after := if x.state == 5 then 1 else 3, uncounted := false }
      let soon := x.lastRetrain != 0 && s.time < x.lastRetrain + 10 ^ 9
      let seen : Int := (2 ^ x.runRate : Nat) * (1000000 + ppm)
      match (List.range 3).find? fun r => (seen - ((2 ^ r : Nat) : Int) * 1000000).natAbs ≤ 1000 * 2 ^ r with
      | none => s.countFailure p
      | some r =>
        let s := s.modPort p fun y => { y with runRate := r }
        if soon then s.countFailure p else s.trainPort p 6 x.runLanes r (if x.state == 5 then 1 else 3)

def execLockFault (port lane : Nat) (ppm : Int) (s : State) : Result := done (s.lockFault port lane ppm)

/-- ALIGN of a lane: a skew above 16 blocks, or a lane whose ALIGN is missing, is a loss of lock (R106). -/
def execAlignBlock (port lane : Nat) (count : W16) (skewUi : Nat) (s : State) : Result :=
  done (s.when (s.linkIdleUp port) fun s =>
    let before := (s.camFlow port).laneCount.getD lane none
    let s := s.modFlow port fun f => { f with laneCount := f.laneCount.set lane (some count), alignCount := count }
    let other := 1 - lane
    let gap := match (s.camFlow port).laneCount.getD other none with
      | some c => (s.camPort port).runLanes == 2 && 2 ≤ (count - c).toNat && (count - c).toNat < 32768
      | none => (s.camPort port).runLanes == 2 && before.isSome
    if 16 * 66 < skewUi then s.lockFault port lane 0 else if gap then s.lockFault port other 0 else s)

/-- No signal for 100 µs on every configured lane (R116). -/
def execHeadUnplug (port : Nat) (s : State) : Result :=
  done (s.when (2 ≤ (s.camPort port).state && (s.camPort port).state != 8) fun s =>
    let f := (s.camFlow port).frame
    let s := s.endFrame port true
    let s := match f with | some f => if f.flagsAt true == 0 || f.flagsAt true == 2 then s else s.flagFrame port f.seq | none => s
    let s := match (s.camPort port).nextCfg with
      | some c => (s.setCamCfg port c).modPort port fun x => { x with nextCfg := none, owned := true }
      | none => s
    let s := s.modPort port fun x => { x with failures := 0, degraded := false, excluded := none, lostLane := 255, profile := none, stopped := false, after := 0, uncounted := false, held := false }
    let s := ((s.signalLost port).modFlow port fun f => { f with req := f.req.filter (·.limit != 0) }).modLanes fun l => { l with portTapLimit := l.portTapLimit.set port none }
    let s := [0, 1].foldl (fun t i => (t.modLane (portLane port i) fun x => { x with included := false, blockLock := false, cdrLock := false }).laneState (portLane port i) 6) s
    (((s.endPortRetrain port).portTo port 1)).post 0x481 2 (le 1 port ++ [0]))

/-- 60 s of STREAMING without a fault (R119). -/
def execFailureCountClear (port : Nat) (s : State) : Result :=
  done (s.when ((s.camPort port).state == 5 && (s.camPort port).failures != 0) fun s =>
    (s.timeTo ((s.camPort port).cleanSince + 60 * 10 ^ 9)).modPort port fun x => { x with failures := 0 })

/-- 500 ms without a frame start on a locked port (R120). -/
def execFrameStartTimeout (port : Nat) (s : State) : Result :=
  done (s.when ((s.camPort port).state == 5 && (s.camPort port).cfg.fsyncEn && (s.camPort port).nextCfg.isNone) fun s =>
    let s := (s.timeTo ((s.camFlow port).lastStart + ms 500)).portFrameEnd port true
    (((s.awaitFrame port).modFlow port fun f => { f with retrains := f.retrains + 1 }).modPort port fun x => { x with after := 1 }).countFailure port)

/-- LANE.RETRAIN (R309, Table 12.8): a Sapline lane retrains alone; a Rootline lane's port retrains under R118, uncounted. -/
def execLaneRetrain (m : Master) (s : State) : Result :=
  done (runCmd { code := 0x0B02, cls := 1, len := 1, args := [{ off := 0, hi := 127 }] } (absentIn 0 128 127 State.hasLane) noPre (fun c s =>
    let l := c.u8 0
    if s.opOn 0x0B02 fun a => byteAt a 0 == l then (s, .busy (unitLane l))
    else if l < 96 then
      let st := (s.lane l).state
      let s := s.modLaneAux l fun a => { a with retries := 0 }
      ((if st == 2 || st == 3 || st == 4 then s.retrainAlone l else s), .pend (ms 50) 0)
    else
      let p := (l - 96) / 2
      let x := s.camPort p
      let s := if !s.linkIdleUp p then s
        else
          let s := s.portFrameEnd p true
          if (s.camPort p).state == 6 then s
          else (((s.awaitFrame p).modFlow p fun f => { f with retrains := f.retrains + 1 }).modPort p fun y => { y with uncounted := true }).trainPort p 6 x.runLanes x.runRate (if x.state == 5 then 1 else 3)
      (s, .pend (ms 50) 0)) m s)

/-! ### FSYNC (R110 to R112) -/

/-- A tick at one port: sent with K27.7 and bits [7:0] of its number, or missed by a port that trains (R110). -/
def State.tickPort (f : W32) (sent : Bool) (p : Nat) (s : State) : State :=
  let x := s.camPort p
  if !(x.configured && x.cfg.fsyncEn && 2 ≤ x.state && x.state ≤ 6 && f.toNat % x.effDiv == 0) then s
  else if sent && s.linkIdleUp p then (s.emit (.head p [0xFB, BitVec.ofNat 8 f.toNat])).modFlow p fun y => { y with lastTick := some f, startSeen := false }
  else s.modFlow p fun y => { y with missedFsync := y.missedFsync + 1 }

/-- The generator's next tick (R111); one that falls less than half a period after the last is not sent (R276). -/
def execFsyncTick (s : State) : Result :=
  done (match s.nextTick with
    | none => s
    | some (f, t, p) =>
      let s := s.timeTo t
      let sent := s.tickSent t p
      let s := (List.range 16).foldl (fun u n => u.tickPort f sent n) s
      (s.modCam fun c => { c with tick := f, tickAt := max t c.tickAt, ticked := true }).when sent (·.newEpoch f))

/-- LOCK_OFFSET in force (R18, R115): the owner's, or the largest over the ports that feed camera 3D layers, within two
frame periods. -/
def State.lockOffsetNow (s : State) : Nat :=
  let o := s.disp.timing.lockOffset
  if o != 0xFFFFFFFF then o.toNat
  else
    let ports := (List.range 16).filter fun p => !(s.layersOf p).isEmpty
    let one (p : Nat) : Nat := match s.profileOf p with
      | some b => us (u16At b 24) + us (if (s.ispPort p).maxExposure == 0 then s.portPeriod p / 1000 - 100 else (s.ispPort p).maxExposure) + us (u16At b 26) + Config.pipelineDelay
      | none => 0
    min (2 * s.framePeriod0) (ports.foldl (fun n p => max n (one p)) 0)

/-! ### Frames (R107, R112, R121 to R123) -/

/-- The raw buffer that a new memory-fed frame of a port takes: the first that holds no frame still needed (R128). -/
def State.rawBuf (s : State) (p : Nat) : Nat :=
  let used := (s.ispPort p).ready.toList ++ (s.camFlow p).raw.toList ++ s.isp.pipes.filterMap fun y => (y.mem.filter (·.port == p)).bind (·.raw)
  ((List.range 3).find? fun k => !(used.any (·.buf == k))).getD 0
/-- A line of a memory-fed frame is written into its raw buffer (R128). -/
def State.rawWrite (p : Nat) (f : CamFrame) (data : Bytes) (s : State) : State :=
  match s.leases.regions.find? (·.id == ringIds + p) with
  | some r => s.when (f.inline.isNone && f.fed.isSome) (·.devWrite (r.base + r.len / 3 * f.buf + f.lines * line64 data.length) data)
  | none => s

/-- A frame start (R112, R121): the first after a tick takes its number, another is DROPPED; a free-running head's starts
are counted. Without write credits the frame is DROPPED (R123). -/
def execCsi2FrameStart (port : Nat) (number : W16) (credits : Bool) (s : State) : Result :=
  done (s.when ((s.camPort port).state == 5) fun s =>
    let s := s.portFrameEnd port false
    let s := s.modFlow port fun f => { f with lastFrameNum := number, lastStart := s.time }
    let c := (s.camPort port).cfg
    let y := s.camFlow port
    s.when ((s.camPort port).state == 5) fun s =>
      let extra := c.fsyncEn && y.startSeen
      let seq := if c.fsyncEn then y.lastTick.getD 0 else y.freeSeq + 1
      let (s, pipe) := if extra then (s, none) else s.inlineAt port
      s.modFlow port fun f => { f with
        startSeen := true, freeSeq := f.freeSeq + 1,
        frame := some { seq := seq, start := s.time, dropped := extra || !credits, extra := extra, gen := f.gen, buf := s.rawBuf port, inline := pipe, fed := s.maskPipe port, w := c.width, h := c.height, dt := c.dataType, pad := c.shortPad } })

def execCsi2FrameEnd (port : Nat) (number : W16) (s : State) : Result :=
  let s := s.modFlow port fun f => { f with lastFrameNum := number }
  done (match (s.camFlow port).frame with
    | none => s.modFlow port fun f => { f with orphanEnds := f.orphanEnds + 1 }
    | some _ => s.portFrameEnd port false)

/-- Samples of 10 bits: four high bytes, then their low bits. -/
def unpack10 : Nat → Bytes → List Nat
  | 0, _ => []
  | n + 1, b => ((List.range 4).map fun i => byteAt b i * 4 + byteAt b 4 / 4 ^ i % 4) ++ unpack10 n (b.drop 5)
def unpack12 : Nat → Bytes → List Nat
  | 0, _ => []
  | n + 1, b => [byteAt b 0 * 16 + byteAt b 2 % 16, byteAt b 1 * 16 + byteAt b 2 / 16] ++ unpack12 n (b.drop 3)
def unpack14 : Nat → Bytes → List Nat
  | 0, _ => []
  | n + 1, b => let low := uAt 3 b 4
    ((List.range 4).map fun i => byteAt b i * 64 + low / 64 ^ i % 64) ++ unpack14 n (b.drop 7)
/-- The samples of a line in the 12-bit scale of stage 1 (Table 6.3, R140). -/
def unpackLine (w dt : Nat) (b : Bytes) : List Nat :=
  match dt with
  | 0x1E => b.map fun v => v.toNat * 16
  | 0x1F => ((unpack10 ((b.length + 4) / 5) b).take (2 * w)).map (· * 4)
  | 0x2B => ((unpack10 ((b.length + 4) / 5) b).take w).map (· * 4)
  | 0x2C => (unpack12 ((b.length + 2) / 3) b).take w
  | 0x2D => ((unpack14 ((b.length + 6) / 7) b).take w).map fun v => min 4095 (roundNat v 4)
  | _ => (List.range w).map fun i => min 4095 (roundNat (u16At b (2 * i)) 16)

/-- A payload CRC error is counted (R107). -/
def State.countCrc (p : Nat) (ok : Bool) (s : State) : State := if ok then s else s.modFlow p fun y => { y with crcErrors := y.crcErrors + 1 }

/-- An image line of the configured data type: another channel is discarded; a wrong length ends the valid data; lines past
HEIGHT are discarded; without write credits the whole frame is dropped (R107, R121, R123). -/
def execCsi2ImageLine (port vc : Nat) (crcOk credits : Bool) (data : List W8) (s : State) : Result :=
  done (if vc != (s.camPort port).cfg.vc then s.modFlow port fun f => { f with discarded := f.discarded + 1 }
    else
    let s := s.countCrc port crcOk
    match (s.camFlow port).frame with
    | none => s
    | some f =>
      let put (g : CamFrame) (s : State) : State := s.modFlow port fun y => { y with frame := some g }
      let f := if crcOk then f else { f with crcErrors := f.crcErrors + 1 }
      if f.dropped || f.ended then put f s
      else if data.length != lineBytes f.w f.dt then put { f with ended := true } s
      else if f.h ≤ f.lines then put { f with lines := f.lines + 1 } s
      else if !credits then (put { f with dropped := true, rows := [] } s).dropFrame port f.seq
      else
        let g := { f with lines := f.lines + 1, rows := f.rows ++ [unpackLine f.w f.dt data] }
        let s := s.rawWrite port f data
        if g.lines == g.h then (put { g with given := true } s).handOver port (g.toRaw port 0) true else put g s)

/-- An embedded data line; the first before the image lines carries the settings ID (R107, R152). -/
def execCsi2EmbeddedLine (port : Nat) (crcOk : Bool) (data : List W8) (s : State) : Result :=
  let s := s.countCrc port crcOk
  done (match (s.camFlow port).frame with
    | none => s
    | some f =>
      if f.lines == 0 && f.embedded.isNone then s.modFlow port fun y => { y with frame := some { f with embedded := some data } } else s)

/-- A discarded packet is counted; one whose header no correction mends is a missing line (R107, R121). -/
def execCsi2DiscardedPacket (port why : Nat) (s : State) : Result :=
  done (s.modFlow port fun f => { f with
    discarded := f.discarded + 1, frame := f.frame.map fun g => if why == 0 then { g with ended := true } else g })

/-! ### The other CAM commands -/

def execCamQuery (m : Master) (s : State) : Result :=
  done (runCmd { code := 0x0400, cls := 0, len := 1, args := [{ off := 0, hi := 15 }] } (absentIn 0 64 15 State.hasPort) noPre (fun c s =>
    let x := s.camPort (c.u8 0)
    let f := s.camFlow (c.u8 0)
    (s, .ok (le 1 x.state ++ le 1 x.runLanes ++ le 1 x.runRate ++ le 1 (x.profile.getD 0xFF) ++ le 4 x.headId.toNat ++ le 4 f.frames.toNat ++ le 4 f.short.toNat
      ++ le 4 f.long.toNat ++ le 4 f.truncated.toNat ++ le 4 f.dropped.toNat ++ le 4 f.retrains.toNat))) m s)

def execCamHeadRead (m : Master) (s : State) : Result :=
  done (runCmd { code := 0x0402, cls := 0, len := 4, args := [{ off := 0, hi := 15 }, { off := 1, lo := 1, hi := 64 }, { off := 2, n := 2 }] } (absentIn 0 64 15 State.hasPort) noPre (fun c s =>
    if !s.linkIdleUp (c.u8 0) then (s, .err stTimeout 0xFF 1 (unitPort (c.u8 0)))
    else (s.sendReq (c.u8 0) 2 (le 2 (c.u16 2) ++ le 1 (c.u8 1)) (s.time + ms 2), .wait (ms 2))) m s)

def execCamHeadWrite (m : Master) (s : State) : Result :=
  done (runCmd { code := 0x0403, cls := 1, len := 68, args := [{ off := 0, hi := 15 }, { off := 1, lo := 1, hi := 64 }, { off := 2, n := 2 }, { off := 4, n := 64 }] } (absentIn 0 64 15 State.hasPort)
    (fun c _ => ((List.range 68).find? fun o => 4 + c.u8 1 ≤ o && byteAt c.args o != 0).map fun o => (o, 0)) (fun c s =>
    if !s.linkIdleUp (c.u8 0) then (s, .err stTimeout 0xFF 1 (unitPort (c.u8 0)))
    else (s.sendReq (c.u8 0) 1 (le 2 (c.u16 2) ++ slice c.args 4 (c.u8 1)) (s.time + ms 2), .wait (ms 2))) m s)

/-- A head profile record is malformed (R115, Table 5.7). -/
def profileBad (b : Bytes) : Bool :=
  let zero (o n : Nat) : Bool := (slice b o n).all (· == 0)
  b.length != 512 || byteAt b 8 < 1 || 2 < byteAt b 8 || 2 < byteAt b 9 || 3 < byteAt b 10 || !dataTypes.contains (byteAt b 11) || 15 < byteAt b 12
    || byteAt b 18 < 1 || 4 < byteAt b 18 || byteAt b 31 < 1 || 4 < byteAt b 31 || 112 < byteAt b 34 + byteAt b 35 || !zero 13 1 || !zero 19 5 || !zero 36 28

/-- CAM.PROFILE_SET (R115): the record is written when the operation completes. -/
def execCamProfileSet (m : Master) (s : State) : Result :=
  done (runCmd { code := 0x0404, cls := 1, bulk := some 0, len := 17, args := [{ off := 16, hi := 31 }] } noUnit
    (fun c _ => if c.u32 8 != 512 then some (8, 0) else none)
    (fun c s =>
      let b := c.bulkBytes s
      if profileBad b then (s, .badArg 0xFF)
      else if s.opOn 0x0404 fun a => byteAt a 16 == c.u8 16 then (s, .fail stBusy)
      else match (List.range 16).find? fun p => s.configRuns p && profileMatches (s.camPort p).headId b with
        | some p => (s, .busy (unitPort p))
        | none => (s, .pend (ms 50) 0)) m s)

/-- A profile is stored: an idle port whose head had none is identified again (R115). -/
def State.profileStored (k : Nat) (b : Bytes) (s : State) : State :=
  (List.range 16).foldl (fun t p =>
    if (t.camPort p).state == 4 && (t.camPort p).profile.isNone && !(t.camPort p).configured then t.identify p else t) (s.deferRecord (0x20 + k) b)

/-! ### The end of a LOW_STOP hold (R415) -/

/-- No sensor holds LOW_STOP any more: the trainings held back start in their order. -/
def State.startHeld (s : State) : State :=
  let s := ((List.range 96).filter fun l => (s.laneAux l).waits).foldl (fun t l => t.retrainAlone l) s
  ((List.range 16).filter fun p => (s.camPort p).held).foldl (fun t p => t.beginTraining p) s

/-- The conversion of the next slot, whose code is `raw` (R408 to R416). -/
def execConversionSlot (raw : Nat) (s : State) : Result :=
  let t := s.conversion raw
  done (if s.lowHold && !t.lowHold then t.startHeld else t)

end Sys2Proof.Machine
end

