-- ==== Sys2Proof/Machine/Churn.lean ====
section
/-! DEFINITION. The Churn block engine: queues, lists, segments, completion and abort (spec/14). -/

namespace Sys2Proof.Machine

def State.chq (s : State) (q : Nat) : ChurnQ := s.churn.queues.getD q {}
def State.modChq (q : Nat) (f : ChurnQ → ChurnQ) (s : State) : State := s.modChurn fun c => { c with queues := c.queues.modify q f }
def State.modRun (f : ChurnRun → ChurnRun) (s : State) : State := s.modChurn fun c => { c with run := c.run.map f }
def ChurnQ.outstanding (c : ChurnQ) : Nat := (c.producer - c.completed).toNat
/-- The list of queue q that runs. -/
def State.runOf (s : State) (q : Nat) : Option ChurnRun := s.churn.run.filter (·.q == q)

/-- STATE of a queue (R358): a queue with no ring reads OFF also while CH is off, as its reset value says. -/
def State.churnState (s : State) (q : Nat) : Nat :=
  let c := s.chq q
  if c.entries == 0 then 0
  else if !s.domOn domCH then 5
  else match s.runOf q with
    | some r => if r.waiting then 4 else 3
    | none => if c.outstanding == 0 then 1 else 2

/-- CHURN_STATUS[q]. -/
def State.churnStatus (s : State) (q : Nat) : Nat :=
  let c := s.chq q
  bitOf c.overrun 0 + bitOf c.remapReset 1 + bitOf c.abortNoop 2 + bitOf c.entryPoisoned 3 + s.churnState q * 256
    + (match s.runOf q with | some r => if s.domOn domCH then r.index * 65536 else 0 | none => 0)
/-- CHURN_CONFIG[q]. -/
def State.churnConfig (s : State) (q : Nat) : Nat :=
  let c := s.chq q
  c.priority + bitOf (c.entries != 0) 2 + c.entries * 65536

def execChurnQuery (m : Master) (s : State) : Result :=
  done (runCmd { code := 0x0D00, cls := 0, len := 1, args := [{ off := 0, hi := 7 }] } noUnit noPre (fun c s =>
    let q := s.chq (c.u8 0)
    (s, .ok (le 1 (s.churnState (c.u8 0)) ++ le 1 q.priority ++ [0, 0] ++ le 4 q.listsDone.toNat ++ le 4 q.hazards.toNat))) m s)

/-- CHURN.QUEUE_SET (R358). -/
def execChurnQueueSet (m : Master) (s : State) : Result :=
  done (runCmd { code := 0x0D01, cls := 1, len := 16,
                 args := [{ off := 0, hi := 7 }, { off := 1, hi := 3 }, { off := 4, n := 5 }, { off := 12, n := 4 }] } noUnit
    (fun c s =>
      let b := c.a40 4
      let n := c.u32 12
      if b % 64 != 0 then some (4, 0)
      else if n == 0 then none
      else if n % 32 != 0 || n < 64 || 131072 < n then some (12, 0)
      else if !s.inMemory b n || (s.permanent b n).isSome then some (4, 0) else none)
    (fun c s =>
      let q := c.u8 0
      if (s.chq q).outstanding != 0 then (s, .busy domCH)
      else (s.modChq q fun x => { x with base := c.a40 4, entries := c.u32 12 / 32, priority := c.u8 1, producer := 0, completed := 0 }, .ok [])) m s)

/-- An abort is requested (R371): without an outstanding entry it sets ABORT_NOOP; a second one merges with the first. -/
def State.churnAbort (q : Nat) (s : State) : State :=
  if (s.chq q).outstanding == 0 then s.modChq q fun c => { c with abortNoop := true } else s.modChq q fun c => { c with abort := true }

def execChurnAbort (m : Master) (s : State) : Result :=
  done (runCmd { code := 0x0D02, cls := 1, len := 1, args := [{ off := 0, hi := 7 }] } noUnit noPre (fun c s => (s.churnAbort (c.u8 0), .ok [])) m s)

/-- CHURN_PRODUCER[q] (R359, R472). -/
def execChurnProducer (m : Master) (q : Nat) (value : W32) (s : State) : Result := s.byPort m.code fun s =>
  done (if !s.isOwner m.code then s.dropWrite m (0x50000 + 0x100 * q)
  else
    let c := s.chq q
    match producerRule c.entries c.producer c.completed value with
    | .nothing => s
    | .overrun => s.modChq q fun c => { c with overrun := true }
    | .takes => s.modChq q fun c => { c with producer := value })

def execChurnAbortWrite (m : Master) (q : Nat) (value : W32) (s : State) : Result := s.byPort m.code fun s =>
  done (if !s.isOwner m.code then s.dropWrite m (0x5000C + 0x100 * q) else s.when (value.getLsbD 0) (·.churnAbort q))

/-! ### Completion (R370) -/

/-- Write the completion into ring entry `entry`, advance COMPLETED and raise the vector when `irq`. -/
def State.churnComplete (q entry : Nat) (status outcome flags reason index : Nat) (hazard : Option Nat) (tag : W32) (irq : Bool) (s : State) : State :=
  let s := s.devWrite (entry + 16) (le 1 status ++ le 1 outcome ++ le 1 flags ++ le 1 reason ++ le 4 index ++ le 4 (hazard.getD 0xFFFFFFFF))
  let s := (s.devWrite (entry + 28) (le 4 tag.toNat)).modChq q fun c =>
    { c with completed := c.completed + 1, listsDone := if outcome == 1 then c.listsDone + 1 else c.listsDone }
  s.when irq (·.ownerVector (8 + q))

/-- The running list ends (R362, R370, R371). An abort requested and not yet in effect finds the final write accepted. -/
def State.churnEnd (r : ChurnRun) (s : State) : State :=
  let late := r.index == r.count && (r.aborted.isSome || (s.chq r.q).abort)
  let base := bitOf r.hazardIndex.isSome 1 + bitOf r.poison 2 + bitOf r.leaseWaited 3
  let s := ((s.modChurn fun c => { c with run := none, lastServed := r.q }).modChq r.q fun c => { c with abort := false })
  match r.failed, r.aborted with
  | some (st, reason, idx), _ => s.churnComplete r.q r.entry st 3 base reason idx r.hazardIndex r.tag r.irq
  | none, some st =>
    if late && st != stFaulted then s.churnComplete r.q r.entry stOk 1 (base + 1) 0 r.count r.hazardIndex r.tag true
    else s.churnComplete r.q r.entry st 2 (base + bitOf r.wrote 4) 0 r.index r.hazardIndex r.tag true
  | none, none => s.churnComplete r.q r.entry stOk 1 (base + bitOf late 0) 0 r.count r.hazardIndex r.tag (r.irq || late)

/-- End the running list with a status (R372, R373). -/
def State.churnStop (status : Nat) (s : State) : State :=
  match s.churn.run with
  | some r => s.churnEnd { r with aborted := some status, waiting := false }
  | none => s

/-! ### Starting a list (R359 to R362) -/

/-- The non-empty queue of highest priority, in ascending order after the one last served (R360). -/
def State.churnNext (s : State) : Option Nat :=
  let ready := ((List.range 8).map fun i => (s.churn.lastServed + 1 + i) % 8).filter fun q => (s.chq q).entries != 0 && (s.chq q).outstanding != 0
  let top := (ready.map fun q => (s.chq q).priority).foldl max 0
  ready.find? fun q => (s.chq q).priority == top

def clipOf (h : Bytes) (r : Nat) : Nat × Nat × Nat × Nat := (u16At h (64 + 8 * r), u16At h (66 + 8 * r), u16At h (68 + 8 * r), u16At h (70 + 8 * r))

/-- Failure of the entry or header, as (status, reason) (Table 14.4). -/
def State.churnHeaderBad (s : State) (e : Bytes) (list : Nat) (h : Bytes) : Option (Nat × Nat) :=
  let clips := byteAt h 4
  if list % 64 != 0 || 1 < byteAt e 5 || uAt 6 e 6 != 0 || u32At e 12 == 0xFFFFFFFF then some (stBadArg, 1)
  else if s.poisoned list 192 then some (stFaulted, 10)
  else if s.is20 && clips != 0 then some (stNotPresent, 9)
  else if u16At h 0 != 1 || u16At h 2 == 0 || 16384 < u16At h 2 || 16 < clips || uAt 59 h 5 != 0 then some (stBadArg, 1)
  else if (List.range 16).any fun r =>
      let (x0, y0, x1, y1) := clipOf h r
      if r < clips then x1 ≤ x0 || y1 ≤ y0 else x0 != 0 || y0 != 0 || x1 != 0 || y1 != 0 then some (stBadArg, 2)
  else none

/-- The engine starts the oldest entry of the queue chosen (R360); a poisoned entry is passed (R369). -/
def execChurnListStart (s : State) : Result :=
  done (s.when (s.domOn domCH && s.churn.run.isNone && s.churn.drainUntil.isNone) fun s =>
    match s.churnNext with
    | none => s
    | some q =>
      let c := s.chq q
      let a := c.base + 32 * (c.completed.toNat % c.entries)
      if s.poisoned a 32 then
        (s.modChurn fun x => { x with lastServed := q }).modChq q fun x => { x with completed := x.completed + 1, entryPoisoned := true }
      else
        let e := s.devRead a 32
        let list := a40At e 0
        let s := s.devWrite (a + 28) (le 4 0xFFFFFFFF)
        let h := s.devRead list 192
        let bad := s.churnHeaderBad e list h
        s.modChurn fun x => { x with run := some {
          q := q, k := c.completed, entry := a, list := list, tag := BitVec.ofNat 32 (u32At e 12), irq := byteAt e 5 == 1,
          clips := if bad.isSome then [] else (List.range (byteAt h 4)).map (clipOf h),
          count := if bad.isSome then 0 else u16At h 2,
          failed := bad.map fun (st, r) => (st, r, 0) } })

/-! ### Commands and segments (R361 to R369) -/

/-- A command of Table 14.3. -/
structure ChurnCmd where
  op : Nat
  flags : Nat
  mask : Nat
  w : Nat
  h : Nat
  dst : Nat
  dstFmt : Nat
  dstPitch : Nat
  dx : Nat
  dy : Nat
  src : Nat
  srcFmt : Nat
  srcPitch : Nat
  sx : Nat
  sy : Nat
  color : Nat
  alpha : Nat
deriving DecidableEq, Repr

def ChurnCmd.parse (b : Bytes) : ChurnCmd :=
  { op := byteAt b 0, flags := byteAt b 1, mask := u16At b 2, w := u16At b 4, h := u16At b 6, dst := a40At b 8, dstFmt := byteAt b 13,
    dstPitch := u32At b 16, dx := u16At b 20, dy := u16At b 22, src := a40At b 24, srcFmt := byteAt b 29, srcPitch := u32At b 32,
    sx := u16At b 36, sy := u16At b 38, color := u64At b 40, alpha := u16At b 48 }

/-- COPY, BLEND_PIXEL and CONVERT read a source surface. -/
def ChurnCmd.hasSrc (c : ChurnCmd) : Bool := c.op == 2 || c.op == 4 || c.op == 5
def ChurnCmd.isBlend (c : ChurnCmd) : Bool := c.op == 3 || c.op == 4
def ChurnCmd.dbpp (c : ChurnCmd) : Nat := fmtBytes c.dstFmt
def ChurnCmd.sbpp (c : ChurnCmd) : Nat := fmtBytes c.srcFmt
/-- Byte address of destination pixel (i, j) and of source pixel (i, j). -/
def ChurnCmd.dstAddr (c : ChurnCmd) (i j : Nat) : Nat := c.dst + (c.dy + j) * c.dstPitch + (c.dx + i) * c.dbpp
def ChurnCmd.srcAddr (c : ChurnCmd) (i j : Nat) : Nat := c.src + (c.sy + j) * c.srcPitch + (c.sx + i) * c.sbpp

/-- Segments of a row (R366). -/
def ChurnCmd.segs (c : ChurnCmd) : Nat := (c.w + 8191) / 8192
/-- Row, first pixel and pixel count of the n-th segment executed (R366). -/
def ChurnCmd.seg (c : ChurnCmd) (n : Nat) : Nat × Nat × Nat :=
  let j := n / c.segs
  let m := n % c.segs
  let j := if bit c.flags 1 then c.h - 1 - j else j
  let m := if bit c.flags 0 then c.segs - 1 - m else m
  (j, 8192 * m, min c.w (8192 * (m + 1)) - 8192 * m)

/-- Does destination pixel (x, y) pass the clip (R365)? -/
def clipPass (clips : List (Nat × Nat × Nat × Nat)) (mask x y : Nat) : Bool :=
  mask == 0 || (List.range clips.length).any fun r =>
    bit mask r && (let (x0, y0, x1, y1) := clips.getD r (0, 0, 0, 0); x0 ≤ x && x < x1 && y0 ≤ y && y < y1)

/-- Byte ranges that a segment writes (R365). -/
def ChurnCmd.writes (c : ChurnCmd) (clips : List (Nat × Nat × Nat × Nat)) (n : Nat) : List (Nat × Nat) :=
  let (j, i0, k) := c.seg n
  if c.mask == 0 then [(c.dstAddr i0 j, k * c.dbpp)]
  else (List.range clips.length).filterMap fun r =>
    let (x0, y0, x1, y1) := clips.getD r (0, 0, 0, 0)
    let lo := max (c.dx + i0) x0
    let hi := min (c.dx + i0 + k) x1
    if bit c.mask r && y0 ≤ c.dy + j && c.dy + j < y1 && lo < hi then some (c.dstAddr (lo - c.dx) j, (hi - lo) * c.dbpp) else none

/-- Destination bytes that segment n touches: a blend reads the whole segment (R364 to R366). -/
def ChurnCmd.touches (c : ChurnCmd) (clips : List (Nat × Nat × Nat × Nat)) (n : Nat) : List (Nat × Nat) :=
  if c.isBlend then (let (j, i0, k) := c.seg n; [(c.dstAddr i0 j, k * c.dbpp)]) else c.writes clips n

/-- A row of a surface lies where Churn may reach it (REASON 7). -/
def State.churnReach (s : State) (a n : Nat) : Bool := s.inMemory a n && (s.permanent a n).isNone

/-- Failure of a command, as (status, reason), in the order of Table 14.4 with the poisoned read first. -/
def State.churnCmdBad (s : State) (r : ChurnRun) (b : Bytes) : Option (Nat × Nat) :=
  let c := ChurnCmd.parse b
  let rows := List.range c.h
  if s.poisoned (r.list + 192 + 64 * r.index) 64 then some (stFaulted, 10)
  else if c.op == 0 then none
  else if 5 < c.op || 7 < c.flags || uAt 2 b 14 != 0 || uAt 2 b 30 != 0 || uAt 14 b 50 != 0 || 2 ^ 48 ≤ c.color || 4095 < c.alpha then some (stBadArg, 3)
  else if 3 < c.dstFmt || (c.hasSrc && 3 < c.srcFmt) || (3 ≤ c.op && (c.dstFmt == 3 || (c.hasSrc && c.srcFmt == 3))) || (c.op == 2 && c.srcFmt != c.dstFmt) then some (stBadArg, 4)
  else if c.w == 0 || 16384 < c.w || c.h == 0 || 16384 < c.h then some (stBadArg, 5)
  else if c.dst % 64 != 0 || c.dstPitch < (c.dx + c.w) * c.dbpp || (c.hasSrc && (c.src % 64 != 0 || c.srcPitch < (c.sx + c.w) * c.sbpp)) then some (stBadArg, 6)
  else if ((List.range (c.segs * c.h)).any fun n => (c.touches r.clips n).any fun (a, k) =>
        !s.churnReach a k || overlaps a k r.list (192 + 64 * r.count) || overlaps a k r.entry 32)
      || (c.hasSrc && rows.any fun j => !s.churnReach (c.srcAddr 0 j) (c.w * c.sbpp)) then some (stBadArg, 7)
  else if c.mask / 2 ^ r.clips.length != 0 then some (stBadArg, 8)
  else none

def ChurnCmd.reads (c : ChurnCmd) (n : Nat) : Nat × Nat :=
  let (j, i0, k) := c.seg n
  (c.srcAddr i0 j, k * c.sbpp)

/-- Some segment of `l` writes bytes that a later one reads as its source. -/
def ChurnCmd.laterRead (c : ChurnCmd) (clips : List (Nat × Nat × Nat × Nat)) : List Nat → Bool
  | [] => false
  | n :: t => ((c.writes clips n).any fun (a, k) => t.any fun r => overlaps a k (c.reads r).1 (c.reads r).2) || c.laterRead clips t

/-- OVERLAP_HAZARD of a command (R367). -/
def ChurnCmd.hazard (c : ChurnCmd) (clips : List (Nat × Nat × Nat × Nat)) : Bool :=
  c.hasSrc && c.laterRead clips (List.range (c.segs * c.h))

/-- The pixel a command makes of source s and destination d (R364), as the number stored. -/
def ChurnCmd.pixel (c : ChurnCmd) (sv dv : Nat) : Nat :=
  match c.op with
  | 1 => if c.dstFmt == 3 then c.color % 256 else (Px.of48 c.color).store c.dstFmt
  | 2 => sv
  | 3 => ((Px.of48 c.color).blend (bit c.flags 2) c.alpha (Px.load c.dstFmt dv)).store c.dstFmt
  | 4 => ((Px.load c.srcFmt sv).blend (bit c.flags 2) c.alpha (Px.load c.dstFmt dv)).store c.dstFmt
  | _ => (Px.load c.srcFmt sv).store c.dstFmt

/-- Join the bytes of consecutive pixels written into runs of (address, bytes). -/
def pixelRuns (bpp : Nat) (a : Nat) : List (Option Bytes) → List (Nat × Bytes)
  | [] => []
  | none :: t => pixelRuns bpp (a + bpp) t
  | some b :: t => match pixelRuns bpp (a + bpp) t with
    | (a', b') :: u => if a' == a + bpp then (a, b ++ b') :: u else (a, b) :: (a', b') :: u
    | [] => [(a, b)]

/-- Read, compute and write one segment; the second part says whether a read returned poison (R364 to R366, R369). -/
def State.churnWrite (c : ChurnCmd) (clips : List (Nat × Nat × Nat × Nat)) (n : Nat) (s : State) : State × Bool × Bool :=
  let (j, i0, k) := c.seg n
  let px := (List.range k).map fun i =>
    let sa := c.srcAddr (i0 + i) j
    let da := c.dstAddr (i0 + i) j
    let bad := (c.hasSrc && s.poisoned sa c.sbpp) || (c.isBlend && s.poisoned da c.dbpp)
    let v := c.pixel (ofLe (if c.hasSrc then s.devRead sa c.sbpp else [])) (ofLe (if c.isBlend then s.devRead da c.dbpp else []))
    (bad, if bad || !clipPass clips c.mask (c.dx + i0 + i) (c.dy + j) then none else some (le c.dbpp v))
  let runs := pixelRuns c.dbpp (c.dstAddr i0 j) (px.map (·.2))
  (runs.foldl (fun t (a, b) => t.devWrite a b) s, px.any (·.1), !runs.isEmpty)

/-- One segment of the command in progress (R366 to R369). A NOP is one segment that does nothing. -/
def State.churnSegment (r : ChurnRun) (s : State) : State :=
  let b := s.devRead (r.list + 192 + 64 * r.index) 64
  let c := ChurnCmd.parse b
  match (if r.seg == 0 then s.churnCmdBad r b else none) with
  | some (st, reason) => s.modRun fun r => { r with failed := some (st, reason, r.index) }
  | none =>
    if c.op == 0 then s.modRun fun r => { r with index := r.index + 1, seg := 0, wrote := false }
    else
      let hz := r.seg == 0 && !r.waiting && c.hazard r.clips
      let s := s.when hz fun s =>
        let s := s.modChq r.q fun q => { q with hazards := q.hazards + 1 }
        (s.when (!r.hazardPosted) (·.post 0xD80 1 (le 1 r.q ++ [0, 0, 0] ++ le 4 r.k.toNat ++ le 4 r.index))).modRun fun r =>
          { r with hazardIndex := some (r.hazardIndex.getD r.index), hazardPosted := true }
      if (c.writes r.clips r.seg).any fun (a, n) => s.held a n then s.modRun fun r => { r with waiting := true, leaseWaited := true }
      else
        let (s, poison, wrote) := s.churnWrite c r.clips r.seg
        s.modRun fun r =>
          let r := { r with waiting := false, poison := r.poison || poison }
          if r.seg + 1 == c.segs * c.h then { r with index := r.index + 1, seg := 0, wrote := false }
          else { r with seg := r.seg + 1, wrote := r.wrote || wrote }

def ChurnRun.live (r : ChurnRun) : Bool := r.failed.isNone && r.aborted.isNone && r.index < r.count

def execChurnSegment (s : State) : Result :=
  done (match s.churn.run with
    | some r => s.when (s.domOn domCH && r.live && !r.waiting) (·.churnSegment r)
    | none => s)

/-- The waiting segment is checked again and proceeds once nothing it writes is held (R368). -/
def execChurnLeaseWaitEnd (s : State) : Result :=
  done (match s.churn.run with
    | some r => s.when (s.domOn domCH && r.live && r.waiting) (·.churnSegment r)
    | none => s)

/-- An abort takes effect (R371): on the running list of q, else on q's oldest outstanding entry. -/
def execChurnAbortEffect (q : Nat) (s : State) : Result :=
  done (s.when ((s.chq q).abort) fun s =>
    match s.runOf q with
    | some r => (s.modChurn fun c => { c with run := some { r with aborted := some (r.aborted.getD stOk), waiting := false } })
    | none =>
      let c := s.chq q
      let s := s.modChq q fun c => { c with abort := false }
      if c.outstanding == 0 then s.modChq q fun c => { c with abortNoop := true }
      else
        let a := c.base + 32 * (c.completed.toNat % c.entries)
        s.churnComplete q a stOk 2 0 0 0 none (BitVec.ofNat 32 (u32At (s.devRead a 32) 12)) true)

/-- A list ends: failed, aborted, or every command executed (R370); a drained CH then switches off (R372). -/
def execChurnListEnd (s : State) : Result :=
  done (match s.churn.run with
    | some r => s.when (s.domOn domCH && !r.live) fun s =>
        let s := s.churnEnd r
        s.when (s.churn.drainUntil.isSome) fun s => (s.modChurn fun c => { c with drainUntil := none }).reqDomain domCH false 2
    | none => s)

/-- The 100 ms of SVC.DRAIN of CH are over: the list is aborted and CH switched off (R372). -/
def execChurnDrainLimit (s : State) : Result :=
  done (match s.churn.drainUntil with
    | some t => (((s.timeTo t).churnStop stWrongMode).modChurn fun c => { c with drainUntil := none }).reqDomain domCH false 2
    | none => s)

/-- A memory remap (R373): queues with their ring in DRAM are reset; a list of another queue that touches DRAM fails. -/
def State.churnRemap (top : Nat) (s : State) : State :=
  let inD (a : Nat) := a < top
  let s := match s.churn.run with
    | none => s
    | some r =>
      if inD (s.chq r.q).base then s.modChurn fun c => { c with run := none }
      else
        let touches := inD r.list || (List.range (r.count - r.index)).any fun i =>
          let c := ChurnCmd.parse (s.devRead (r.list + 192 + 64 * (r.index + i)) 64)
          c.op != 0 && (inD c.dst || (c.hasSrc && inD c.src))
        if touches then s.churnStop stFaulted else s
  (List.range 8).foldl (fun t q =>
    let c := t.chq q
    if c.entries != 0 && inD c.base then
      (t.modChq q fun c => { c with completed := c.producer, base := 0, entries := 0, priority := 0, remapReset := true, abort := false }).ownerVector (8 + q)
    else t) s

end Sys2Proof.Machine
end

