-- ==== Sys2Proof/Machine/Mode.lean ====
section
/-! DEFINITION. Operating modes: MODE commands, the prerequisites of FIELD, SAFE_STOP_N, the entry to DORMANT and what a
latch point decides (spec/01, R22 to R29; spec/02, R54 and R55). -/

namespace Sys2Proof.Machine

/-! ### Changing the mode (R19, R22, R80) -/

/-- SAFE_STOP_N low or FORCE_SAFE_VIEW (R28, R80). -/
def State.stopActive (s : State) : Bool := !s.pins.safeStopN || s.own.forceSafeView

/-- Clusters that FIELD brings into service: present, not retired and not under service. -/
def State.fieldClusters (s : State) : List Nat := (List.range 17).filter fun c => s.hasCluster c && !(s.cluster c).retired && (s.dom c).service == 0

/-- A later entry to FIELD switches the clusters on (R19, R49), and the domains of retired ones, whose slices stay in service
(R232). -/
def State.fieldDomains (s : State) : State :=
  ((List.range 17).filter fun c => s.hasCluster c && (s.dom c).service == 0).foldl (fun t c => t.reqDomain c true 0) s

/-- What ends with MAINTENANCE: SAFE's release (R80), calibration holds (spec/04), test patterns (R322) and the memory test (R353). -/
def State.endMaintenance (s : State) : State :=
  (((s.modOwn fun o => { o with hwRelease := false }).endCalHolds).endPatterns).endMemTests stOk

/-- Entry to SAFE-VIEW from a mode that used more: CH and every cluster domain but the two of SAFE-VIEW and the spare go
off (R19, R372). -/
def State.leaveField (s : State) : State :=
  let s := (s.churnStop stWrongMode).reqDomain domCH false 0
  (List.range 17).foldl (fun t c => if t.ray.safeDomains.contains c || t.ray.spare == some c then t else t.reqDomain c false 0) s

/-- A transition with EV_MODE_CHANGED (R22); `frame` is the frame it belongs to. -/
def State.changeMode (new : Mode) (cause : Nat) (frame : W32) (s : State) : State :=
  let old := s.mode.mode
  let s := s.modMode fun m => { m with mode := new, lastCause := cause, lastFrame := frame, fieldIn := none }
  let s := s.when (old == .maintenance) State.endMaintenance
  let s := s.when (new == .safeView && (old == .field || old == .degraded || old == .maintenance)) State.leaveField
  let s := s.when ((new == .field || new == .maintenance) && old == .safeView) (·.reqDomain domCH true 0)
  s.post 0x280 1 (le 1 old.code ++ le 1 new.code ++ le 1 cause ++ [0] ++ le 4 frame.toNat)

/-- The entry to DORMANT (R54, Table 2.9): panel discharged, placard stopped, NVM records and log committed, every domain
and enable off. A wake event held meanwhile acts at its end (R55). -/
def State.enterDormant (s : State) : State :=
  let s := (s.changeMode .dormant 0x09 s.disp.frame).settle
  let s := (((s.displayPinsFall 0).panelDown 0).placardCut 20000000).commitPending
  let s := ((s.writeLogs s.nvm.logQueue.length).allOff 0).enablesLow 40000000
  let s := (s.modPwr fun p => { p with phase := .dormant }).modMode fun m => { m with thenDormant := false, ownerReq := none }
  match s.pwr.wakeHeld with
  | some (t, split) => (s.modPwr fun p => { p with wakeHeld := none }).wakeFrom t split
  | none => s

/-! ### Prerequisites of FIELD (R23) -/

/-- A panel configuration is in force and meets R4. -/
def State.panelMeets (s : State) : Bool := match s.disp.panel with
  | some p => s.panelOk p (framePeriodRaw p s.disp.timing s.disp.timing.lineNs)
  | none => false

/-- Prerequisite 1 memory, 2 map, 3 cluster, 4 panel holds. The clusters are switched on and self-tested before the
transition (R19). -/
def State.prereqMet (s : State) : Nat → Bool
  | 1 => s.memRemaining != 0
  | 2 => s.mapValid
  | 3 => s.fieldClusters.all (fun c => s.domOn c && (s.cluster c).passed.isSome) && s.fieldClusters.any fun c => (s.cluster c).passed == some true
  | _ => s.panelMeets

/-- A prerequisite that is unmet and has failed; a map never has. -/
def State.prereqFailed (s : State) : Nat → Bool
  | 1 => s.memRemaining == 0 && (s.mem.badRecord || !s.mem.cfg.ok ||
      (List.range 12).all fun n => !(s.mem.cfg.channelMask.getLsbD n && s.hasChannel n) || (s.chan n).state == 5)
  | 2 => false
  | 3 => (List.range 17).all fun c => !s.hasCluster c || (s.cluster c).retired || (s.cluster c).passed == some false
  | _ => !s.panelMeets

/-- The first unmet prerequisite in R23's order. -/
def State.unmet (s : State) : Option Nat := [1, 2, 3, 4].find? fun k => !s.prereqMet k
/-- The first failed prerequisite in R23's order. -/
def State.failedPrereq (s : State) : Option Nat := [1, 2, 3, 4].find? s.prereqFailed

/-- A MODE.SET to FIELD is pending. Once Taproot has stopped, its effect is cancelled (R89). -/
def State.fieldAsked (s : State) : Bool := s.taprootUp && s.opOn 0x201 fun a => byteAt a 0 == 3
/-- FIELD is wanted: by a pending request, or by the boot target. -/
def State.fieldWanted (s : State) : Bool := s.fieldAsked || s.mode.bootField

/-- The last prerequisite is met: the transition takes effect at the second latch point after it. -/
def execFieldPrerequisitesMet (s : State) : Result :=
  done (s.when (s.mode.mode == .safeView && s.fieldWanted && s.mode.fieldIn.isNone && s.unmet.isNone)
    (·.modMode fun m => { m with fieldIn := some 2 }))

/-! ### SAFE_STOP_N (R28, R29) -/

/-- SAFE_STOP_N falls: SAFE-VIEW at the next latch point, whatever Taproot does; a pending request to FIELD is overtaken. -/
def execSafeStopNLow (s : State) : Result :=
  let fell := s.pins.safeStopN
  let s := s.modPins fun p => { p with safeStopN := false }
  done (s.when fell fun s => (s.safeTrig 0x02).overtakeField)

def execSafeStopNHigh (s : State) : Result := done (s.modPins fun p => { p with safeStopN := true })

/-! ### MODE commands -/

def execModeQuery (m : Master) (s : State) : Result :=
  done (runCmd { code := 0x0200, cls := 0 } noUnit noPre (fun _ s =>
    (s, .ok (le 1 s.mode.mode.code ++ le 1 s.mode.bootTarget ++ le 1 s.mode.lastCause ++ le 1 (min 255 (s.mode.reductions.length + s.mode.detected.length))
      ++ le 4 s.mode.lastFrame.toNat))) m s)

def execModeBootTarget (m : Master) (s : State) : Result :=
  done (runCmd { code := 0x0202, cls := 1, len := 1, args := [{ off := 0, lo := 2, hi := 3 }] } noUnit noPre (fun c s =>
    ((s.modMode fun x => { x with bootTarget := c.u8 0 }).deferRecord 1 (pad 16 (le 1 (c.u8 0))), .ok [])) m s)

/-- The mode a MODE.SET names. -/
def modeOf : Nat → Option Mode
  | 0 => some .dormant
  | 2 => some .safeView
  | 3 => some .field
  | 5 => some .maintenance
  | _ => none

/-- MODE.SET (R24, R29, R98): what it answers and what it leaves for a latch point. A SAFE_VIEW made while a DORMANT waits for its
frame of SAFE-VIEW does not cancel it (DESIGN CHOICE, log 50). -/
def State.modeSet (want : Mode) (s : State) : State × Reply :=
  let cur := s.mode.mode
  let asked := s.opOn 0x201
  if (want == .field || want == .maintenance) && s.stopActive then (s, .fail stWrongMode)
  else if want == .maintenance && cur != .safeView && cur != .maintenance then (s, .fail stWrongMode)
  else if want == .field && cur == .maintenance then (s, .fail stWrongMode)
  else if want == .dormant && cur == .boot then (s, .fail stWrongMode)
  else if asked && want != .safeView then (s, .fail stBusy)
  else
    -- R294: a panel given up is tried again
    let s := s.modPnl fun x => if x.gaveUp then { x with gaveUp := false, faults := [], retryAt := none } else x
    let s := s.when asked fun s => (s.completeAll 0x201 stWrongMode (le 1 cur.code)).modMode fun m => { m with fieldIn := none }
    if want == cur || (want == .field && cur == .degraded) then (s, .ok [])
    else match want with
      | .dormant =>
        if cur == .safeView then (s.modMode fun m => { m with ownerReq := some .dormant }, .ok [])
        else (s.modMode fun m => { m with ownerReq := some .safeView, thenDormant := true }, .ok [])
      | .field =>
        let s := s.when (cur == .safeView) fun s =>
          let s := s.fieldDomains
          s.when s.unmet.isNone (·.modMode fun m => { m with fieldIn := some 2 })
        (s, .pend (ms 5000) 0)
      | .safeView => if cur == .boot then (s, .pend (ms 5000) 0) else (s.modMode fun m => { m with ownerReq := some .safeView }, .ok [])
      | _ => (s.modMode fun m => { m with ownerReq := some .maintenance }, .ok [])

/-- MODE.SET; to DORMANT from SAFE-VIEW the entry follows the ST_OK at once (R54, R96). -/
def execModeSet (m : Master) (s : State) : Result :=
  let t := runCmd { code := 0x0201, cls := 1, len := 1, args := [{ off := 0 }] } noUnit
    (fun c _ => if (modeOf (c.u8 0)).isSome then none else some (0, 0))
    (fun c s => s.modeSet ((modeOf (c.u8 0)).getD .safeView)) m s
  done (t.when (t.mode.ownerReq == some .dormant && s.mode.ownerReq != some .dormant) State.enterDormant)

/-! ### What a latch point decides (R22, R25 to R29) -/

/-- What Table 1.5 asks for before SAFE-VIEW: a verified image runs, Sapline is trained, the Heartwood region is loaded. -/
def State.bootReady (s : State) : Bool := s.tp.state == .running && s.disp.running && s.hw.copies.any (·.usable)

/-- BOOT ends: a pending MODE.SET(SAFE_VIEW) keeps the device there for this boot (R24), else the boot target decides. -/
def State.bootLatch (s : State) : State :=
  if !s.bootReady then s
  else
    let stay := s.opOn 0x201 fun a => byteAt a 0 == 2
    let s := s.changeMode .safeView 0x05 s.nextFrame
    let s := s.modMode fun m => { m with safeTrigger := none, bootField := !stay && m.bootTarget == 3 && !s.hk.safeBoot && !s.stopActive }
    let s := s.when stay (·.completeAll 0x201 stOk (le 1 2))
    s.when s.fieldWanted State.fieldDomains

/-- The request to FIELD at a latch point: failed, still waiting, counting, or entered (R23). -/
def State.fieldLatch (s : State) : State :=
  if !(s.mode.mode == .safeView && s.fieldWanted) then s
  else match s.failedPrereq with
  | some k => (s.completeAll 0x201 stFaulted (le 1 2 ++ le 1 k)).modMode fun m => { m with fieldIn := none, bootField := false }
  | none =>
    if s.unmet.isSome then s.modMode fun m => { m with fieldIn := none }
    else match s.mode.fieldIn with
    | none => s.modMode fun m => { m with fieldIn := some 1 }
    | some n =>
      if 1 < n then s.modMode fun m => { m with fieldIn := some (n - 1) }
      else
        let s := s.changeMode .field (if s.fieldAsked then 0x01 else 0x05) s.nextFrame
        (s.completeAll 0x201 stOk (le 1 3)).modMode fun m => { m with bootField := false }

/-- The owner's request waiting for the latch point (R24), else the request to FIELD. -/
def State.ownerLatch (s : State) : State :=
  match s.mode.ownerReq with
  | none => s.fieldLatch
  | some r =>
    let s := s.modMode fun m => { m with ownerReq := none }
    if r == s.mode.mode then s
    else if r == .safeView || (r == .maintenance && s.mode.mode == .safeView && !s.stopActive) then s.changeMode r 0x01 s.nextFrame
    else s

/-- Reductions in force, those detected since the latch point included. -/
def State.allReductions (s : State) : List Reduction := s.mode.reductions ++ s.mode.detected

/-- The cause detected first; of several of one cycle the lowest code (R25). -/
def firstCause (l : List Reduction) : Nat :=
  (l.foldl (fun (b : Option Reduction) r => match b with
    | some x => if r.at_ < x.at_ || (r.at_ == x.at_ && r.cause < x.cause) then some r else some x
    | none => some r) none).elim 0 (·.cause)

/-- The reductions detected are in force and reported, one event each (R25). -/
def State.reportReductions (s : State) : State :=
  let new := s.mode.detected
  let s := s.modMode fun m => { m with reductions := m.reductions ++ m.detected, detected := [] }
  (new.filter degrades).foldl (fun t r => t.post 0x281 2 (le 1 r.cause ++ le 1 (min 255 t.mode.reductions.length) ++ le 2 r.unit ++ le 4 t.nextFrame.toNat)) s

/-- FIELD and DEGRADED-FIELD at a latch point: reductions before the owner's request (Table 1.6), and the return of R26. -/
def State.reductionLatch (s : State) : State :=
  let active := s.allReductions.filter degrades
  if s.mode.mode == .field then
    if active.isEmpty then s.ownerLatch
    else
      let fresh := s.mode.detected.filter degrades
      (s.changeMode .degraded (firstCause (if fresh.isEmpty then active else fresh)) s.nextFrame).reportReductions
  else if !(s.mode.detected.filter degrades).isEmpty then s.reportReductions
  else if active.isEmpty && s.mode.ownerReq.isNone then s.changeMode .field 0x08 s.nextFrame
  else s.ownerLatch

/-- The mode that the next latch point puts in force (Table 1.5, Table 1.6). -/
def State.modeLatch (s : State) : State :=
  let stop : Option Nat :=
    if !s.pins.safeStopN then some 0x02 else if s.own.forceSafeView then some 0x03
    else match s.mode.safeTrigger with
      | some 0x02 => some 0x02
      | some 0x03 => some 0x03
      | _ => none
  let lapsed := s.mode.safeTrigger == some 0x06
  let light := s.mode.lightLost
  let s := s.modMode fun m => { m with safeTrigger := none, lightLost := false }
  match s.mode.mode with
  | .dormant => s
  | .boot => s.bootLatch
  | .safeView => if stop.isSome then s.overtakeField else s.ownerLatch
  | m =>
    match stop with
    | some c => s.overtakeField.changeMode .safeView c s.nextFrame
    | none =>
      if light then s.overtakeField.changeMode .safeView 0x04 s.nextFrame
      else if m == .maintenance then (if lapsed then s.overtakeField.changeMode .safeView 0x06 s.nextFrame else s.ownerLatch)
      else s.reductionLatch

end Sys2Proof.Machine
end

