-- ==== Sys2Proof/Machine/Latch.lean ====
section
/-! DEFINITION. The latch point and the retire fence (spec/01, R18, R22, R35, R36; spec/08, R205; spec/10, R251 to R257;
spec/11, R270, R271, R276, R277; spec/13, R354 to R356; spec/16, R405). -/

namespace Sys2Proof.Machine

/-! ### Where the latch point lies (R270) -/

/-- The beam moves on to the latch point of the vertical blanking: two slots after it starts. Lines of slots left out are
neither sent nor slipped (log 40). -/
def State.toLatch (s : State) : State :=
  let t := s.disp.timing
  let last (s : State) : Bool := s.disp.blanking && s.disp.subframe + 1 == s.subframes
  let s := if last s && s.disp.latched then
      ((s.timeTo (s.slotStart (s.disp.slotNo + t.vtMin - s.disp.slot))).modDisp fun d => { d with slotNo := d.slotNo + t.vtMin - d.slot }).startFrame
    else s
  let n := if last s then s.disp.slotNo + 2 - s.disp.slot else s.frameSlots + s.disp.ext - t.vtMin + 2
  let s := if last s then s else s.startVertical
  let s := s.timeTo (s.slotStart n)
  let s := if s.pins.frameOut then (s.modPins fun p => { p with frameOut := false }).emit (.pin .frameOut false 0) else s
  s.modDisp fun d => { d with slotNo := n, slot := 2, subframe := s.subframes - 1, blanking := true, extending := false }

/-! ### Memory remap (R354 to R356) -/

/-- A layer whose buffer lies in DRAM, by the newest commit, which this latch point brings into force (R251, R256). -/
def State.layerInDram (s : State) (top l : Nat) : Bool :=
  (s.layers.accepted.getLast? <|> s.layers.force).any fun c => (c.block l).isFlat && (c.block l).buffer < top

/-- Camera chains restart with the next frame: what they held in DRAM is lost (R355). -/
def State.restartChains (top : Nat) (s : State) : State :=
  let s := s.modIsp fun x => { x with
    pipes := x.pipes.map fun p => { p with cur := none, mem := none, order := [] },
    ports := x.ports.map fun p => { p with bufs := [], ready := none, statsDue := none } }
  s.modDepth fun x => { x with
    units := x.units.map fun u => { u with cur := none, prev := none, done := none, rows := 0, codes := [], conf := [] },
    layers := x.layers.map fun l => if l.cfg.pool < top then { l with cur := none, stalled := false, posted := none, inForce := none, half := 0 } else l }

/-- Channels leave and join the interleave; every DRAM address is placed anew (R354 step 2, R355, R356). -/
def State.remap (s : State) : State :=
  let out := (List.range 12).filter fun n => (s.chan n).removing
  let inn := (List.range 12).filter fun n => (s.chan n).joining
  if out.isEmpty && inn.isEmpty then s
  else
    let top := s.dramTop
    let s := s.churnRemap top
    let lost := s.ctl.pendingOps.filter fun o => s.ctl.bulkHolds.any fun h => h.master == o.master && h.id == o.id && h.base < top
    let s := lost.foldl (fun t o => t.complete o stFaulted []) s
    let s := s.modLeases fun x => { x with holds := x.holds.filter (top ≤ ·.base), ending := x.ending.filter (top ≤ ·.base) }
    let s := s.modLayers fun x => { x with hidden := x.hidden ||| BitVec.ofNat 8 (maskOf 8 (s.layerInDram top)), capWaiting := false }
    let s := s.modCellar fun c => { c with tiles := c.tiles.filter fun t => match t.key with
      | .record e => (s.recordAddr (BitVec.ofNat 32 e)).elim false (top ≤ ·)
      | .slot a => top ≤ a
      | .flat .. => false }
    let s := ((s.clearScenes).restartChains top).modAud fun a => { a with ringStale := true }
    let map := inn.foldl (fun m n => insertNat n m) (s.mem.map.filter fun n => !out.contains n)
    let s := s.modMem fun m => { m with map := map, generation := m.generation + 1, realloc := true }
    let s := out.foldl (fun t n =>
      let t := (t.modChan n fun c => { c with removing := false, inMap := false }).chanState n 5
      let t := (t.setUnit (domMC n) fun u => { u with faulted := true, state := 7, flowing := false }).reqDomain (domMC n) false 3
      let t := t.modMem fun m => { m with dram := memClear m.dram (n * 2 ^ 30) ((n + 1) * 2 ^ 30) }
      let ops := t.ctl.pendingOps.filter fun o => o.code == 0x1501 && u16At o.args 0 == domMC n
      ops.foldl (fun u o => (u.modDom (domMC n) fun d => { d with service := 1 }).complete o stOk []) t) s
    inn.foldl (fun t n =>
      let t := (t.modChan n fun c => { c with joining := false, inMap := true, poisonList := [] }).chanState n 3
      let t := (t.modDom (domMC n) fun d => { d with service := 0 }).setUnit (domMC n) fun u => { u with faulted := false, cause := 0, state := 4, flowing := true }
      let t := t.detect 0x11 (domMC n)
      let ops := t.ctl.pendingOps.filter fun o => o.code == 0x1504 && u16At o.args 0 == domMC n
      ops.foldl (fun u o => u.complete o stOk (le 4 u.nextFrame.toNat)) t) s

/-! ### Power governor (R35, R36) -/

/-- Camera 3D layers in use, in ascending order. -/
def State.cameraLayers (s : State) : List Nat := (List.range 4).filter fun l => (s.slicer l).enabled

/-- The next reduction of Table 1.12, none when every stage is exhausted. -/
def State.govApply (s : State) : Option Gov :=
  let g := s.gov
  if 30 < s.govHz.getD s.configuredHz then some { g with rateSteps := g.rateSteps + 1 }
  else if g.planeSteps < 2 then some { g with planeSteps := g.planeSteps + 1 }
  else ((s.cameraLayers.filter fun l => !g.flatLayers.getLsbD l).getLast?).map fun l => { g with flatLayers := g.flatLayers ||| BitVec.ofNat 8 (2 ^ l) }

/-- The last reduction taken back, in reverse order: stage 3, stage 2, stage 1. -/
def State.govRelease (s : State) : Option Gov :=
  let g := s.gov
  match (List.range 4).find? g.flatLayers.getLsbD with
  | some l => some { g with flatLayers := g.flatLayers &&& ~~~(BitVec.ofNat 8 (2 ^ l)) }
  | none =>
    if g.planeSteps != 0 then some { g with planeSteps := g.planeSteps - 1 }
    else if g.rateSteps != 0 then some { g with rateSteps := g.rateSteps - 1 } else none

def State.govEvent (applied : Bool) (s : State) : State :=
  s.post 0x383 1 (le 1 s.govStage ++ [if applied then 1 else 0] ++ le 2 s.powerLimit ++ le 2 s.gov.measured)

/-- The governor at a latch point: the next stage where the limit was exceeded, the clock cap removed; or one step released
after 2 s below 85 % of the limit. -/
def State.latchGovernor (s : State) : State :=
  if s.gov.exceeded then
    let next := s.govApply
    let s := s.modGov fun g => { next.getD g with exceeded := false, cap := false, capSteps := 0, belowSince := none }
    s.when next.isSome fun s => (s.detect (if s.thermalLimit < s.gov.ownerLimit then 0x15 else 0x14) 0xFFFF).govEvent true
  else match s.gov.belowSince with
  | none => s
  | some t =>
    if s.time < t + 2 * 10 ^ 9 then s
    else match s.govRelease with
    | none => s
    | some g =>
      let s := (s.modGov fun _ => { g with belowSince := some s.time }).govEvent false
      s.when (s.govStage == 0) fun s => (s.clearCause 0x14 0xFFFF).clearCause 0x15 0xFFFF

/-! ### Timing and panel (R276, R277, R289) -/

/-- The timing and panel waiting come into force, and LINE_NS follows the lanes and the governor; where the slot length or
the blanking changes, the schedule counts from this latch point. A TIMING_SET that waited for it completes. -/
def State.latchTiming (s : State) : State :=
  let old := s.disp.timing
  let oldPanel := s.disp.panel
  let period := s.framePeriod0
  let asked := s.disp.timingNext.isSome
  let s := s.modDisp fun d => { d with
    panel := d.panelNext <|> d.panel, panelNext := none, timing := d.timingNext.getD d.timing, timingNext := none,
    configuredLineNs := match d.timingNext with | some t => t.lineNs | none => d.configuredLineNs }
  let s := s.modDisp fun d => { d with timing := { d.timing with lineNs := s.effectiveLine } }
  let s := if s.disp.timing == old && s.disp.panel == oldPanel then s
    else s.modDisp fun d => { d with frameStart := s.time, slotNo := 0, slot := 2, subframe := s.subframes - 1, ext := 0 }
  let s := s.when (s.disp.panel != oldPanel) State.hwPanelChanged
  let s := s.when (s.disp.configuredLineNs == 0 || s.tMin ≤ s.disp.configuredLineNs) State.clearRestripe
  let s := s.when asked (·.completeAll 0x0A02 stOk (le 4 s.nextFrame.toNat))
  s.when (s.framePeriod0 != period) State.refitAll

/-! ### Camera slices (R18, R180, R254) -/

/-- The commit of frame f of camera 3D layer l has missed this latch point (R18): its port follows ticks, the tick of frame
f was one of the port's, and no commit of that frame has come. With SL off or faulted there is none to come (R184). -/
def State.cameraLate (s : State) (l : Nat) : Bool :=
  let x := s.slicer l
  let p := s.camPort x.cfg.port
  let fl := s.camFlow x.cfg.port
  let f := s.disp.frame
  x.enabled && s.domOn domSL && !(s.unit domSL).faulted && p.cfg.fsyncEn && p.state == 5 && !fl.noSignal && s.disp.timing.mode != 1 && f.toNat % p.effDiv == 0 && s.cam.ticked
    && fl.lastTick.any (fun t => (t - f).toNat < 2 ^ 31)
    && (x.posted <|> x.inForce).all fun c => c.seq != f && 2 ^ 31 ≤ (c.seq - f).toNat

/-- Late commits are counted per camera and reported (R18, R182). -/
def State.countLate (s : State) : State :=
  (List.range 4).foldl (fun t l =>
    if !t.cameraLate l then t
    else
      let p := (t.slicer l).cfg.port
      (t.modCam fun c => { c with lateSlices := c.lateSlices.modify p satInc }).perFrame 0x484 l (le 1 l ++ le 1 p ++ [0, 0] ++ le 4 t.disp.frame.toNat)) s

/-- Automatic commits posted since the last latch point come into force (R180). -/
def State.latchSlices (s : State) : State :=
  (List.range 4).foldl (fun t l => match (t.slicer l).posted with
    | none => t
    | some c => t.modSlicer l fun x => { x with posted := none, inForce := some c }) s

/-- A layer holds what it showed of the half at `base` (R254). -/
def State.holdsHalf (s : State) (base : Nat) : Bool :=
  (List.range 8).any fun l => s.layers.states.getD l 0 == 2 && (s.ray.layerPlanes.getD l []).any fun p => match p.src with
    | .slice half _ => half == base
    | _ => false

/-- A half that is no longer in force, and that no layer holds, ends its hold at the next fence (R205, R254). -/
def State.releaseHalves (s : State) : State :=
  s.modLeases fun x =>
    let old (h : Hold) : Bool := h.kind == 1 && ((s.slicer h.no).inForce.all fun c => c.base != h.base) && !s.holdsHalf h.base
    { x with holds := x.holds.filter fun h => !old h, ending := x.ending ++ x.holds.filter old }

/-! ### States of the layers (R116, R184, R254 to R257) -/

/-- The block of layer l in the commit in force. -/
def State.forceBlock (s : State) (l : Nat) : Block := (s.layers.force.map (·.block l)).getD []

/-- Layer l is not ready for the frame (R254): a late commit of an earlier frame that applies now does not make it ready (R18). -/
def State.notReady (s : State) (l : Nat) : Bool :=
  let b := s.forceBlock l
  let x := s.slicer b.source
  (b.gating && s.layers.gateMissed.getLsbD l)
    || (b.type == 3 && (s.cameraLate b.source || (s.camFlow x.cfg.port).notReady))

/-- STATE of layer l for the frame that begins (Table 10.8). -/
def State.layerState (s : State) (l : Nat) : Nat :=
  let b := s.forceBlock l
  let x := s.slicer b.source
  if b.type == 0 then 0
  else if !s.inField && !(4 ≤ l && b.type == 2 && b.inWindow) then 4
  else if s.layers.hidden.getLsbD l then 3
  else if b.type == 3 && (s.camFlow x.cfg.port).noSignal then 5
  else if s.notReady l then (if b.hide then 3 else 2)
  else if b.type == 3 && (!s.domOn domSL || (s.unit domSL).faulted || (x.inForce.any fun c => bit (s.devByte (c.base + 17)).toNat 0)) then 6
  else 1

/-- UNIT_STATUS of a layer by its state. -/
def layerUnitState : Nat → Nat × Bool
  | 0 => (0, false)
  | 1 => (4, false)
  | 2 => (4, true)
  | 3 | 4 => (3, false)
  | _ => (4, true)

/-- The state of every layer, what it shows, and EV_LAYER_NOT_READY of each that follows its policy. -/
def State.latchLayers (s : State) : State :=
  (List.range 8).foldl (fun t l =>
    let st := t.layerState l
    let t := t.setUnit (unitLayer l) fun u => { u with state := (layerUnitState st).1, flowing := (layerUnitState st).1 == 4, reduced := (layerUnitState st).2 }
    let t := t.when ((st == 2 || st == 3) && t.notReady l)
      (·.perFrame 0x980 l (le 1 l ++ [if (t.forceBlock l).hide then 1 else 0] ++ [0, 0] ++ le 4 t.disp.frame.toNat))
    let content : Shown := match t.layers.force with
      | some c => { block := c.block l, palette := if 4 ≤ l then (c.snap.filter fun x => paletteAddr l ≤ x.1 && x.1 < paletteAddr l + 2048).map fun x => (x.1 - paletteAddr l, x.2) else [], coef := c.coef.getD l ([], []) }
      | none => {}
    t.modLayers fun x => { x with
      states := x.states.set l st,
      shown := if st == 2 then x.shown else x.shown.set l (if st == 0 || st == 3 then {} else content) }) s

/-- No-signal substitutes are held while they are shown (R116), as far as ranges are left (R204). -/
def State.holdSubstitutes (s : State) : State :=
  let want : List Hold := (List.range 8).filterMap fun l =>
    let b := s.forceBlock l
    let p := (s.slicer b.source).cfg.port
    let a := (s.camPort p).cfg.noSignal
    if s.layers.states.getD l 0 == 5 && a != 0 then some { kind := 2, no := p, base := a, len := 4 * b.w * b.h, layer := l } else none
  s.modLeases fun x =>
    let old := x.holds.filter fun h => h.kind == 2 && !want.contains h
    let others := x.holds.filter fun h => h.kind != 2
    { x with holds := others ++ want.take (512 - others.length - x.ending.length - old.length), ending := x.ending ++ old }

/-! ### Audio delays (R405) -/

/-- t_mid of frame q of port p, in ns. -/
def State.frameMid (s : State) (p : Nat) (q : W32) : Int :=
  let prof := (s.profileOf p).getD []
  let tick : Int :=
    if (s.camPort p).cfg.fsyncEn then (s.cam.tickAt : Int) - (s.cam.tick - q).toInt * s.framePeriod0
    else (((s.ispPort p).bufs.find? (·.seq == q)).elim s.time (·.time) : Nat)
  let exposure := ((s.ispPort p).stats.find? (·.seq == q)).elim 0 (·.sent.exposure)
  tick + us (u16At prof 24) + us exposure / 2 + us (u16At prof 26) / 2

/-- t_glass of the frame that begins, in ns. -/
def State.glassTime (s : State) : Int :=
  let t := s.disp.timing
  (s.slotStart (s.disp.slotNo + t.vtMin - 2) + t.lineNs * (t.activeLines + (s.subframes - 1) * (t.activeLines + t.vtMin)) / 512 : Nat)

/-- D_i is computed anew where a new frame of its port is shown, and falls to TRIM_i where its port feeds no shown layer. -/
def State.latchDelays (news : List Nat) (s : State) : State :=
  let shows (states : List Nat) (l : Nat) : Bool := (List.range 8).any fun k => (s.forceBlock k).type == 3 && (s.forceBlock k).source == l && states.contains (s.layers.states.getD k 0)
  (List.range 8).foldl (fun t i =>
    let x := t.aIn i
    if 32 ≤ x.source then t
    else
      let p := x.source / 2
      let feeds := (t.layersOf p).filter (shows [1, 2, 6])
      if feeds.isEmpty then (if x.fed then t.modAIn i fun x => ({ x with fed := false }).setDelay else t)
      else match feeds.find? fun l => news.contains l && shows [1, 6] l with
      | none => t
      | some l =>
        let q := ((t.slicer l).inForce.map (·.seq)).getD 0
        let lat := us (u16At ((t.profileOf p).getD []) 32)
        t.modAIn i fun x => ({ x with fed := true, base := t.glassTime - t.frameMid p q - lat - 250000 }).setDelay) s

/-! ### The latch point -/

/-- Everything that takes effect at a latch point that is taken; frame f begins (R22, R251, R271). The panel and the map are in
force before the mode is decided, so that FIELD begins, and lasts, only with a map that matches the panel (R23, R27). -/
def State.latchTaken (s : State) : State :=
  let s := s.remap.spareSlices.latchCopies.latchWindow.replaceClusters.setCellar.latchGovernor.rejoinLanes.latchTiming.applyMap
  let s := (s.when (s.inField && !s.mapValid) State.loseLight).modeLatch
  let s := (s.modDisp fun d => { d with frame := s.nextFrame, first := false, latched := true }).applyLimits
  let s := (s.when (!s.inField) (·.modScene fun x => { x with prevPlanes := none })).applyCommits.applyScenes
  let s := s.modLayers fun x => match x.captureNext with
    | some c => { x with capture := c, captureNext := none, capBuf := 0 }
    | none => x
  let s := s.latchHw.countLate
  let news := (List.range 4).filter fun l => (s.slicer l).posted.isSome
  let s := (s.latchSlices.latchLayers.releaseHalves.holdSubstitutes).modLayers fun x => { x with supplied := 0, gateMissed := 0 }
  let held := s.scan.hold.isSome
  let s := s.endHold.modDisp fun d => { d with
    unconfirmed := if held then s.allSubframes else d.unconfirmed, fullNext := d.fullNext || d.fullAfter || held, fullAfter := false }
  let s := s.latchRay.hwUnit.latchLock
  let s := s.modCam fun c => { c with lockOffset := s.lockOffsetNow }
  let s := s.latchDelays news
  let s := s.modPnl fun x => { x with mirror := some (s.layers.force, s.disp.timing, s.disp.frame, s.disp.panel, s.layers.capture) }
  s.modClk fun c => { c with pnlBackup := c.pnlBackup && c.lost.getD 2 false }

/-- A lane-rate change waits for this latch point and the link runs (R277). -/
def State.relinkDue (s : State) : Bool := s.disp.running && s.disp.timingNext.any fun t => t.laneRate != s.disp.timing.laneRate

/-- No Sapline lane carries lines until it has trained again. -/
def State.dropStriping (s : State) : State :=
  s.modLanes fun x => { x with lanes := x.lanes.mapIdx fun i y => if i < 96 then { y with included := false } else y }

/-- The latch point is put off to the next slot boundary (R277 step 3). -/
def State.nextSlot (s : State) : State :=
  let n := if s.disp.timing.lineNs == 0 then s.disp.slotNo else (s.time - s.disp.frameStart) * 256 / s.disp.timing.lineNs + 1
  let s := s.timeTo (s.slotStart n)
  s.modDisp fun d => { d with frameStart := s.time, slotNo := 0, slot := 2, subframe := s.subframes - 1, ext := 0, blanking := true, extending := false, latched := false }

/-- LATCH_POINT. One frame of SAFE-VIEW before DORMANT is over (R24); a lane-rate change or a new panel starts its hold
here and latches nothing (R272, R277). -/
def State.latchPoint (s : State) : State :=
  if !(s.disp.sched && s.disp.panel.isSome && s.domOn domCMP && !s.latchBlocked) then s
  else
    let s := s.toLatch
    if s.mode.thenDormant && s.mode.mode == .safeView then s.flushFrame.enterDormant
    else if s.relinkDue then
      let t := s.disp.timing
      let s := (s.endHold.startHold 0).modScan fun x => { x with relink := some (t, s.time), relinkBack := false }
      s.dropStriping.modDisp fun d => { d with timing := { t with laneRate := (d.timingNext.getD t).laneRate } }
    else if s.disp.panelNext.isSome && s.disp.running && s.scan.hold.isNone then s.startHold 2
    else (s.when (s.disp.panelNext.isSome && s.scan.hold.isSome) State.nextSlot).flushFrame.latchTaken

def execLatchPoint (s : State) : Result := done s.latchPoint

/-! ### Relink (R277) -/

/-- The new rate cannot carry the new timing: the old rate is trained again. -/
def State.relinkFail (old : Timing) (s : State) : State :=
  let s := (s.modScan fun x => { x with relinkBack := true }).modDisp fun d => { d with timing := old, timingNext := none }
  (s.storePanel (s.disp.panelNext <|> s.disp.panel) old).dropStriping

/-- Training has ended: ALIGN, then the latch point of frame f at the next slot boundary, as a full write. Too few lanes for
the new LINE_NS leave the old rate to be trained again; back at it, the command completes with ST_TIMEOUT. -/
def execRelinkTrainingDone (s : State) : Result :=
  done (match s.scan.relink with
  | none => s
  | some (old, _) =>
    if s.trainingRuns || (s.trainedLanes.isEmpty && s.activeLanes.isEmpty) then s
    else
      let s := if s.trainedLanes.isEmpty then s else s.joinTrained
      let need := (s.disp.timingNext.getD s.disp.timing).lineNs
      if !s.scan.relinkBack && need < s.tMin then s.relinkFail old
      else
        let back := s.scan.relinkBack
        let s := s.modScan fun x => { x with relink := none, relinkBack := false }
        let s := s.nextSlot.flushFrame.latchTaken
        s.when (back && s.taprootUp) (·.completeAll 0x0A02 stTimeout (le 4 s.disp.frame.toNat)))

/-- No training within 50 ms. -/
def execRelinkTimeout (s : State) : Result :=
  done (match s.scan.relink with
  | some (old, t) => s.when (!s.scan.relinkBack) fun s => (s.timeTo (t + ms 50)).relinkFail old
  | none => s)

/-! ### The retire fence (R201, R205, R252) -/

/-- All reads of the ranges of the frame before have returned: commits and scene entries retire, ended holds are released,
tiles without a held source go. -/
def execRetireFence (s : State) : Result := done s.retireCommits.retireScenes.retireTiles

end Sys2Proof.Machine
end

