-- ==== Sys2Proof/Machine/Units.lean ====
section
/-! DEFINITION. SYS and OWN queries, undefined commands, units that mismatch or fault, and the reference clocks (spec/03,
R86 and R87; spec/04, R93 to R95; spec/01, R34; spec/02, R65 and R66). -/

namespace Sys2Proof.Machine

/-! ### SYS and OWN commands -/

def State.deviceId (s : State) : Nat := if s.is20 then 0x9620 else 0x9640

/-- SYS.IDENTIFY; in recovery FW_ACTIVE reads 0 (Table 18.7). -/
def execSysIdentify (m : Master) (s : State) : Result :=
  done (runCmd { code := 0x0000, cls := 0 } noUnit noPre (fun _ s =>
    (s, .ok (le 4 s.deviceId ++ le 4 s.id.siliconRev.toNat ++ le 4 (if s.tp.state == .recovery then 0 else s.fwActive) ++ le 8 s.id.serial.toNat ++ le 4 s.id.nvmLayout.toNat))) m s)

/-- Camera 3D layers shown flat (Table 4.3). -/
def State.flatMask (s : State) : Nat := maskOf 4 fun l => (s.slicer l).enabled && (s.slicesFlat l || !s.domOn domSL || (s.unit domSL).faulted)

/-- The capability record (Table 4.3). -/
def State.capability (s : State) : Bytes :=
  let red := s.allReductions
  let last := red.drop (red.length - 16)
  let mhz := ((List.range 17).filter s.hasCluster).foldl (fun a c => min a (s.gov.clusterMhz.getD c 1400)) 1400
  le 4 (maskOf 17 fun c => s.rendering.contains c)
    ++ le 2 (maskOf 12 fun n => s.mem.map.contains n && !(s.chan n).removing)
    ++ le 2 (maskOf 16 fun p => s.hasPort p && s.domOn (domRG p) && (s.camPort p).state != 7)
    ++ le 1 (maskOf 4 fun i => s.hasPipe i && s.domOn (domIP i) && !(s.pipe i).faulted)
    ++ le 1 (maskOf 8 fun u => s.hasPair u && s.domOn domDE && (s.pairUnit u).state != 4)
    ++ le 2 (maskOf 12 s.sgFull) ++ le 2 s.maxHz ++ le 1 s.rayLimit ++ le 1 s.flatMask ++ le 2 mhz ++ le 2 s.powerLimit ++ le 1 s.govStage
    ++ le 1 (s.ray.spare.getD 0xFF) ++ le 1 (s.ray.spareSlice.getD 0xFF) ++ le 1 last.length
    ++ pad 64 (last.flatMap fun r => le 1 r.cause ++ [0] ++ le 2 r.unit)

def execSysCapability (m : Master) (s : State) : Result :=
  done (runCmd { code := 0x0001, cls := 0 } noUnit noPre (fun _ s => (s, .ok s.capability)) m s)

def execSysTime (m : Master) (s : State) : Result :=
  done (runCmd { code := 0x0002, cls := 0 } noUnit noPre (fun _ s =>
    (s, .ok (le 8 s.time ++ le 4 s.disp.frame.toNat ++ le 1 s.disp.subframe ++ [0] ++ le 2 s.disp.slot))) m s)

/-- Taproot has not reconciled its record of unit i with hardware within the last 10 ms (R86). -/
def State.stale (s : State) (i : Nat) : Bool := (s.unit i).checked.all fun t => t + ms 10 < s.time

def execSysUnitState (m : Master) (s : State) : Result :=
  done (runCmd { code := 0x0003, cls := 0, len := 2, args := [{ off := 0, n := 2 }] }
    (fun c s => if (unitDomain (c.u16 0)).isSome && s.unitPresent (c.u16 0) then none else some (c.u16 0)) noPre (fun c s =>
    let i := c.u16 0
    let u := s.unit i
    (s, .ok (le 2 i ++ le 2 u.intent.toNat ++ le 4 (s.unitWord i) ++ le 1 (bitOf (s.stale i) 0 + bitOf u.mismatchSince.isSome 1) ++ le 1 u.attempts
      ++ le 2 (match u.mismatchSince with | some t => min 65535 ((s.time - t) / 1000000) | none => 0)))) m s)

def execOwnQuery (m : Master) (s : State) : Result :=
  done (runCmd { code := 0x0100, cls := 0 } noUnit noPre (fun c s =>
    (s, .ok (le 4 (s.ownStatus c.m) ++ le 4 s.ownConfig ++ le 1 (s.own.results.getD c.m 0)))) m s)

/-- OWN.CONFIG (R79): the priorities name three different masters; the new period counts from the next accepted heartbeat. -/
def execOwnConfig (m : Master) (s : State) : Result :=
  done (runCmd { code := 0x0101, cls := 1, len := 5, args := [{ off := 0, n := 2, lo := 50, hi := 2000 }, { off := 2, hi := 2 }, { off := 3, hi := 2 }, { off := 4, hi := 2 }] } noUnit
    (fun c _ => if c.u8 2 == c.u8 3 then some (3, 0) else if c.u8 2 == c.u8 4 || c.u8 3 == c.u8 4 then some (4, 0) else none)
    (fun c s =>
      let s := s.modOwn fun o => { o with hbPeriodMs := c.u16 0, prio := [c.u8 2, c.u8 3, c.u8 4] }
      (s.deferRecord 3 (le 4 s.ownConfig), .ok [])) m s)

/-- Codes of the catalogue (Tables 4.2 to 4.8). -/
def definedCodes : List Nat :=
  [0x0000, 0x0001, 0x0002, 0x0003, 0x0006, 0x0100, 0x0101, 0x0200, 0x0201, 0x0202, 0x0300, 0x0301,
   0x0400, 0x0401, 0x0402, 0x0403, 0x0404, 0x0500, 0x0501, 0x0502, 0x0503, 0x0504, 0x0505, 0x0600, 0x0601, 0x0602, 0x0603]
  ++ [0x0700, 0x0701, 0x0702, 0x0703, 0x0704, 0x0800, 0x0801, 0x0802, 0x0900, 0x0902, 0x0903, 0x0904, 0x0906]
  ++ [0x0A00, 0x0A01, 0x0A02, 0x0A03, 0x0B00, 0x0B01, 0x0B02, 0x0C00, 0x0C01, 0x0C02, 0x0C03, 0x0D00,
    0x0D01, 0x0D02, 0x0E00, 0x0E01, 0x0E02, 0x0E03, 0x0F00, 0x0F01, 0x0F02, 0x0F03, 0x0F04, 0x0F05] ++ 
  [0x1000, 0x1001, 0x1002, 0x1100, 0x1101, 0x1102, 0x1200, 0x1201, 0x1202, 0x1300, 0x1301, 0x1302,
    0x1303, 0x1304, 0x1305, 0x1306, 0x1400, 0x1401, 0x1402, 0x1500, 0x1501, 0x1502, 0x1503, 0x1504]

/-- A dequeued command whose code the firmware, or the ROM in recovery, does not define (R93, R439). -/
def execCommandUndefined (m : Master) (s : State) : Result :=
  let k := m.code
  let slot := memRead s.win (slotAddr k (s.box k).dequeued.toNat) 4
  let code := u16At slot 0
  let unknown := match s.tp.state with
    | .running => !definedCodes.contains code
    | .recovery => k != 2 || !(recoveryCode code || code == 0x1302 || code == 0x1303)
    | _ => false
  done (s.when (unknown && s.front k code) fun s =>
    (s.dequeue k).answer k code (byteAt slot 2) stBadCommand 0 (failData 0xFF 0 0xFFFF))

/-! ### Faults of domains and units (R34, Table 1.10) -/

/-- A cluster domain faults: the cluster is retired (R232) and its slice lost, with any Heartwood copy in it (R20, R233). -/
def State.clusterFault (c cause : Nat) (s : State) : State := (s.retireCluster c cause).loseCopy c

/-- A Sapline group goes off (R289): its lanes leave the striping. -/
def State.groupFault (g : Nat) (s : State) : State :=
  let s := ((s.groupLanes g).filter fun l => (s.lane l).included).foldl (fun t l => t.failLane l) s
  (s.groupLanes g).foldl (fun t l => t.laneState l 0) (s.dropDomain (domSG g) 3)

/-- A Rootline group goes off: its heads are lost, their layers show the no-signal substitute (R116). -/
def State.rootlineFault (k : Nat) (s : State) : State :=
  let s := ((List.range 4).filter fun i => s.hasPort (4 * k + i) && 3 ≤ (s.camPort (4 * k + i)).state).foldl (fun t i => t.post 0x481 2 (le 1 (4 * k + i) ++ [1])) s
  let s := s.dropDomain (41 + k) 3
  (List.range 4).foldl (fun t i => t.showPort (4 * k + i)) s

/-- The mechanism of Table 1.10 that absorbs the fault of a unit. -/
def State.absorb (u cause : Nat) (s : State) : State :=
  if u < 17 then s.clusterFault u cause
  else if u < 29 then (if (s.chan (u - 17)).inMap then s.removeChannel (u - 17) cause else (s.unitFault u cause).reduce cause u)
  else if u < 41 then (s.groupFault (u - 29)).unitFault u cause
  else if u < 45 then ((s.rootlineFault (u - 41)).unitFault u cause).reduce cause u
  else if u < 47 then ((s.dropDomain u 3).unitFault u cause).reduce cause u
  else if u < 51 then (s.pipelineFault (u - 47) cause).reduce cause u
  else if u == domDE then
    (((List.range 8).filter fun i => (s.pairUnit i).enabled).foldl (fun t i => t.pairFault i 2) s).dropDomain domDE 3 |>.unitFault domDE cause
  else if u == domSL then
    let s := if s.cameraLayers.isEmpty then s else s.detect 0x13 domSL
    (s.dropDomain domSL 3).unitFault domSL cause
  else if u == domCMP then s.cmpFault
  else if u == domCH then (((s.churnStop stFaulted).dropDomain domCH 3).unitFault domCH cause).reduce cause u
  else if u == domPL then
    let s := s.post 0xE81 2 [if s.plc.seq.isSome then 1 else 0]
    ((((s.placardCut 0).modPlc fun p => { p with recover := true }).dropDomain domPL 3).unitFault domPL cause).reduce cause u
  else if u == domTP then s.unitFault domTP cause
  else if u < 59 then ((s.dropDomain u 3).unitFault u cause).reduce cause u
  else if 64 ≤ u && u < 80 then
    let p := u - 64
    (((s.endFrame p true).signalLost p).post 0x481 2 (le 1 p ++ [1])).portTo p 7
  else if 80 ≤ u && u < 88 then s.pairFault (u - 80) 1
  else if 128 ≤ u && u < 224 then s.failLane (u - 128)
  else s.unitFault u cause

/-- Units whose fault is reported by an event of its own; of a channel only while it is in the map. -/
def State.ownFaultEvent (s : State) (u : Nat) : Bool := u < 17 || (17 ≤ u && u < 29 && (s.chan (u - 17)).inMap) || (47 ≤ u && u < 51) || u == domCMP || (64 ≤ u && u < 88)

/-- Hardware declares a fault of a unit. -/
def execDomainFault (unit : Nat) (s : State) : Result :=
  done (s.when (s.unitPresent unit && !(s.unit unit).faulted && (unitDomain unit).any s.domOn) fun s =>
    (s.absorb unit 0x20).when (!s.ownFaultEvent unit) (·.post 0x85 3 (le 2 unit ++ le 1 0x20)))

/-! ### Reconciliation (R87) -/

/-- The STATE field of UNIT_STATUS. -/
def State.observed (s : State) (u : Nat) : Nat := bits (s.unitWord u) 10 8


/-- Taproot re-applies its intent: a domain is switched as intended, a port is brought up again, a pair unit is set up again. -/
def State.reapply (u : Nat) (s : State) : State :=
  if 64 ≤ u && u < 80 then s.portTo (u - 64) 1
  else if 80 ≤ u && u < 88 then s.when (s.pairUnit (u - 80)).enabled fun s =>
    (s.modPair (u - 80) fun x => { x with state := 1 }).unitState u 1
  else if 59 ≤ u then s
  else
    let r := s.unit u
    ((s.reqDomain u (!r.intent.getLsbD 0) 1)).modUnit u fun x => { x with mismatchSince := r.mismatchSince, attempts := r.attempts, settle := r.settle }

/-- A check of a unit: a mismatch of 10 ms is reported and the intent re-applied, three times; 40 ms after it began the unit
is FAULTED and its fault absorbed. -/
def execUnitMismatchCheck (unit : Nat) (s : State) : Result :=
  done (s.when (s.tp.state == .running && s.unitPresent unit) fun s =>
    let r := s.unit unit
    let bad := !r.intent.getLsbD (s.observed unit) && r.settle ≤ s.time
    let s := s.modUnit unit fun x => { x with checked := some s.time }
    if !bad then s.modUnit unit fun x => { x with mismatchSince := none, attempts := 0 }
    else match r.mismatchSince with
    | none => s.modUnit unit fun x => { x with mismatchSince := some s.time, attempts := 0 }
    | some t =>
      let s := s.timeTo (t + ms (10 * (r.attempts + 1)))
      let s := s.modUnit unit fun x => { x with checked := some s.time }
      if r.attempts < 3 then
        let s := s.post 0x84 1 (le 2 unit ++ le 1 (s.observed unit) ++ le 1 (r.attempts + 1) ++ le 2 r.intent.toNat)
        (s.modUnit unit fun x => { x with attempts := r.attempts + 1 }).reapply unit
      else
        let own := (47 ≤ unit && unit < 51) || unit == domCMP
        let s := (s.absorb unit 0x23).unitFault unit 0x23
        (s.modUnit unit fun x => { x with mismatchSince := none, attempts := 0 }).when (!own) (·.post 0x85 3 (le 2 unit ++ le 1 0x23)))

/-! ### Reference clocks (R65, R66, R296) -/

def State.clkLost (s : State) (i : Nat) : Bool := s.clk.lost.getD i false

/-- Neither REFCLK_PNL nor REFCLK_SYS: HOLD with REASON 1, and no line is sent until the link has been trained again. A hold that
runs already goes on for this reason, from its own start. -/
def State.clockHold (s : State) : State :=
  let s := (if s.scan.hold.isSome then (s.when (s.scan.hold.any (·.1 != 1)) (·.emit (.ctrl 0x33 [1, 16]))).modScan fun x => { x with hold := x.hold.map fun h => (1, h.2) }
    else s.when s.disp.running (·.startHold 1)).modScan fun x => { x with relink := none, relinkBack := false }
  (s.dropStriping.modDisp fun d => { d with running := false }).modClk fun c => { c with pnlBackup := false }

/-- The switch to the backup restarts the training of every group that has not finished, with a new budget (Table 12.8). -/
def State.restartTraining (s : State) : State :=
  (List.range 12).foldl (fun t g =>
    let ls := (t.groupLanes g).filter fun l => (t.lane l).state == 1 && !(t.laneAux l).alone
    if ls.all fun l => (t.lane l).ended then t
    else ls.foldl (fun u l => u.trainLane l false) (t.modLanes fun x => { x with groupStart := x.groupStart.set g (some t.time) })) s

/-- A monitor declares input 0 SYS, 1 PCIE, 2 PNL, 3 CAM or 4 AMCLK lost. -/
def execRefclkLost (input reason : Nat) (ppm : Int) (s : State) : Result :=
  done (s.when (input < 5 && !s.clkLost input) fun s =>
    let s := (s.modClk fun c => { c with lost := c.lost.set input true }).post 0x88 2 (le 1 input ++ le 1 reason ++ [0, 0] ++ le 4 (wrap 32 ppm))
    match input with
    | 0 =>
      let s := s.modClk fun c => { c with camBackup := false }
      if s.clkLost 2 then s.clockHold else s
    | 1 => (List.range 2).foldl (fun t f => (t.modFn f fun x => { x with linkUp := false, width := 0, rate := 0, l1 := false }).modLanes fun l =>
        { l with lanes := l.lanes.mapIdx fun i x => if 128 ≤ i && (i - 128) / 8 == f && x.state != 0 then { x with state := 6, included := false, blockLock := false, cdrLock := false } else x }) s
    | 2 => if s.clkLost 0 then s.clockHold else (s.modClk fun c => { c with pnlBackup := true }).restartTraining
    | 3 => if s.clkLost 0 then s else s.modClk fun c => { c with camBackup := true }
    | _ => s.amclkLost)

/-- An input has been within limits for 1 ms. The Sapline PLLs return at the next latch point, Rootline at the next frame
boundary, the audio clock at the next IEC block. -/
def execRefclkRestored (input : Nat) (s : State) : Result :=
  done (s.when (s.clkLost input) fun s =>
    let s := (s.modClk fun c => { c with lost := c.lost.set input false }).post 0x89 0 (le 1 input)
    match input with
    | 0 => s.modClk fun c => { c with pnlBackup := c.pnlBackup || c.lost.getD 2 false, camBackup := c.camBackup || c.lost.getD 3 false }
    | 4 => s.amclkBack
    | _ => s)

end Sys2Proof.Machine
end

