-- ==== Sys2Proof/Machine/Svc.lean ====
section
/-! DEFINITION. The service group: drain, power cycle, retest and return of a domain (spec/04, Table 4.8; spec/02, R50, R51;
spec/09, R232; spec/13, R356; spec/14, R372). -/

namespace Sys2Proof.Machine

/-- The unit of an SVC command: a domain index (Table 4.8). -/
def svcArg : Arg := { off := 0, n := 2, hi := 58 }
def Ctx.absentDomain (c : Ctx) (s : State) : Option Nat := if c.u16 0 < 59 && !s.hasDomain (c.u16 0) then some (c.u16 0) else none

/-- SERVICE_STATE of a domain: a domain that is off without a drain reads 2. -/
def State.serviceState (s : State) (d : Nat) : Nat :=
  let x := s.dom d
  if x.service == 0 && !x.on then 2 else x.service

def execSvcQuery (m : Master) (s : State) : Result :=
  done (runCmd { code := 0x1500, cls := 0, len := 2, args := [svcArg] } Ctx.absentDomain noPre (fun c s =>
    let x := s.dom (c.u16 0)
    (s, .ok (le 1 (s.serviceState (c.u16 0)) ++ le 1 x.lastCause ++ [0, 0] ++ le 4 x.cycles.toNat))) m s)

/-- An operation of the service group is pending on the domain, or a retrain or test of its channel (R98). -/
def State.svcBusy (s : State) (d : Nat) : Bool :=
  ([0x1501, 0x1502, 0x1503, 0x1504].any fun k => s.opOn k fun a => u16At a 0 == d)
    || (17 ≤ d && d < 29 && [0x0C01, 0x0C02].any fun k => s.opOn k fun a => byteAt a 0 == d - 17)
/-- A SAFE-VIEW copy or half of the graphic window (Table 9.3) lies in the domain's slice. -/
def State.holdsRegions (s : State) (d : Nat) : Bool := d < 17 && s.ray.safeDomains.contains d

/-- A drain would take a domain the mode needs, with nothing to replace it (R51, R232, R356). -/
def State.drainRefused (s : State) (d : Nat) : Bool :=
  s.domNeeded d || (s.holdsRegions d && (s.ray.spareSlice.isNone || s.ray.spareSlice == some d))
    || (17 ≤ d && d < 29 && s.inField && s.mem.map == [d - 17])

/-- SVC.DRAIN (R51): a channel in the interleave is removed at the next latch point (R356), CH lets its list finish (R372),
and a cluster domain stops pulling strips (R232). -/
def execSvcDrain (m : Master) (s : State) : Result :=
  done (runCmd { code := 0x1501, cls := 1, len := 2, args := [svcArg] } Ctx.absentDomain noPre (fun c s =>
    let d := c.u16 0
    if s.svcBusy d || s.drainRefused d then (s, .busy d)
    else
      let s := s.when (s.domOn d) (·.unitState d 5)
      let s :=
        if d < 17 then s.when (!(s.cluster d).retired && s.domOn d) fun s => (s.retireCluster d 0x01).setUnit d fun u => { u with faulted := false, state := 5 }
        else if d < 29 then s.removeChannel (d - 17) 0x01
        else if d == domCH then s.when s.churn.run.isSome (·.modChurn fun x => { x with drainUntil := some (s.time + ms 100) })
        else s
      (s, .pend (ms 100) 0)) m s)

/-- The regions of Table 9.3 in the slice of a drained domain are re-created in the spare slice, Heartwood copy and half of the
graphic window alike, before the domain goes off (R232). -/
def State.moveRegions (d : Nat) (s : State) : State :=
  match s.ray.spareSlice with
  | some k => s.when (s.holdsRegions d) (·.moveSafe d k)
  | none => s

/-- The drain has completed: the domain is off and drained. A channel still in the map completes with the remap, CH with
its list. -/
def State.drainDone (o : PendingOp) (s : State) : State :=
  let d := u16At o.args 0
  if (17 ≤ d && d < 29 && (s.chan (d - 17)).inMap) || (d == domCH && s.churn.drainUntil.isSome) then s
  else
    let s := if 29 ≤ d && d < 41 then ((s.groupLanes (d - 29)).filter fun l => (s.lane l).included).foldl (fun t l => t.dropLane l) s else s
    let s := ((s.moveRegions d).dropDomain d 2).modDom d fun x => { x with service := 1 }
    s.complete o stOk []

/-- SVC.POWER_CYCLE of a drained domain: it goes off, and comes on as R49 lets it. -/
def execSvcPowerCycle (m : Master) (s : State) : Result :=
  done (runCmd { code := 0x1502, cls := 1, len := 2, args := [svcArg] } Ctx.absentDomain noPre (fun c s =>
    let d := c.u16 0
    if s.svcBusy d || (s.dom d).service == 0 then (s, .busy d)
    else ((s.dropDomain d 2).reqDomain d true 2, .pend (ms 10) 0)) m s)

/-- The domain has come on from its reset state (R50); an earlier test result is void. -/
def State.cycleDone (o : PendingOp) (s : State) : State :=
  let d := u16At o.args 0
  if !s.domOn d then s
  else ((s.modDom d fun x => { x with service := 1, cycles := x.cycles + 1 }).setUnit d fun u => { u with state := 3, flowing := false }).complete o stOk []

/-- SVC.RETEST: the self-test of a drained domain (R230, R356). -/
def execSvcRetest (m : Master) (s : State) : Result :=
  done (runCmd { code := 0x1503, cls := 1, len := 2, args := [svcArg] } Ctx.absentDomain noPre (fun c s =>
    let d := c.u16 0
    if s.svcBusy d || (s.dom d).service == 0 then (s, .busy d)
    else (s.when (s.domOn d) (·.setUnit d fun u => { u with state := 6, flowing := false }), .pend (ms 2000) 0)) m s)

/-- The retest ends: PASSED and FAIL_CODE. A cluster reports through its own self-test. -/
def State.retestDone (o : PendingOp) (obs : Obs) (s : State) : State :=
  let d := u16At o.args 0
  let pass := if d < 17 && 3 ≤ (s.dom d).service then (s.dom d).service == 3 else obs.ok
  let s := (s.modDom d fun x => { x with service := if pass then 3 else 4 }).setUnit d fun u => { u with state := if pass then 3 else 7, faulted := !pass, flowing := false }
  let s := s.when (d < 17) fun s => (s.modCluster d fun x => { x with passed := some pass }).modRay fun r => { r with slices := r.slices.modify d fun x => { x with passed := some pass } }
  s.complete o stOk ((if pass then [1] else [0]) ++ (if pass then [0] else le 1 obs.a))

/-- SVC.RETURN: of a domain whose last retest passed. A channel rejoins at the next latch point (R356). -/
def execSvcReturn (m : Master) (s : State) : Result :=
  done (runCmd { code := 0x1504, cls := 1, len := 2, args := [svcArg] } Ctx.absentDomain noPre (fun c s =>
    let d := c.u16 0
    if (s.dom d).service != 3 then (s, .err stFaulted 0xFF 0 d)
    else if s.svcBusy d then (s, .busy d)
    else (s.when (17 ≤ d && d < 29) (·.modChan (d - 17) fun x => { x with joining := true }), .pend (ms 100) 0)) m s)

/-- A returned cluster is the new spare (R232). Where a loss had no spare, the spare takes it over and its cause clears
(R26). Its slice serves again: in the cache while that is short of one, as the spare slice otherwise (R234). -/
def State.clusterBack (c : Nat) (s : State) : State :=
  let s := s.modCluster c fun x => { x with retired := false, parked := false, passed := some true, cause := 0 }
  let s := s.modRay fun r => { r with replacing := r.replacing.filter fun x => x.1 != c }
  let losses := s.mode.reductions.filter fun r => r.cause == 0x10
  let s := match losses.find? (fun r => r.unit == c) <|> losses.head? with
    | some r => s.clearCause 0x10 r.unit
    | none => s.modRay fun r => if r.spare.isNone then { r with spare := some c } else r
  let s := (s.clearCause 0x16 c).modRay fun r => { r with slices := r.slices.modify c fun x => { x with faulted := false, pending := false, errors := [], passed := some true } }
  -- the cache is short of a slice with fewer than all but three
  let full := ((List.range 17).filter s.hasCluster).length - 3 < s.cacheSlices.length
  s.when (full && s.ray.spareSlice.isNone && !s.ray.safeDomains.contains c) (·.modRay fun r => { r with spareSlice := some c })

/-- What a returned domain serves again: its unit, and what its fault had taken away. -/
def State.domainBack (d : Nat) (s : State) : State :=
  let s := (s.modDom d fun x => { x with service := 0 }).setUnit d fun u => { u with faulted := false, reduced := false, cause := 0, state := if s.domOn d then 4 else 0, flowing := s.domOn d }
  let s := s.modMode fun m => { m with reductions := m.reductions.filter fun r => r.unit != d || r.cause == 0x11 || r.cause == 0x10, detected := m.detected.filter fun r => r.unit != d || r.cause == 0x11 || r.cause == 0x10 }
  if d < 17 then s.clusterBack d
  else if 29 ≤ d && d < 41 then
    (s.groupLanes (d - 29)).foldl (fun t l => t.when ((t.lane l).state == 4 || (t.lane l).state == 0)
      fun t => (t.laneState l 4).modLaneAux l fun a => { a with retries := 0, retryAt := t.time }) s
  else if 41 ≤ d && d < 45 then
    (List.range 4).foldl (fun t i => let p := 4 * (d - 41) + i; t.when (t.hasPort p && (t.camPort p).state == 7) (·.portTo p 1)) s
  else if 47 ≤ d && d < 51 then s.pipeReturned (d - 47)
  else if d == domDE then (List.range 8).foldl (fun t u => t.when ((t.pairUnit u).cause != 3) (·.pairRecover u)) s
  else if d == domCMP then s.when s.pnl.cmpOff (·.modPnl fun x => { x with cmpOff := false, cmpDown := true, cmpFaults := [] })
  else if d == domCH then s.when (s.mode.mode == .safeView) (·.reqDomain domCH false 0)
  else if d == domPL then s.when s.plc.recover State.plcRecover
  else s

/-- The return completes with the frame in which it did. -/
def State.returnDone (o : PendingOp) (s : State) : State :=
  let d := u16At o.args 0
  if 17 ≤ d && d < 29 then s
  else (s.domainBack d).complete o stOk (le 4 s.disp.frame.toNat)

end Sys2Proof.Machine
end

