-- ==== Sys2Proof/Machine/Boot.lean ====
section
/-! DEFINITION. Taproot's life: the ROM sequence, recovery, what a boot loads, bundles, watchdog, restart and live update
(spec/18, R437 to R443, R451; spec/02, R62; spec/03, R87 to R89; spec/17, R418, R424). -/

namespace Sys2Proof.Machine

/-! ### Bundles (R440, R441) -/

/-- A bundle copy in flash that verifies: its bytes. -/
def State.bundleAt (s : State) (kind copy : Nat) : Option Bytes :=
  let b := s.flashCon (bundleBase kind copy) (bundleSize kind)
  if s.sec.flashPresent && (s.conCheck kind b (bundleSize kind) [] allChecks).isNone && conBlocks b (blocksOf (conPayload b)) then some b else none

/-- The newer verifying copy of a kind: the higher VERSION. -/
def State.newerBundle (s : State) (kind : Nat) : Option (Nat × Bytes) :=
  match s.bundleAt kind 0, s.bundleAt kind 1 with
  | some a, some b => if conVersion a < conVersion b then some (1, b) else some (0, a)
  | some a, none => some (0, a)
  | none, some b => some (1, b)
  | none, none => none

/-- The words of the four rectangles and the bank image of a Heartwood bundle (R268). -/
def heartGeom (p : Bytes) : List W32 := (List.range 16).map fun i => BitVec.ofNat 32 (u32At p (4 * i))

/-- Load the Heartwood bundle into bank 0 of both copies; without one every rectangle is disabled (R440). -/
def State.loadHeart (s : State) : State :=
  match s.newerBundle 1 with
  | some (i, b) =>
    let p := conPayloadBytes b
    let g := heartGeom p
    let img := memWrite [] 0 ((p.drop 64).take (2 ^ 21))
    let s := (s.modHw fun h => { h with bank := 0, geom := g, regs := g, copies := [{ usable := true, bytes := img }, { usable := true, bytes := img }] }).modSec
      fun x => { x with heartSlot := some (i, BitVec.ofNat 32 (conVersion b)) }
    let s := s.modHw fun h => { h with geomInvalid := (List.range 4).any fun r => (s.hwRectReason g r).isSome }
    s.measure 2 (conVersion b) (sha256 (b.take 256))
  | none => (s.modHw fun h => { h with bank := 0, copies := [{ usable := true }, { usable := true }] }).measure 2 0 (List.replicate 32 0)

/-- The shadow blocks with the layer set of a configuration bundle on L4 to L7. -/
def State.withLayerSet (p : Bytes) (s : State) : State := s.modWin fun w => memWrite (memClear w 0x34000 0x34200) 0x34100 (p.take 256)
def cfgImage (p : Bytes) : Bytes := (p.drop 320).take (min (u32At p 256) (2 ^ 24))

/-- Load the configuration bundle: the graphic window, then the layer set as a commit; one that fails its validation leaves
the layers off (R441). -/
def State.loadCfg (s : State) : State :=
  match s.newerBundle 2 with
  | some (i, b) =>
    let p := conPayloadBytes b
    let s := (s.modCellar fun c => { c with window := memWrite [] 0 (cfgImage p), image := memWrite [] 0 (cfgImage p), windowLost := [false, false] }).modSec fun x => { x with cfgSlot := some (i, BitVec.ofNat 32 (conVersion b)) }
    ((s.withLayerSet p).commit 0xF0 false).1.measure 3 (conVersion b) (sha256 (b.take 256))
  | none => s.measure 3 0 (List.replicate 32 0)

/-- The status and REASON with which a bundle load ends (R441). -/
def State.bundleFails (s : State) (kind : Nat) (b : Bytes) : Option (Nat × Nat) :=
  match s.conCheck kind b b.length [] allChecks with
  | some e => some e
  | none =>
    if !conBlocks b (blocksOf (conPayload b)) then some (stAuthFail, 7)
    else if kind == 2 then (s.withLayerSet (conPayloadBytes b)).commitReason.map fun r => (stCommitRejected, r.1) else none

/-- SEC.BUNDLE_LOAD: the checks decide the status of the completion. -/
def execSecBundleLoad (m : Master) (s : State) : Result :=
  done (runCmd { code := 0x1306, cls := 1, bulk := some 0, len := 17, args := [{ off := 16, hi := 1 }] } noUnit noPre (fun c s =>
    if s.secBusy then (s, .fail stBusy)
    else (s, .pend (ms 10000) (((s.bundleFails (c.u8 16 + 1) (c.bulkBytes s)).map (·.1)).getD 0))) m s)

/-- The container goes over the older flash copy, is read back, and raises BUNDLE_FLOOR (R441). -/
def State.bundleDone (kind : Nat) (b : Bytes) (ok : Bool) (s : State) : State × Nat :=
  let copy := match s.newerBundle kind with
    | some (0, _) => 1
    | _ => 0
  let s := s.flashProgram (bundleBase kind copy) b
  if !ok || !s.sec.flashPresent || s.flashRead (bundleBase kind copy) b.length != b then (s, stFaulted)
  else (s.writeRecord 0x203 (patch (pad 8 ((s.recPayload 0x203).getD [])) (4 * (kind - 1)) (le 4 (conVersion b))), stOk)

/-! ### What Taproot reads from NVM at boot (Table 17.8) -/

/-- A record that falls back on its older copy or its defaults is reported (R424). -/
def State.reportFallbacks (s : State) : State :=
  s.nvm.recs.foldl (fun t r => match r.fallback with
    | some k => (t.modNvm fun n => { n with fallbacks := n.fallbacks + 1 }).post 0x1280 1 (le 2 r.id ++ le 1 k)
    | none => t) s

/-- The trip marker goes into the trip record and is erased (R418). -/
def State.takeTrip (s : State) : State :=
  let s := s.modHk fun h => { h with trips := BitVec.ofNat 32 (u32At (pad 4 ((s.recPayload 0x12).getD [])) 0) }
  match s.nvm.tripMarker with
  | some (aon, n, peak, i) =>
    let old := ((s.recPayload 0x12).getD []).drop 4
    let marker := le 4 n ++ le 2 (wrap 16 peak) ++ le 1 i ++ le 1 0x54 ++ le 8 aon
    let all := old ++ marker
    let s := (s.writeRecord 0x12 (le 4 n ++ all.drop (all.length - 128))).modHk fun h => { h with trips := BitVec.ofNat 32 n }
    let s := s.post 0x1082 3 (le 1 i ++ [0] ++ le 2 (wrap 16 peak) ++ le 4 n ++ le 8 aon)
    s.modNvm fun m => { m with tripMarker := none }
  | none => s

def State.loadOwn (s : State) : State := match s.recPayload 3 with
  | some p => s.modOwn fun o => { o with hbPeriodMs := u16At p 0, hbInForce := u16At p 0, prio := (List.range 3).map fun i => bits (u32At p 0) (17 + 2 * i) (16 + 2 * i) }
  | none => s

def State.loadPanel (s : State) : State := match s.recPayload 4 with
  | some p =>
    let t := timingOf (p.drop 12)
    s.modDisp fun d => { d with panel := some (panelOf p), timing := t, configuredLineNs := t.lineNs }
  | none => s

def State.loadThresholds (s : State) : State := match s.recPayload 5 with
  | some p => s.modHk fun h => { h with sensors := h.sensors.mapIdx fun i x => { x with thresholds := (List.range 9).map fun k => s16At p (18 * i + 2 * k) } }
  | none => s

def State.loadMemPolicy (s : State) : State := match s.recPayload 6 with
  | some p => s.modMem fun m => { m with actThreshold := u16At p 0, ageLimit := u16At p 2, scrubHours := u16At p 4 }
  | none => s

/-- Each calibration loop starts from its stored trims (R422). -/
def State.loadTrims (s : State) : State :=
  (List.range 8).foldl (fun t i => match t.recPayload (0x18 + i) with
    | some p =>
      let l := (List.range (p.length / 2)).map fun k => s16At p (2 * k)
      t.modHk fun h => { h with cal := h.cal.modify i fun c => { c with trims := l, stored := l } }
    | none => t) s

/-- An entry of the lane-taps record; one of zeros stores none (R302). -/
def tapsAt (p : Bytes) (o : Nat) : Option (Nat × Nat × Nat) :=
  if zeros p o 3 then none else some (byteAt p o, byteAt p (o + 1), byteAt p (o + 2))
/-- Stored transmitter taps, three rates for each lane (R302). -/
def State.loadTaps (s : State) : State := match s.recPayload 0x11 with
  | some p =>
    let taps (l : Nat) : List (Option (Nat × Nat × Nat)) := (List.range 3).map fun r => tapsAt p (12 * l + 4 * r)
    s.modLanes fun x => { x with aux := x.aux.mapIdx fun l a => { a with stored := taps l } }
  | none => s

def State.loadMap (s : State) : State := s.modRay fun r => { r with map := s.recPayload 0x40 }
def State.loadWarps (s : State) : State :=
  s.modDepth fun d => { d with warps := d.warps.mapIdx fun p w => match s.recPayload (0x60 + p) with
    | some b => some (warpNodes b)
    | none => w }

/-- A board record that the memory controller cannot use (R329). -/
def State.checkBoard (s : State) : State :=
  if (s.recPayload 2).isSome && !s.mem.cfg.ok then (s.modMem fun m => { m with badRecord := true }).post 0x85 3 (le 2 17 ++ le 1 0x22) else s

def State.loadRecords (s : State) : State :=
  let s := (s.reportFallbacks).takeTrip.loadOwn.loadPanel.loadThresholds.loadMemPolicy.loadTrims.loadTaps.loadMap.loadWarps.checkBoard
  match s.recPayload 0x13 with
  | some p => s.modNvm fun n => { n with logFloor := BitVec.ofNat 32 (u32At p 0) }
  | none => s

/-- The domains of Table 2.8 in its order, switched on under R49: the minimum set of SAFE-VIEW, the spare cluster and what
R19 adds. -/
def State.bootDomains (s : State) : State :=
  let mc := if s.mem.badRecord then [] else (List.range 12).filter fun n => s.mem.cfg.channelMask.getLsbD n && s.hasChannel n
  let l := [45, 46, domCMP] ++ (List.range 12).map domSG ++ s.ray.safeDomains ++ [domPL, domAU] ++ mc.map domMC ++ s.ray.spare.toList
    ++ [41, 42, 43, 44] ++ [47, 48, 49, 50, domDE, domSL]
  l.foldl (fun t d => t.reqDomain d true 0) s

/-! ### The ROM (R437, R439) -/

/-- Version of the firmware container in a slot. -/
def State.slotVersion (s : State) (slot : Nat) : Nat := conVersion (s.flashRead (slotBase slot) 256)
def romDigest : Bytes := (List.range 32).map Config.romDigest
/-- The slot verifies and is marked valid. -/
def State.slotUsable (s : State) (slot : Nat) : Bool := s.slotValid slot && (s.slotFails slot).isNone
/-- Extend the measurement by the firmware of a slot (item 1). -/
def State.measureFw (slot : Nat) (s : State) : State :=
  s.measure 1 (s.slotVersion slot) (sha256 (s.flashRead (slotBase slot) 256))

/-- Taproot starts in a slot at boot: firmware, bundles and configuration are measured and loaded. -/
def State.startBoot (slot : Nat) (s : State) : State :=
  let s := (s.measureFw slot).modTp fun t => { t with
    state := .running, slot := slot, version := BitVec.ofNat 32 (s.slotVersion slot), ready := false, deadline := none, restartCause := 0, bootAt := s.time }
  let s := ((s.loadRecords).loadHeart).loadCfg
  (s.measure 4 1 s.configDigest).bootDomains

/-- The ROM sequence of Table 18.6: step 2 finishes a seal, step 3 ends a trial and chooses the slot, steps 4 to 7 try it and
then the other one; with neither the ROM stays in recovery. -/
def execRomBoot (s : State) : Result :=
  done (s.when ((s.tp.state == .off || s.tp.state == .rom) && s.domOn domTP && s.domOn domSEC) fun s =>
    let s := s.modPwr fun p => { p with phase := .run, attempts := 0 }
    let s := (s.pmb 0 .voutMode 0).pmb 1 .voutMode 0
    let s := s.sealAtBoot
    let s := s.when s.trial fun s => s.setPreferred (1 - s.preferred) false
    let c := s.preferred
    let s := (s.modSec fun x => { x with items := [], measurement := List.replicate 32 0 }).measure 0 Config.romVersion.toNat romDigest
    if s.slotUsable c then s.startBoot c
    else if s.slotUsable (1 - c) then s.startBoot (1 - c)
    else s.modTp fun t => { t with state := .recovery, slot := 0, version := 0, bootAt := s.time })

/-! ### Recovery (Table 18.7) -/

/-- Take the command at the front of the SVC mailbox in recovery and answer it at once. -/
def State.recover (code len : Nat) (args : List Arg) (bulk : Option Nat) (body : Ctx → State → State × Reply) (s : State) : State :=
  s.when (s.tp.state == .recovery && s.front 2 code) fun s =>
    let slot := memRead s.win (slotAddr 2 (s.box 2).dequeued.toNat) 256
    let a := slot.drop 16
    let s := s.dequeue 2
    let x : Ctx := { m := 2, tag := byteAt slot 2, code := code, args := a, base := if bulk.isSome then a40At a 0 else 0, size := if bulk.isSome then u32At a 8 else 0 }
    match ({ code := code, cls := 0, bulk := bulk, len := len, args := args } : Cmd).argError slot a with
    | some (o, r) => State.reply x s (s, .badArg o r)
    | none => State.reply x s (body x s)

/-- The recovery form of SEC.FW_STAGE: a chunk from the staging buffer; the last one verifies the slot. -/
def execRecoveryFwStage (s : State) : Result :=
  done (s.recover 0x1302 25 [{ off := 16, hi := 1 }, { off := 20, n := 4 }, { off := 24, hi := 1 }] (some 0) fun c s =>
    let slot := c.u8 16
    let off := c.u32 20
    if c.base != 0 || c.size == 0 || 2 ^ 20 < c.size then (s, .badArg 0)
    else if off % 65536 != 0 || slotSize < off + c.size then (s, .badArg 20)
    else
      let s := (s.setSlot slot false none).flashProgram (slotBase slot + off) (memRead s.sec.staging 0 c.size)
      if c.u8 24 == 0 then (s, .ok [])
      else
        let b := s.flashCon (slotBase slot) slotSize
        if !s.sec.flashPresent then (s, .kept stFaulted 0 0xFFFF)
        else match s.conCheck 0 b slotSize [] allChecks with
          | some (st, r) => (s, .kept st r 0xFFFF)
          | none =>
            if conBlocks b (blocksOf (conPayload b)) then (s.setSlot slot true (some (conVersion b)), .ok [])
            else (s, .kept stFaulted 0 0xFFFF))

/-- The recovery form of SEC.FW_ACTIVATE: PREFERRED, and the boot starts again under R437. -/
def execRecoveryFwActivate (s : State) : Result :=
  done (s.recover 0x1303 1 [{ off := 0, hi := 1 }] none fun c s =>
    if !s.slotValid (c.u8 0) then (s, .fail stAuthFail)
    else ((s.setPreferred (c.u8 0) false).modTp fun t => { t with state := .rom }, .ok []))

/-! ### Stops of Taproot (R62, R88, R89) -/

/-- The hardware cancels every part of a pending operation's effect that has not taken place (R89). -/
def State.cancelScheduled (s : State) : State :=
  let drained := (List.range 12).filter fun n => (s.chan n).removing && s.opOn 0x1501 fun a => u16At a 0 == domMC n
  let s := drained.foldl (fun t n => (t.modChan n fun c => { c with removing := false }).clearCause 0x11 (domMC n)) s
  let s := match s.scan.relink with
    | some (old, _) => s.when (s.opOn 0x0A02 && !s.scan.relinkBack) (·.relinkFail old)
    | none => s
  let s := s.when (s.opOn 0x0801) (·.modRay fun r => { r with load := none })
  let s := s.when s.fieldAsked (·.modMode fun m => { m with fieldIn := none })
  let s := s.when (s.opOn 0x0A02 && s.scan.relink.isNone) (·.modDisp fun d => { d with timingNext := none })
  let s := s.endMemTests stOk
  let s := s.when (s.opOn 0x1501 fun a => u16At a 0 == domCH) (·.modChurn fun c => { c with drainUntil := none })
  s.when (s.opOn 0x1504) (·.modMem fun m => { m with chans := m.chans.map fun c => { c with joining := false } })

/-- Complete what is pending under R89; the activation has its own outcome, the placard reports a sequence that goes on (R393). -/
def State.resolvePending (status : Nat) (s : State) : State :=
  let s := s.cancelScheduled
  (s.ctl.pendingOps.filter fun o => o.code != 0x1303).foldl (fun t o => t.complete o status (if o.code == 0x0E02 then t.plcContinued else [])) s

/-- Taproot stops: what it was executing is cut off, what is undequeued is answered, what pending operations have still to do is
cancelled, the placard goes on alone (R89). -/
def State.stopTaproot (status : Nat) (s : State) : State :=
  (((s.cancelScheduled.cutOff).answerUndequeued status).plcTaprootStop).modTp fun t => { t with bootAt := s.time, ready := false }

/-- No mismatch time passes while Taproot restarts (R87). -/
def State.resumeMismatch (s : State) : State :=
  let d := s.time - s.tp.bootAt
  s.modUnits fun u => { u with recs := u.recs.map fun r => { r with mismatchSince := r.mismatchSince.map (· + d), settle := r.settle + d } }

/-- The intent is rebuilt from what NVM and the hardware shadows hold, and nothing is reconciled yet (R87). -/
def State.rebuildIntent (s : State) : State :=
  let up (d : Nat) := (s.dom d).on && !(s.dom d).leaving || (s.dom d).switching.any (·.1) || (s.dom d).queued
  let s := (List.range 59).foldl (fun t d => t.setIntent d (up d)) s
  s.modUnits fun u => { u with recs := u.recs.map fun r => { r with checked := none } }

/-- The old image comes back (R451): SEC_STATE as before, EV_SEC_FW_REVERTED, a restart with cause 2. -/
def State.revert (s : State) : State :=
  let failed := s.slotVersion (1 - s.tp.oldSlot)
  let s := s.setPreferred s.tp.oldSlot false
  (s.modTp fun t => { t with state := .restarting, slot := t.oldSlot, version := BitVec.ofNat 32 (s.slotVersion t.oldSlot), deadline := none, restartCause := 2 }).post
    0x1380 2 (le 1 s.tp.oldSlot ++ [0, 0, 0] ++ le 4 failed)

/-- The activation is under way: from its acceptance to READY or the revert. -/
def State.updating (s : State) : Bool := s.opOn 0x1303 && s.tp.restartCause == 0

/-- Watchdog expiry (R62): only while an image runs. The image that LIVE_UPDATE_RESTART has loaded and started runs although
its READY is still due; its expiry brings the old image back and does not count (R451). -/
def execTaprootWdtExpiry (s : State) : Result :=
  let image := s.tp.state == .running || s.tp.state == .draining || (s.tp.state == .restarting && s.updating)
  done (s.when (image && s.domOn domTP) fun s =>
    if s.updating then (s.when (s.tp.state == .draining) (·.stopTaproot stUpdating)).revert
    else
      let recent := s.tp.wdtTimes.filter fun t => s.time < t + 600 * 10 ^ 9
      let s := s.modPwr fun p => { p with resetCause := p.resetCause ||| 0x100, wdtCount := satInc p.wdtCount }
      if recent.length < 3 then
        (s.stopTaproot stUpdating).modTp fun t => { t with state := .restarting, restartCause := 1, wdtTimes := recent ++ [s.time] }
      else if !s.tp.switched && s.slotUsable (1 - s.tp.slot) then
        (s.stopTaproot stUpdating).modTp fun t => { t with
          state := .restarting, restartCause := 1, wdtTimes := [], switched := true, slot := 1 - t.slot, version := BitVec.ofNat 32 (s.slotVersion (1 - t.slot)) }
      else
        let s := (s.stopTaproot stFaulted).modPwr fun p => { p with resetCause := p.resetCause ||| 0x200 }
        (s.resolvePending stFaulted).modTp fun t => { t with state := .halted, wdtTimes := recent ++ [s.time] })

/-- EV_SYS_TAPROOT_RESTARTED. -/
def State.postRestarted (cause : Nat) (s : State) : State :=
  s.post 0x86 1 (le 1 cause ++ le 1 s.tp.slot ++ [0, 0] ++ le 4 s.tp.version.toNat)

/-- The completion of SEC.FW_ACTIVATE, posted by the image that runs: its slot and version (R97, R451). -/
def State.endActivation (status : Nat) (s : State) : State :=
  s.completeAll 0x1303 status (le 1 s.tp.slot ++ [0, 0, 0] ++ le 4 s.tp.version.toNat)

/-- A restarted Taproot, after a watchdog expiry or a revert, resolves what is pending and dequeues again (R89). -/
def execTaprootRestarted (s : State) : Result :=
  done (s.when (s.tp.state == .restarting && s.tp.restartCause != 0) fun s =>
    let cause := s.tp.restartCause
    let s := (s.resolvePending stFaulted).endActivation stFaulted
    ((s.resumeMismatch.rebuildIntent).modTp fun t => { t with state := .running, deadline := none }).postRestarted cause)

/-! ### Live update (R89, R451) -/

/-- The 100 ms drain ends: what is still pending completes with ST_UPDATING. -/
def execLiveUpdateDrainTimeout (s : State) : Result :=
  done (s.when (s.tp.state == .draining) fun s => (s.timeTo (s.tp.deadline.getD 0)).resolvePending stUpdating)

/-- The restart at the first latch point after the drain: records committed, the new image loaded and measured as the ROM
does; a failed load brings the old image back. -/
def execLiveUpdateRestart (s : State) : Result :=
  done (s.when (s.tp.state == .draining && s.ctl.executing.isEmpty && s.ctl.pendingOps.all fun o => o.code == 0x1303) fun s =>
    let s := (s.stopTaproot stUpdating).commitPending
    let slot := 1 - s.tp.oldSlot
    if !s.slotUsable slot then s.revert
    else (s.measureFw slot).modTp fun t => { t with
      state := .restarting, slot := slot, version := BitVec.ofNat 32 (s.slotVersion slot), deadline := some (s.time + ms 300), restartCause := 0 })

/-- READY (R438). After a live update it confirms the update (R451). -/
def execTaprootReady (s : State) : Result :=
  done (
    if s.tp.state == .restarting && s.updating then
      let s := (s.modTp fun t => { t with state := .running, ready := true, deadline := none }).confirmReady
      ((s.resumeMismatch.rebuildIntent).postRestarted 0).endActivation stOk
    else s.when (s.tp.state == .running && !s.tp.ready) fun s =>
      (s.modTp fun t => { t with ready := true }).when (s.tp.slot == s.preferred) State.confirmReady)

/-- No READY within 300 ms: AON brings the old image back (R451). -/
def execActivationReadyTimeout (s : State) : Result :=
  done (s.when (s.tp.state == .restarting && s.updating) fun s => (s.timeTo (s.tp.deadline.getD 0)).revert)

end Sys2Proof.Machine
end

