-- ==== Sys2Proof/Machine/Registers.lean ====
section
/-! DEFINITION. BAR0 as each master reads and writes it (Tables 3.2 and 3.3), the windows of SVC and SAFE (R69 to R71)
and device memory through BAR2. -/

namespace Sys2Proof.Machine

/-! ### BAR0 reads -/

/-- Position k of n outstanding entries counted from `first`, in a ring of `size`. -/
def outstanding (size first n k : Nat) : Bool := (k + size - first % size) % size < n

/-- The 32 bytes at position p of an event ring (Table 3.11). -/
def EvRing.slot (r : EvRing) (p : Nat) : Bytes :=
  let age := (r.producer.toNat + 255 - p) % 256
  if age < r.entries.length then
    (match r.entries[r.entries.length - 1 - age]? with
      | some e => e.bytes
      | none => List.replicate 32 0)
  else List.replicate 32 0

/-- Identity and global status, 0x0000 to 0x0FFF (Table 3.3 and the chapters of the units). -/
def State.readIdentity (m off : Nat) (s : State) : Nat :=
  let i := off % 256 / 4
  if off < 0x100 then
    (if off == 0x00 then s.deviceId
    else if off == 0x04 then s.id.siliconRev.toNat
    else if off == 0x08 then (if s.tp.state == .recovery then 0 else s.fwActive)
    else if off == 0x0C then s.mode.mode.code
    else if off == 0x40 then s.resetCauseWord
    else if off == 0x44 then bitOf s.pwr.linkSplit 0 + bitOf s.pins.sealEn 1
    else if off == 0x48 then s.domainOnWord false
    else if off == 0x4C then s.domainOnWord true
    else if off == 0x80 then (if m < 2 then 0 else (s.ctl.ports.getD (m - 2) {}).page.toNat)
    else 0)
  else if off < 0x200 then
    (if off == 0x100 then s.ray.frameStatus.toNat else if off == 0x104 then s.calStatus else if off == 0x108 then s.calCrc else 0)
  else if off < 0x300 then
    (if off == 0x200 then s.dispPosition
    else if off == 0x204 then s.disp.frame.toNat
    else if off == 0x208 then s.dispLineStore
    else if off == 0x20C then s.dispLinkStatus
    else if off == 0x210 then s.dispPanelStatus
    else 0)
  else if off < 0x400 then 0
  else if off < 0xE00 then
    (let l := off % 0x400 / 4
    if 144 ≤ l || !s.hasLane l then 0
    else if off < 0x800 then s.laneStatus l
    else if off < 0xC00 then s.laneEq l
    else if l < 128 then s.laneTest l else 0)
  else if off < 0xEC0 then
    (let n := i % 16
    if 12 ≤ n || !s.hasChannel n then 0
    else if off < 0xE40 then s.memStatus n
    else if off < 0xE80 then s.memEcc n
    else s.memTrack n)
  else if off == 0xEC0 then s.memMap
  else if off == 0xEC4 then s.memConfig
  else if off == 0xEC8 then s.memPolicy
  else if off == 0xF00 then s.placardStatus
  else if off == 0xF40 then s.aud.producer.toNat
  else if off == 0xF44 then s.aud.consumed.toNat
  else if off == 0xF48 then s.audioStatus
  else if off == 0xF80 then s.hkThermal
  else if off == 0xF84 then s.hkSensorFault
  else 0

/-- Ownership, SAFE control and the Heartwood registers, 0x1000 to 0x1FFF. -/
def State.readOwnership (m off : Nat) (s : State) : Nat :=
  if off == 0x1000 then s.ownStatus m
  else if off == 0x1004 then (if s.isOwner m then s.own.token.toNat else 0)
  else if off == 0x100C then s.own.results.getD m 0
  else if off == 0x101C then s.ownConfig
  else if off == 0x1040 then bitOf s.own.forceSafeView 0 + bitOf s.own.hwRelease 1 + bitOf s.own.alarmTone 2
  else if 0x1080 ≤ off && off < 0x10C0 then (s.hw.regs.getD ((off - 0x1080) / 4) 0).toNat
  else if off == 0x10C0 then s.hw.portAddr.toNat
  else if off == 0x10D0 then s.hwFrame
  else if off == 0x10D4 then (s.hw.captured.getD m (0, false, 0)).1.toNat
  else if off == 0x10D8 then s.hwStatus m
  else 0

/-- Mailboxes, 0x10000 to 0x1FFFF (R81); those of a master that does not exist read 0 (R67). -/
def State.readMailbox (off : Nat) (s : State) : Nat :=
  let b := (off - 0x10000) / 0x4000
  let o := off % 0x4000
  let x := s.box b
  if !s.masterExists b then 0
  else if o < 0x2000 then ofLe (memRead s.win off 4)
  else if o == 0x2000 then x.producer.toNat
  else if o == 0x2004 then x.responded.toNat + x.dequeued.toNat * 256
  else if o == 0x2008 then s.mbStatus b
  else 0

/-- Event rings and their control, 0x20000 to 0x2FFFF (R83). -/
def State.readRings (off : Nat) (s : State) : Nat :=
  if off < 0x28000 then
    (let r := (off - 0x20000) / 0x2000
    if !s.masterExists r then 0 else u32At ((s.ring r).slot (off % 0x2000 / 32)) (off % 32))
  else
    let n := (off - 0x28000) / 0x100
    let r := s.ring n
    let o := off % 0x100
    if 4 ≤ n || !s.masterExists n then 0
    else if o == 0x00 then r.producer.toNat
    else if o == 0x04 then r.consumer.toNat
    else if o == 0x08 then r.mask.toNat
    else if o == 0x0C then r.lost.toNat
    else if o == 0x10 then r.holdoff.toNat
    else 0

/-- The 2 KiB of coefficient shadows of layer l as bytes (Table 10.4): 64 phases of 8 taps, then from 1,024 of 6. -/
def State.coefBytes (s : State) (l : Nat) : Bytes :=
  let (h, v) := s.layers.coef.getD l ([], [])
  pad 1024 (h.flatMap fun x => le 2 (wrap 16 x)) ++ pad 1024 (v.flatMap fun x => le 2 (wrap 16 x))

/-- Flip window, 0x30000 to 0x3FFFF (Table 10.4). -/
def State.readFlip (off : Nat) (s : State) : Nat :=
  if 0x36000 ≤ off && off < 0x38000 then u32At (s.coefBytes ((off - 0x36000) / 0x800)) (off % 0x800)
  else if off < 0x3F000 then ofLe (memRead s.win off 4)
  else if off == 0x3F000 then s.layers.producer.toNat
  else if off == 0x3F004 then s.layers.consumed.toNat
  else if off == 0x3F008 then s.flipStatus
  else if off == 0x3F010 then s.layers.last
  else if off == 0x3F014 then (match s.layers.force with | some c => c.no | none => 0)
  else if off == 0x3F018 then s.layers.appliedFrame.toNat
  else if off == 0x3F01C then s.commitRetired
  else if off == 0x3F020 then s.captureStatus
  else if off == 0x3F024 then s.layers.capFrame.toNat
  else 0

/-- Scene ring, 0x40000 to 0x4FFFF (spec/08). -/
def State.readScene (off : Nat) (s : State) : Nat :=
  if off < 0x42000 then ofLe (memRead s.win off 4)
  else if off < 0x4A000 then
    (let q := (off - 0x42000) / 0x2000
    maskOf 32 fun b => s.pageHeld q (32 * (off % 0x2000 / 4) + b))
  else if off == 0x4F000 then s.scene.producer.toNat
  else if off == 0x4F004 then s.scene.consumed.toNat
  else if off == 0x4F008 then s.sceneStatus
  else if off == 0x4F00C then s.scene.lastRejected.toNat
  else if 0x4F020 ≤ off && off < 0x4F060 then
    (let k := (off - 0x4F020) / 16
    let o := off % 16
    (if o == 0 then s.scene.applied.getD k 0 else if o == 4 then s.scene.retired.getD k 0
      else if o == 8 then s.scene.appliedFrame.getD k 0 else s.scene.appliedSf.getD k 0).toNat)
  else 0

/-- Churn queues, 0x50000 to 0x5FFFF (spec/14). -/
def State.readChurn (off : Nat) (s : State) : Nat :=
  let q := (off - 0x50000) / 0x100
  let o := off % 0x100
  if 8 ≤ q then 0
  else if o == 0x00 then (s.chq q).producer.toNat
  else if o == 0x04 then (s.chq q).completed.toNat
  else if o == 0x08 then s.churnStatus q
  else if o == 0x10 then s.churnConfig q
  else 0

/-- MSI-X table and pending bits of the host's function (R84); SVC and SAFE have none. -/
def State.readMsix (m off : Nat) (s : State) : Nat :=
  let f := s.fn m
  let o := off - 0x80000
  if 2 ≤ m then 0
  else if o < 1024 then
    (let (lo, hi, d) := f.table.getD (o / 16) (0, 0, 0)
    if o % 16 == 0 then lo.toNat else if o % 16 == 4 then hi.toNat else if o % 16 == 8 then d.toNat else bitOf (f.masked.getD (o / 16) true) 0)
  else if off == 0xC0000 then maskOf 32 fun i => f.pba.getD i false
  else if off == 0xC0004 then maskOf 32 fun i => f.pba.getD (32 + i) false
  else 0

/-- The switched domain that holds a register (R15); the flip window and its shadows lie in CMP, whose power-up resets them
(R240, R243). -/
def regDomain (off : Nat) : Option Nat :=
  if (0x200 ≤ off && off ≤ 0x210) || (0x30000 ≤ off && off < 0x40000) then some domCMP else if off == 0xF00 then some domPL
  else if 0xF40 ≤ off && off ≤ 0xF48 then some domAU else none

/-- The register is one of a lane, channel or unit that this part does not have (R5). -/
def State.absentReg (s : State) (off : Nat) : Bool :=
  if 0x400 ≤ off && off < 0xE00 then let l := off % 0x400 / 4
    l < 144 && !s.hasLane l
  else if 0xE00 ≤ off && off < 0xEC0 then let n := off % 64 / 4
    n < 12 && !s.hasChannel n
  else if 0x60000 ≤ off && off < 0x70000 then let u := (off - 0x60000) / 4
    (unitDomain u).isSome && !s.unitPresent u
  else false

/-- A 32-bit read of BAR0 by master m, with its side effects (R11, R15, R262). -/
def State.readReg (m : Master) (off : Nat) (s : State) : Nat × State :=
  let off := off / 4 * 4
  let c := m.code
  if (regDomain off).any fun d => !s.domOn d then (0, s.offAccess m ((regDomain off).getD 0) off false)
  else if off < 0x1000 then (s.readIdentity c off, s)
  else if off < 0x2000 then (s.readOwnership c off, if off == 0x10D0 then s.hwCapture c else s)
  else if off < 0x10000 then (0, s)
  else if off < 0x20000 then (s.readMailbox off, s)
  else if off < 0x30000 then
    (s.readRings off,
      if 0x28000 ≤ off && off % 0x100 == 0x0C && (off - 0x28000) / 0x100 < 4 then s.modRing ((off - 0x28000) / 0x100) fun r => { r with lost := 0 } else s)
  else if off < 0x40000 then (s.readFlip off, s)
  else if off < 0x50000 then (s.readScene off, s)
  else if off < 0x60000 then (s.readChurn off, s)
  else if off < 0x70000 then (s.unitWord ((off - 0x60000) / 4) % 2 ^ 32, s)
  else if off < 0x80000 then (0, s)
  else if off < 0x100000 then (s.readMsix c off, s)
  else if s.isOwner c then (let (v, t) := s.freeNat
    (v % 2 ^ 32, t))
  else (0, s)

/-! ### BAR0 writes (R11 to R13) -/

/-- The state after a meaning that always goes on. -/
def State.after (s : State) (r : Result) : State := match r with
  | .next t => t
  | _ => s

/-- Each 1 of `v` clears the flag at bit `i` (W1C). -/
def w1c (v : W32) (i : Nat) (flag : Bool) : Bool := flag && !v.getLsbD i

/-- Registers of 0x0000 to 0x0FFF: RESET_CAUSE, WIN_PAGE and the audio registers take writes. Registers of Table 3.3 that
have no header are RO; the others are "write: none". -/
def State.writeIdentity (m : Master) (off : Nat) (v : W32) (s : State) : State :=
  if off < 0x10 then s
  else if off == 0x40 then
    (if s.isOwner m.code then s.modPwr fun p => { p with resetCause := p.resetCause &&& ~~~(v &&& 0x1FF) } else s.dropWrite m off)
  else if off == 0x80 then
    (if m.code < 2 then s else s.modCtl fun c => { c with ports := c.ports.modify (m.code - 2) fun p => { p with page := v.setWidth 16 } })
  else if off == 0xF40 then s.after (execAudioPcmProducer m v s)
  else if off == 0xF48 then
    (if !s.isOwner m.code then s.dropWrite m off
    else if !s.domOn domAU then s.offAccess m domAU off true
    else s.modAud fun a => { a with pcmOverrun := w1c v 3 a.pcmOverrun })
  else if (0x44 ≤ off && off < 0x50) || (0x100 ≤ off && off < 0x10C) || (0x200 ≤ off && off ≤ 0x210) || (0x400 ≤ off && off < 0x640)
      || (0x800 ≤ off && off < 0xA40) || (0xC00 ≤ off && off < 0xE00) || (0xE00 ≤ off && off < 0xEC0 && off % 64 < 48)
      || (0xEC0 ≤ off && off ≤ 0xEC8) || off == 0xF00 || off == 0xF44 || off == 0xF80 || off == 0xF84 then s.dropWrite m off
  else s

/-- The writable bits of the Heartwood geometry register at offset o of its rectangle (R12). -/
def hwRegMask (o : Nat) : W32 := if o == 8 then 0x1FFFFF else if o == 12 then 0x80037FFF else 0xFFFFFFFF

/-- SAFE_CTRL as SAFE writes it (R80): each bit acts when it changes. -/
def State.writeSafeCtrl (v : W32) (s : State) : State :=
  let m := Master.safe
  let s := if v.getLsbD 0 == s.own.forceSafeView then s else if v.getLsbD 0 then s.after (execForceSafeViewSet m s) else s.after (execForceSafeViewClear m s)
  let s := if v.getLsbD 1 then s.after (execHwRelease m s) else s.modOwn fun o => { o with hwRelease := false }
  if v.getLsbD 2 == s.own.alarmTone then s else if v.getLsbD 2 then s.after (execAlarmToneOn m s) else s.after (execAlarmToneOff m s)

/-- Ownership, SAFE control and Heartwood registers. -/
def State.writeOwnership (m : Master) (off : Nat) (v : W32) (s : State) : State :=
  if off == 0x1008 then s.after (execOwnClaim m v s)
  else if off == 0x1010 then s.after (execOwnHeartbeat m v s)
  else if off == 0x1014 then s.after (execOwnHandover m v s)
  else if off == 0x1018 then s.after (execOwnHandoverToken m v s)
  else if off == 0x10C4 then s.after (execHwPortData m v s)
  else if off == 0x10C8 then s.after (execHwCommit m v s)
  else if off == 0x10CC then s.after (execHwRefresh m v s)
  else if off == 0x1000 || off == 0x1004 || off == 0x100C || off == 0x101C || off == 0x10D0 || off == 0x10D4 || off == 0x10D8 then s.dropWrite m off
  else if off == 0x1040 || (0x1080 ≤ off && off ≤ 0x10C0) then
    (if m != .safe then s.dropWrite m off
    else if off == 0x1040 then s.writeSafeCtrl v
    else if off == 0x10C0 then s.modHw fun h => { h with portAddr := v &&& 0x1FFFFC }
    else s.modHw fun h => { h with regs := h.regs.set ((off - 0x1080) / 4) (v &&& hwRegMask (off % 16)) })
  else s.breakPair m

/-- Mailbox of a master: slots, MB_DOORBELL and MB_STATUS from the mailbox's own master only (R81). -/
def State.writeMailbox (m : Master) (off : Nat) (v : W32) (s : State) : State :=
  let b := (off - 0x10000) / 0x4000
  let o := off % 0x4000
  let x := s.box b
  if o == 0x2000 then s.after (execMbDoorbell m b v s)
  else if b != m.code || o == 0x2004 then s.dropWrite m off
  else if o < 0x2000 then
    (if outstanding 32 x.responded.toNat (x.producer - x.responded).toNat (o / 256) then s.modBox b fun y => { y with slotDropped := true }
    else s.modWin fun w => memWrite w off (le 4 v.toNat))
  else if o == 0x2008 then s.modBox b fun y => { y with overrun := w1c v 0 y.overrun, slotDropped := w1c v 1 y.slotDropped }
  else s

/-- Event rings: entries are RO (R83), the control registers take writes of the ring's master. -/
def State.writeRings (m : Master) (off : Nat) (v : W32) (s : State) : State :=
  let n := (off - 0x28000) / 0x100
  let o := off % 0x100
  if off < 0x28000 || 4 ≤ n || 0x10 < o then s
  else if n != m.code then s.dropWrite m off
  else if o == 0x04 then s.after (execEvrConsumer m n v s)
  else if o == 0x08 then s.modRing n fun r => { r with mask := v &&& 0x3FFFFF }
  else if o == 0x10 then s.modRing n fun r => { r with holdoff := v.setWidth 16 }
  else s

/-- A signed 16-bit coefficient at byte offset o of a layer's 2 KiB (Table 10.4). -/
def setCoef (o : Nat) (v : Int) (c : List Int × List Int) : List Int × List Int :=
  if o < 1024 then (c.1.set (o / 2) v, c.2) else (c.1, c.2.set ((o - 1024) / 2) v)

/-- The two coefficients of a word. -/
def setCoefs (o : Nat) (v : W32) (c : List Int × List Int) : List Int × List Int :=
  setCoef (o + 2) (sext 16 (v.toNat / 65536)) (setCoef o (sext 16 v.toNat) c)

/-- Flip window (Table 10.4): a write into an outstanding ring entry is discarded (R248). -/
def State.writeFlip (m : Master) (off : Nat) (v : W32) (s : State) : State :=
  let x := s.layers
  if off == 0x3F000 then s.after (execFlipProducer m v s)
  else if off == 0x3F00C then s.after (execDispCommit m v s)
  else if !s.isOwner m.code || off == 0x3F004 || (0x3F010 ≤ off && off ≤ 0x3F024) then s.dropWrite m off
  else if !s.domOn domCMP then s.offAccess m domCMP off true
  else if off < 0x34000 then
    (if outstanding 256 x.consumed.toNat (x.producer - x.consumed).toNat ((off - 0x30000) / 64) then s.modLayers fun y => { y with slotDropped := true }
    else s.modWin fun w => memWrite w off (le 4 v.toNat))
  else if off < 0x34200 || (0x38000 ≤ off && off < 0x3A000) then s.modWin fun w => memWrite w off (le 4 v.toNat)
  else if 0x36000 ≤ off && off < 0x38000 then
    s.modLayers fun y => { y with coef := y.coef.modify ((off - 0x36000) / 0x800) (setCoefs (off % 0x800) v) }
  else if off == 0x3F008 then s.modLayers fun y =>
    { y with overrun := w1c v 0 y.overrun, rejected := w1c v 1 y.rejected, slotDropped := w1c v 2 y.slotDropped }
  else s

/-- Scene ring (spec/08): a write into an outstanding entry is discarded (R199). -/
def State.writeScene (m : Master) (off : Nat) (v : W32) (s : State) : State :=
  let x := s.scene
  if off == 0x4F000 then s.after (execSceneProducer m v s)
  else if !s.isOwner m.code || off == 0x4F004 || off == 0x4F00C || (0x4F020 ≤ off && off < 0x4F060) then s.dropWrite m off
  else if off < 0x42000 then
    (if outstanding 256 x.consumed.toNat (x.producer - x.consumed).toNat ((off - 0x40000) / 32) then s.modScene fun y => { y with slotDropped := true }
    else s.modWin fun w => memWrite w off (le 4 v.toNat))
  else if off == 0x4F008 then s.modScene fun y =>
    { y with overrun := w1c v 0 y.overrun, rejected := w1c v 1 y.rejected, slotDropped := w1c v 2 y.slotDropped }
  else s

/-- Churn queues (spec/14). -/
def State.writeChurn (m : Master) (off : Nat) (v : W32) (s : State) : State :=
  let q := (off - 0x50000) / 0x100
  let o := off % 0x100
  if 8 ≤ q then (if s.isOwner m.code then s else s.dropWrite m off)
  else if o == 0x00 then s.after (execChurnProducer m q v s)
  else if o == 0x0C then s.after (execChurnAbortWrite m q v s)
  else if !s.isOwner m.code || o == 0x04 || o == 0x10 then s.dropWrite m off
  else if o == 0x08 then s.modChq q fun c =>
    { c with overrun := w1c v 0 c.overrun, remapReset := w1c v 1 c.remapReset, abortNoop := w1c v 2 c.abortNoop, entryPoisoned := w1c v 3 c.entryPoisoned }
  else s

def setMsixWord (o : Nat) (v : W32) (t : W32 × W32 × W32) : W32 × W32 × W32 :=
  if o == 0 then (v, t.2.1, t.2.2) else if o == 4 then (t.1, v, t.2.2) else (t.1, t.2.1, v)

/-- MSI-X table of the writing host's function; unmasking sends a pending vector (R84). -/
def State.writeMsix (m : Master) (off : Nat) (v : W32) (s : State) : State :=
  let f := m.code
  let o := off - 0x80000
  let k := o / 16
  if 2 ≤ f then s.dropWrite m off
  else if 1024 ≤ o then s
  else if o % 16 == 12 then
    (let s := s.modFn f fun x => { x with masked := x.masked.set k (v.getLsbD 0) }
    if !v.getLsbD 0 && (s.fn f).pba.getD k false then (s.modFn f fun x => { x with pba := x.pba.set k false }).vector f k else s)
  else s.modFn f fun x => { x with table := x.table.modify k (setMsixWord (o % 16) v) }

/-- A 32-bit write of BAR0 by master m. -/
def State.writeReg (m : Master) (off : Nat) (v : W32) (s : State) : State :=
  let off := off / 4 * 4
  if s.absentReg off then s
  else if off < 0x1000 then s.writeIdentity m off v
  else if off < 0x2000 then s.writeOwnership m off v
  else if off < 0x10000 then s
  else if off < 0x20000 then s.writeMailbox m off v
  else if off < 0x30000 then s.writeRings m off v
  else if off < 0x40000 then s.writeFlip m off v
  else if off < 0x50000 then s.writeScene m off v
  else if off < 0x60000 then s.writeChurn m off v
  else if off < 0x70000 then s.dropWrite m off
  else if off < 0x80000 then s
  else if off < 0x100000 then s.writeMsix m off v
  else s.dropWrite m off

/-- A register access of one or more words; each register is judged for itself (R13). -/
def State.writeRegs (m : Master) (off : Nat) : List W32 → State → State
  | [], s => s
  | v :: t, s => (s.writeReg m off v).writeRegs m (off + 4) t

def execRegisterWrite (m : Master) (offset : Nat) (words : List W32) (s : State) : Result :=
  s.byPort m.code fun s => done (s.writeRegs m offset words)

/-! ### Device memory through BAR2 and the windows (R69, R208) -/

/-- EV_SYS_WRITE_DROPPED, REASON 2: a device-memory write of a master that is not the owner. -/
def State.setWriteDropped (m : Master) (s : State) : State :=
  if m.code < 2 then s else s.modCtl fun c => { c with ports := c.ports.modify (m.code - 2) fun p => { p with writeDropped := true } }

/-- The switched domain that holds the burst at `a`, when it is off or being switched (R15): the controller of its channel. A
channel that is being removed answers with poison instead (R354). -/
def State.offAt (s : State) (a : Nat) : Option Nat :=
  if s.inDram a then
    let n := (s.dramPlace a).1
    if (s.chan n).removing || s.domOn (domMC n) then none else some (domMC n)
  else none

/-- The first burst of the range whose domain is off: its address and domain. -/
def State.firstOff (s : State) (a n : Nat) : Option (Nat × Nat) :=
  (List.range ((a % 64 + n + 63) / 64)).findSome? fun i =>
    let b := max a (a / 64 * 64 + 64 * i)
    if n == 0 then none else (s.offAt b).map fun d => (b, d)

/-- The bytes of a write that fall into domains that accept traffic are written; the others are discarded (R15). -/
def State.devWriteOn (a : Nat) (d : Bytes) (s : State) : State :=
  if (s.firstOff a d.length).isNone then s.devWrite a d
  else (List.range ((a % 64 + d.length + 63) / 64)).foldl (fun t i =>
    let b := max a (a / 64 * 64 + 64 * i)
    if (s.offAt b).isSome then t else t.devWrite b (slice d (b - a) (a / 64 * 64 + 64 * i + 64 - b))) s

/-- The event of an access to a domain that is off (R15). -/
def State.offLog (m : Master) (a n : Nat) (write : Bool) (s : State) : State :=
  match s.firstOff a n with
  | some (b, d) => s.offAccess m d b write
  | none => s

/-- The bytes of a read: 0 from a domain that is off (R15). -/
def State.devReadOn (s : State) (a n : Nat) : Bytes :=
  if (s.firstOff a n).isNone then s.devRead a n else (List.range n).map fun i => if (s.offAt (a + i)).isSome then 0 else s.devByte (a + i)

/-- A device-memory write: judged by its master, its address, Taproot's regions, then the lease policy. -/
def State.memWriteBy (m : Master) (a : Nat) (d : Bytes) (s : State) : State :=
  let n := d.length
  if n == 0 then s
  else if !s.isOwner m.code then (s.setWriteDropped m).post 0x82 1 (le 1 m.code ++ [2, 2, 0] ++ le 4 0 ++ le 5 a)
  else if !s.inMemory a n then (s.setWriteDropped m).post 0x81 1 (le 1 m.code ++ [1] ++ le 5 a)
  else match s.permanent a n with
  | some r => s.leaseEvent m.code 2 a r.id n
  | none =>
    if !s.held a n then (s.devWriteOn a d).offLog m a n true
    else
      let t := s.leaseEvent m.code (if s.leases.allow then 1 else 0) a (s.leaseId a n) n
      if s.leases.allow then (t.devWriteOn a d).offLog m a n true else t

/-- A word of the device-memory page of a window: 0xFFFF_FFFF when poisoned (Table 13.8). -/
def State.pageWord (s : State) (a : Nat) : Bytes := if s.poisoned a 4 then List.replicate 4 0xFF else s.devReadOn a 4

def execBar2Write (m : Master) (addr : Nat) (data : List W8) (s : State) : Result :=
  s.byPort m.code fun s => done (s.memWriteBy m addr data)

/-- A host read returns the data with its poison mark; a window read has poisoned words replaced. -/
def execBar2Read (m : Master) (addr n : Nat) (s : State) : Result :=
  s.byPort m.code fun s =>
    let t := s.offLog m addr n false
    done (if m.code < 2 then t.emit (.readData m.code (s.devReadOn addr n) (s.poisoned addr n))
    else t.emit (.readData m.code (((List.range ((n + 3) / 4)).flatMap fun i => s.pageWord (addr + 4 * i)).take n) false))

/-- Device address of offset `a` of a window's page. -/
def State.pageAddr (s : State) (m a : Nat) : Nat := (s.ctl.ports.getD (m - 2) {}).page.toNat * 2 ^ 20 + (a - 0x400000)

/-- In recovery the page of the SVC window is the ROM's staging buffer (R439). -/
def State.pageStaging (s : State) (m : Master) : Bool := s.tp.state == .recovery && m == .svc

/-- A 32-bit read of a window address (R70). -/
def State.winRead (m : Master) (a : Nat) (s : State) : Bytes × State :=
  if a < 0x400000 then (let (v, t) := s.readReg m a
    (le 4 v, t))
  else if 0x500000 ≤ a then (le 4 0, s)
  else if s.pageStaging m then (memRead s.sec.staging (a - 0x400000) 4, s)
  else (s.pageWord (s.pageAddr m.code a), s.offLog m (s.pageAddr m.code a) 4 false)

/-- A 32-bit write of a window address (R70). -/
def State.winWrite (m : Master) (a : Nat) (d : Bytes) (s : State) : State :=
  if a < 0x400000 then s.writeReg m a (BitVec.ofNat 32 (ofLe d))
  else if 0x500000 ≤ a then s
  else if s.pageStaging m then s.modSec fun x => { x with staging := memWrite x.staging (a - 0x400000) d }
  else s.memWriteBy m (s.pageAddr m.code a) d

/-- The address of word k of a transfer: it advances by 4 modulo 2^32. -/
def winAddr (a k : Nat) : Nat := (a + 4 * k) % 2 ^ 32

/-- Words k and on of a write, a partial word discarded. -/
def State.winWrites (m : Master) (a : Nat) (d : Bytes) : Nat → State → State
  | 0, s => s
  | n + 1, s => (s.winWrites m a d n).winWrite m (winAddr a n) (slice d (4 * n) 4)

/-- `n` words read in order, with the bytes returned. A word whose number is in `late` was not complete in time: it returns
0xFFFF_FFFF and sets READ_LATE. -/
def State.winReads (m : Master) (a : Nat) (late : List Nat) : Nat → State → Bytes × State
  | 0, s => ([], s)
  | n + 1, s =>
    let (b, s) := s.winReads m a late n
    let (w, s) := s.winRead m (winAddr a n)
    if late.contains n then
      (b ++ List.replicate 4 0xFF, s.modCtl fun c => { c with ports := c.ports.modify (m.code - 2) fun p => { p with readLate := true } })
    else (b ++ w, s)

/-- The status byte, whose bits 1 to 3 clear when it is read (R71). -/
def State.readStatus (m : Master) (s : State) : Nat × State :=
  (s.statusByte m.code, s.modCtl fun c => { c with ports := c.ports.modify (m.code - 2) fun p => { p with readLate := false, writeDropped := false, pecErr := false } })

/-! ### The SVC port (R68, R70) -/

/-- A WRITE frame: opcode, four address bytes, data. A frame without its whole address, and one whose first byte is no opcode
of Table 3.4, does nothing. SVC_MISO carries 0 throughout. -/
def execSpiWriteFrame (bytes : List W8) (s : State) : Result :=
  done (s.when (!s.pins.svcPresentN) fun s =>
    (s.when (bytes.length ≥ 5 && byteAt bytes 0 == 2) fun s =>
      s.winWrites .svc (u32At bytes 1) (bytes.drop 5) ((bytes.length - 5) / 4)).emit (.spi (List.replicate bytes.length 0)))

/-- A READ frame: opcode and address, then `words` data words shifted out. Word 0 is read once the address is there and
word k + 1 when word k starts to leave, so one word more than those shifted is read. -/
def execSpiReadFrame (bytes : List W8) (words : Nat) (late : List Nat) (s : State) : Result :=
  done (s.when (!s.pins.svcPresentN) fun s =>
    if bytes.length ≥ 5 && byteAt bytes 0 == 0x0B then
      let (d, s) := s.winReads .svc (u32At bytes 1) late (words + 1)
      s.emit (.spi (List.replicate 13 0 ++ d.take (4 * words)))
    else s.emit (.spi (List.replicate bytes.length 0)))

/-- A STATUS frame: the opcode's byte position carries 0, the next the status. -/
def execSpiStatusFrame (s : State) : Result :=
  done (s.when (!s.pins.svcPresentN) fun s =>
    let (v, s) := s.readStatus .svc
    s.emit (.spi (0 :: le 1 v)))

/-! ### The SAFE port (R70, R71, R463): `bytes` follow addr+W, the PEC last -/

/-- The two-wire address byte, with its direction bit. -/
def twoWireW : W8 := 0x94
def twoWireR : W8 := 0x95

/-- The device acknowledges addr+W and the `n` bytes after it, then answers `last`. -/
def State.acks (n : Nat) (last : Bool) (s : State) : State := s.emit (.twoWireAck (List.replicate (n + 1) true ++ [last]))

/-- A faulty transaction: PEC_ERR and EV_SYS_SAFE_PEC_ERROR. -/
def State.pecError (opcode read : Nat) (s : State) : State :=
  (s.modCtl fun c => { c with ports := c.ports.modify 1 fun p => { p with pecErr := true } }).post 0x83 1 (le 1 opcode ++ le 1 read)

/-- The last byte is the PEC over addr+W and the bytes before it. -/
def pecGood (bytes : Bytes) : Bool := bytes.getLast? == some (pec (twoWireW :: bytes.dropLast))

/-- The bytes the device returns, with its PEC: the CRC over addr+R and the data. -/
def State.twoWireReply (d : Bytes) (s : State) : State := s.emit (.twoWire (d ++ [pec (twoWireR :: d)]))

/-- A WRITE: every byte is acknowledged. One whose PEC is right but which lacks its address is discarded like one whose PEC is
wrong (log 50). A byte after addr+W that is no opcode is not acknowledged and does nothing. -/
def execTwoWireWrite (bytes : List W8) (s : State) : Result :=
  done (if byteAt bytes 0 != 2 then s.acks 0 false
  else
    let s := s.acks (bytes.length - 1) true
    if bytes.length < 6 || !pecGood bytes then s.pecError 2 0
    else s.winWrites .safe (u32At bytes 1) (bytes.drop 5) ((bytes.length - 6) / 4))

/-- A READ: opcode, four address bytes, PEC, then addr+R, whose acknowledge says whether the request stands, and `n` words. -/
def execTwoWireRead (bytes : List W8) (n : Nat) (late : List Nat) (s : State) : Result :=
  done (if byteAt bytes 0 != 0x0B then s.acks 0 false
  else if bytes.length != 6 || !pecGood bytes then (s.acks bytes.length false).pecError 0x0B 1
  else
    let s := s.acks bytes.length true
    let (d, s) := s.winReads .safe (u32At bytes 1) late n
    s.twoWireReply d)

def execTwoWireStatus (bytes : List W8) (s : State) : Result :=
  done (if byteAt bytes 0 != 5 then s.acks 0 false
  else if bytes.length != 2 || !pecGood bytes then (s.acks bytes.length false).pecError 5 1
  else
    let s := s.acks bytes.length true
    let (v, s) := s.readStatus .safe
    s.twoWireReply (le 1 v))

/-- SCL low for more than 35 ms: SDA is released and the transaction abandoned (R463). A transaction reaches the model only
when it has ended, so nothing of it has been done; a WRITE abandoned this way lacks its PEC and is discarded as R71 says. -/
def execSafeSclTimeout (write : Bool) (s : State) : Result := done (s.when write (·.pecError 2 0))

end Sys2Proof.Machine
end

