-- ==== Sys2Proof/Machine/Completion.lean ====
section
/-! DEFINITION. How pending operations end: their completion (R97) and their limit (R96). An operation whose end is an event
of its own (a latch point, the end of a training, the closing placard frame) completes with that event. -/

namespace Sys2Proof.Machine

/-- The bulk buffer of an operation as it reads now, none when it reads back poisoned (Table 13.8). -/
def State.opBulk (s : State) (o : PendingOp) : Option Bytes :=
  let a := a40At o.args 0
  let n := u32At o.args 8
  if s.poisoned a n then none else some (s.devRead a n)

/-- Finish an operation that consumes its bulk buffer; a poisoned buffer ends it with ST_FAULTED. -/
def State.withBulk (o : PendingOp) (f : Bytes → State → State × Nat × Bytes) (s : State) : State :=
  match s.opBulk o with
  | none => s.complete o stFaulted []
  | some b =>
    let (t, st, result) := f b s
    t.complete o st result

/-- CAL.RUN of one INDEX finds the trim `v`; of all, one trim each, which no operand gives (free values). -/
def State.calDone (item index : Nat) (v : Nat) (s : State) : State × Bytes :=
  if index != 0xFFFF then (s.calibrate item index (sext 16 v), le 2 (wrap 16 (trimClamp item (sext 16 v))))
  else
    let s := ((List.range 216).filter (s.hasTrim item)).foldl (fun t i => let (n, t) := t.freeNat
      t.calibrate item i (sext 16 n)) s
    let (n, s) := s.freeNat
    (s, le 2 n)

/-- RESULT of MEM.TEST: the beats that differ, and the first failing kibibyte, `first` counted from START_KIB. -/
def memTestResult (o : PendingOp) (errors first : Nat) : Bytes :=
  le 4 errors ++ le 4 (if errors == 0 then 0 else u32At o.args 4 + first % max 1 (u32At o.args 8))

/-- A memory test has run to its end (R353). -/
def State.memTestDone (o : PendingOp) (obs : Obs) (s : State) : State :=
  let n := byteAt o.args 0
  s.when (s.memTested n) fun s => (s.complete o stOk (memTestResult o obs.a obs.b)).memTestOver n

/-- The hardware or Taproot has done what the operation asked; `obs` is what it found. -/
def State.finish (o : PendingOp) (obs : Obs) (s : State) : State :=
  let arg (i : Nat) := byteAt o.args i
  match o.code with
  | 0x0404 => s.withBulk o (fun b t => (t.profileStored (arg 16) b, stOk, []))
  | 0x0B02 => s.when ((s.lane (arg 0)).state != 1) (·.endRetrain (arg 0))
  | 0x0C02 => s.memTestDone o obs
  | 0x0E03 => s.withBulk o (fun b t => (t.plcStoreWave (arg 16) b, stOk, []))
  | 0x1101 => s.when (arg 0 != 1 || s.calRuns 1) fun s =>
      let (t, r) := s.calDone (arg 0) (u16At o.args 2) obs.a
      t.complete o stOk r
  | 0x1201 => s.withBulk o (fun b t => (t.writeRecord o.aux b, stOk, []))
  | 0x1301 =>
      let r := s.attestReport (slice o.args 16 32)
      (s.devWrite (a40At o.args 0) r).complete o stOk (le 4 r.length)
  | 0x1302 => if o.aux != 0 then s.complete o o.aux [] else s.withBulk o (fun b t => t.stageDone (arg 16) b obs.ok)
  | 0x1304 => s.withBulk o (fun b t => (t.rotateDone b, stOk, []))
  | 0x1305 =>
      -- step 1 fails with a = 0 and nothing changes; else the read-back of FSEAL does
      if obs.ok then (s.sealKeys.sealDone).complete o stOk [] else if obs.a == 0 then s.complete o stFaulted [] else s.sealKeys.complete o stFaulted []
  | 0x1306 => if o.aux != 0 then s.complete o o.aux [] else s.withBulk o (fun b t => let (t, st) := t.bundleDone (arg 16 + 1) b obs.ok
      (t, st, []))
  | 0x1501 => s.drainDone o
  | 0x1502 => s.cycleDone o
  | 0x1503 => s.retestDone o obs
  | 0x1504 => s.returnDone o
  | _ => s

def execPendingCompletion (m : Master) (pid : Nat) (obs : Obs) (s : State) : Result :=
  done (match s.findOp m.code pid with
    | some o => s.when s.taprootUp (·.finish o obs)
    | none => s)

/-- What has not yet taken place of an operation is given up at its limit. -/
def State.giveUp (o : PendingOp) (s : State) : State :=
  let d := u16At o.args 0
  match o.code with
  | 0x0201 => s.modMode fun m => { m with fieldIn := none }
  | 0x0801 => s.modRay fun r => { r with load := none }
  | 0x0A02 => s.when (s.scan.relink.isNone && s.disp.timingNext.any fun t => t.laneRate != s.disp.timing.laneRate) (·.modDisp fun x => { x with timingNext := none })
  | 0x1501 =>
      let s := s.when (d == domCH) (·.modChurn fun c => { c with drainUntil := none })
      s.when (s.domOn d && 17 ≤ d) (·.unitState d 4)
  | 0x1503 => s.when (s.domOn d) (·.unitState d 3)
  | 0x1504 => s.when (17 ≤ d && d < 29) (·.modChan (d - 17) fun x => { x with joining := false })
  | _ => s

/-- How far the operation got: the RESULT with ST_TIMEOUT (R96). -/
def State.progress (s : State) (o : PendingOp) : Bytes :=
  match o.code with
  | 0x0201 => le 1 s.mode.mode.code ++ le 1 (if byteAt o.args 0 == 3 then (s.failedPrereq <|> s.unmet).getD 0 else 0)
  | 0x0B02 => le 1 (s.lane (byteAt o.args 0)).state ++ [if (s.lane (byteAt o.args 0)).included then 1 else 0]
  | 0x0C01 => [0] ++ le 1 (failingLane (s.chan (byteAt o.args 0)).eyes)
  | 0x0E02 => (match s.plc.seq with | some q => le 1 q.latched ++ le 1 (q.band + bitOf q.clamped 7) ++ [1] | none => [])
  | _ => []

/-- No limit ends the operation: a MODE.SET(SAFE_VIEW) made in BOOT completes at the entry (R24), and one to FIELD ends with
ST_TIMEOUT only while a prerequisite is unmet (R23). -/
def State.noLimit (s : State) (o : PendingOp) : Bool :=
  o.code == 0x0201 && (byteAt o.args 0 == 2 || (byteAt o.args 0 == 3 && s.unmet.isNone && s.failedPrereq.isNone))

/-- The limit of a pending operation passes (R96); a MODE.SET to FIELD one of whose prerequisites has failed completes with
ST_FAULTED (R23). The activation of R451 has limits of its own. -/
def execPendingTimeout (m : Master) (pid : Nat) (s : State) : Result :=
  done (match s.findOp m.code pid with
    | some o => s.when (s.taprootUp && o.code != 0x1303 && !s.noLimit o) fun s =>
        let s := s.timeTo o.deadline
        if o.code == 0x0C02 then s.endMemTest (byteAt o.args 0) stTimeout
        else
          let failed := o.code == 0x0201 && byteAt o.args 0 == 3 && s.failedPrereq.isSome
          (s.giveUp o).complete o (if failed then stFaulted else stTimeout) (s.progress o)
    | none => s)

end Sys2Proof.Machine
end

