-- ==== Sys2Proof/Machine/Tap.lean ====
section
/-! DEFINITION. The test access port (spec/18, Table 18.10; spec/19, R464). -/

namespace Sys2Proof.Machine

/-- A vendor instruction, which acts as BYPASS after the field seal. -/
def vendorOp (op : W8) : Bool := 0x10 ≤ op.toNat && op.toNat ≤ 0x7F
def State.tapVendor (s : State) : Bool := vendorOp s.tap.ir && !s.sec.tapLocked

/-- IDCODE: [31:28] the base revision (Table 18.10). -/
def State.idcode (s : State) : Nat := (if s.is20 then 0x0962023B else 0x0964023B) + s.id.siliconRev.toNat / 256 % 16 * 2 ^ 28

/-- The boundary cells drive the pins: under EXTEST while SYS_RST_N is low. -/
def State.boundaryDrives (s : State) : Option (List Bool) := if s.tap.ir == 0 && !s.pins.sysRstN then some s.tap.boundary else none

/-- `n` bits that the spec does not give: the order of the boundary cells, the layout of a vendor shift. -/
def State.freeBits (s : State) : Nat → List Bool × State
  | 0 => ([], s)
  | n + 1 =>
    let (b, s) := s.freeBits n
    let (v, s) := s.freeNat
    (b ++ [v % 2 == 1], s)

/-- A shift through a register that captured `cap`: the first bits out are the captured ones. -/
def shiftOut (cap bits : List Bool) : List Bool := (cap ++ bits).take bits.length

/-- A data shift through the register of the instruction in force. BYPASS is also what every opcode outside Table 18.10 selects. -/
def State.tapShift (bits : List Bool) (s : State) : State :=
  let ir := s.tap.ir.toNat
  if ir == 1 then s.emit (.tdo (shiftOut ((List.range 32).map (bit s.idcode)) bits))
  else if ir == 0 || ir == 2 then
    (let (b, s) := s.freeBits bits.length
    (s.modTap fun t => { t with boundary := bits }).emit (.tdo b))
  else if s.tapVendor then
    (let (b, s) := s.freeBits bits.length
    s.emit (.tdo b))
  else s.emit (.tdo (shiftOut [false] bits))

/-- A register written through the port takes the write as from a master its header permits. -/
def State.tapWriteReg (off : Nat) (v : W32) (s : State) : State :=
  if off == 0x1040 || (0x1080 ≤ off && off ≤ 0x10CC) then s.writeReg .safe off v
  else
    let who (k : Nat) : Master := if k == 0 then .hostA else if k == 1 then .hostB else if k == 2 then .svc else .safe
    if 0x10000 ≤ off && off < 0x20000 then s.writeReg (who ((off - 0x10000) / 0x4000)) off v
    else if 0x28000 ≤ off && off < 0x28400 then s.writeReg (who ((off - 0x28000) / 0x100)) off v
    else if s.own.owner < 3 then s.writeReg (who s.own.owner) off v
    else ((s.modOwn fun o => { o with owner := 0 }).writeReg .hostA off v).modOwn fun o => { o with owner := s.own.owner }

/-- Fuse words: 0 DEVICE_ID, 1 SILICON_REV, 2 and 3 SERIAL, 4 FSEAL. -/
def State.fuseWord (s : State) : Nat → Nat
  | 0 => s.deviceId
  | 1 => s.id.siliconRev.toNat
  | 2 => s.id.serial.toNat % 2 ^ 32
  | 3 => s.id.serial.toNat / 2 ^ 32
  | 4 => if s.sec.fseal then 1 else 0
  | _ => 0

/-- Programming a fuse word only blows bits. -/
def State.blowFuse (w : Nat) (v : W32) (s : State) : State :=
  match w with
  | 1 => s.modId fun i => { i with siliconRev := i.siliconRev ||| v }
  | 2 => s.modId fun i => { i with serial := i.serial ||| v.setWidth 64 }
  | 3 => s.modId fun i => { i with serial := i.serial ||| (v.setWidth 64 <<< 32) }
  | 4 => s.modSec fun x => { x with fseal := x.fseal || v.getLsbD 0 }
  | _ => s

/-- The word at an address of a space, and the state after reading it (a register may change when read). -/
def State.tapRead (space addr : Nat) (s : State) : Nat × State :=
  match space with
  | 0 => s.readReg .svc addr
  | 1 => (ofLe (s.devRead addr 4), s)
  | 2 => (u32At ((s.recPayload (addr / 65536)).getD []) (addr % 65536), s)
  | 3 => (s.fuseWord addr, s)
  | _ => (ofLe (memRead s.sec.staging addr 4), s)

def State.tapWrite (space addr : Nat) (v : W32) (s : State) : State :=
  match space with
  | 0 => s.tapWriteReg addr v
  | 1 => s.devWrite addr (le 4 v.toNat)
  | 2 =>
    let b := (s.recPayload (addr / 65536)).getD []
    s.writeRecord (addr / 65536) (patch (pad (max b.length (addr % 65536 + 4)) b) (addr % 65536) (le 4 v.toNat))
  | 3 => s.blowFuse addr v
  | _ => s.modSec fun x => { x with staging := memWrite x.staging addr (le 4 v.toNat) }

def bitsOf (n v : Nat) : List Bool := (List.range n).map (bit v)

def execTestAccessPortOperation (op : TapOp) (s : State) : Result :=
  done (match op with
    | .reset => s.modTap fun t => { t with ir := 1 }
    | .ir op => s.modTap fun t => { t with ir := op }
    | .dr bits => s.tapShift bits
    | .vendor write space addr data =>
      if !s.tapVendor || 4 < space then s.tapShift (bitsOf 32 data.toNat)
      else if write then s.tapWrite space addr data
      else
        let (v, s) := s.tapRead space addr
        s.emit (.tdo (bitsOf 32 v)))

end Sys2Proof.Machine
end

