-- ==== Sys2Proof/Machine/Dispatch.lean ====
section
/-! DEFINITION. One arm per command: the one direct call of its meaning. -/

namespace Sys2Proof.Machine

def exec (i : Instr) (s : State) : Host.Outcome State Fault Refusal :=
  match i with
  | .sysIdentify m => Sys2Proof.Machine.execSysIdentify m s
  | .sysCapability m => Sys2Proof.Machine.execSysCapability m s
  | .sysTime m => Sys2Proof.Machine.execSysTime m s
  | .sysUnitState m => Sys2Proof.Machine.execSysUnitState m s
  | .sysReset m => Sys2Proof.Machine.execSysReset m s
  | .sysResetRelease => Sys2Proof.Machine.execSysResetRelease s
  | .ownQuery m => Sys2Proof.Machine.execOwnQuery m s
  | .ownConfig m => Sys2Proof.Machine.execOwnConfig m s
  | .modeQuery m => Sys2Proof.Machine.execModeQuery m s
  | .modeSet m => Sys2Proof.Machine.execModeSet m s
  | .modeBootTarget m => Sys2Proof.Machine.execModeBootTarget m s
  | .pwrQuery m => Sys2Proof.Machine.execPwrQuery m s
  | .pwrSetLimit m => Sys2Proof.Machine.execPwrSetLimit m s
  | .camQuery m => Sys2Proof.Machine.execCamQuery m s
  | .camConfig m => Sys2Proof.Machine.execCamConfig m s
  | .camHeadRead m => Sys2Proof.Machine.execCamHeadRead m s
  | .camHeadWrite m => Sys2Proof.Machine.execCamHeadWrite m s
  | .camProfileSet m => Sys2Proof.Machine.execCamProfileSet m s
  | .ispQuery m => Sys2Proof.Machine.execIspQuery m s
  | .ispContextSet m => Sys2Proof.Machine.execIspContextSet m s
  | .ispSlotMask m => Sys2Proof.Machine.execIspSlotMask m s
  | .ispTap m => Sys2Proof.Machine.execIspTap m s
  | .ispStats m => Sys2Proof.Machine.execIspStats m s
  | .ispAeConfig m => Sys2Proof.Machine.execIspAeConfig m s
  | .depthQuery m => Sys2Proof.Machine.execDepthQuery m s
  | .depthPairSet m => Sys2Proof.Machine.execDepthPairSet m s
  | .depthWarpLoad m => Sys2Proof.Machine.execDepthWarpLoad m s
  | .depthSliceSet m => Sys2Proof.Machine.execDepthSliceSet m s
  | .sceneQuery m => Sys2Proof.Machine.execSceneQuery m s
  | .scenePoolSet m => Sys2Proof.Machine.execScenePoolSet m s
  | .sceneLeasePolicy m => Sys2Proof.Machine.execSceneLeasePolicy m s
  | .sceneLeaseAdd m => Sys2Proof.Machine.execSceneLeaseAdd m s
  | .sceneLeaseRemove m => Sys2Proof.Machine.execSceneLeaseRemove m s
  | .rayQuery m => Sys2Proof.Machine.execRayQuery m s
  | .rayCalLoad m => Sys2Proof.Machine.execRayCalLoad m s
  | .rayLimits m => Sys2Proof.Machine.execRayLimits m s
  | .layerQuery m => Sys2Proof.Machine.execLayerQuery m s
  | .layerSet m => Sys2Proof.Machine.execLayerSet m s
  | .layerCaptureSet m => Sys2Proof.Machine.execLayerCaptureSet m s
  | .layerHwQuery m => Sys2Proof.Machine.execLayerHwQuery m s
  | .layerHwAgeSet m => Sys2Proof.Machine.execLayerHwAgeSet m s
  | .dispQuery m => Sys2Proof.Machine.execDispQuery m s
  | .dispPanelSet m => Sys2Proof.Machine.execDispPanelSet m s
  | .dispTimingSet m => Sys2Proof.Machine.execDispTimingSet m s
  | .dispFullWrite m => Sys2Proof.Machine.execDispFullWrite m s
  | .laneQuery m => Sys2Proof.Machine.execLaneQuery m s
  | .lanePattern m => Sys2Proof.Machine.execLanePattern m s
  | .laneRetrain m => Sys2Proof.Machine.execLaneRetrain m s
  | .memQuery m => Sys2Proof.Machine.execMemQuery m s
  | .memRetrain m => Sys2Proof.Machine.execMemRetrain m s
  | .memTest m => Sys2Proof.Machine.execMemTest m s
  | .memSet m => Sys2Proof.Machine.execMemSet m s
  | .churnQuery m => Sys2Proof.Machine.execChurnQuery m s
  | .churnQueueSet m => Sys2Proof.Machine.execChurnQueueSet m s
  | .churnAbort m => Sys2Proof.Machine.execChurnAbort m s
  | .placardQuery m => Sys2Proof.Machine.execPlacardQuery m s
  | .placardConfig m => Sys2Proof.Machine.execPlacardConfig m s
  | .placardUpdate m => Sys2Proof.Machine.execPlacardUpdate m s
  | .placardWaveLoad m => Sys2Proof.Machine.execPlacardWaveLoad m s
  | .audioQuery m => Sys2Proof.Machine.execAudioQuery m s
  | .audioPortSet m => Sys2Proof.Machine.execAudioPortSet m s
  | .audioMixSet m => Sys2Proof.Machine.execAudioMixSet m s
  | .audioDelaySet m => Sys2Proof.Machine.execAudioDelaySet m s
  | .audioPcmRing m => Sys2Proof.Machine.execAudioPcmRing m s
  | .audioIecSet m => Sys2Proof.Machine.execAudioIecSet m s
  | .hkQuery m => Sys2Proof.Machine.execHkQuery m s
  | .hkThresholdSet m => Sys2Proof.Machine.execHkThresholdSet m s
  | .hkConvert m => Sys2Proof.Machine.execHkConvert m s
  | .calQuery m => Sys2Proof.Machine.execCalQuery m s
  | .calRun m => Sys2Proof.Machine.execCalRun m s
  | .calHold m => Sys2Proof.Machine.execCalHold m s
  | .nvmRead m => Sys2Proof.Machine.execNvmRead m s
  | .nvmWrite m => Sys2Proof.Machine.execNvmWrite m s
  | .nvmStatus m => Sys2Proof.Machine.execNvmStatus m s
  | .secQuery m => Sys2Proof.Machine.execSecQuery m s
  | .secAttest m => Sys2Proof.Machine.execSecAttest m s
  | .secFwStage m => Sys2Proof.Machine.execSecFwStage m s
  | .secFwActivate m => Sys2Proof.Machine.execSecFwActivate m s
  | .secOwnerKey m => Sys2Proof.Machine.execSecOwnerKey m s
  | .secSeal m sealEn => Sys2Proof.Machine.execSecSeal m sealEn s
  | .secBundleLoad m => Sys2Proof.Machine.execSecBundleLoad m s
  | .logQuery m => Sys2Proof.Machine.execLogQuery m s
  | .logRead m => Sys2Proof.Machine.execLogRead m s
  | .logClear m => Sys2Proof.Machine.execLogClear m s
  | .svcQuery m => Sys2Proof.Machine.execSvcQuery m s
  | .svcDrain m => Sys2Proof.Machine.execSvcDrain m s
  | .svcPowerCycle m => Sys2Proof.Machine.execSvcPowerCycle m s
  | .svcRetest m => Sys2Proof.Machine.execSvcRetest m s
  | .svcReturn m => Sys2Proof.Machine.execSvcReturn m s
  | .recoveryFwStage => Sys2Proof.Machine.execRecoveryFwStage s
  | .recoveryFwActivate => Sys2Proof.Machine.execRecoveryFwActivate s
  | .commandUndefined m => Sys2Proof.Machine.execCommandUndefined m s
  | .mbDoorbell writer box value => Sys2Proof.Machine.execMbDoorbell writer box value s
  | .pendingCompletion m pid obs => Sys2Proof.Machine.execPendingCompletion m pid obs s
  | .pendingTimeout m pid => Sys2Proof.Machine.execPendingTimeout m pid s
  | .fieldPrerequisitesMet => Sys2Proof.Machine.execFieldPrerequisitesMet s
  | .ownClaim m token => Sys2Proof.Machine.execOwnClaim m token s
  | .ownershipTick => Sys2Proof.Machine.execOwnershipTick s
  | .ownHeartbeat m token => Sys2Proof.Machine.execOwnHeartbeat m token s
  | .heartbeatLapse => Sys2Proof.Machine.execHeartbeatLapse s
  | .ownHandoverToken m token => Sys2Proof.Machine.execOwnHandoverToken m token s
  | .ownHandover m value => Sys2Proof.Machine.execOwnHandover m value s
  | .ownRelease m => Sys2Proof.Machine.execOwnRelease m s
  | .handoverExpiry => Sys2Proof.Machine.execHandoverExpiry s
  | .svcPresentChange level => Sys2Proof.Machine.execSvcPresentChange level s
  | .evrConsumer m ring value => Sys2Proof.Machine.execEvrConsumer m ring value s
  | .evrLostRead m ring => Sys2Proof.Machine.execEvrLostRead m ring s
  | .spiWriteFrame bytes => Sys2Proof.Machine.execSpiWriteFrame bytes s
  | .spiReadFrame bytes words late => Sys2Proof.Machine.execSpiReadFrame bytes words late s
  | .spiStatusFrame => Sys2Proof.Machine.execSpiStatusFrame s
  | .twoWireWrite bytes => Sys2Proof.Machine.execTwoWireWrite bytes s
  | .twoWireRead bytes n late => Sys2Proof.Machine.execTwoWireRead bytes n late s
  | .twoWireStatus bytes => Sys2Proof.Machine.execTwoWireStatus bytes s
  | .safeSclTimeout write => Sys2Proof.Machine.execSafeSclTimeout write s
  | .bar2Write m addr data => Sys2Proof.Machine.execBar2Write m addr data s
  | .bar2Read m addr n => Sys2Proof.Machine.execBar2Read m addr n s
  | .registerWrite m offset words => Sys2Proof.Machine.execRegisterWrite m offset words s
  | .forceSafeViewSet m => Sys2Proof.Machine.execForceSafeViewSet m s
  | .forceSafeViewClear m => Sys2Proof.Machine.execForceSafeViewClear m s
  | .hwRelease m => Sys2Proof.Machine.execHwRelease m s
  | .alarmToneOn m => Sys2Proof.Machine.execAlarmToneOn m s
  | .alarmToneOff m => Sys2Proof.Machine.execAlarmToneOff m s
  | .hwPortData m data => Sys2Proof.Machine.execHwPortData m data s
  | .hwCommit m value => Sys2Proof.Machine.execHwCommit m value s
  | .hwBankCopyDone => Sys2Proof.Machine.execHwBankCopyDone s
  | .hwRefresh m crc => Sys2Proof.Machine.execHwRefresh m crc s
  | .hwFrameRead m => Sys2Proof.Machine.execHwFrameRead m s
  | .heartwoodAgeExpiry => Sys2Proof.Machine.execHeartwoodAgeExpiry s
  | .flipProducer m value => Sys2Proof.Machine.execFlipProducer m value s
  | .flipEntryConsume => Sys2Proof.Machine.execFlipEntryConsume s
  | .dispCommit m value => Sys2Proof.Machine.execDispCommit m value s
  | .sceneProducer m value => Sys2Proof.Machine.execSceneProducer m value s
  | .sceneEntryParse => Sys2Proof.Machine.execSceneEntryParse s
  | .churnProducer m q value => Sys2Proof.Machine.execChurnProducer m q value s
  | .churnAbortWrite m q value => Sys2Proof.Machine.execChurnAbortWrite m q value s
  | .churnListStart => Sys2Proof.Machine.execChurnListStart s
  | .churnSegment => Sys2Proof.Machine.execChurnSegment s
  | .churnLeaseWaitEnd => Sys2Proof.Machine.execChurnLeaseWaitEnd s
  | .churnAbortEffect q => Sys2Proof.Machine.execChurnAbortEffect q s
  | .churnListEnd => Sys2Proof.Machine.execChurnListEnd s
  | .audioPcmProducer m value => Sys2Proof.Machine.execAudioPcmProducer m value s
  | .firstPower => Sys2Proof.Machine.execFirstPower s
  | .pwrOkRise linkSplit => Sys2Proof.Machine.execPwrOkRise linkSplit s
  | .corePgRise => Sys2Proof.Machine.execCorePgRise s
  | .powerGoodDeadline rail => Sys2Proof.Machine.execPowerGoodDeadline rail s
  | .railRetryTimer => Sys2Proof.Machine.execRailRetryTimer s
  | .abruptLossTrigger trigger => Sys2Proof.Machine.execAbruptLossTrigger trigger s
  | .powerReturnRestart linkSplit => Sys2Proof.Machine.execPowerReturnRestart linkSplit s
  | .brownout => Sys2Proof.Machine.execBrownout s
  | .sysRstNLow => Sys2Proof.Machine.execSysRstNLow s
  | .sysRstNRelease => Sys2Proof.Machine.execSysRstNRelease s
  | .wakeNLow linkSplit => Sys2Proof.Machine.execWakeNLow linkSplit s
  | .perstRise link linkSplit => Sys2Proof.Machine.execPerstRise link linkSplit s
  | .perstLow link => Sys2Proof.Machine.execPerstLow link s
  | .safeStopNLow => Sys2Proof.Machine.execSafeStopNLow s
  | .safeStopNHigh => Sys2Proof.Machine.execSafeStopNHigh s
  | .domainSwitchRequest dom on reason => Sys2Proof.Machine.execDomainSwitchRequest dom on reason s
  | .domainQueuedStart => Sys2Proof.Machine.execDomainQueuedStart s
  | .domainOnComplete dom => Sys2Proof.Machine.execDomainOnComplete dom s
  | .domainOffComplete dom => Sys2Proof.Machine.execDomainOffComplete dom s
  | .avsUpdate rail needMv ack failing => Sys2Proof.Machine.execAvsUpdate rail needMv ack failing s
  | .droopDetect dom mv => Sys2Proof.Machine.execDroopDetect dom mv s
  | .governorPeriod measured => Sys2Proof.Machine.execGovernorPeriod measured s
  | .refclkLost input reason ppm => Sys2Proof.Machine.execRefclkLost input reason ppm s
  | .refclkRestored input => Sys2Proof.Machine.execRefclkRestored input s
  | .taprootWdtExpiry => Sys2Proof.Machine.execTaprootWdtExpiry s
  | .taprootRestarted => Sys2Proof.Machine.execTaprootRestarted s
  | .liveUpdateDrainTimeout => Sys2Proof.Machine.execLiveUpdateDrainTimeout s
  | .liveUpdateRestart => Sys2Proof.Machine.execLiveUpdateRestart s
  | .taprootReady => Sys2Proof.Machine.execTaprootReady s
  | .activationReadyTimeout => Sys2Proof.Machine.execActivationReadyTimeout s
  | .romBoot => Sys2Proof.Machine.execRomBoot s
  | .unitMismatchCheck unit => Sys2Proof.Machine.execUnitMismatchCheck unit s
  | .latchPoint => Sys2Proof.Machine.execLatchPoint s
  | .retireFence => Sys2Proof.Machine.execRetireFence s
  | .slotBoundary => Sys2Proof.Machine.execSlotBoundary s
  | .lineComplete sf line => Sys2Proof.Machine.execLineComplete sf line s
  | .frameLockInEdge => Sys2Proof.Machine.execFrameLockInEdge s
  | .sigReport sf frame sig lines => Sys2Proof.Machine.execSigReport sf frame sig lines s
  | .sigReportMissing sf => Sys2Proof.Machine.execSigReportMissing sf s
  | .lineError sf frame line cause => Sys2Proof.Machine.execLineError sf frame line cause s
  | .panelStatus temp flags => Sys2Proof.Machine.execPanelStatus temp flags s
  | .panelStatusLost => Sys2Proof.Machine.execPanelStatusLost s
  | .laneStats lane errors => Sys2Proof.Machine.execLaneStats lane errors s
  | .saplineTrainReq lane seq kind preset steps margin => Sys2Proof.Machine.execSaplineTrainReq lane seq kind preset steps margin s
  | .saplineGroupTraining g => Sys2Proof.Machine.execSaplineGroupTraining g s
  | .trainingBudgetExpiry g => Sys2Proof.Machine.execTrainingBudgetExpiry g s
  | .saplineTrainingDone => Sys2Proof.Machine.execSaplineTrainingDone s
  | .stepRequestApply lane => Sys2Proof.Machine.execStepRequestApply lane s
  | .laneRetryTimer lane => Sys2Proof.Machine.execLaneRetryTimer lane s
  | .laneMarginTimer lane => Sys2Proof.Machine.execLaneMarginTimer lane s
  | .adaptationUpdate lane better steps corr => Sys2Proof.Machine.execAdaptationUpdate lane better steps corr s
  | .offsetTrim lane target => Sys2Proof.Machine.execOffsetTrim lane target s
  | .elecIdleKeepalive lane => Sys2Proof.Machine.execElecIdleKeepalive lane s
  | .relinkTrainingDone => Sys2Proof.Machine.execRelinkTrainingDone s
  | .relinkTimeout => Sys2Proof.Machine.execRelinkTimeout s
  | .panelPowerUp => Sys2Proof.Machine.execPanelPowerUp s
  | .pnlPgRise rail => Sys2Proof.Machine.execPnlPgRise rail s
  | .panelRailFault rail => Sys2Proof.Machine.execPanelRailFault rail s
  | .panelRetryTimer => Sys2Proof.Machine.execPanelRetryTimer s
  | .holdSequencerTimeout g => Sys2Proof.Machine.execHoldSequencerTimeout g s
  | .cmpFault => Sys2Proof.Machine.execCmpFault s
  | .cmpRestartComplete => Sys2Proof.Machine.execCmpRestartComplete s
  | .fsyncTick => Sys2Proof.Machine.execFsyncTick s
  | .signalDetect port => Sys2Proof.Machine.execSignalDetect port s
  | .rootlineTrainingDone port headId headSerial headVer headCaps latency => Sys2Proof.Machine.execRootlineTrainingDone port headId headSerial headVer headCaps latency s
  | .bringUpTimeout port => Sys2Proof.Machine.execBringUpTimeout port s
  | .headUnplug port => Sys2Proof.Machine.execHeadUnplug port s
  | .lockFault port lane ppm => Sys2Proof.Machine.execLockFault port lane ppm s
  | .failureCountClear port => Sys2Proof.Machine.execFailureCountClear port s
  | .frameStartTimeout port => Sys2Proof.Machine.execFrameStartTimeout port s
  | .rootlineTrainAck port lane seq status margin => Sys2Proof.Machine.execRootlineTrainAck port lane seq status margin s
  | .csi2FrameStart port number credits => Sys2Proof.Machine.execCsi2FrameStart port number credits s
  | .csi2FrameEnd port number => Sys2Proof.Machine.execCsi2FrameEnd port number s
  | .csi2ImageLine port vc crcOk credits data => Sys2Proof.Machine.execCsi2ImageLine port vc crcOk credits data s
  | .csi2EmbeddedLine port crcOk data => Sys2Proof.Machine.execCsi2EmbeddedLine port crcOk data s
  | .alignBlock port lane count skewUi => Sys2Proof.Machine.execAlignBlock port lane count skewUi s
  | .headAck port tag status => Sys2Proof.Machine.execHeadAck port tag status s
  | .regResp port tag index status data => Sys2Proof.Machine.execRegResp port tag index status data s
  | .headAnswerTimeout port => Sys2Proof.Machine.execHeadAnswerTimeout port s
  | .audBlock port count left right => Sys2Proof.Machine.execAudBlock port count left right s
  | .inlineLineProcess pipe => Sys2Proof.Machine.execInlineLineProcess pipe s
  | .rawFrameReady port => Sys2Proof.Machine.execRawFrameReady port s
  | .memfedFrameStart pipe => Sys2Proof.Machine.execMemfedFrameStart pipe s
  | .pipelineFrameDone port credits => Sys2Proof.Machine.execPipelineFrameDone port credits s
  | .statsComplete port => Sys2Proof.Machine.execStatsComplete port s
  | .pipelineFault pipe => Sys2Proof.Machine.execPipelineFault pipe s
  | .pairFrameStart unit => Sys2Proof.Machine.execPairFrameStart unit s
  | .disparityRowEmit unit err => Sys2Proof.Machine.execDisparityRowEmit unit err s
  | .slicerTileRow layer => Sys2Proof.Machine.execSlicerTileRow layer s
  | .slicerHalfRelease layer => Sys2Proof.Machine.execSlicerHalfRelease layer s
  | .stripPull cluster => Sys2Proof.Machine.execStripPull cluster s
  | .stripComplete cluster => Sys2Proof.Machine.execStripComplete cluster s
  | .tileFetchReturn plane tx ty poisoned => Sys2Proof.Machine.execTileFetchReturn plane tx ty poisoned s
  | .flatTileProduce layer => Sys2Proof.Machine.execFlatTileProduce layer s
  | .duplicateCheckCompare primary checker third => Sys2Proof.Machine.execDuplicateCheckCompare primary checker third s
  | .clusterSelfTestDone cluster pass slicePass => Sys2Proof.Machine.execClusterSelfTestDone cluster pass slicePass s
  | .spareRetestTimer => Sys2Proof.Machine.execSpareRetestTimer s
  | .sliceFault slice err => Sys2Proof.Machine.execSliceFault slice err s
  | .mapShadowsWritten => Sys2Proof.Machine.execMapShadowsWritten s
  | .channelStartup n => Sys2Proof.Machine.execChannelStartup n s
  | .channelStartupDone n eyes => Sys2Proof.Machine.execChannelStartupDone n eyes s
  | .memRequestEnqueue n req => Sys2Proof.Machine.execMemRequestEnqueue n req s
  | .memRequestIssue n ecc => Sys2Proof.Machine.execMemRequestIssue n ecc s
  | .agePromotion n => Sys2Proof.Machine.execAgePromotion n s
  | .readDataReturn n rid ecc => Sys2Proof.Machine.execReadDataReturn n rid ecc s
  | .refreshSlot n => Sys2Proof.Machine.execRefreshSlot n s
  | .refreshCatchup n => Sys2Proof.Machine.execRefreshCatchup n s
  | .refreshWindowStart => Sys2Proof.Machine.execRefreshWindowStart s
  | .trackingRead n drifts => Sys2Proof.Machine.execTrackingRead n drifts s
  | .patrolScrub n ecc => Sys2Proof.Machine.execPatrolScrub n ecc s
  | .inServiceRetrainStart n => Sys2Proof.Machine.execInServiceRetrainStart n s
  | .inServiceRetrainDone n eyes => Sys2Proof.Machine.execInServiceRetrainDone n eyes s
  | .channelRemoval n cause => Sys2Proof.Machine.execChannelRemoval n cause s
  | .taprootReallocation => Sys2Proof.Machine.execTaprootReallocation s
  | .placardIntentCommitted => Sys2Proof.Machine.execPlacardIntentCommitted s
  | .placardFrameBoundary => Sys2Proof.Machine.execPlacardFrameBoundary s
  | .plcFaultNFall => Sys2Proof.Machine.execPlcFaultNFall s
  | .plcFaultNClear => Sys2Proof.Machine.execPlcFaultNClear s
  | .placardRecovery => Sys2Proof.Machine.execPlacardRecovery s
  | .placardRecoveryResume => Sys2Proof.Machine.execPlacardRecoveryResume s
  | .mixerFrame => Sys2Proof.Machine.execMixerFrame s
  | .longUnderrun input => Sys2Proof.Machine.execLongUnderrun input s
  | .slaveWsTimeout port => Sys2Proof.Machine.execSlaveWsTimeout port s
  | .audioPortApply port => Sys2Proof.Machine.execAudioPortApply port s
  | .iecBlockStart => Sys2Proof.Machine.execIecBlockStart s
  | .conversionSlot raw => Sys2Proof.Machine.execConversionSlot raw s
  | .thermalStepChange => Sys2Proof.Machine.execThermalStepChange s
  | .selfHeatingStart => Sys2Proof.Machine.execSelfHeatingStart s
  | .fastComparatorSample sensor hit => Sys2Proof.Machine.execFastComparatorSample sensor hit s
  | .tripRestart => Sys2Proof.Machine.execTripRestart s
  | .calibrationLoop item index trim => Sys2Proof.Machine.execCalibrationLoop item index trim s
  | .nvmDeferredWrite record => Sys2Proof.Machine.execNvmDeferredWrite record s
  | .nvmDailyCheck corrected => Sys2Proof.Machine.execNvmDailyCheck corrected s
  | .eventLogWrite => Sys2Proof.Machine.execEventLogWrite s
  | .csi2DiscardedPacket port why => Sys2Proof.Machine.execCsi2DiscardedPacket port why s
  | .audioInputSample source left right => Sys2Proof.Machine.execAudioInputSample source left right s
  | .pcieLinkChange link up width rate => Sys2Proof.Machine.execPcieLinkChange link up width rate s
  | .pciePowerState link d3hot l1 => Sys2Proof.Machine.execPciePowerState link d3hot l1 s
  | .domainFault unit => Sys2Proof.Machine.execDomainFault unit s
  | .panelHoldLimit => Sys2Proof.Machine.execPanelHoldLimit s
  | .eventInterruptHoldoff ring => Sys2Proof.Machine.execEventInterruptHoldoff ring s
  | .tapExchangeLimit port => Sys2Proof.Machine.execTapExchangeLimit port s
  | .churnDrainLimit => Sys2Proof.Machine.execChurnDrainLimit s
  | .testAccessPortOperation op => Sys2Proof.Machine.execTestAccessPortOperation op s

end Sys2Proof.Machine
end

