-- ==== Sys2Proof/Machine/Step.lean ====
section
/-! DEFINITION. One step of the block: the command at the front of the queue, or one idle nanosecond. -/

namespace Sys2Proof.Machine

/-- Take the command at the front of the queue and execute it with the rest of the queue; on an empty queue one
nanosecond passes (log 4). -/
def step (s : State) : Host.Outcome State Fault Refusal :=
  match s.pending with
  | [] => done (s.modTime (· + 1))
  | c :: rest => exec c (s.modPending fun _ => rest)

/-- The state with the command that a word spells at the front of its queue; unchanged where the word spells none. -/
def State.withFetchWord (s : State) (nbits w : Nat) : State :=
  match decodeTableWord nbits w with
  | some c => s.modPending (c :: ·)
  | none => s

end Sys2Proof.Machine
end

