-- ==== Sys2Proof/Safety.lean ====
section
/-! DEFINITION. What a safe state and a safe run are, and the terms in which the statements speak of commands. -/

namespace Sys2Proof.Machine

/-- Every memory of the block is in its canonical form. -/
abbrev State.memoriesWf (s : State) : Prop :=
  s.mem.dram.wf ∧ s.win.wf ∧ s.cellar.window.wf ∧ s.sec.flash.wf ∧ s.sec.staging.wf ∧ ∀ c ∈ s.hw.copies, c.bytes.wf

/-- SAFE_OK is high only while the conditions of R266 hold. -/
abbrev State.SafeInv (s : State) : Prop := s.pins.safeOk = true → s.safeConds = true

/-- A step is safe when it ends in a next state: nothing of this block stops the machine. -/
def safeStep (s : State) : Prop := ∃ t, step s = .next t

/-- `t` is `s` after a cold boot with a cause: what NVM and fuses hold stays, ownership is vacant, the mode is BOOT, only
CORE_EN is high, and the power-loss marker has gone into the cause (R43, R58, R60, R72). -/
abbrev Booted (s t : State) (cause : W32) : Prop :=
  t.mode.mode = .boot ∧ t.own.owner = 7 ∧ t.pwr.phase = .waitCore ∧ t.pins.coreEn = true ∧ t.pins.sdsEn = false ∧ t.pins.memEn = false ∧
    t.pins.safeOk = false ∧ t.pwr.resetCause = cause ||| (if s.nvm.lossMarker.isSome then 32 else 0) ∧ t.nvm.lossMarker = none ∧
    t.nvm.recs = s.nvm.recs ∧ t.id = s.id ∧ t.sec.fseal = s.sec.fseal

/-- The end of an abrupt-loss or reset sequence: no enable is high and SAFE_OK is low (R57, R60). -/
abbrev AllEnablesLow (t : State) : Prop :=
  t.pins.coreEn = false ∧ t.pins.sdsEn = false ∧ t.pins.memEn = false ∧ t.pins.plcOeN = true ∧ t.pins.safeOk = false ∧
    t.pins.pnlPwrEn = [false, false, false, false]

/-! ### Mailbox commands -/

/-- ARGS of the oldest command not yet dequeued of master m. -/
def State.argsOf (s : State) (m : Master) : Bytes := (s.frontSlot m.code).drop 16
/-- TAG of that command. -/
def State.tagOf (s : State) (m : Master) : Nat := byteAt (s.frontSlot m.code) 2
/-- Base and length of its bulk buffer. -/
def State.bulkAt (s : State) (m : Master) : Nat := a40At (s.argsOf m) 0
def State.bulkLen (s : State) (m : Master) : Nat := u32At (s.argsOf m) 8

/-- Command `c` is the oldest of master m's mailbox and is served now (R81), its class permits m (R95), and its slot and
arguments keep their layout (R91). -/
abbrev Accepts (s : State) (m : Master) (c : Cmd) : Prop :=
  s.serves m.code c.code = true ∧ s.front m.code c.code = true ∧ s.classOk c.cls m.code = true ∧
    c.argError (s.frontSlot m.code) (s.argsOf m) = none

/-- The buffer lies in memory, a hold is free, and what the command reads is not poisoned (R82, R94). -/
abbrev BulkFits (s : State) (m : Master) (c : Cmd) : Prop :=
  s.inMemory (s.bulkAt m) (s.bulkLen m) = true ∧ s.ctl.bulkHolds.length < 64 ∧
    (c.bulk = some 0 → s.poisoned (s.bulkAt m) (s.bulkLen m) = false)

/-- The command has been dequeued, and with a bulk buffer its hold taken (R82). -/
def State.taken (s : State) (m : Master) : State := s.dequeue m.code
def State.takenBulk (s : State) (m : Master) : State := (s.dequeue m.code).takeBulk m.code (s.bulkAt m) (s.bulkLen m)

/-- The state `t` that a command's body has left, after its ST_OK response with `data` (R92). -/
def okAfter (s : State) (m : Master) (code : Nat) (data : Bytes) (t : State) : State :=
  ((t.releaseBulk m.code 0).answer m.code code (s.tagOf m) stOk 0 data).settle

/-- After an answer with another status: ARG_OFFSET, REASON and UNIT (R92), and no effect (R93). -/
def errAfter (s : State) (m : Master) (code status off reason unit : Nat) : State :=
  (((s.taken m).releaseBulk m.code 0).answer m.code code (s.tagOf m) status 0 (failData off reason unit)).settle

/-- The PENDING_ID the next operation of master m takes (R97). -/
def State.newPid (s : State) (m : Master) : Nat :=
  nextPid ((s.ctl.pendingOps.filter fun p => p.master == m.code).map (·.id)) (s.box m.code).nextId 17

/-- The state `t` that a command's body has left, after its ST_PENDING response: the operation is in the pending table with
its limit, and holds its bulk buffer under its PENDING_ID (R81, R82, R96, R97). -/
def pendAfter (s : State) (m : Master) (code limit aux : Nat) (t : State) : State :=
  let id := s.newPid m
  let op : PendingOp := {
    master := m.code, id := id, tag := BitVec.ofNat 8 (s.tagOf m), code := code, args := s.argsOf m, deadline := t.time + limit, aux := aux }
  let t := t.modBox m.code fun b => { b with nextId := if id < 0xFFFF then id + 1 else 1 }
  let t := t.modCtl fun x => { x with
    pendingOps := x.pendingOps ++ [op],
    bulkHolds := x.bulkHolds.map fun h => if h.master == m.code && h.id == 0 then { h with id := id } else h }
  (t.answer m.code code (s.tagOf m) stPending id []).settle

/-- After a command whose response waits for the hardware, at most `limit` ns. -/
def waitAfter (s : State) (m : Master) (code limit : Nat) (t : State) : State :=
  (t.modCtl fun x => { x with executing := x.executing ++ [{
    master := m.code, tag := BitVec.ofNat 8 (s.tagOf m), code := code, args := s.argsOf m, deadline := t.time + limit }] }).settle

end Sys2Proof.Machine
end

