-- ==== Sys2Proof/Certificates/Slice0/Obligations.lean ====
section
/-! DEFINITION. The statements about the model, for the provers. Mailbox commands speak of the ARGS `a` of their slot and of
the state `t` after their dequeue; the other commands of the state `s` they meet. Every conclusion names the whole next
state where it can, which also says what the command leaves unchanged. -/

open Sys2Proof Sys2Proof.Machine

/-- The queries of the groups SYS, OWN, MODE and PWR answer ST_OK with the response of Table 4.2 and change nothing but their
mailbox (R86, R92, R95). OWN.CONFIG, MODE.BOOT_TARGET and PWR.SET_LIMIT store what they name and answer ST_OK (R79, R24, R35):
the priorities name three different masters, the boot target goes to the BOOT record; AVS_RESUME unfreezes the loop of every
regulator the board names (R46). Completion: under the conditions of its clauses, which are on the state and the operands
alone, exec answers a next state for sysIdentify, sysCapability, sysTime, sysUnitState, ownQuery, ownConfig, modeQuery,
modeBootTarget, pwrQuery, pwrSetLimit. -/
def Obligations.SystemCommands : Prop :=
  (∀ (m : Master) (s : State), let t := s.taken m; let a := s.argsOf m
    (Accepts s m { code := 0x0000, cls := 0 } →
      exec (.sysIdentify m) s = .next (okAfter s m 0x0000
        (le 4 (if t.id.part = .lv9620 then 0x9620 else 0x9640) ++ le 4 t.id.siliconRev.toNat
          ++ le 4 (if t.tp.state = .recovery then 0 else t.fwActive) ++ le 8 t.id.serial.toNat ++ le 4 t.id.nvmLayout.toNat) t)) ∧
    (Accepts s m { code := 0x0001, cls := 0 } → exec (.sysCapability m) s = .next (okAfter s m 0x0001 t.capability t)) ∧
    (Accepts s m { code := 0x0002, cls := 0 } →
      exec (.sysTime m) s = .next (okAfter s m 0x0002 (le 8 t.time ++ le 4 t.disp.frame.toNat ++ le 1 t.disp.subframe ++ [0] ++ le 2 t.disp.slot) t)) ∧
    (Accepts s m { code := 0x0003, cls := 0, len := 2, args := [{ off := 0, n := 2 }] } →
      (unitDomain (u16At a 0)).isSome = true → t.unitPresent (u16At a 0) = true →
      ∃ flags attempts mismatch, exec (.sysUnitState m) s = .next (okAfter s m 0x0003
        (le 2 (u16At a 0) ++ le 2 (t.unit (u16At a 0)).intent.toNat ++ le 4 (t.unitWord (u16At a 0)) ++ le 1 flags ++ le 1 attempts ++ le 2 mismatch) t)
        ∧ (bit flags 0 = true ↔ ∀ c, (t.unit (u16At a 0)).checked = some c → c + 10000000 < t.time)
        ∧ (bit flags 1 = true ↔ (t.unit (u16At a 0)).mismatchSince ≠ none)) ∧
    (Accepts s m { code := 0x0100, cls := 0 } →
      exec (.ownQuery m) s = .next (okAfter s m 0x0100 (le 4 (t.ownStatus m.code) ++ le 4 t.ownConfig ++ le 1 (t.own.results.getD m.code 0)) t)) ∧
    (Accepts s m { code := 0x0200, cls := 0 } →
      exec (.modeQuery m) s = .next (okAfter s m 0x0200
        (le 1 t.mode.mode.code ++ le 1 t.mode.bootTarget ++ le 1 t.mode.lastCause
          ++ le 1 (min 255 (t.mode.reductions.length + t.mode.detected.length)) ++ le 4 t.mode.lastFrame.toNat) t)) ∧
    (Accepts s m { code := 0x0300, cls := 0, len := 1, args := [{ off := 0, hi := 2 }] } → byteAt a 0 ≤ 2 →
      exec (.pwrQuery m) s = .next (okAfter s m 0x0300
        (if byteAt a 0 = 0 then
          le 2 t.powerLimit ++ le 2 t.gov.ownerLimit ++ le 2 t.gov.measured ++ le 1 t.govStage ++ le 1 t.hk.step ++ le 2 t.pwr.avsRay.mv
            ++ le 2 t.pwr.avsSoc.mv ++ le 1 (bitOf t.pwr.avsRay.frozen 0 + bitOf t.pwr.avsSoc.frozen 1) ++ [if t.gov.cap then 1 else 0]
        else if byteAt a 0 = 1 then (List.range 32).flatMap fun i => le 4 (t.dom i).stretches.toNat
        else (List.range 27).flatMap fun i => le 4 (t.dom (32 + i)).stretches.toNat) t))) ∧
  (∀ (m : Master) (s : State), let t := s.taken m; let a := s.argsOf m
    (Accepts s m { code := 0x0101, cls := 1, len := 5, args := [{ off := 0, n := 2, lo := 50, hi := 2000 }, { off := 2, hi := 2 }, { off := 3, hi := 2 }, { off := 4, hi := 2 }] } →
      byteAt a 2 ≠ byteAt a 3 → byteAt a 2 ≠ byteAt a 4 → byteAt a 3 ≠ byteAt a 4 →
      let u := t.modOwn fun o => { o with hbPeriodMs := u16At a 0, prio := [byteAt a 2, byteAt a 3, byteAt a 4] }
      exec (.ownConfig m) s = .next (okAfter s m 0x0101 [] (u.deferRecord 3 (le 4 u.ownConfig)))) ∧
    (Accepts s m { code := 0x0202, cls := 1, len := 1, args := [{ off := 0, lo := 2, hi := 3 }] } →
      exec (.modeBootTarget m) s = .next (okAfter s m 0x0202 []
        ((t.modMode fun x => { x with bootTarget := byteAt a 0 }).deferRecord 1 (pad 16 (le 1 (byteAt a 0)))))) ∧
    (Accepts s m { code := 0x0301, cls := 1, len := 3, args := [{ off := 0, n := 2, lo := 65, hi := 150 }, { off := 2, mask := 1 }] } →
      byteAt a 2 = 0 →
      exec (.pwrSetLimit m) s = .next (okAfter s m 0x0301 [] (t.modGov fun g => { g with ownerLimit := u16At a 0 }))) ∧
    (Accepts s m { code := 0x0301, cls := 1, len := 3, args := [{ off := 0, n := 2, lo := 65, hi := 150 }, { off := 2, mask := 1 }] } →
      byteAt a 2 = 1 →
      ∃ u, exec (.pwrSetLimit m) s = .next (okAfter s m 0x0301 [] u) ∧ u.gov.ownerLimit = u16At a 0 ∧
        u.pwr.avsRay.frozen = (t.pwr.avsRay.frozen && t.nvm.board.pmbRay == 0) ∧ u.pwr.avsSoc.frozen = (t.pwr.avsSoc.frozen && t.nvm.board.pmbSoc == 0)))

/-- A MODE.SET to FIELD accepted in BOOT is pending for at most 5 s (R24, Table 4.2); one to SAFE-VIEW from another mode, or from
SAFE-VIEW to MAINTENANCE, waits for the next latch point with ST_OK (R22), and one to DORMANT from FIELD goes through
SAFE-VIEW (R24); one to FIELD while SAFE_STOP_N or FORCE_SAFE_VIEW asks for SAFE-VIEW answers ST_WRONG_MODE (R28); SYS.RESET
answers ST_OK, and 1 ms later the whole device goes through the reset sequence (R60, R96). SAFE_STOP_N (R28): its fall is
remembered for the next latch point and overtakes a request to FIELD; its rise changes nothing else; the last prerequisite of
FIELD met starts the two latch points of R23. Completion: under the conditions of its clauses, which are on the state and the
operands alone, exec answers a next state for sysReset, modeSet, fieldPrerequisitesMet, safeStopNLow, safeStopNHigh. -/
def Obligations.ModeRequests : Prop :=
  (∀ (m : Master) (s : State), let t := s.taken m; let a := s.argsOf m
    (Accepts s m { code := 0x0201, cls := 1, len := 1, args := [{ off := 0 }] } → byteAt a 0 = 3 → t.mode.mode = .boot → t.stopActive = false →
      t.opOn 0x201 = false → t.pnl.gaveUp = false → s.pendingCount m.code < 16 →
      exec (.modeSet m) s = .next (pendAfter s m 0x0201 5000000000 0 t)) ∧
    (Accepts s m { code := 0x0201, cls := 1, len := 1, args := [{ off := 0 }] } → byteAt a 0 = 2 →
      t.mode.mode ≠ .boot → t.mode.mode ≠ .safeView → t.opOn 0x201 = false → t.pnl.gaveUp = false →
      exec (.modeSet m) s = .next (okAfter s m 0x0201 [] (t.modMode fun x => { x with ownerReq := some .safeView }))) ∧
    (Accepts s m { code := 0x0201, cls := 1, len := 1, args := [{ off := 0 }] } → byteAt a 0 = 5 →
      t.mode.mode = .safeView → t.stopActive = false → t.opOn 0x201 = false → t.pnl.gaveUp = false →
      exec (.modeSet m) s = .next (okAfter s m 0x0201 [] (t.modMode fun x => { x with ownerReq := some .maintenance }))) ∧
    (Accepts s m { code := 0x0201, cls := 1, len := 1, args := [{ off := 0 }] } → byteAt a 0 = 0 →
      t.mode.mode ≠ .boot → t.mode.mode ≠ .dormant → t.mode.mode ≠ .safeView → t.opOn 0x201 = false → t.pnl.gaveUp = false →
      exec (.modeSet m) s = .next (okAfter s m 0x0201 [] (t.modMode fun x => { x with ownerReq := some .safeView, thenDormant := true }))) ∧
    (Accepts s m { code := 0x0201, cls := 1, len := 1, args := [{ off := 0 }] } → byteAt a 0 = 3 → t.stopActive = true →
      exec (.modeSet m) s = .next (errAfter s m 0x0201 stWrongMode 0xFF 0 0xFFFF)) ∧
    (Accepts s m { code := 0x0006, cls := 1, len := 4, args := [{ off := 0, n := 4, lo := 0xA5C3, hi := 0xA5C3 }] } → t.pwr.phase = .run →
      let u := ((((t.modPwr fun p => { p with phase := .softReset }).releaseBulk m.code 0).answer m.code 0x0006 (s.tagOf m) stOk 0 []).modTime (· + 1000000)).lossSteps.settle
      exec (.sysReset m) s = .next u ∧ u.pins.coreEn = false ∧ u.pins.sdsEn = false ∧ u.pins.memEn = false)) ∧
  (∀ (s : State),
    (s.pins.safeStopN = true → ∃ t, exec .safeStopNLow s = .next t ∧ t.pins.safeStopN = false ∧ t.mode.safeTrigger.isSome = true ∧
      t.mode.fieldIn = none ∧ t.mode.bootField = false ∧ t.mode.ownerReq = none ∧ t.mode.mode = s.mode.mode) ∧
    (exec .safeStopNHigh s = .next (s.modPins fun p => { p with safeStopN := true }).settle) ∧
    (s.mode.mode = .safeView → s.fieldWanted = true → s.mode.fieldIn = none → s.unmet = none →
      exec .fieldPrerequisitesMet s = .next (s.modMode fun m => { m with fieldIn := some 2 }).settle))

/-- What a latch point puts in force among the modes (R22, R28, R29, Table 1.6): from FIELD and DEGRADED-FIELD, SAFE_STOP_N low
comes first with cause 0x02, then FORCE_SAFE_VIEW with 0x03, then a lost path of light with 0x04; a reduction detected since
takes FIELD to DEGRADED-FIELD with its cause; without one FIELD stays or the owner's request acts. -/
def Obligations.ModePrecedence : Prop :=
  ∀ (s : State), (s.mode.mode = .field ∨ s.mode.mode = .degraded) → let t := s.modeLatch
    (s.pins.safeStopN = false → t.mode.mode = .safeView ∧ t.mode.lastCause = 0x02) ∧
    (s.pins.safeStopN = true → s.own.forceSafeView = true → t.mode.mode = .safeView ∧ t.mode.lastCause = 0x03) ∧
    (s.pins.safeStopN = true → s.own.forceSafeView = false → (s.mode.safeTrigger = none ∨ s.mode.safeTrigger = some 0x06) →
      (s.mode.lightLost = true → t.mode.mode = .safeView ∧ t.mode.lastCause = 0x04) ∧
      (s.mode.lightLost = false → s.mode.mode = .field → ∀ r, s.mode.detected = [r] → degrades r = true → s.mode.reductions.filter degrades = [] →
        t.mode.mode = .degraded ∧ t.mode.lastCause = r.cause ∧ t.mode.detected = []) ∧
      (s.mode.lightLost = false → s.mode.mode = .field → s.allReductions.filter degrades = [] → s.mode.ownerReq = some .safeView →
        t.mode.mode = .safeView ∧ t.mode.lastCause = 0x01))

/-- CAM.QUERY answers the state, the rate and the counters of a port (Table 4.2, R116); a register command of a head whose link
takes messages sends its message and waits at most 2 ms for the answer, and answers ST_TIMEOUT with the port's UNIT while the
link takes none (R109, R92). CAM.CONFIG and CAM.PROFILE_SET (R103, R115): a port that does not stream takes its configuration
at once, a streaming one keeps it until its frame has ended, with its head told to stop, and a port whose change runs answers
ST_BUSY (R117); a well-formed profile of 512 bytes, whose slot is not pending and whose ports run no change, is pending for at
most 50 ms, with its buffer held. Completion: under the conditions of its clauses, which are on the state and the operands
alone, exec answers a next state for camQuery, camConfig, camHeadRead, camHeadWrite, camProfileSet. -/
def Obligations.HeadCommands : Prop :=
  (∀ (m : Master) (s : State), let t := s.taken m; let a := s.argsOf m; let p := byteAt a 0
    (Accepts s m { code := 0x0400, cls := 0, len := 1, args := [{ off := 0, hi := 15 }] } → t.hasPort p = true →
      let x := t.camPort p
      let f := t.camFlow p
      exec (.camQuery m) s = .next (okAfter s m 0x0400
        (le 1 x.state ++ le 1 x.runLanes ++ le 1 x.runRate ++ le 1 (x.profile.getD 0xFF) ++ le 4 x.headId.toNat ++ le 4 f.frames.toNat
          ++ le 4 f.short.toNat ++ le 4 f.long.toNat ++ le 4 f.truncated.toNat ++ le 4 f.dropped.toNat ++ le 4 f.retrains.toNat) t)) ∧
    (Accepts s m { code := 0x0402, cls := 0, len := 4, args := [{ off := 0, hi := 15 }, { off := 1, lo := 1, hi := 64 }, { off := 2, n := 2 }] } →
      t.hasPort p = true →
      (t.linkIdleUp p = true → exec (.camHeadRead m) s = .next (waitAfter s m 0x0402 2000000
        (t.sendReq p 2 (le 2 (u16At a 2) ++ le 1 (byteAt a 1)) (t.time + 2000000)))) ∧
      (t.linkIdleUp p = false → exec (.camHeadRead m) s = .next (errAfter s m 0x0402 stTimeout 0xFF 1 (unitPort p)))) ∧
    (Accepts s m { code := 0x0403, cls := 1, len := 68, args := [{ off := 0, hi := 15 }, { off := 1, lo := 1, hi := 64 }, { off := 2, n := 2 }, { off := 4, n := 64 }] } →
      t.hasPort p = true → (∀ o, 4 + byteAt a 1 ≤ o → o < 68 → byteAt a o = 0) →
      (t.linkIdleUp p = true → exec (.camHeadWrite m) s = .next (waitAfter s m 0x0403 2000000
        (t.sendReq p 1 (le 2 (u16At a 2) ++ slice a 4 (byteAt a 1)) (t.time + 2000000)))) ∧
      (t.linkIdleUp p = false → exec (.camHeadWrite m) s = .next (errAfter s m 0x0403 stTimeout 0xFF 1 (unitPort p))))) ∧
  (∀ (m : Master) (s : State), let t := s.taken m; let a := s.argsOf m; let p := byteAt a 0
    let cfg := camCfgOf a 1 6 (a40At a 12)
    (Accepts s m { code := 0x0401, cls := 1, len := 17, args := [{ off := 0, hi := 15 }, { off := 1, lo := 1, hi := 2 }, { off := 2, hi := 2 }, { off := 3, hi := 3 }, { off := 4 }, { off := 5, mask := 15 }, { off := 6, n := 2 }, { off := 8, n := 2 }, { off := 10, lo := 1, hi := 4 }, { off := 12, n := 5 }] } →
      t.hasPort p = true → byteAt a 4 ∈ dataTypes →
      capacityOk (byteAt a 1) (byteAt a 2) (u16At a 6) (u16At a 8) (byteAt a 4) (t.framePeriod0 * byteAt a 10) = true →
      (a40At a 12 = 0 ∨ (t.regionAt (a40At a 12)).isSome = true) →
      (t.configRuns p = true → exec (.camConfig m) s = .next (errAfter s m 0x0401 stBusy 0xFF 0 (unitPort p))) ∧
      (t.configRuns p = false → (t.camPort p).state ≠ 5 →
        exec (.camConfig m) s = .next (okAfter s m 0x0401 [] (t.configPort p cfg))) ∧
      (t.configRuns p = false → (t.camPort p).state = 5 →
        let u := ((t.headByte p 0x10 0).modPort p fun x => { x with nextCfg := some cfg }).awaitFrame p
        exec (.camConfig m) s = .next (okAfter s m 0x0401 [] (if (t.camFlow p).frame.isSome then u else u.finishConfig p)))) ∧
    (Accepts s m { code := 0x0404, cls := 1, bulk := some 0, len := 17, args := [{ off := 16, hi := 31 }] } →
      BulkFits s m { code := 0x0404, cls := 1, bulk := some 0, len := 17, args := [{ off := 16, hi := 31 }] } →
      s.bulkLen m = 512 → profileBad ((s.takenBulk m).devRead (s.bulkAt m) 512) = false →
      (t.opOn 0x0404 fun x => byteAt x 16 == byteAt a 16) = false →
      (∀ q < 16, t.configRuns q = true → profileMatches (t.camPort q).headId ((s.takenBulk m).devRead (s.bulkAt m) 512) = false) →
      s.pendingCount m.code < 16 →
      exec (.camProfileSet m) s = .next (pendAfter s m 0x0404 50000000 0 (s.takenBulk m))))

/-- ISP.QUERY, ISP.STATS and ISP.AE_CONFIG (R148, R150, Table 4.2): the query answers a pipeline's ports, epoch and counters (the
missed taps of R146 last, the model's place for them, log 54), the statistics of the port's newest complete set go to the
buffer, and the loop's settings are stored. ISP.CONTEXT_SET, ISP.SLOT_MASK and ISP.TAP (R132, R136, R144): a well-formed
context fills the shadow set and with COMMIT waits for the frame after the last started one; a mask that R132 does not refuse
waits for the next epoch, as does a tap whose buffer is large enough and not leased. Completion: under the conditions of its
clauses, which are on the state and the operands alone, exec answers a next state for ispQuery, ispContextSet, ispSlotMask,
ispTap, ispStats, ispAeConfig. -/
def Obligations.IspCommands : Prop :=
  (∀ (m : Master) (s : State), let t := s.taken m; let a := s.argsOf m
    (Accepts s m { code := 0x0500, cls := 0, len := 1, args := [{ off := 0, hi := 3 }] } → t.hasPipe (byteAt a 0) = true →
      let y := t.pipe (byteAt a 0)
      exec (.ispQuery m) s = .next (okAfter s m 0x0500
        (le 1 y.inline ++ le 1 (match y.tap with | some t => t.point | none => 255) ++ le 2 y.mask.toNat ++ le 4 t.isp.epoch.toNat
          ++ (List.range 4).flatMap (fun j => le 4 (y.processed.getD j 0).toNat) ++ le 4 y.missedTaps.toNat) t)) ∧
    (Accepts s m { code := 0x0504, cls := 0, bulk := some 1, len := 18, args := [{ off := 16, hi := 15 }, { off := 17, mask := 7 }] } →
      BulkFits s m { code := 0x0504, cls := 0, bulk := some 1, len := 18, args := [{ off := 16, hi := 15 }, { off := 17, mask := 7 }] } →
      t.hasPort (byteAt a 16) = true → 12608 ≤ s.bulkLen m →
      let r := ((s.takenBulk m).ispPort (byteAt a 16)).stats.headD {}
      exec (.ispStats m) s = .next (okAfter s m 0x0504 (le 4 r.seq.toNat ++ le 1 r.settingsId ++ [r.flags] ++ le 2 r.lines)
        ((s.takenBulk m).devWrite (s.bulkAt m) (r.bytes (byteAt a 16) (byteAt a 17))))) ∧
    (Accepts s m { code := 0x0505, cls := 1, len := 8, args := [{ off := 0, hi := 15 }, { off := 1, mask := 3 }, { off := 2, n := 2, hi := 4095 }, { off := 4, n := 2 }, { off := 6, n := 2 }] } →
      t.hasPort (byteAt a 0) = true →
      exec (.ispAeConfig m) s = .next (okAfter s m 0x0505 [] (t.modIspPort (byteAt a 0) fun x =>
        { x with aeOn := bit (byteAt a 1) 0, awbOn := bit (byteAt a 1) 1, target := u16At a 2, maxExposure := u16At a 4, maxGain := u16At a 6 })))) ∧
  (∀ (m : Master) (s : State), let t := s.taken m; let a := s.argsOf m
    (Accepts s m { code := 0x0501, cls := 1, bulk := some 0, len := 18, args := [{ off := 16, hi := 15 }, { off := 17, mask := 1 }] } →
      BulkFits s m { code := 0x0501, cls := 1, bulk := some 0, len := 18, args := [{ off := 16, hi := 15 }, { off := 17, mask := 1 }] } →
      t.hasPort (byteAt a 16) = true → s.bulkLen m = 9760 → ctxBad ((s.takenBulk m).devRead (s.bulkAt m) 9760) = false →
      let next := match ((s.takenBulk m).ispPort (byteAt a 16)).lastStarted with | some q => q + 1 | none => 0
      exec (.ispContextSet m) s = .next (okAfter s m 0x0501 (le 4 (if byteAt a 17 = 1 then next.toNat else 0))
        ((s.takenBulk m).setContext (byteAt a 16) ((s.takenBulk m).devRead (s.bulkAt m) 9760) (byteAt a 17 == 1)))) ∧
    (Accepts s m { code := 0x0502, cls := 1, len := 4, args := [{ off := 0, hi := 3 }, { off := 1, hi := 3 }, { off := 2, n := 2 }] } →
      t.hasPipe (byteAt a 0) = true → (∀ p < 16, bit (u16At a 2) p = true → t.hasPort p = true) →
      t.maskBad (byteAt a 0) (byteAt a 1) (BitVec.ofNat 16 (u16At a 2)) = none →
      exec (.ispSlotMask m) s = .next (okAfter s m 0x0502 (le 4 t.nextEpoch.toNat)
        (t.modPipe (byteAt a 0) fun y => { y with next := some (byteAt a 1, BitVec.ofNat 16 (u16At a 2)) }))) ∧
    (Accepts s m { code := 0x0503, cls := 1, len := 16, args := [{ off := 0, hi := 3 }, { off := 1 }, { off := 2, hi := 15 }, { off := 4, n := 5 }, { off := 12, n := 4 }] } →
      t.hasPipe (byteAt a 0) = true → t.hasPort (byteAt a 2) = true →
      (byteAt a 1 = 255 → exec (.ispTap m) s = .next (okAfter s m 0x0503 [] (t.modPipe (byteAt a 0) fun y => { y with tapNext := some none }))) ∧
      (byteAt a 1 ≤ 4 →
        (t.inlinePort (byteAt a 0) = byteAt a 2 ∨ t.maskPipe (byteAt a 2) = some (byteAt a 0)) →
        t.inRegion (a40At a 4) (u32At a 12) = true → t.held (a40At a 4) (u32At a 12) = false →
        tapSlot (byteAt a 1) (t.camPort (byteAt a 2)).cfg.width (t.camPort (byteAt a 2)).cfg.height (t.camPort (byteAt a 2)).cfg.dataType ≤ u32At a 12 →
        exec (.ispTap m) s = .next (okAfter s m 0x0503 [] (t.modPipe (byteAt a 0) fun y =>
          { y with tapNext := some (some { point := byteAt a 1, port := byteAt a 2, base := a40At a 4, len := u32At a 12 }) })))))

/-- Bringing up a Rootline port (R114, R116, R307): a signal starts training; an attempt that its 20 ms or its 2 ms of tap
exchange cut short counts as a failure; the device's search ends at once at 250 mUI and else tries the presets; a port whose
lanes have all trained leaves training. Faults of a Rootline link (R106, R116, R119, R120): a fault of a link that is not up
changes nothing; 60 s of streaming clear the failure count; a fault of the other lane during RETRAIN is one of both; without a
frame start for 500 ms the link retrains; an unplugged head leaves DETECT and its event. Completion: under the conditions of
its clauses, which are on the state and the operands alone, exec answers a next state for signalDetect, rootlineTrainingDone,
bringUpTimeout, headUnplug, lockFault, failureCountClear, frameStartTimeout, rootlineTrainAck, tapExchangeLimit. -/
def Obligations.RootlineLinks : Prop :=
  (∀ (port lane seq status margin : Nat) (s : State),
    ((s.camPort port).state = 1 → s.domOn (domRG port) = true → (s.camPort port).configured = true →
      exec (.signalDetect port) s = .next (s.trainPort port 2 (s.camPort port).cfg.lanes (s.camPort port).cfg.rate 0).settle) ∧
    ((s.camPort port).state = 1 → s.domOn (domRG port) = true → (s.camPort port).configured = false →
      exec (.signalDetect port) s = .next (s.trainPort port 2 1 0 0).settle) ∧
    (s.portTraining port = true →
      exec (.bringUpTimeout port) s = .next ((s.timeTo ((s.camPort port).attemptAt + ms 20)).countFailure port).settle) ∧
    (s.portTraining port = false → exec (.bringUpTimeout port) s = .next s.settle) ∧
    (∀ t0, s.lanes.portTapLimit.getD port none = some t0 → s.portTraining port = true →
      (∃ i ∈ (s.camPort port).lanesIn, (s.lane (portLane port i)).ended = false) →
      exec (.tapExchangeLimit port) s = .next ((s.timeTo t0).countFailure port).settle) ∧
    (∀ t, (s.laneAux (portLane port lane)).search = some t → s.portTraining port = true → (s.lane (portLane port lane)).state = 1 →
      (s.lane (portLane port lane)).ended = false → seq = t.seq →
      let z := s.modLane (portLane port lane) fun x => { x with ackSeq := seq, tapStatus := status % 64, margin := roundNat (margin * 1000) 64, blockLock := true }
      (t.phase = 0 → 250 ≤ roundNat (margin * 1000) 64 →
        exec (.rootlineTrainAck port lane seq status margin) s = .next (z.endSearch port lane (roundNat (margin * 1000) 64) margin).settle) ∧
      (t.phase = 0 → roundNat (margin * 1000) 64 < 250 →
        exec (.rootlineTrainAck port lane seq status margin) s =
          .next ((z.modSearch (portLane port lane) fun t => { t with phase := 1, preset := 0 }).tapReq port lane 1 0 0 margin).settle)) ∧
    (∀ t, (s.laneAux (portLane port lane)).search = some t → seq ≠ t.seq → exec (.rootlineTrainAck port lane seq status margin) s = .next s.settle) ∧
    (∀ id serial : W32, ∀ ver caps : W8, ∀ latency : Nat, (∃ i ∈ (s.camPort port).lanesIn, (s.lane (portLane port i)).trained = false) →
      exec (.rootlineTrainingDone port id serial ver caps latency) s = .next s.settle) ∧
    (∀ id serial : W32, ∀ ver caps : W8, ∀ latency : Nat, s.portTraining port = true → (∀ i ∈ (s.camPort port).lanesIn, (s.lane (portLane port i)).trained = true) →
      (s.camPort port).state = 6 → port < s.cam.ports.length → ∃ t, exec (.rootlineTrainingDone port id serial ver caps latency) s = .next t ∧
        (t.camPort port).lastRetrain = s.time)) ∧
  (∀ (port lane : Nat) (ppm : Int) (s : State),
    exec (.lockFault port lane ppm) s = .next (s.lockFault port lane ppm).settle ∧
    (s.linkIdleUp port = false → (s.camPort port).state ≠ 6 → exec (.lockFault port lane ppm) s = .next s.settle) ∧
    ((s.camPort port).state = 6 → (s.camPort port).lostLane < 2 → (s.camPort port).lostLane ≠ lane →
      exec (.lockFault port lane ppm) s = .next (s.modPort port fun y => { y with lostLane := 2 }).settle) ∧
    ((s.camPort port).state = 5 → (s.camPort port).failures ≠ 0 →
      exec (.failureCountClear port) s = .next ((s.timeTo ((s.camPort port).cleanSince + 60 * 10 ^ 9)).modPort port fun x => { x with failures := 0 }).settle) ∧
    ((s.camPort port).state = 5 → (s.camPort port).cfg.fsyncEn = true → (s.camPort port).nextCfg = none →
      exec (.frameStartTimeout port) s = .next
        ((((((s.timeTo ((s.camFlow port).lastStart + ms 500)).portFrameEnd port true).awaitFrame port).modFlow port fun f => { f with retrains := f.retrains + 1 }).modPort port
          fun x => { x with after := 1 }).countFailure port).settle) ∧
    ((s.camPort port).state ≠ 5 → exec (.frameStartTimeout port) s = .next s.settle ∧ exec (.failureCountClear port) s = .next s.settle) ∧
    (2 ≤ (s.camPort port).state → (s.camPort port).state ≠ 8 → port < s.cam.ports.length → ∃ t, exec (.headUnplug port) s = .next t ∧
      (t.camPort port).state = 1 ∧ (t.camPort port).failures = 0) ∧
    (((s.camPort port).state < 2 ∨ (s.camPort port).state = 8) → exec (.headUnplug port) s = .next s.settle))

/-- Requests to a head (R108, R109): status 0 ends a write well, status 1 sends it again, any other cannot be mended; the words of
a read are collected until all are there; an unknown tag changes nothing; a request whose answer stays out is sent again at
the end of the earliest window. Frames of a camera (R106, R107, R111, R112, R121, R123): a frame starts with the tick's
number, or a free-running head's next one, and is DROPPED when it is the second of its tick or finds no write credits; its
number is recorded at start and end; a line goes to the raw buffer of a memory-fed frame and into the frame, a line of another
length ends the valid lines, one without credits drops the frame; packets outside a frame or of another channel are counted; a
skew above 16 blocks and a lane whose ALIGN never came are losses of lock; the generator's next tick moves its number and
time. Completion: under the conditions of its clauses, which are on the state and the operands alone, exec answers a next
state for fsyncTick, csi2FrameStart, csi2FrameEnd, csi2ImageLine, csi2EmbeddedLine, alignBlock, headAck, regResp,
headAnswerTimeout, csi2DiscardedPacket. -/
def Obligations.CameraTraffic : Prop :=
  (∀ (port tag index status : Nat) (data : List W8) (s : State),
    (s.findReq port tag = none → exec (.headAck port tag status) s = .next s.settle ∧ exec (.regResp port tag index status data) s = .next s.settle) ∧
    (∀ r, s.findReq port tag = some r → r.kind ≠ 2 →
      (r.limit ≠ 0 → exec (.headAck port tag 0) s = .next ((s.dropReq port tag).answerHead stOk []).settle) ∧
      (r.limit = 0 → exec (.headAck port tag 0) s = .next (s.dropReq port tag).settle) ∧
      exec (.headAck port tag 1) s = .next (s.retryReq port r).settle ∧
      (1 < status → exec (.headAck port tag status) s = .next (s.retryReq port { r with resends := 2 }).settle)) ∧
    (∀ r, s.findReq port tag = some r → r.kind = 2 → byteAt r.msg 5 ≤ 4 → 1 ≤ byteAt r.msg 5 →
      exec (.regResp port tag 0 0 data) s = .next (((s.modReq port tag fun q => { q with data := q.data.filter (·.1 != 0) ++ [(0, pad 4 data)] }).dropReq port tag).answerHead
        stOk ((pad 4 data).take (byteAt r.msg 5))).settle) ∧
    (∀ r, s.findReq port tag = some r → r.kind = 2 → exec (.regResp port tag index 1 data) s = .next (s.retryReq port r).settle) ∧
    (∀ r rest, (s.camFlow port).req = r :: rest → (∀ x ∈ rest, r.window ≤ x.window) → exec (.headAnswerTimeout port) s = .next ((s.timeTo r.window).retryReq port r).settle) ∧
    ((s.camFlow port).req = [] → exec (.headAnswerTimeout port) s = .next s.settle)) ∧
  (∀ (port : Nat) (number : W16) (data : List W8) (s : State), let z := s.camFlow port
    ((s.camPort port).state ≠ 5 → ∀ credits, exec (.csi2FrameStart port number credits) s = .next s.settle) ∧
    ((s.camPort port).state = 5 → z.frame = none → port < s.cam.flows.length → ∀ credits, ∃ t,
      exec (.csi2FrameStart port number credits) s = .next t ∧ (t.camFlow port).lastFrameNum = number ∧ (t.camFlow port).startSeen = true ∧
      ∃ f, (t.camFlow port).frame = some f ∧ f.start = s.time ∧ f.seq = (if (s.camPort port).cfg.fsyncEn then z.lastTick.getD 0 else z.freeSeq + 1) ∧
        f.dropped = (((s.camPort port).cfg.fsyncEn && z.startSeen) || !credits)) ∧
    (let e := s.modFlow port fun f => { f with lastFrameNum := number };
      ((e.camFlow port).frame = none → exec (.csi2FrameEnd port number) s = .next (e.modFlow port fun f => { f with orphanEnds := f.orphanEnds + 1 }).settle) ∧
      ((e.camFlow port).frame.isSome = true → exec (.csi2FrameEnd port number) s = .next (e.portFrameEnd port false).settle)) ∧
    (∀ vc crcOk credits, vc ≠ (s.camPort port).cfg.vc → exec (.csi2ImageLine port vc crcOk credits data) s = .next (s.modFlow port fun f => { f with discarded := f.discarded + 1 }).settle) ∧
    (∀ f credits, z.frame = some f → f.dropped = false → f.ended = false → data.length ≠ lineBytes f.w f.dt →
      exec (.csi2ImageLine port (s.camPort port).cfg.vc true credits data) s = .next (s.modFlow port fun y => { y with frame := some { f with ended := true } }).settle) ∧
    (∀ f, z.frame = some f → f.dropped = false → f.ended = false → data.length = lineBytes f.w f.dt → f.lines + 1 < f.h →
      exec (.csi2ImageLine port (s.camPort port).cfg.vc true true data) s =
        .next ((s.rawWrite port f data).modFlow port fun y => { y with frame := some { f with lines := f.lines + 1, rows := f.rows ++ [unpackLine f.w f.dt data] } }).settle) ∧
    (∀ f, z.frame = some f → f.dropped = false → f.ended = false → data.length = lineBytes f.w f.dt → f.lines < f.h →
      exec (.csi2ImageLine port (s.camPort port).cfg.vc true false data) s =
        .next ((s.modFlow port fun y => { y with frame := some { f with dropped := true, rows := [] } }).dropFrame port f.seq).settle) ∧
    (∀ f, z.frame = some f → f.lines = 0 → f.embedded = none →
      exec (.csi2EmbeddedLine port true data) s = .next (s.modFlow port fun y => { y with frame := some { f with embedded := some data } }).settle) ∧
    (∀ why, exec (.csi2DiscardedPacket port why) s = .next
      (s.modFlow port fun f => { f with discarded := f.discarded + 1, frame := f.frame.map fun g => if why == 0 then { g with ended := true } else g }).settle) ∧
    (∀ lane count skew, s.linkIdleUp port = true → (s.camPort port).runLanes = 1 → skew ≤ 16 * 66 →
      exec (.alignBlock port lane count skew) s = .next (s.modFlow port fun f => { f with laneCount := f.laneCount.set lane (some count), alignCount := count }).settle) ∧
    (∀ lane count skew, s.linkIdleUp port = true → 16 * 66 < skew →
      exec (.alignBlock port lane count skew) s = .next
        ((s.modFlow port fun f => { f with laneCount := f.laneCount.set lane (some count), alignCount := count }).lockFault port lane 0).settle) ∧
    (∀ lane count skew c, s.linkIdleUp port = true → (s.camPort port).runLanes = 2 → skew ≤ 16 * 66 → lane < 2 → port < s.cam.flows.length →
      z.laneCount = [some c, none] ∨ z.laneCount = [none, some c] → z.laneCount.getD lane none = some c →
      exec (.alignBlock port lane count skew) s = .next
        ((s.modFlow port fun f => { f with laneCount := f.laneCount.set lane (some count), alignCount := count }).lockFault port (1 - lane) 0).settle) ∧
    (∀ f t0 p, s.nextTick = some (f, t0, p) → ∃ t, exec .fsyncTick s = .next t ∧ t.cam.tick = f ∧ t.cam.ticked = true ∧ t.cam.tickAt = max t0 s.cam.tickAt ∧ t.time = max t0 s.time))

/-- The image pipelines (R127, R129 to R131, R148): a faulted pipeline processes nothing; a memory-fed pipeline without an order
waits; a frame's statistics are posted with its port and settings. Completion: under the conditions of its clauses, which are
on the state and the operands alone, exec answers a next state for inlineLineProcess, rawFrameReady, memfedFrameStart,
pipelineFrameDone, statsComplete, pipelineFault. -/
def Obligations.PipelinesProcessFrames : Prop :=
  ∀ (pipe port : Nat) (s : State), let y := s.pipe pipe
    (y.faulted = true → exec (.inlineLineProcess pipe) s = .next s.settle ∧ exec (.memfedFrameStart pipe) s = .next s.settle) ∧
    (∀ f rows all, s.domOn (domIP pipe) = true → s.hasPipe pipe = true → y.faulted = false → y.cur = some f → s.procRows f = (rows, all) → rows ≠ [] →
      f.done < f.h → (all = true ∨ f.done + 8 < rows.length) → exec (.inlineLineProcess pipe) s = .next
        ((s.modBuf f.port f.seq fun b => b.addRow (IspEnv.of f.ctx f.w f.h f.dt rows) f.done).modPipe pipe fun y => { y with cur := some { f with done := f.done + 1 } }).settle) ∧
    (∀ p rest, s.domOn (domIP pipe) = true → s.hasPipe pipe = true → y.faulted = false → y.mem = none → y.order = p :: rest → (s.ispPort p).ready = none →
      exec (.memfedFrameStart pipe) s = .next (s.modPipe pipe fun y => { y with order := rest }).settle) ∧
    exec (.rawFrameReady port) s = .next (s.rawReady port).settle ∧
    (s.hasPipe pipe = true → y.faulted = false → exec (.pipelineFault pipe) s = .next ((s.pipelineFault pipe 0x20).reduce 0x20 (domIP pipe)).settle) ∧
    (y.faulted = true → exec (.pipelineFault pipe) s = .next s.settle) ∧
    ((∀ i < 4, (s.pipe i).cur = none ∧ (s.pipe i).mem = none) → ∀ credits, exec (.pipelineFrameDone port credits) s = .next s.settle) ∧
    (∀ f r, (∀ i < 4, i ≠ pipe → (s.pipe i).cur = none ∧ (s.pipe i).mem = none) → pipe < 4 → y.cur = some f → f.port = port → f.raw = some r → f.done = f.h →
      ∀ credits, exec (.pipelineFrameDone port credits) s = .next (s.frameDone pipe f r credits).settle) ∧
    (∀ f r, (s.ispPort port).statsDue = some f → f.raw = some r → s.loopOn port = false → port < s.isp.ports.length → ∃ t st more,
      exec (.statsComplete port) s = .next t ∧ (t.ispPort port).stats = st :: more ∧ st.seq = r.seq ∧ st.lines = r.lines ∧ (t.ispPort port).statsDue = none) ∧
    ((s.ispPort port).statsDue = none → exec (.statsComplete port) s = .next s.settle)

/-- DEPTH.QUERY answers a unit's state, ports and counters; a setting or a warp map takes effect between two pair frames of the
unit (R158, R160): at once when none is in progress, after it when one is; a second one that would wait answers ST_BUSY.
DEPTH.SLICE_SET (R178): a slicer between two layer frames takes its setting at once, one in a frame keeps it as the next; a
pool that commits hold answers ST_LEASE_HELD. Completion: under the conditions of its clauses, which are on the state and the
operands alone, exec answers a next state for depthQuery, depthPairSet, depthWarpLoad, depthSliceSet. -/
def Obligations.DepthCommands : Prop :=
  (∀ (m : Master) (s : State), let t := s.taken m; let tb := s.takenBulk m; let a := s.argsOf m
    let u := byteAt a 0
    let cfg : PairCfg := { refPort := byteAt a 1, other := byteAt a 2, temporal := bit (byteAt a 3) 1, lrCheck := bit (byteAt a 3) 2,
                           baselineUm := u32At a 4, focalPx := u32At a 8, lrTol := byteAt a 12, weight := byteAt a 13 }
    (Accepts s m { code := 0x0600, cls := 0, len := 1, args := [{ off := 0, hi := 7 }] } → t.hasPair u = true →
      exec (.depthQuery m) s = .next (okAfter s m 0x0600
        (le 1 (if t.domOn domDE then (t.pairUnit u).state else 0) ++ le 1 (t.pairUnit u).cfg.refPort ++ le 1 (t.pairUnit u).cfg.other ++ [0] ++ le 4 (t.pairUnit u).frames.toNat
          ++ le 1 (t.pairUnit u).meanConf) t)) ∧
    (Accepts s m { code := 0x0601, cls := 1, len := 14, args := [{ off := 0, hi := 7 }, { off := 1, hi := 15 }, { off := 2, hi := 15 }, { off := 3, mask := 7 }, { off := 4, n := 4 }, { off := 8, n := 4 }, { off := 12 }, { off := 13 }] } →
      t.hasPair u = true → t.hasPort (byteAt a 1) = true → t.hasPort (byteAt a 2) = true → (bit (byteAt a 3) 0 = true → t.pairBad u cfg = none) →
      let new := if bit (byteAt a 3) 0 then some cfg else none
      ((t.pairUnit u).cur = none → exec (.depthPairSet m) s = .next (okAfter s m 0x0601 [] (t.applyPair u new))) ∧
      ((t.pairUnit u).cur.isSome = true → (t.pairUnit u).next = none → (t.pairUnit u).mapWaits = false →
        exec (.depthPairSet m) s = .next (okAfter s m 0x0601 [] (t.modPair u fun x => { x with next := some new }))) ∧
      ((t.pairUnit u).cur.isSome = true → ((t.pairUnit u).next.isSome = true ∨ (t.pairUnit u).mapWaits = true) →
        exec (.depthPairSet m) s = .next (errAfter s m 0x0601 stBusy 0xFF 0 (unitPair u)))) ∧
    (Accepts s m { code := 0x0602, cls := 1, bulk := some 0, len := 17, args := [{ off := 16, hi := 15 }] } →
      BulkFits s m { code := 0x0602, cls := 1, bulk := some 0, len := 17, args := [{ off := 16, hi := 15 }] } →
      let p := byteAt a 16
      let map := tb.devRead (s.bulkAt m) 18432
      let running := (tb.pairsOf p).filter fun v => (tb.pairUnit v).cur.isSome
      t.hasPort p = true → s.bulkLen m = 18432 →
      ((tb.depthInput p).1 = 0 ∨ warpBad (warpNodes map) (tb.depthInput p).1 (tb.depthInput p).2 = none) →
      (∀ v ∈ running, (tb.pairUnit v).next = none ∧ (tb.pairUnit v).mapWaits = false) →
      exec (.depthWarpLoad m) s = .next (okAfter s m 0x0602 []
        (((running.foldl (fun x v => x.modPair v fun y => { y with mapWaits := true })
          (tb.modDepth fun d => { d with warps := d.warps.set p (some (warpNodes map)) })).recheckPairs p).deferRecord (0x60 + p) map)))) ∧
  (∀ (m : Master) (s : State), let t := s.taken m; let a := s.argsOf m
    let l := byteAt a 0
    let cfg : SliceCfg := { port := byteAt a 1, slices := byteAt a 2, pool := a40At a 4, bytes := u32At a 12,
                            curve := (List.range 33).map fun i => (u16At a (16 + 4 * i), s16At a (18 + 4 * i)) }
    Accepts s m { code := 0x0603, cls := 1, len := 148, args := [{ off := 0, hi := 3 }, { off := 1, hi := 15 }, { off := 2, lo := 1, hi := 16 }, { off := 3, mask := 1 }, { off := 4, n := 5 }, { off := 12, n := 4 }, { off := 16, n := 132 }] } →
    t.hasPort (byteAt a 1) = true → t.sliceBad l cfg = none →
    ((t.commitTouched cfg.pool cfg.bytes = true → exec (.depthSliceSet m) s = .next (errAfter s m 0x0603 stLeaseHeld 0xFF 0 0xFFFF)) ∧
    (bit (byteAt a 3) 0 = true → t.commitTouched cfg.pool cfg.bytes = false →
      exec (.depthSliceSet m) s = .next (okAfter s m 0x0603 []
        (if (t.slicer l).cur.isSome then t.modSlicer l fun x => { x with next := some (some cfg) }
         else (t.modSlicer l fun x => { x with enabled := true, cfg := cfg, next := none, half := 0 }).noteFlat l))) ∧
    (bit (byteAt a 3) 0 = false → t.commitTouched cfg.pool cfg.bytes = false →
      exec (.depthSliceSet m) s = .next (okAfter s m 0x0603 []
        (if (t.slicer l).cur.isSome then t.modSlicer l fun x => { x with next := some none }
         else t.modSlicer l fun x => { x with enabled := false, next := none })))))

/-- The depth units (R159, R160, R168 to R170, R181, R182, R185, R207): a busy, disabled or faulted unit starts no frame; a pair
whose frame is flagged or gone is abandoned; a row that both views do not yet cover waits; a row goes to the unit's ring and
to its disparity, invalid where a read of it could not be corrected, and the last one ends the pair frame; a slicer whose half
is held stalls and goes on once it is released. Completion: under the conditions of its clauses, which are on the state and
the operands alone, exec answers a next state for pairFrameStart, disparityRowEmit, slicerTileRow, slicerHalfRelease. -/
def Obligations.DepthRuns : Prop :=
  ∀ (unit layer : Nat) (s : State), let u := s.pairUnit unit
    ((u.cur.isSome = true ∨ u.enabled = false ∨ s.domOn domDE = false ∨ u.state = 4) → exec (.pairFrameStart unit) s = .next s.settle) ∧
    (u.cur = none → u.enabled = true → s.domOn domDE = true → u.state ≠ 4 → u.next = none → s.allFlat u.cfg.refPort = false → s.pairReady u = none →
      exec (.pairFrameStart unit) s = .next (s.modPair unit fun x => { x with state := 1 }).settle) ∧
    (∀ q, unit < s.depth.units.length → u.cur = none → u.enabled = true → s.domOn domDE = true → u.state ≠ 4 → u.next = none → s.allFlat u.cfg.refPort = false → s.pairReady u = some q →
      ∃ t, exec (.pairFrameStart unit) s = .next t ∧ (t.pairUnit unit).cur = some (q, s.time) ∧ (t.pairUnit unit).rows = 0 ∧ (t.pairUnit unit).state = 2) ∧
    (∀ err, u.cur = none → exec (.disparityRowEmit unit err) s = .next s.settle) ∧
    (∀ q t0 err, u.cur = some (q, t0) → (s.bufOf u.cfg.refPort q = none ∨ s.bufOf u.cfg.other q = none) →
      exec (.disparityRowEmit unit err) s = .next (s.abandonPair unit).settle) ∧
    (∀ q t0 a b err, u.cur = some (q, t0) → s.bufOf u.cfg.refPort q = some a → s.bufOf u.cfg.other q = some b →
      ((a.flagged = true ∨ b.flagged = true) → exec (.disparityRowEmit unit err) s = .next (s.abandonPair unit).settle) ∧
      (a.flagged = false → b.flagged = false → (a.depthPlane.length ≤ min (2 * u.rows + 40) (a.depthSize.2 - 1) ∨ b.depthPlane.length ≤ min (2 * u.rows + 40) (a.depthSize.2 - 1)) →
        exec (.disparityRowEmit unit err) s = .next s.settle) ∧
      (a.flagged = false → b.flagged = false → min (2 * u.rows + 40) (a.depthSize.2 - 1) < a.depthPlane.length →
        min (2 * u.rows + 40) (a.depthSize.2 - 1) < b.depthPlane.length →
        let z := s.depthRead err
        let row := if err.isSome then List.replicate (a.depthSize.1 / 2) (0xFFF, 0) else State.disparityRow u a b u.rows
        let codes := z.rowCodes unit q (row.map (·.1))
        let w := (z.ringWrite unit u.rows (a.depthSize.1 / 2) (a.depthSize.2 / 2) codes (row.map (·.2))).modPair unit fun x => { x with
          codes := x.codes ++ [codes], conf := x.conf ++ [row.map (·.2)], rows := x.rows + 1 }
        exec (.disparityRowEmit unit err) s = .next (if u.rows + 1 = a.depthSize.2 / 2 then w.pairDone unit q else w).settle)) ∧
    (s.domOn domSL = false → exec (.slicerTileRow layer) s = .next s.settle) ∧
    ((s.slicer layer).stalled = true → (s.slicer layer).cur.isSome = true → exec (.slicerTileRow layer) s = .next s.settle) ∧
    (∀ q, s.domOn domSL = true → (s.slicer layer).cur = some q → s.held (s.slicer layer).halfBase (halfBytes (s.slicer layer).cfg) = true → layer < s.depth.layers.length →
      exec (.slicerTileRow layer) s = .next (s.modSlicer layer fun y => { y with stalled := y.cur.isSome }).settle) ∧
    (∀ q, s.domOn domSL = true → (s.slicer layer).stalled = false → (s.slicer layer).cur = some q → s.held (s.slicer layer).halfBase (halfBytes (s.slicer layer).cfg) = false →
      s.sliceSrc layer q = none →
      exec (.slicerTileRow layer) s = .next (s.abandonSlices layer).settle) ∧
    (∀ q e rows z, s.domOn domSL = true → (s.slicer layer).stalled = false → (s.slicer layer).cur = some q → s.sliceSrc layer q = some (e, rows) →
      s.held (s.slicer layer).halfBase (halfBytes (s.slicer layer).cfg) = false →
      min ((32 * (s.slicer layer).tileRow + 34) / e.scale + 1) (e.h / e.scale - 1) < rows → (s.slicer layer).tileRow ≠ 0 →
      s.writeTiles layer e (s.slicer layer).tileRow = some z → (s.slicer layer).tileRow + 1 < (e.h + 31) / 32 →
      exec (.slicerTileRow layer) s = .next (z.modSlicer layer fun y => { y with tileRow := y.tileRow + 1 }).settle) ∧
    ((s.slicer layer).stalled = true → s.held (s.slicer layer).halfBase (halfBytes (s.slicer layer).cfg) = false →
      exec (.slicerHalfRelease layer) s = .next (s.modSlicer layer fun y => { y with stalled := false }).settle) ∧
    (((s.slicer layer).stalled = false ∨ s.held (s.slicer layer).halfBase (halfBytes (s.slicer layer).cfg) = true) → exec (.slicerHalfRelease layer) s = .next s.settle)

/-- The SCENE commands on pools and leases (R186, R202, R203, R209): a pool of whole 64 KiB units none of whose pages is held is
stored; the policy is stored; a region of whole 64-byte units that overlaps no other gets the lowest free LEASE_ID; a region
that nothing holds and no configuration lies in is removed. The oldest scene entry (R198 to R200): a stream that parses leaves
its planes waiting for their latch point and CONSUMED moves past it; one that does not is rejected with its error, and its
planes change nothing. Completion: under the conditions of its clauses, which are on the state and the operands alone, exec
answers a next state for sceneQuery, scenePoolSet, sceneLeasePolicy, sceneLeaseAdd, sceneLeaseRemove, sceneEntryParse. -/
def Obligations.SceneStream : Prop :=
  (∀ (m : Master) (s : State), let t := s.taken m; let a := s.argsOf m; let b := a40At a 0; let n := u32At a 8
    (Accepts s m { code := 0x0700, cls := 0 } →
      let fences := (List.range 4).filterMap fun i => if t.scene.applied.getD i 0 != 0 then some (t.scene.retired.getD i 0).toNat else none
      ∃ fence, (fences = [] → fence = 0) ∧ (fences ≠ [] → fence ∈ fences ∧ ∀ f ∈ fences, fence ≤ f) ∧
      exec (.sceneQuery m) s = .next (okAfter s m 0x0700
        (le 1 (t.scene.planes.filter Option.isSome).length ++ le 1 (if t.leases.allow then 1 else 0) ++ le 2 (t.leases.regions.filter (·.id ≤ 256)).length
          ++ le 4 t.scene.lastSf.toNat ++ le 4 fence ++ le 4 t.leases.violations.toNat) t)) ∧
    (Accepts s m { code := 0x0701, cls := 1, len := 13, args := [{ off := 0, n := 5 }, { off := 8, n := 4 }, { off := 12, hi := 3 }] } →
      b % 65536 = 0 →
      (∀ k < (match t.scene.pools.getD (byteAt a 12) none with | some (_, len) => len / pageSize | none => 0), t.pageHeld (byteAt a 12) k = false) →
      (n = 0 → exec (.scenePoolSet m) s = .next (okAfter s m 0x0701 [] (t.modScene fun x => { x with pools := x.pools.set (byteAt a 12) none }))) ∧
      (n ≠ 0 → n % 65536 = 0 → t.inRegion b n (some 0) = true →
        exec (.scenePoolSet m) s = .next (okAfter s m 0x0701 [] (t.modScene fun x => { x with pools := x.pools.set (byteAt a 12) (some (b, n)) })))) ∧
    (Accepts s m { code := 0x0702, cls := 1, len := 1, args := [{ off := 0, hi := 1 }] } →
      exec (.sceneLeasePolicy m) s = .next (okAfter s m 0x0702 [] (t.modLeases fun l => { l with allow := byteAt a 0 == 1 }))) ∧
    (Accepts s m { code := 0x0703, cls := 1, len := 13, args := [{ off := 0, n := 5 }, { off := 8, n := 4 }, { off := 12, hi := 4 }] } →
      b % 64 = 0 → n ≠ 0 → n % 64 = 0 → t.inMemory b n = true → (∀ r ∈ t.leases.regions, overlaps b n r.base r.len = false) →
      ((t.leases.regions.map (·.id)).filter (· ≤ 256)).length < 256 →
      ∃ id, 1 ≤ id ∧ (∀ r ∈ t.leases.regions, r.id ≠ id) ∧ (∀ j, 1 ≤ j → j < id → ∃ r ∈ t.leases.regions, r.id = j) ∧
        exec (.sceneLeaseAdd m) s = .next (okAfter s m 0x0703 (le 2 id)
          (t.modLeases fun l => { l with regions := l.regions ++ [{ id := id, base := b, len := n, cls := byteAt a 12 }] }))) ∧
    (Accepts s m { code := 0x0704, cls := 1, len := 2, args := [{ off := 0, n := 2 }] } → u16At a 0 ≤ 256 →
      ∀ r, t.leases.regions.find? (·.id == u16At a 0) = some r → t.held r.base r.len = false → t.configIn r = false →
      exec (.sceneLeaseRemove m) s = .next (okAfter s m 0x0704 [] (t.modLeases fun l => { l with regions := l.regions.filter (·.id != r.id) })))) ∧
  (∀ (s : State), s.scene.producer ≠ s.scene.consumed → s.mem.map.isEmpty = false → s.domOn domCMP = true →
    let k := s.scene.consumed.toNat
    let e := memRead s.win (sceneEntryAddr k) 32
    let a := a40At e 0
    let n := u32At e 8
    byteAt e 6 ≤ 3 → byteAt e 7 = 0 → (∀ b ∈ slice e 16 16, b = 0) → byteAt e 5 ≤ 3 → a % 16 = 0 → n % 16 = 0 →
    (s.poolOf a n = none → exec .sceneEntryParse s = .next (s.rejectEntry k (byteAt e 5) (bit (byteAt e 6) 1) { err := 11, off := 0 } 0).settle) ∧
    (∀ q b len, s.poolOf a n = some q → s.scene.pools.getD q none = some (b, len) →
      let x : Stream := { b := s.devRead a n, scene := byteAt e 5, entry := q * 2 ^ 30 + (a - b) / 16, bad := fun o len => s.poisoned (a + o) len }
      (∀ er sf, parseStream x s.scene.pend = (.error er, sf) →
        exec .sceneEntryParse s = .next (s.rejectEntry k (byteAt e 5) (bit (byteAt e 6) 1) er sf).settle) ∧
      (∀ pl sf, parseStream x s.scene.pend = (.ok pl, sf) → ∃ t, exec .sceneEntryParse s = .next t ∧ t.scene.consumed = s.scene.consumed + 1 ∧
        t.scene.pend = pl ∧ t.scene.planes = s.scene.planes ∧ (t.scene.waiting.getLast?.map (·.planes)) = some pl ∧ t.scene.waiting.length = s.scene.waiting.length + 1)))

/-- RAY.QUERY answers the clusters, the spares and Cellar's counters; a calibration map without an error is pending for two frames
and 20 ms (R213); new limits wait for the latch point (R221). Clusters and slices of the ray engine (R213, R223, R225, R226,
R229 to R232, R234, R235, R247): the results of a self-test are kept, a failed cluster is retired and a failed slice faulted;
an error in a slice is counted, invalidates its tile or faults the slice; a cluster pulls a check that is due, else a strip;
it completes a strip once its tiles are there; a check that agrees is counted, one that differs goes to a third cluster, whose
result says which is retired; a tile that returns is decoded into the cache or poisoned for the frame; a flat layer's next
open tile is produced while the cache has room. Completion: under the conditions of its clauses, which are on the state and
the operands alone, exec answers a next state for rayQuery, rayCalLoad, rayLimits, stripPull, stripComplete, tileFetchReturn,
flatTileProduce, duplicateCheckCompare, clusterSelfTestDone, spareRetestTimer, sliceFault, mapShadowsWritten. -/
def Obligations.RayEngine : Prop :=
  (∀ (m : Master) (s : State), let t := s.taken m; let tb := s.takenBulk m; let a := s.argsOf m
    (Accepts s m { code := 0x0800, cls := 0 } → ∃ mhz, mhz ≤ 1400 ∧
      exec (.rayQuery m) s = .next (okAfter s m 0x0800
        (le 4 (maskOf 17 fun c => t.rendering.contains c) ++ le 4 (maskOf 17 fun c => (t.cluster c).retired) ++ le 1 (t.ray.spare.getD 255)
          ++ le 1 (t.ray.spareSlice.getD 255) ++ le 2 mhz ++ le 4 t.cellar.lastMisses.toNat ++ le 4 t.cellar.poisonCount.toNat
          ++ le 4 t.cellar.dupChecks.toNat ++ le 4 t.cellar.dupFails.toNat) t)) ∧
    (Accepts s m { code := 0x0801, cls := 1, bulk := some 0, len := 20, args := [{ off := 16, n := 4 }] } →
      BulkFits s m { code := 0x0801, cls := 1, bulk := some 0, len := 20, args := [{ off := 16, n := 4 }] } →
      tb.mapError (tb.devRead (s.bulkAt m) (s.bulkLen m)) (u32At a 16) = none → t.ray.load = none → s.pendingCount m.code < 16 →
      exec (.rayCalLoad m) s = .next (pendAfter s m 0x0801 (2 * t.framePeriod + 20000000) 0
        (tb.modRay fun x => { x with load := some { bytes := tb.devRead (s.bulkAt m) (s.bulkLen m), crc := BitVec.ofNat 32 (u32At a 16), id := 0, master := m.code } }))) ∧
    (Accepts s m { code := 0x0802, cls := 1, len := 4, args := [{ off := 0, lo := 1, hi := 64 }, { off := 2, n := 2, lo := 1, hi := 128 }] } →
      exec (.rayLimits m) s = .next (okAfter s m 0x0802 [] (t.modRay fun x => { x with limitsNext := some (byteAt a 0, u16At a 2) })))) ∧
  (∀ (cluster slice : Nat) (s : State),
    exec .mapShadowsWritten s = .next (s.modRay fun x => { x with load := x.load.map fun l => { l with written := true } }).settle ∧
    (s.hasCluster cluster = true → s.domOn cluster = true → s.opOn 0x1503 (fun a => byteAt a 0 == cluster) = false →
      ∀ pass slicePass,
      let z := (s.modCluster cluster fun x => { x with passed := some pass }).modRay fun r => { r with slices := r.slices.modify cluster fun x => { x with passed := some slicePass } }
      let w := if slicePass then z else z.declareSlice cluster
      exec (.clusterSelfTestDone cluster pass slicePass) s = .next (if pass then w else w.retireCluster cluster 0x20).settle) ∧
    (s.domOn cluster = false → ∀ pass slicePass err, exec (.clusterSelfTestDone cluster pass slicePass) s = .next s.settle ∧ exec (.sliceFault cluster err) s = .next s.settle) ∧
    (s.ray.spare.isSome = true → ∃ t, exec .spareRetestTimer s = .next t ∧ t.time = max (s.cellar.spareTestAt + 600 * 10 ^ 9) s.time ∧ t.cellar.spareTestAt = t.time) ∧
    (s.ray.spare = none → exec .spareRetestTimer s = .next s.settle) ∧
    (s.hasCluster slice = true → s.domOn slice = true → (s.ray.slices.getD slice {}).faulted = false →
      exec (.sliceFault slice .corrected) s = .next (s.modCellar fun c => { c with corrected := c.corrected + 1 }).settle ∧
      (∀ n x, (s.cellar.tiles.filter (·.slice == slice))[n]? = some x → exec (.sliceFault slice (.tile n)) s = .next ((s.dropTiles (· == x)).sliceError slice).settle) ∧
      (slice ∈ s.ray.safeDomains → exec (.sliceFault slice .heartwood) s = .next ((s.loseCopy slice).sliceError slice).settle) ∧
      exec (.sliceFault slice .other) s = .next (s.sliceError slice).settle ∧
      ∃ t, exec (.sliceFault slice .whole) s = .next t ∧ t = (s.declareSlice slice).settle ∧ ∀ x ∈ t.cellar.tiles, x.slice ≠ slice) ∧
    (s.ray.cur = none → exec (.stripPull cluster) s = .next s.settle) ∧
    (∀ f, s.ray.cur = some f → (f.bypass = true ∨ cluster ∉ s.rendering ∨ 2 ≤ s.stripsOf cluster) → exec (.stripPull cluster) s = .next s.settle) ∧
    (∀ f, s.ray.cur = some f → f.bypass = false → cluster ∈ s.rendering → s.stripsOf cluster < 2 →
      (∀ k, s.checkFor cluster = some k → exec (.stripPull cluster) s = .next (s.startCheck cluster k).settle) ∧
      (s.checkFor cluster = none →
        let g := s.skipLate f
        let z := (s.modRay fun r => { r with cur := some g }).releaseFlat
        (∀ n rest, g.again = n :: rest → exec (.stripPull cluster) s = .next (z.startStrip cluster n { g with again := rest }).settle) ∧
        (g.again = [] → g.next < g.strips' → z.roomFor g g.next = true →
          exec (.stripPull cluster) s = .next (z.startStrip cluster g.next { g with next := g.next + 1 }).settle))) ∧
    (s.ray.cur = none → s.ray.prev = none → exec (.stripComplete cluster) s = .next s.settle) ∧
    (∀ f x, s.ray.prev = none → s.ray.cur = some f → f.strips.find? (·.cluster == cluster) = some x →
      let g : RayFrame := { f with strips := f.strips.erase x }
      (s.stripNeeds f x = [] → x.check = true → exec (.stripComplete cluster) s = .next ((s.touchTiles f x.n).stripEnd false x g).settle) ∧
      (s.stripNeeds f x = [] → x.check = false →
        let lines := s.stripRays f x.n
        let rays := lines.flatMap (·.2)
        let h : RayFrame := { g with
          finished := g.finished ++ [x.n], parts := g.parts ++ lines.map fun (y, r) => (x.n, y, r.map (·.c)),
          maxMet := rays.foldl (fun a r => max a r.n) g.maxMet, limited := g.limited || rays.any (·.limited) }
        let w := (s.touchTiles f x.n).stripCapture h x.n
        exec (.stripComplete cluster) s = .next (w.1.stripEnd false x w.2).settle) ∧
      (s.stripNeeds f x ≠ [] → s.rowLate f (x.n / f.cols) = false → exec (.stripComplete cluster) s = .next (s.askTiles cluster).settle)) ∧
    (s.checkDue = none → ∀ p c t, exec (.duplicateCheckCompare p c t) s = .next s.settle) ∧
    (∀ k (p c t : W32), s.checkDue = some k → let z := (s.modCellar fun x => { x with checks := x.checks.erase k }).closePrev
      (k.third = none → p = c → exec (.duplicateCheckCompare p c t) s = .next (z.modCellar fun x => { x with dupChecks := x.dupChecks + 1 }).settle) ∧
      (k.third = none → p ≠ c → exec (.duplicateCheckCompare p c t) s = .next (s.modCellar fun x => { x with
        dupFails := x.dupFails + 1, checks := x.checks.map fun y => if y == k then { y with third := s.clusterAfter k.checker, seen := (p, c) } else y }).settle) ∧
      (k.third.isSome = true → t = k.seen.1 → exec (.duplicateCheckCompare p c t) s = .next (z.retireCluster k.checker 0x21).settle) ∧
      (k.third.isSome = true → t ≠ k.seen.1 → t = k.seen.2 → exec (.duplicateCheckCompare p c t) s = .next (z.retireCluster k.primary 0x21).settle) ∧
      (k.third.isSome = true → t ≠ k.seen.1 → t ≠ k.seen.2 → exec (.duplicateCheckCompare p c t) s =
        .next (z.modCellar fun x => { x with denseUntil := s.time + 10 ^ 9 }).settle)) ∧
    (∀ plane tx ty poisoned, s.inFlight plane tx ty = none → exec (.tileFetchReturn plane tx ty poisoned) s = .next s.settle) ∧
    (∀ plane tx ty f p k, s.inFlight plane tx ty = some (f, p, k) →
      (∀ tex, s.decodeTile k = some tex → s.cacheSlices ≠ [] →
        ∃ t, exec (.tileFetchReturn plane tx ty false) s = .next t ∧ ∃ x ∈ t.cellar.tiles, x.key = k ∧ x.tex = tex) ∧
      (∃ t, exec (.tileFetchReturn plane tx ty true) s = .next t ∧ t.cellar.poisonCount = s.cellar.poisonCount + 1 ∧ t.cellar.tiles = s.cellar.tiles)) ∧
    (∀ layer f p a i, s.ray.cur = some f → f.planes.find? (·.layer == layer) = some p → p.src = .flat a → layer < f.flatNext.length →
      (s.cellar.tiles.filter fun t => match t.key with | .flat .. => true | _ => false).length < s.ray.flatLimit → s.cacheSlices ≠ [] →
      let nx := (p.w + 31) / 32
      let per := nx * ((p.h + 31) / 32)
      let key (n : Nat) : TileKey := .flat layer f.frame (n / per) (n % per % nx) (n % per / nx)
      let open_ (n : Nat) : Bool := (f.reachRows p (n % per / nx)).isSome && !(s.cellar.tiles.any fun t => t.key == key n) && !f.poisoned.contains (key n)
      (List.range (f.subs * per - f.flatNext.getD layer 0)).find? (fun i => open_ (f.flatNext.getD layer 0 + i)) = some i →
      ∃ t g, exec (.flatTileProduce layer) s = .next t ∧ t.ray.cur = some g ∧ g.flatNext.getD layer 0 = f.flatNext.getD layer 0 + i + 1) ∧
    (∀ layer f p a, s.ray.cur = some f → f.planes.find? (·.layer == layer) = some p → p.src = .flat a → s.ray.flatLimit ≤
        (s.cellar.tiles.filter fun t => match t.key with | .flat .. => true | _ => false).length → exec (.flatTileProduce layer) s = .next s.settle))

/-- LAYER.QUERY answers the block in force. LAYER.SET puts the argument bytes 1 to 33 into the layer's shadow block, with FLAGS
bit 0 as 0, and with COMMIT the commit is accepted for the next frame or rejected with its REASON (R249, R250).
LAYER.CAPTURE_SET keeps its settings for the latch point when both buffers lie in capture regions, hold the image and are not
leased (R258); LAYER.HW_AGE_SET of SAFE sets the age limit; LAYER.HW_QUERY answers SAFE-VIEW's frame, CRC and age (R265,
R268). Completion: under the conditions of its clauses, which are on the state and the operands alone, exec answers a next
state for layerQuery, layerSet, layerCaptureSet, layerHwQuery, layerHwAgeSet. -/
def Obligations.LayerCommands : Prop :=
  (∀ (m : Master) (s : State), let t := s.taken m; let a := s.argsOf m; let l := byteAt a 0
    let b := patch (slice a 1 33) 2 [BitVec.ofNat 8 (byteAt a 3 / 2 * 2)]
    let w := t.modWin fun x => memWrite x (blockAddr l + 1) b
    (Accepts s m { code := 0x0900, cls := 0, len := 1, args := [{ off := 0, hi := 7 }] } →
      exec (.layerQuery m) s = .next (okAfter s m 0x0900
        (le 1 l ++ slice (match t.layers.force with | some k => k.block l | none => List.replicate 64 0) 1 33
          ++ le 4 t.layers.appliedFrame.toNat ++ le 1 (t.layers.states.getD l 0)) t)) ∧
    (Accepts s m { code := 0x0902, cls := 1, len := 34, args := [{ off := 0, hi := 7 }], reserved := false } →
      (bit (byteAt a 3) 0 = false → exec (.layerSet m) s = .next (okAfter s m 0x0902 (le 4 0) w)) ∧
      (bit (byteAt a 3) 0 = true → w.commitReason = none →
        exec (.layerSet m) s = .next (okAfter s m 0x0902 (le 4 (w.accept (2 ^ l) false).nextFrame.toNat) (w.accept (2 ^ l) false))) ∧
      (bit (byteAt a 3) 0 = true → ∀ r k, w.commitReason = some (r, k) →
        exec (.layerSet m) s = .next ((((((w.modLayers fun x => { x with rejected := true, lastReason := r, lastLayer := k }).ownerVector 4).releaseBulk m.code 0).answer
          m.code 0x0902 (s.tagOf m) (if r = 9 then stNoResource else stCommitRejected) 0 (failData 0xFF r (unitLayer k)))).settle)))) ∧
  (∀ (m : Master) (s : State), let t := s.taken m; let a := s.argsOf m; let h := t.captureSize.2; let p := u32At a 20
    (Accepts s m { code := 0x0903, cls := 1, len := 24, args := [{ off := 0, hi := 1 }, { off := 1, hi := 1 }, { off := 4, n := 5 }, { off := 12, n := 5 }, { off := 20, n := 4 }] } →
      (byteAt a 0 ≠ 0 → t.inRegion (a40At a 4) (p * h) (some 3) = true ∧ t.inRegion (a40At a 12) (p * h) (some 3) = true ∧ p % 64 = 0 ∧
        captureLine (byteAt a 1) t.captureSize.1 ≤ p ∧ t.held (a40At a 4) (p * h) = false ∧ t.held (a40At a 12) (p * h) = false) →
      exec (.layerCaptureSet m) s = .next (okAfter s m 0x0903 [] (t.modLayers fun x =>
        { x with captureNext := some { enable := byteAt a 0 == 1, format := byteAt a 1, bufA := a40At a 4, bufB := a40At a 12, pitch := p } }))) ∧
    (Accepts s m { code := 0x0904, cls := 0 } →
      exec (.layerHwQuery m) s = .next (okAfter s m 0x0904
        (match t.hw.reports with
          | r :: _ => le 4 t.hwFrame ++ le 4 r.crc.toNat ++ le 2 t.hwAge ++ le 1 (bitOf t.pins.safeOk 0 + bitOf r.panelMatch 1) ++ le 1 t.hw.inUse
          | [] => le 4 t.hwFrame ++ le 4 0 ++ le 2 t.hwAge ++ le 1 (bitOf t.pins.safeOk 0) ++ le 1 t.hw.inUse) t)) ∧
    (Accepts s m { code := 0x0906, cls := 2, len := 2, args := [{ off := 0, n := 2, lo := 50, hi := 2000 }] } →
      exec (.layerHwAgeSet m) s = .next (okAfter s m 0x0906 [] (t.modHw fun x => { x with ageMs := u16At a 0 }))))

/-- The DISP commands (R272, R277, R284): the query answers mode, rate and counters; a panel the drive can serve and a timing
inside the panel's limits wait for their latch point and go to the panel record, and a panel that was given up may start
again; a panel or timing outside the limits is refused; a timing with another lane rate is pending for at most 100 ms, and one
more meanwhile is busy; a full write leaves every subframe to be sent whole. Completion: under the conditions of its clauses,
which are on the state and the operands alone, exec answers a next state for dispQuery, dispPanelSet, dispTimingSet,
dispFullWrite. -/
def Obligations.DisplaySettings : Prop :=
  ∀ (m : Master) (s : State), let t := s.taken m; let a := s.argsOf m
    (Accepts s m { code := 0x0A00, cls := 0 } →
      let g := t.disp.timing
      exec (.dispQuery m) s = .next (okAfter s m 0x0A00
        (le 1 g.mode ++ le 1 g.laneRate ++ le 2 t.maxHz ++ le 4 t.disp.frame.toNat ++ le 4 t.scan.slips.toNat ++ le 4 t.scan.sigMismatches.toNat
          ++ le 4 t.scan.sentLast.toNat ++ le 4 t.scan.skippedLast.toNat ++ le 2 (t.disp.vtHistory.foldl max 0)) t)) ∧
    (Accepts s m { code := 0x0A01, cls := 1, len := 12, args := [{ off := 0, n := 2 }, { off := 2, n := 2 }, { off := 4, lo := 1, hi := 8 }, { off := 5, hi := 0 }, { off := 6, n := 2 }, { off := 8, lo := 1, hi := 4 }, { off := 10, n := 2 }] } →
      let p := panelOf a
      let g := t.timingFor p
      t.panelBad p (framePeriodRaw p g g.lineNs) = none →
      ((t.mode.mode = .safeView ∨ t.mode.mode = .maintenance) → exec (.dispPanelSet m) s = .next (okAfter s m 0x0A01 []
        (((t.modDisp fun d => { d with panelNext := some p, timingNext := some g }).modPnl fun x =>
          if x.gaveUp then { x with gaveUp := false, faults := [], retryAt := none } else x).storePanel (some p) g))) ∧
      (t.mode.mode ≠ .safeView → t.mode.mode ≠ .maintenance → exec (.dispPanelSet m) s = .next (errAfter s m 0x0A01 stWrongMode 0xFF 0 0xFFFF))) ∧
    (Accepts s m { code := 0x0A02, cls := 1, len := 20, args := [{ off := 0 }, { off := 1 }, { off := 2 }, { off := 4, n := 4 }, { off := 8, n := 2 }, { off := 10, n := 2 }, { off := 12, n := 2 }, { off := 16, n := 4 }] } →
      let g := timingOf a
      let u := (t.modDisp fun d => { d with timingNext := some g }).storePanel (t.disp.panelNext <|> t.disp.panel) g
      t.timingBad g = none → (t.opOn 0x0A02 = true → exec (.dispTimingSet m) s = .next (errAfter s m 0x0A02 stBusy 0xFF 0 0xFFFF)) ∧ (t.opOn 0x0A02 = false →
      (g.laneRate = t.disp.timing.laneRate → exec (.dispTimingSet m) s = .next (okAfter s m 0x0A02 (le 4 t.nextFrame.toNat) u)) ∧
      (g.laneRate ≠ t.disp.timing.laneRate → s.pendingCount m.code < 16 → exec (.dispTimingSet m) s = .next (pendAfter s m 0x0A02 100000000 0 u)))) ∧
    (Accepts s m { code := 0x0A03, cls := 1 } →
      exec (.dispFullWrite m) s = .next (okAfter s m 0x0A03 (le 4 t.nextFrame.toNat)
        (t.modDisp fun d => { d with unconfirmed := t.allSubframes, fullNext := d.fullNext || !d.latched, fullAfter := d.fullAfter || d.latched })))

/-- The LANE commands (R319, R321): the query answers a lane's state and counters; a retraining is pending for at most 50 ms, one
more of that lane is busy, and a Sapline lane that carries data or trains begins it at once, a Rootline port at its frame end;
in MAINTENANCE a pattern within the table puts the lane into test, and one without generator and checker ends it. PCIe (R61,
R84, spec/12): a link whose PERST is high and whose host half is on trains to its width and rate, and leaves D3hot when it
goes down; its power state is kept while the link is up. Completion: under the conditions of its clauses, which are on the
state and the operands alone, exec answers a next state for laneQuery, lanePattern, laneRetrain, pcieLinkChange,
pciePowerState. -/
def Obligations.LaneAndLinkCommands : Prop :=
  (∀ (m : Master) (s : State), let t := s.taken m; let a := s.argsOf m; let l := byteAt a 0
    (Accepts s m { code := 0x0B00, cls := 0, len := 1, args := [{ off := 0, hi := 143 }] } → t.hasLane l = true →
      let x := t.lane l
      exec (.laneQuery m) s = .next (okAfter s m 0x0B00
        (le 1 x.state ++ le 1 x.rate ++ le 1 x.pre ++ le 1 x.main ++ le 1 x.post ++ le 1 x.preset ++ le 2 x.margin
          ++ le 4 (min (2 ^ 32 - 1) (t.laneErrors l)) ++ le 8 (t.laneBits l)) t)) ∧
    (Accepts s m { code := 0x0B02, cls := 1, len := 1, args := [{ off := 0, hi := 127 }] } → t.hasLane l = true →
      ((t.opOn 0x0B02 fun x => byteAt x 0 == l) = true → exec (.laneRetrain m) s = .next (errAfter s m 0x0B02 stBusy 0xFF 0 (unitLane l))) ∧
      ((t.opOn 0x0B02 fun x => byteAt x 0 == l) = false → s.pendingCount m.code < 16 →
      (l < 96 →
        let u := t.modLaneAux l fun x => { x with retries := 0 }
        exec (.laneRetrain m) s = .next (pendAfter s m 0x0B02 50000000 0
          (if (t.lane l).state = 2 ∨ (t.lane l).state = 3 ∨ (t.lane l).state = 4 then u.retrainAlone l else u))) ∧
      (96 ≤ l → t.linkIdleUp ((l - 96) / 2) = false → exec (.laneRetrain m) s = .next (pendAfter s m 0x0B02 50000000 0 t)) ∧
      (96 ≤ l → t.linkIdleUp ((l - 96) / 2) = true →
        let p := (l - 96) / 2
        let x := t.camPort p
        let z := t.portFrameEnd p true
        exec (.laneRetrain m) s = .next (pendAfter s m 0x0B02 50000000 0
          (if (z.camPort p).state = 6 then z else (((z.awaitFrame p).modFlow p fun f => { f with retrains := f.retrains + 1 }).modPort p fun y => { y with uncounted := true }).trainPort
            p 6 x.runLanes x.runRate (if x.state = 5 then 1 else 3)))))) ∧
    (Accepts s m { code := 0x0B01, cls := 1, len := 24, args := [{ off := 0, hi := 127 }, { off := 1, mask := 15 }, { off := 2, hi := 5 }, { off := 3, hi := 3 }, { off := 4, n := 4 }, { off := 8, n := 16 }] } →
      t.hasLane l = true →
      (t.mode.mode ≠ .maintenance → byteAt a 1 % 8 = 0 → byteAt a 2 = 0 → byteAt a 3 = 0 → u32At a 4 = 0 →
        exec (.lanePattern m) s = .next (errAfter s m 0x0B01 stWrongMode 0xFF 0 0xFFFF)) ∧
      (t.mode.mode = .maintenance → (t.opOn 0x0B02 fun x => byteAt x 0 == l) = false →
      (byteAt a 1 % 8 = 0 → byteAt a 2 = 0 → byteAt a 3 = 0 → u32At a 4 = 0 →
        exec (.lanePattern m) s = .next (okAfter s m 0x0B01 [] (if (t.lane l).state = 5 then t.leaveTest l else t))) ∧
      (byteAt a 1 % 8 ≤ 5 → (byteAt a 1 % 8 ≠ 0 ∨ byteAt a 2 ≠ 0) → (l < 96 → byteAt a 2 ≠ 0 → bit (byteAt a 1) 3 = true) →
        (96 ≤ l → l % 2 = 1 → byteAt a 1 % 8 ≠ 0 → bit (byteAt a 1) 3 = true) →
        (if byteAt a 3 = 2 then 1 ≤ u32At a 4 ∧ u32At a 4 ≤ 128 else if byteAt a 3 = 3 then 1000 ≤ u32At a 4 else u32At a 4 = 0) →
        let u := (((t.modLaneAux l fun x => { x with
          genOn := byteAt a 1 % 8 != 0, chkOn := byteAt a 2 != 0, generator := byteAt a 1 % 8, checker := byteAt a 2, nearLoop := bit (byteAt a 1) 3,
          inject := byteAt a 3, injectArg := BitVec.ofNat 32 (u32At a 4), user := slice a 8 16, sync := byteAt a 1 % 8 == byteAt a 2 && bit (byteAt a 1) 3,
          alone := false, rejoin := false, chkStart := if byteAt a 2 != 0 then t.time else x.chkStart, errors := if byteAt a 2 != 0 then 0 else x.errors,
          bits := if byteAt a 2 != 0 then 0 else x.bits, syncLosses := if byteAt a 2 != 0 then 0 else x.syncLosses }).modLane l fun x =>
          { x with included := false }).laneState l 5).emit (.lane l 5 (byteAt a 1))
        let v := u.modLaneAux l (if byteAt a 3 = 1 then (·.injectBits 1) else if byteAt a 3 = 2 then (·.injectBits (u32At a 4)) else id)
        exec (.lanePattern m) s = .next (okAfter s m 0x0B01 [] (if l < 96 then v.restripe l else v.portTest ((l - 96) / 2) true)))))) ∧
  (∀ (link width rate : Nat) (d3hot l1 : Bool) (s : State), link < 2 → s.ctl.fns.length = 2 → (s.linkLanes link).isEmpty = false →
    (s.domOn (domHP link) = true → s.perstHigh link = true →
      (∃ t, exec (.pcieLinkChange link true width rate) s = .next t ∧ (t.fn link).linkUp = true ∧ (t.fn link).width = width ∧ (t.fn link).rate = rate ∧ (t.fn link).l1 = false) ∧
      (∃ t, exec (.pcieLinkChange link false width rate) s = .next t ∧ (t.fn link).linkUp = false ∧ (t.fn link).width = 0 ∧ (t.fn link).d3hot = false)) ∧
    ((s.domOn (domHP link) = false ∨ s.perstHigh link = false) → ∀ up, exec (.pcieLinkChange link up width rate) s = .next s.settle) ∧
    ((s.fn link).linkUp = true → exec (.pciePowerState link d3hot l1) s = .next (s.modFn link fun x => { x with d3hot := d3hot, l1 := l1 }).settle) ∧
    ((s.fn link).linkUp = false → exec (.pciePowerState link d3hot l1) s = .next s.settle))

/-- The MEM commands (R339, R350, R353): the query answers a channel's state and counters and restarts its highest refresh debt; a
channel that serves while no other is out of service retrains, pending for at most 600 ms, once the temperature allows; a test
in MAINTENANCE takes its channel out of service, pending for at most 60 s; a channel that retrains or is tested already is
busy; new limits go to record 6. Channels come and go (R332 to R334, R350, R351, R354, R355): a configured channel trains; one
whose eyes pass joins the map cleared; one whose eyes fail stays out with its event; a retrain that passes serves again; a
retrain that fails and a third automatic one within an hour remove the channel; the tracking reads move a lane's offset by at
most one step. Completion: under the conditions of its clauses, which are on the state and the operands alone, exec answers a
next state for memQuery, memRetrain, memTest, memSet, channelStartup, channelStartupDone, trackingRead, inServiceRetrainStart,
inServiceRetrainDone, channelRemoval, taprootReallocation. -/
def Obligations.MemoryAndChannels : Prop :=
  (∀ (m : Master) (s : State), let t := s.taken m; let a := s.argsOf m; let n := byteAt a 0
    (Accepts s m { code := 0x0C00, cls := 0, len := 1, args := [{ off := 0, hi := 11 }] } → t.hasChannel n = true →
      let x := t.chan n
      exec (.memQuery m) s = .next (okAfter s m 0x0C00
        (le 1 x.state ++ [if x.inMap then 1 else 0] ++ x.eyes.flatMap (le 1) ++ [0] ++ le 4 x.corrected.toNat ++ le 4 x.uncorrected.toNat
          ++ le 4 x.rowhammer.toNat ++ le 1 x.maxDebt) (t.modChan n fun y => { y with maxDebt := y.debt }))) ∧
    (Accepts s m { code := 0x0C01, cls := 1, len := 1, args := [{ off := 0, hi := 11 }] } → t.hasChannel n = true →
      let busy := errAfter s m 0x0C01 stBusy 0xFF 0 (domMC n)
      let out := t.othersOut n fun st => st == 1 || st == 2 || st == 4 || st == 5 || st == 6
      let again := t.opOn 0x0C01 fun x => byteAt x 0 == n
      (out = true → exec (.memRetrain m) s = .next busy) ∧
      (((t.chan n).state = 4 ∨ (t.chan n).state = 6 ∨ again = true) → exec (.memRetrain m) s = .next busy) ∧
      (out = false → (t.chan n).state ≠ 4 → (t.chan n).state ≠ 6 → again = false → s.pendingCount m.code < 16 →
        exec (.memRetrain m) s = .next (pendAfter s m 0x0C01 600000000 0
          (if (t.chan n).serving = false then t else if t.lowHold = true then t.modChan n fun x => { x with retrainNeeded := true }
            else (t.modChan n fun x => { x with retrains := x.retrains + 1 }).chanState n 4)))) ∧
    (Accepts s m { code := 0x0C02, cls := 1, len := 12, args := [{ off := 0, hi := 11 }, { off := 1, hi := 5 }, { off := 4, n := 4 }, { off := 8, n := 4, lo := 1 }] } →
      t.hasChannel n = true → u32At a 4 + u32At a 8 ≤ chanBytes t / 1024 →
      (t.mode.mode ≠ .maintenance → exec (.memTest m) s = .next (errAfter s m 0x0C02 stWrongMode 0xFF 0 0xFFFF)) ∧
      (t.mode.mode = .maintenance → ((t.chan n).state = 4 ∨ t.memTested n = true) →
        exec (.memTest m) s = .next (errAfter s m 0x0C02 stBusy 0xFF 0 (domMC n))) ∧
      (t.mode.mode = .maintenance → (t.chan n).state ≠ 4 → t.memTested n = false → s.pendingCount m.code < 16 →
        exec (.memTest m) s = .next (pendAfter s m 0x0C02 60000000000 0
          ((t.modMem fun x => { x with tests := x.tests ++ [(n, byteAt a 1, u32At a 4, u32At a 8)] }).chanState n 6)))) ∧
    (Accepts s m { code := 0x0C03, cls := 1, len := 6, args := [{ off := 0, n := 2 }, { off := 2, n := 2 }, { off := 4, n := 2, hi := 8760 }] } →
      (u16At a 0 = 0 ∨ 1024 ≤ u16At a 0) → (u16At a 2 = 0 ∨ 500 ≤ u16At a 2) →
      let act := if u16At a 0 = 0 then t.mem.actThreshold else u16At a 0
      let age := if u16At a 2 = 0 then t.mem.ageLimit else u16At a 2
      let scrub := if u16At a 4 = 0 then t.mem.scrubHours else u16At a 4
      exec (.memSet m) s = .next (okAfter s m 0x0C03 []
        ((t.modMem fun x => { x with actThreshold := act, ageLimit := age, scrubHours := scrub }).deferRecord 6 (le 2 act ++ le 2 age ++ le 2 scrub))))) ∧
  (∀ (n cause : Nat) (eyes : List Nat) (drifts : List Int) (s : State), let c := s.chan n
    (s.hasChannel n = true → s.domOn (domMC n) = true → s.mem.cfg.ok = true → s.mem.cfg.channelMask.getLsbD n = true → c.state = 0 → s.lowHold = false →
      exec (.channelStartup n) s = .next (s.chanState n 1).settle) ∧
    (c.state ≠ 0 → exec (.channelStartup n) s = .next s.settle) ∧
    (c.state = 1 → c.inMap = false → eyesPass eyes = true → n < s.mem.chans.length → ∃ t, exec (.channelStartupDone n eyes) s = .next t ∧ n ∈ t.mem.map ∧
      (t.chan n).state = 3 ∧ (t.chan n).inMap = true ∧ (t.chan n).eyes = laneEyes eyes) ∧
    (c.state = 1 → c.inMap = false → eyesPass eyes = false → n < s.mem.chans.length → ∃ t, exec (.channelStartupDone n eyes) s = .next t ∧ (t.chan n).state = 5 ∧
      t.mem.map = s.mem.map) ∧
    exec (.channelRemoval n cause) s = .next (s.removeChannel n cause).settle ∧
    (c.serving = true → c.state = 3 → c.retrainNeeded = true → s.lowHold = false → s.othersOut n (· == 4) = false → (∀ k < n, ¬((s.chan k).serving = true ∧ (s.chan k).retrainNeeded = true)) →
      let asked := s.opOn 0x0C01 fun a => byteAt a 0 == n
      (asked = true → exec (.inServiceRetrainStart n) s =
        .next (((s.modChan n fun c => { c with autoTimes := s.within (3600 * 10 ^ 9) (s.chan n).autoTimes, retrains := c.retrains + 1 }).chanState n 4)).settle) ∧
      (asked = false → (s.within (3600 * 10 ^ 9) c.autoTimes).length < 2 → exec (.inServiceRetrainStart n) s =
        .next (((s.modChan n fun c => { c with autoTimes := s.within (3600 * 10 ^ 9) (s.chan n).autoTimes ++ [s.time], retrains := c.retrains + 1 }).chanState n 4)).settle) ∧
      (asked = false → 2 ≤ (s.within (3600 * 10 ^ 9) c.autoTimes).length → exec (.inServiceRetrainStart n) s = .next (s.removeChannel n 0x22).settle)) ∧
    (c.state = 4 → s.ctl.pendingOps = [] → eyesPass eyes = true → exec (.inServiceRetrainDone n eyes) s =
      .next ((s.modChan n fun c => { c with eyes := laneEyes eyes, offsets := List.replicate 9 0, retrainNeeded := false }).chanState n 3).settle) ∧
    (c.state = 4 → s.ctl.pendingOps = [] → eyesPass eyes = false → exec (.inServiceRetrainDone n eyes) s =
      .next ((s.modChan n fun c => { c with eyes := laneEyes eyes }).removeChannel n 0x22).settle) ∧
    (c.state ≠ 4 → c.state ≠ 5 → exec (.inServiceRetrainDone n eyes) s = .next s.settle) ∧
    (c.serving = true → c.state ≠ 6 → s.leadChan n = false → n < s.mem.chans.length → ∃ t, exec (.trackingRead n drifts) s = .next t ∧
      (t.chan n).offsets = c.offsets.mapIdx fun i o => let d := drifts.getD i 0; if d == 1 || d == -1 then clampI (-8) 8 (o + d) else o) ∧
    (∀ w, c.serving = true → c.state = 3 → n < s.mem.chans.length → 2 ∈ w → ∃ t, exec (.trackingRead n w) s = .next t ∧ (t.chan n).retrainNeeded = true) ∧
    (s.mem.realloc = true → s.tp.state = .running → ∃ t, exec .taprootReallocation s = .next t ∧ t.mem.realloc = false ∧
      (∀ r ∈ t.mode.reductions, r.cause ≠ 0x11)) ∧
    (s.mem.realloc = false → exec .taprootReallocation s = .next s.settle))

/-- Requests at a channel (R336 to R341, R348, R354): an arriving request waits at the end of its queue under the channel's next
number; an issued read is in flight until its 64 bytes return, marked when its burst is poisoned; a request that waited past
the age limit goes up one class; at a removed channel a write vanishes and a read returns marked zeros. Its class is that of
its requester (R337); a request waits outside while its queue has no room or its requester no landing place. Refresh,
scrubbing and the refresh window (R343 to R346, R349): in panic a refresh is put off, at most eight times; a catch-up repays
one; the patrol scrub goes round the channel; a new window forgets the row activations. Completion: under the conditions of
its clauses, which are on the state and the operands alone, exec answers a next state for memRequestEnqueue, memRequestIssue,
agePromotion, readDataReturn, refreshSlot, refreshCatchup, refreshWindowStart, patrolScrub. -/
def Obligations.DramTraffic : Prop :=
  (∀ (n : Nat) (req : Req) (ecc : Ecc) (s : State), let q := s.memQ n
    let r : MemReq := { id := q.nextId, requester := req.requester, cls := s.reqClass req, write := req.write, addr := req.addr, data := req.data, since := s.time }
    (((s.chan n).removing = true ∨ (s.chan n).state = 5) →
      (req.write = true → exec (.memRequestEnqueue n req) s = .next s.settle) ∧
      (req.write = false → exec (.memRequestEnqueue n req) s = .next (s.emit (.readData (256 + req.requester) (List.replicate 64 0) true)).settle)) ∧
    ((s.chan n).removing = false → (s.chan n).state ≠ 5 → (s.chan n).serving = true → q.room req.write (s.reqClass req) = true → req.addr < chanBytes s → s.lands req = true →
      (req.write = true → exec (.memRequestEnqueue n req) s = .next (s.modMemQ n fun q => { q with writes := q.writes ++ [r] }).settle) ∧
      (req.write = false → exec (.memRequestEnqueue n req) s = .next (s.modMemQ n fun q => { q with reads := q.reads ++ [r] }).settle)) ∧
    ((s.chan n).serving = false → exec (.memRequestIssue n ecc) s = .next s.settle) ∧
    (∀ b, (s.chan n).serving = true → s.nextReq n = (none, b) → exec (.memRequestIssue n ecc) s = .next (s.modMemQ n fun q => { q with batch := b }).settle) ∧
    (∀ x b, (s.chan n).serving = true → s.nextReq n = (some x, b) → n < s.mem.queues.length → x.write = false → ∃ t, exec (.memRequestIssue n ecc) s = .next t ∧
      (t.memQ n).reads = q.reads.filter (·.id != x.id) ∧ (t.memQ n).flight = q.flight ++ [x] ∧ t.mem.dram = s.mem.dram) ∧
    (∀ x b, (s.chan n).serving = true → s.nextReq n = (some x, b) → n < s.mem.queues.length → x.write = true → ∃ t, exec (.memRequestIssue n ecc) s = .next t ∧
      (ecc = .clean → (t.memQ n).writes = q.writes.filter (·.id != x.id)) ∧ (t.memQ n).flight = q.flight ∧
      t.mem.dram = x.data.foldl (fun d (o, v) => memSet d (dramKey (n, x.addr / 64 * 64 + o)) v) s.mem.dram) ∧
    (∀ x, q.flight.find? (·.id == x.id) = some x → n < s.mem.queues.length → ∃ t bad, exec (.readDataReturn n x.id ecc) s = .next t ∧
      (t.memQ n).flight = q.flight.filter (·.id != x.id) ∧
      Out.readData (256 + x.requester) ((List.range 64).map fun o => memGet t.mem.dram (dramKey (n, x.addr / 64 * 64 + o))) bad ∈ t.out) ∧
    (q.reads = [] → q.writes = [] → exec (.agePromotion n) s = .next s.settle) ∧
    (∀ x, q.reads = [x] → q.writes = [] → x.cls < 2 → n < s.mem.queues.length → x.since + s.mem.ageLimit + 1 ≤ s.time → ∃ t, exec (.agePromotion n) s = .next t ∧
      (t.memQ n).reads = [{ x with cls := x.cls + 1, since := s.time }])) ∧
  (∀ (n : Nat) (ecc : Ecc) (s : State), let c := s.chan n
    (c.serving = true → s.leadChan n = false → s.disp.panic = true → c.debt < 8 →
      exec (.refreshSlot n) s = .next (s.modChan n fun c => { c with debt := c.debt + 1, maxDebt := max c.maxDebt (c.debt + 1) }).settle) ∧
    (c.serving = true → s.leadChan n = false → (s.disp.panic = false ∨ 8 ≤ c.debt) → exec (.refreshSlot n) s = .next (s.refreshBank n).settle) ∧
    (c.serving = false → exec (.refreshSlot n) s = .next s.settle) ∧
    (c.serving = true → s.leadChan n = false → s.disp.panic = false → c.debt ≠ 0 →
      exec (.refreshCatchup n) s = .next ((s.refreshBank n).modChan n fun c => { c with debt := c.debt - 1 }).settle) ∧
    (c.serving = true → s.disp.panic = false → exec (.patrolScrub n ecc) s =
      .next ((s.eccRead n (c.scrubPos * 64) ecc).modChan n fun c => { c with scrubPos := (c.scrubPos + 1) % (chanBytes s / 64) }).settle) ∧
    (s.disp.panic = true → exec (.patrolScrub n ecc) s = .next s.settle) ∧
    (∃ t, exec .refreshWindowStart s = .next t ∧ (∀ q ∈ t.mem.queues, q.acts = [] ∧ q.throttles = []) ∧ s.time < t.time))

/-- The CHURN commands (R358, R371): the query answers a queue's state and counters; a ring of whole entries is set up, with its
indices at 0, only when its queue has nothing outstanding, else it is busy; CHURN.ABORT acts as a write of the queue's abort
bit. A Churn list starts, moves by segments and ends (R360, R362, R364, R366, R367, R368): the engine takes the oldest entry
of the queue whose turn it is and marks it, a NOP moves to the next command, a segment whose bytes nothing holds is written
and one that touches a held buffer waits, and a list that is done has its completion written and counted. CHURN_SEGMENT runs a
segment that does not wait, CHURN_LEASE_WAIT_END one that does; with nothing of the kind to do they change nothing. Aborts of
Churn (R371, R372): the owner's write asks for one; it ends the running list of the queue, or completes its oldest entry as
aborted, or notes that there was nothing; after 100 ms a drain of CH stops the list and switches CH off. Completion: under the
conditions of its clauses, which are on the state and the operands alone, exec answers a next state for churnQuery,
churnQueueSet, churnAbort, churnAbortWrite, churnListStart, churnSegment, churnLeaseWaitEnd, churnAbortEffect, churnListEnd,
churnDrainLimit. -/
def Obligations.ChurnEngine : Prop :=
  (∀ (m : Master) (s : State), let t := s.taken m; let a := s.argsOf m; let q := byteAt a 0; let b := a40At a 4; let n := u32At a 12
    (Accepts s m { code := 0x0D00, cls := 0, len := 1, args := [{ off := 0, hi := 7 }] } →
      exec (.churnQuery m) s = .next (okAfter s m 0x0D00
        (le 1 (t.churnState q) ++ le 1 (t.chq q).priority ++ [0, 0] ++ le 4 (t.chq q).listsDone.toNat ++ le 4 (t.chq q).hazards.toNat) t)) ∧
    (Accepts s m { code := 0x0D01, cls := 1, len := 16, args := [{ off := 0, hi := 7 }, { off := 1, hi := 3 }, { off := 4, n := 5 }, { off := 12, n := 4 }] } →
      b % 64 = 0 → (n = 0 ∨ (n % 32 = 0 ∧ 64 ≤ n ∧ n ≤ 131072 ∧ t.inMemory b n = true ∧ t.permanent b n = none)) → 
      ((t.chq q).outstanding = 0 → exec (.churnQueueSet m) s = .next (okAfter s m 0x0D01 []
        (t.modChq q fun x => { x with base := b, entries := n / 32, priority := byteAt a 1, producer := 0, completed := 0 }))) ∧
      ((t.chq q).outstanding ≠ 0 → exec (.churnQueueSet m) s = .next (errAfter s m 0x0D01 stBusy 0xFF 0 domCH))) ∧
    (Accepts s m { code := 0x0D02, cls := 1, len := 1, args := [{ off := 0, hi := 7 }] } →
      exec (.churnAbort m) s = .next (okAfter s m 0x0D02 [] (t.churnAbort q)))) ∧
  (∀ (s : State), s.domOn domCH = true →
    (∀ q, s.churn.run = none → s.churn.drainUntil = none → s.churnNext = some q →
      let a := (s.chq q).base + 32 * ((s.chq q).completed.toNat % (s.chq q).entries)
      (s.poisoned a 32 = true → exec .churnListStart s = .next
        ((s.modChurn fun x => { x with lastServed := q }).modChq q fun x => { x with completed := x.completed + 1, entryPoisoned := true }).settle) ∧
      (s.poisoned a 32 = false → ∃ t r, exec .churnListStart s = .next t ∧ t.churn.run = some r ∧ r.q = q ∧ r.entry = a ∧
        r.k = (s.chq q).completed ∧ r.list = a40At (s.devRead a 32) 0 ∧ r.index = 0)) ∧
    (∀ r, s.churn.run = some r → r.failed = none → r.aborted = none → r.index < r.count →
      let runs := fun (t : State) => (r.waiting = false → exec .churnSegment s = .next t) ∧ (r.waiting = true → exec .churnLeaseWaitEnd s = .next t)
      let b := s.devRead (r.list + 192 + 64 * r.index) 64
      let c := ChurnCmd.parse b
      (r.seg = 0 → ∀ st why, s.churnCmdBad r b = some (st, why) →
        runs (s.modChurn fun x => { x with run := x.run.map fun y => { y with failed := some (st, why, y.index) } }).settle) ∧
      ((r.seg = 0 → s.churnCmdBad r b = none) → c.op = 0 →
        runs (s.modChurn fun x => { x with run := x.run.map fun y => { y with index := y.index + 1, seg := 0, wrote := false } }).settle) ∧
      ((r.seg = 0 → s.churnCmdBad r b = none) → c.op ≠ 0 → (c.hazard r.clips = false ∨ r.waiting = true) →
        ((∃ p ∈ c.writes r.clips r.seg, s.held p.1 p.2 = true) →
          runs (s.modChurn fun x => { x with run := x.run.map fun y => { y with waiting := true, leaseWaited := true } }).settle) ∧
        ((∀ p ∈ c.writes r.clips r.seg, s.held p.1 p.2 = false) → ∃ t z, runs t ∧ t.churn.run = some z ∧ z.waiting = false ∧
          t.mem = (s.churnWrite c r.clips r.seg).1.mem ∧
          (if r.seg + 1 = c.segs * c.h then z.index = r.index + 1 ∧ z.seg = 0 else z.index = r.index ∧ z.seg = r.seg + 1))) ∧
      (r.seg = 0 → s.churnCmdBad r b = none → c.op ≠ 0 → c.hazard r.clips = true → r.waiting = false → r.q < s.churn.queues.length →
        ∃ t, exec .churnSegment s = .next t ∧ (t.chq r.q).hazards = (s.chq r.q).hazards + 1 ∧
          t.churn.run.map (·.hazardIndex) = some (some (r.hazardIndex.getD r.index)))) ∧
    (s.churn.run = none → exec .churnSegment s = .next s.settle ∧ exec .churnLeaseWaitEnd s = .next s.settle) ∧
    (∀ r, s.churn.run = some r → r.index = r.count → r.failed = none → r.aborted = none → (s.chq r.q).abort = false → s.churn.drainUntil = none →
      ∃ t, exec .churnListEnd s = .next t ∧ t.churn.run = none ∧ t.churn.lastServed = r.q)) ∧
  (∀ (m : Master) (q : Nat) (v : W32) (s : State),
    (s.portLive m.code = true → s.isOwner m.code = true → v.getLsbD 0 = true → exec (.churnAbortWrite m q v) s = .next (s.churnAbort q).settle) ∧
    ((s.chq q).abort = true → ∀ r, s.runOf q = some r → exec (.churnAbortEffect q) s = .next
      (s.modChurn fun c => { c with run := some { r with aborted := some (r.aborted.getD stOk), waiting := false } }).settle) ∧
    ((s.chq q).abort = true → s.runOf q = none → (s.chq q).outstanding = 0 → exec (.churnAbortEffect q) s = .next
      ((s.modChq q fun c => { c with abort := false }).modChq q fun c => { c with abortNoop := true }).settle) ∧
    ((s.chq q).abort = true → s.runOf q = none → (s.chq q).outstanding ≠ 0 →
      let u := s.modChq q fun c => { c with abort := false }
      let a := (s.chq q).base + 32 * ((s.chq q).completed.toNat % (s.chq q).entries)
      exec (.churnAbortEffect q) s = .next (u.churnComplete q a stOk 2 0 0 0 none (BitVec.ofNat 32 (u32At (u.devRead a 32) 12)) true).settle) ∧
    (∀ t0, s.churn.drainUntil = some t0 → exec .churnDrainLimit s = .next
      ((((s.timeTo t0).churnStop stWrongMode).modChurn fun c => { c with drainUntil := none }).reqDomain domCH false 2).settle))

/-- The PLACARD commands (R381, R384, R386): the query answers what is shown; a configuration is stored, goes to record 7 and
leaves UNCONFIGURED, and is busy while a sequence or a waveform load runs; an update with a waveform for its band, a
configuration and no other sequence starts the sequence and is pending for at most 1.4 s; without one of these it is refused
with its reason; a well-formed waveform table is pending for at most 200 ms. A Placard update (R378, R380, R386, R391, R392):
the intent is committed to the next slot before the first frame, with the pump on where the band asks for it; each frame
boundary latches one frame of the waveform; a fault of the driver stops the update, turns the outputs off and is posted; once
it has ended a recovery that was interrupted runs; at the start the newest intent record says what is shown. Completion: under
the conditions of its clauses, which are on the state and the operands alone, exec answers a next state for placardQuery,
placardConfig, placardUpdate, placardWaveLoad, placardIntentCommitted, placardFrameBoundary, plcFaultNFall, plcFaultNClear,
placardRecovery, placardRecoveryResume. -/
def Obligations.PlacardPort : Prop :=
  (∀ (m : Master) (s : State), let t := s.taken m; let tb := s.takenBulk m; let a := s.argsOf m
    (Accepts s m { code := 0x0E00, cls := 0 } →
      exec (.placardQuery m) s = .next (okAfter s m 0x0E00
        (le 32 t.plc.shown.toNat ++ le 1 (if t.domOn domPL then t.plc.state.code else 0) ++ le 1 t.plc.band ++ [if t.plc.recovered then 1 else 0]) t)) ∧
    (Accepts s m { code := 0x0E01, cls := 1, len := 8, args := [{ off := 0, n := 2 }, { off := 2 }, { off := 3 }, { off := 4, n := 4 }] } →
      1 ≤ u16At a 0 → u16At a 0 ≤ 256 → byteAt a 2 ≤ 1 → segTop t.plc.shown ≤ u16At a 0 →
      ((t.plc.seq ≠ none ∨ t.opOn 0x0E03 = true) → exec (.placardConfig m) s = .next (errAfter s m 0x0E01 stBusy 0xFF 0 domPL)) ∧
      (t.plc.seq = none → t.opOn 0x0E03 = false →
      let u := (t.modPlc fun p => { p with cfg := some (plcCfgOf a) }).deferRecord 7 (a.take 8)
      exec (.placardConfig m) s = .next (okAfter s m 0x0E01 [] (if t.plc.state = .unconfigured then u.plcRest else u)))) ∧
    (Accepts s m { code := 0x0E02, cls := 1, len := 32, args := [{ off := 0, n := 32 }] } →
      let v := BitVec.ofNat 256 (uAt 32 a 0)
      (∀ g, t.plc.cfg = some g → segTop v ≤ g.segments) →
      (t.pins.plcFaultN = false → exec (.placardUpdate m) s = .next (errAfter s m 0x0E02 stFaulted 0xFF 1 domPL)) ∧
      (t.pins.plcFaultN = true → t.wave t.plc.bandNow = none → exec (.placardUpdate m) s = .next (errAfter s m 0x0E02 stFaulted 0xFF 2 domPL)) ∧
      (∀ w, t.pins.plcFaultN = true → t.wave t.plc.bandNow = some w → t.plc.cfg = none → exec (.placardUpdate m) s = .next (errAfter s m 0x0E02 stFaulted 0xFF 3 domPL)) ∧
      (∀ g w, t.pins.plcFaultN = true → t.wave t.plc.bandNow = some w → t.plc.cfg = some g → t.domOn domPL = true → t.plcBusy = true →
        exec (.placardUpdate m) s = .next (errAfter s m 0x0E02 stBusy 0xFF 1 domPL)) ∧
      ∀ g w, t.plc.cfg = some g → t.pins.plcFaultN = true → t.wave t.plc.bandNow = some w → t.domOn domPL = true →
        t.plcBusy = false → (∀ x, t.plc.lastStart = some x → x + 1000000000 ≤ t.time) → s.pendingCount m.code < 16 →
        exec (.placardUpdate m) s = .next (pendAfter s m 0x0E02 1400000000 0 (t.plcStart false v g w))) ∧
    (Accepts s m { code := 0x0E03, cls := 1, bulk := some 0, len := 17, args := [{ off := 16, hi := 7 }] } →
      BulkFits s m { code := 0x0E03, cls := 1, bulk := some 0, len := 17, args := [{ off := 16, hi := 7 }] } → s.bulkLen m = 96 →
      waveOk (tb.devRead (s.bulkAt m) 96) (byteAt a 16) = true → (∀ q, t.plc.seq = some q → q.band ≠ byteAt a 16) → t.opOn 0x0E03 = false →
      s.pendingCount m.code < 16 → exec (.placardWaveLoad m) s = .next (pendAfter s m 0x0E03 200000000 (byteAt a 16) tb))) ∧
  (∀ (s : State),
    (∀ q, s.plc.seq = some q → q.committed = false → s.domOn domPL = true → s.nvmUp = true → q.slot < s.plc.slots.length → ∃ t x q', exec .placardIntentCommitted s = .next t ∧
      t.plc.slots.getD q.slot {} = x ∧ x.valid = true ∧ x.done = 0 ∧ x.target = q.target ∧ x.previous = q.previous ∧
      x.seq = (match newestIntent s.plc.slots with | some x => x.seq | none => 0) + 1 ∧
      t.plc.seq = some q' ∧ q'.committed = true ∧ q'.readyAt = s.time + (if q.bias == 1 then ms 5 else 0) ∧ t.plc.pump = (q.bias == 1)) ∧
    (s.plc.seq = none → exec .placardIntentCommitted s = .next s.settle) ∧
    (∀ q, s.plc.seq = some q → s.domOn domPL = true → s.pins.plcFaultN = true → q.committed = true → q.latched ≠ 0 → q.latched < q.frames →
      exec .placardFrameBoundary s = .next ((((s.nextPeriod (ms 20)).emit (.placard (q.word 1 (some q.latched)) (q.word 0 (some q.latched)))).modPlc fun p => { p with
        frame := q.latched, seq := some { q with latched := q.latched + 1 } })).settle) ∧
    (∀ q, s.plc.seq = some q → s.domOn domPL = true → s.pins.plcFaultN = true → q.committed = true → q.latched ≠ 0 → q.frames ≤ q.latched →
      exec .placardFrameBoundary s = .next ((s.nextPeriod (ms 20)).plcClose q).settle) ∧
    (s.plc.seq = none → exec .placardFrameBoundary s = .next (s.nextPeriod (ms 20)).settle) ∧
    (s.domOn domPL = true → ∃ t, exec .plcFaultNFall s = .next t ∧ t.pins.plcFaultN = false ∧ t.pins.plcOeN = true ∧ t.plc.state = .fault ∧
      t.plc.seq = none ∧ (s.plc.seq.isSome = true → t.plc.recover = true)) ∧
    (s.domOn domPL = false → exec .plcFaultNFall s = .next (s.modPins fun p => { p with plcFaultN := false, plcOeN := true }).settle) ∧
    (s.domOn domPL = false → exec .plcFaultNClear s = .next (s.modPins fun p => { p with plcFaultN := true }).settle) ∧
    (s.domOn domPL = true → s.plc.seq = none → s.plc.state = .waitWaveform → s.plc.recover = false →
      exec .plcFaultNClear s = .next (s.modPins fun p => { p with plcFaultN := true }).settle) ∧
    (∀ x, s.tp.state = .running → s.domOn domPL = true → s.plc.seq = none → s.plc.state ≠ .waitWaveform → newestIntent s.plc.slots = some x → x.done = x.seq →
      ∃ t, exec .placardRecovery s = .next t ∧ t.plc.shown = x.target ∧ t.plc.uncertain = false ∧ t.plc.recover = false ∧ t.plc.slots = s.plc.slots) ∧
    (s.plc.state = .waitWaveform → s.domOn domPL = true → s.plc.seq = none → exec .placardRecoveryResume s = .next s.plcRecover.settle) ∧
    (s.plc.state ≠ .waitWaveform → exec .placardRecoveryResume s = .next s.settle))

/-- The AUDIO commands (R398, R399, R402, R403, R406): the query answers the sums of the counters; port settings, the mix, the
delay and the channel status wait for their frame; a PCM ring of whole 64-byte units in a region is taken with its indices at
0. The audio frames (R125, R397, R398, R399, R400, R401): the mixer row moves to the next frame of 1/48,000 s and, with AU
off, does nothing else; a long underrun of 480 frames mutes its input once; a port waiting for its word select is marked; a
port's settings and the channel status change only at their boundaries. Completion: under the conditions of its clauses, which
are on the state and the operands alone, exec answers a next state for audioQuery, audioPortSet, audioMixSet, audioDelaySet,
audioPcmRing, audioIecSet, audBlock, mixerFrame, longUnderrun, slaveWsTimeout, audioPortApply, iecBlockStart,
audioInputSample. -/
def Obligations.AudioUnit : Prop :=
  (∀ (m : Master) (s : State), let t := s.taken m; let a := s.argsOf m; let n := byteAt a 0
    let src := (List.range 8).map fun i => byteAt a i
    let gain := (List.range 40).map fun k => sext 8 (byteAt a (8 + k))
    (Accepts s m { code := 0x0F00, cls := 0 } →
      exec (.audioQuery m) s = .next (okAfter s m 0x0F00
        (le 1 (if t.aud.onInternal then 1 else 0) ++ [0, 0, 0] ++ le 4 (t.aud.inputs.map fun x => x.underruns.toNat).sum
          ++ le 4 (t.aud.inputs.map fun x => x.overruns.toNat).sum ++ [if t.alarmOn then 1 else 0]) t)) ∧
    (Accepts s m { code := 0x0F01, cls := 1, len := 4, args := [{ off := 0, hi := 5 }, { off := 1, mask := 1 }, { off := 2, hi := 1 }, { off := 3 }] } →
      ¬ (n = 5 ∧ byteAt a 1 = 1) → (byteAt a 3 = 16 ∨ byteAt a 3 = 24) →
      exec (.audioPortSet m) s = .next (okAfter s m 0x0F01 [] (t.modAud fun x =>
        { x with ports := x.ports.modify n fun p => { p with next := some (byteAt a 1 == 1, byteAt a 2 == 1, byteAt a 3) } }))) ∧
    (Accepts s m { code := 0x0F02, cls := 1, len := 48, args := [{ off := 0, n := 48 }] } →
      (∀ x ∈ src, x ≤ 35 ∧ (x < 32 → t.hasPort (x / 2) = true)) → (∀ g ∈ gain, g ≤ 48) →
      exec (.audioMixSet m) s = .next (okAfter s m 0x0F02 [] (t.modAud fun x => { x with mixNext := some (src, gain) }))) ∧
    (Accepts s m { code := 0x0F03, cls := 1, len := 4, args := [{ off := 0, hi := 7 }, { off := 2, n := 2 }] } →
      let d := s16At a 2
      d ≤ 2500 → -2500 ≤ d → (t.aIn n).rawDelay d ≤ 12000 →
      let u := t.modAIn n fun x => ({ x with trim := d }).setDelay
      exec (.audioDelaySet m) s = .next (okAfter s m 0x0F03 (le 2 (roundNat ((u.aIn n).delay * 10) 48)) u)) ∧
    (Accepts s m { code := 0x0F04, cls := 1, len := 13, args := [{ off := 0, n := 5 }, { off := 8, n := 4 }, { off := 12, lo := 1, hi := 2 }] } →
      a40At a 0 % 64 = 0 → u32At a 8 % 64 = 0 → 4096 ≤ u32At a 8 → u32At a 8 ≤ 2 ^ 24 → t.inRegion (a40At a 0) (u32At a 8) = true →
      t.held (a40At a 0) (u32At a 8) = false →
      exec (.audioPcmRing m) s = .next (okAfter s m 0x0F04 [] (t.modAud fun x =>
        { x with ringBase := a40At a 0, ringBytes := u32At a 8, ringChannels := byteAt a 12, ringStale := false, producer := 0, consumed := 0 }))) ∧
    (Accepts s m { code := 0x0F05, cls := 1, len := 24, args := [{ off := 0, n := 24 }] } → n % 2 = 0 →
      exec (.audioIecSet m) s = .next (okAfter s m 0x0F05 [] (t.modAud fun x => { x with iecNext := some (a.take 24) })))) ∧
  (∀ (port input count source : Nat) (left right : Int) (s : State),
    (s.domOn domAU = false → exec .mixerFrame s = .next (s.modTime nextMixer).settle) ∧
    (s.domOn domAU = true → ∃ t, exec .mixerFrame s = .next t ∧ t.time = nextMixer s.time ∧ t.aud.repeatFrame = false) ∧
    (∀ p, p = s.cam.ports.getD port {} → p.cfg.audioEn = true → s.domOn (domRG port) = true → 4 ≤ p.state → s.domOn domAU = true → port < s.cam.flows.length →
      ∃ t, exec (.audBlock port count left right) s = .next t ∧ (t.camFlow port).audioLast = some (count % 256)) ∧
    (s.domOn domAU = false → exec (.audBlock port count left right) s = .next s.settle ∧ exec (.audioInputSample source left right) s = .next s.settle) ∧
    (s.domOn domAU = true → source ≠ 5 → exec (.audioInputSample source left right) s =
      .next (s.modAud fun a => { a with ports := a.ports.modify source fun p => { p with wsLost := false } }).settle) ∧
    (s.domOn domAU = true → (s.aPort 5).rate96 = false → (s.aPort 5).bits ≠ 16 → exec (.audioInputSample 5 left right) s =
      .next (((s.modAud fun a => { a with ports := a.ports.modify 5 fun p => { p with wsLost := false } }).feedSource 34 (sat24 left)).feedSource 35 (sat24 right)).settle) ∧
    (480 ≤ (s.aIn input).underrun → (s.aIn input).long = false → exec (.longUnderrun input) s = .next ((s.modAIn input fun x => { x with long := true, fade := 0 }).xrun input false 1).settle) ∧
    ((s.aIn input).underrun < 480 → exec (.longUnderrun input) s = .next s.settle) ∧
    ((s.aPort port).master = false → exec (.slaveWsTimeout port) s = .next (s.modAud fun a => { a with ports := a.ports.modify port fun p => { p with wsLost := true } }).settle) ∧
    ((s.aPort port).master = true → exec (.slaveWsTimeout port) s = .next s.settle) ∧
    (∀ m r b, port < s.aud.ports.length → (s.aPort port).next = some (m, r, b) → ∃ t, exec (.audioPortApply port) s = .next t ∧
      (t.aPort port).master = m ∧ (t.aPort port).rate96 = r ∧ (t.aPort port).bits = b ∧ (t.aPort port).next = none) ∧
    (s.aud.iecFrame = 0 → s.domOn domAU = true → ∃ t, exec .iecBlockStart s = .next t ∧ t.aud.iecBlock = s.aud.iecNext.getD s.aud.iecBlock ∧ t.aud.iecNext = none ∧
      (s.aud.returnDue = true → t.aud.onInternal = false ∧ t.aud.repeatFrame = true)) ∧
    (s.aud.iecFrame ≠ 0 → exec .iecBlockStart s = .next s.settle))

/-- The HK commands (R408, R409, R412): the query answers converted values; thresholds in rising order within their limits wait
for the sensor's next conversion and go to record 5; a demanded conversion is queued and waits at most 5 ms. The CAL commands
(R422): the query answers a trim; a run is pending for at most 100 ms, and meanwhile one more run or a hold of that item is
busy; a hold in MAINTENANCE stops or frees an item's loop, and in another mode it is refused. Completion: under the conditions
of its clauses, which are on the state and the operands alone, exec answers a next state for hkQuery, hkThresholdSet,
hkConvert, calQuery, calRun, calHold. -/
def Obligations.HousekeepingSettings : Prop :=
  (∀ (m : Master) (s : State), let t := s.taken m; let a := s.argsOf m; let k := byteAt a 0
    let v := (List.range 9).map fun i => s16At a (2 + 2 * i)
    (Accepts s m { code := 0x1000, cls := 0, len := 1, args := [{ off := 0, hi := 3 }] } →
      let raw := fun i => t.hk.raw.getD i 0
      exec (.hkQuery m) s = .next (okAfter s m 0x1000 (match k with
        | 0 => (List.range 24).flatMap fun i => le 2 (wrap 16 (t.tempOf i (raw i)))
        | 1 => (List.range 32).flatMap fun i => le 2 (milliVolt (24 + i) (raw (24 + i)))
        | 2 => (List.range 8).flatMap fun i => le 4 (milliAmp (56 + i) (raw (56 + i)))
        | _ => t.hk.sensors.map fun x => BitVec.ofNat 8 x.byte) t)) ∧
    (Accepts s m { code := 0x1001, cls := 1, len := 20, args := [{ off := 0 }, { off := 2, n := 18 }] } →
      (k < 24 ∨ k = 0xFF) → -880 ≤ s16At a 2 → (∀ i < 8, s16At a (2 + 2 * i) < s16At a (4 + 2 * i)) → 1760 ≤ s16At a 18 → s16At a 18 ≤ 2000 →
      let u := t.modHk fun h => { h with sensors := h.sensors.mapIdx fun i x => if k == 0xFF || k == i then { x with next := some v } else x }
      exec (.hkThresholdSet m) s = .next (okAfter s m 0x1001 []
        (u.deferRecord 5 (u.hk.sensors.flatMap fun x => (x.next.getD x.thresholds).flatMap fun y => le 2 (wrap 16 y))))) ∧
    (Accepts s m { code := 0x1002, cls := 0, len := 1, args := [{ off := 0, hi := 63 }] } →
      exec (.hkConvert m) s = .next (waitAfter s m 0x1002 5000000
        (t.modHk fun h => { h with demands := h.demands ++ [{ channel := k, master := m.code, tag := BitVec.ofNat 8 (s.tagOf m) }] })))) ∧
  (∀ (m : Master) (s : State), let t := s.taken m; let a := s.argsOf m; let k := byteAt a 0; let i := u16At a 2
    (Accepts s m { code := 0x1100, cls := 0, len := 4, args := [{ off := 0, hi := 7 }, { off := 2, n := 2 }] } → t.hasTrim k i = true →
      let x := t.hk.cal.getD k {}
      exec (.calQuery m) s = .next (okAfter s m 0x1100
        (le 2 (wrap 16 (listAt x.trims i)) ++ [0, 0] ++ le 4 x.nvmWrites.toNat ++ le 8 (x.lastWrite.getD 0)) t)) ∧
    (Accepts s m { code := 0x1101, cls := 1, len := 4, args := [{ off := 0, hi := 7 }, { off := 2, n := 2 }] } → (i = 0xFFFF ∨ t.hasTrim k i = true) →
      ((t.opOn 0x1101 fun x => byteAt x 0 == k) = true → exec (.calRun m) s = .next (errAfter s m 0x1101 stBusy 0xFF 0 0xFFFF)) ∧
      ((t.opOn 0x1101 fun x => byteAt x 0 == k) = false → s.pendingCount m.code < 16 →
      exec (.calRun m) s = .next (pendAfter s m 0x1101 100000000 0 t))) ∧
    (Accepts s m { code := 0x1102, cls := 1, len := 2, args := [{ off := 0, hi := 7 }, { off := 1, hi := 1 }] } →
      (t.mode.mode ≠ .maintenance → exec (.calHold m) s = .next (errAfter s m 0x1102 stWrongMode 0xFF 0 0xFFFF)) ∧
      (t.mode.mode = .maintenance → (t.opOn 0x1101 fun x => byteAt x 0 == k) = true → exec (.calHold m) s = .next (errAfter s m 0x1102 stBusy 0xFF 0 0xFFFF)) ∧
      (t.mode.mode = .maintenance → (t.opOn 0x1101 fun x => byteAt x 0 == k) = false →
      exec (.calHold m) s = .next (okAfter s m 0x1102 []
        ((t.modHk fun h => { h with cal := h.cal.modify k fun x => { x with held := byteAt a 1 == 1 } }).checkTrims k)))))

/-- Housekeeping runs (R409, R414 to R417, R420, R422): a demanded conversion is answered first, four a round at most; the fast
comparator trips on its second hit in a row; a tripped device restarts 10 s after it has cooled; each trim loop runs unless it
is held. Completion: under the conditions of its clauses, which are on the state and the operands alone, exec answers a next
state for conversionSlot, thermalStepChange, selfHeatingStart, fastComparatorSample, tripRestart, calibrationLoop. -/
def Obligations.HousekeepingRuns : Prop :=
  ∀ (raw sensor item index : Nat) (hit : Bool) (trim : Int) (s : State),
    (∀ d rest, s.hk.demands = d :: rest → s.hk.demandsUsed < 4 → ∃ t, exec (.conversionSlot raw) s = .next t ∧ t.hk.demands = rest ∧
      t.hk.demandsUsed = s.hk.demandsUsed + 1 ∧ t.hk.slot = s.hk.slot) ∧
    (((s.sensor sensor).faulted = true ∨ s.pwr.phase = .trip ∨ 24 ≤ sensor) → sensor ≠ 0 → exec (.fastComparatorSample sensor hit) s = .next s.settle) ∧
    ((s.sensor sensor).faulted = false → s.pwr.phase ≠ .trip → sensor < 24 → sensor ≠ 0 →
      ((s.sensor sensor).hit = true → exec (.fastComparatorSample sensor true) s = .next (s.trip sensor).settle) ∧
      ((s.sensor sensor).hit = false → exec (.fastComparatorSample sensor true) s = .next (s.modSensor sensor fun x => { x with hit := true, hitNow := true }).settle) ∧
      exec (.fastComparatorSample sensor false) s = .next (s.modSensor sensor fun x => { x with hit := false, hitNow := x.hitNow }).settle) ∧
    (s.hk.coolSince = none → exec .tripRestart s = .next s.settle) ∧
    (∀ t0, s.hk.coolSince = some t0 → s.pwr.phase ≠ .trip → exec .tripRestart s = .next s.settle) ∧
    (∀ t0, s.hk.coolSince = some t0 → s.pwr.phase = .trip → s.pwr.lossSeq = false → s.pins.pwrOk = true → ∃ t, exec .tripRestart s = .next t ∧
      t.pins.thermTripN = true ∧ (t.hk.safeBoot = true ↔ 3 ≤ (s.hk.tripTimes.filter fun x => decide (s.pwr.aonBase + max (t0 + 10 ^ 10) s.time < x + 3600 * 10 ^ 9)).length)) ∧
    (item < 8 → s.hasTrim item index = true → (s.hk.cal.getD item {}).held = false → s.calRuns item = true →
      exec (.calibrationLoop item index trim) s = .next (s.calibrate item index trim).settle) ∧
    ((s.hk.cal.getD item {}).held = true → exec (.calibrationLoop item index trim) s = .next s.settle) ∧
    ((s.groupLost = true ∨ s.hottestRequest.2 ≠ s.hk.step) →
      exec .thermalStepChange s = .next ((s.timeTo ((s.hk.lastStep.map (· + ms 100)).getD 0)).moveStep).settle) ∧
    (s.groupLost = false → s.hottestRequest.2 = s.hk.step → exec .thermalStepChange s = .next s.settle) ∧
    (s.tp.state = .running → s.lowHold = true → s.hk.selfHeating = false → ∃ t, exec .selfHeatingStart s = .next t ∧ t.hk.selfHeating = true ∧
      t.hk.heated = (List.range 17).filter fun d => s.hasCluster d && !s.domOn d) ∧
    (s.lowHold = false → exec .selfHeatingStart s = .next s.settle)

/-- The NVM and LOG commands (R424, R426, R430): a record's payload goes to the buffer with its length, its slot and whether it is
valid; a write is pending for 50 ms per 64 KiB; the status and the log's bounds are answered; log entries from a sequence
number go to the buffer, oldest first; clearing the log moves its floor past its last entry. The NVM store writes (R425, R427,
R430): a deferred record is written once its interval has passed, a held trim is not; the daily check counts its corrections;
the event log is written while the store is up. Completion: under the conditions of its clauses, which are on the state and
the operands alone, exec answers a next state for nvmRead, nvmWrite, nvmStatus, logQuery, logRead, logClear, nvmDeferredWrite,
nvmDailyCheck, eventLogWrite. -/
def Obligations.NvmStore : Prop :=
  (∀ (m : Master) (s : State), let t := s.taken m; let tb := s.takenBulk m; let a := s.argsOf m; let id := u16At a 16
    (Accepts s m { code := 0x1200, cls := 0, bulk := some 1, len := 18, args := [{ off := 16, n := 2 }] } →
      BulkFits s m { code := 0x1200, cls := 0, bulk := some 1, len := 18, args := [{ off := 16, n := 2 }] } →
      knownRecord id = true → id ≠ 0x205 →
      let u := match (tb.record id).fallback with | some k => tb.post 0x1280 1 (le 2 id ++ le 1 k) | none => tb
      exec (.nvmRead m) s = .next (okAfter s m 0x1200
        (le 4 (tb.readRecord id).1.length ++ le 1 (tb.readRecord id).2.1 ++ [if (tb.readRecord id).2.2 then 1 else 0])
        (u.devWrite (s.bulkAt m) ((tb.readRecord id).1.take (s.bulkLen m))))) ∧
    (Accepts s m { code := 0x1201, cls := 1, bulk := some 0, len := 18, args := [{ off := 16, n := 2 }] } →
      BulkFits s m { code := 0x1201, cls := 1, bulk := some 0, len := 18, args := [{ off := 16, n := 2 }] } → ownerRecord id = true →
      (id = 2 → boardOk (tb.devRead (s.bulkAt m) (s.bulkLen m)) = true) → (id = 0x206 → t.sec.fseal = false) →
      (∀ o ∈ t.ctl.pendingOps, o.code = 0x1201 → o.aux ≠ id) → s.pendingCount m.code < 16 →
      exec (.nvmWrite m) s = .next (pendAfter s m 0x1201 (50000000 * ((s.bulkLen m + 65535) / 65536)) id tb)) ∧
    (Accepts s m { code := 0x1202, cls := 0 } → ∃ writes,
      exec (.nvmStatus m) s = .next (okAfter s m 0x1202 (le 4 writes ++ le 4 (t.nvm.log.filter (·.valid)).length ++ le 4 t.nvm.fallbacks.toNat) t)
        ∧ ∀ r ∈ t.nvm.recs, recWrites r ≤ writes) ∧
    (Accepts s m { code := 0x1400, cls := 0 } →
      exec (.logQuery m) s = .next (okAfter s m 0x1400 (le 4 t.logOldest ++ le 4 t.nvm.logSeq.toNat ++ le 4 16384) t)) ∧
    (Accepts s m { code := 0x1401, cls := 0, bulk := some 1, len := 22, args := [{ off := 16, n := 4 }, { off := 20, n := 2 }] } →
      BulkFits s m { code := 0x1401, cls := 0, bulk := some 1, len := 22, args := [{ off := 16, n := 4 }, { off := 20, n := 2 }] } →
      let start := max (u32At a 16) tb.logOldest
      let es := (tb.nvm.log.filter fun x => x.valid && start ≤ x.seq.toNat).take (min (u16At a 20) (s.bulkLen m / 32))
      ∃ first gap, exec (.logRead m) s = .next (okAfter s m 0x1401 (le 4 first ++ le 2 es.length ++ gap)
        (tb.devWrite (s.bulkAt m) (es.flatMap fun x => x.ev.bytes))) ∧ (∀ x, es.head? = some x → first = x.seq.toNat) ∧ (es = [] → first = start)) ∧
    (Accepts s m { code := 0x1402, cls := 1, len := 4, args := [{ off := 0, n := 4, lo := 0xC1EA, hi := 0xC1EA }] } →
      exec (.logClear m) s = .next (okAfter s m 0x1402 []
        ((t.modNvm fun n => { n with logFloor := BitVec.ofNat 32 (t.nvm.logSeq.toNat + 1) }).deferRecord 0x13 (le 4 (t.nvm.logSeq.toNat + 1)))))) ∧
  (∀ (record : Nat) (corrected : List Nat) (s : State),
    ((s.record record).pending = none → exec (.nvmDeferredWrite record) s = .next s.settle) ∧
    (∀ p, (s.record record).pending = some p → s.tp.state = .running → s.nvmUp = true →
      let z := s.timeTo (((s.record record).lastWrite.map fun t => t + recInterval record).getD 0)
      ((record < 0x18 ∨ 0x20 ≤ record) → exec (.nvmDeferredWrite record) s = .next (z.writeRecord record p).settle) ∧
      (0x18 ≤ record → record < 0x20 → (s.hk.cal.getD (record - 0x18) {}).held = true → exec (.nvmDeferredWrite record) s = .next z.settle) ∧
      (0x18 ≤ record → record < 0x20 → (s.hk.cal.getD (record - 0x18) {}).held = false → exec (.nvmDeferredWrite record) s = .next (z.writeTrims (record - 0x18)).settle)) ∧
    (s.tp.state = .running → s.nvmUp = true → ∃ t, exec (.nvmDailyCheck corrected) s = .next t ∧
      t.nvm.corrections = s.nvm.corrections + BitVec.ofNat 32 corrected.length ∧ t.time = max (s.nvm.lastDaily + 86400 * 10 ^ 9) s.time ∧ t.nvm.lastDaily = t.time) ∧
    (s.nvmUp = false → exec (.nvmDailyCheck corrected) s = .next s.settle ∧ exec .eventLogWrite s = .next s.settle) ∧
    (s.nvmUp = true → exec .eventLogWrite s = .next s.writeLog.settle))

/-- The SEC commands on images (R441, R446, R450, R451, R452): the query answers the security state; an attestation is pending for
at most 300 ms; a staged image invalidates its slot and is pending for at most 90 s; a valid slot starts a live update,
pending for at most 1 s, if the checks pass, which answer otherwise; a bundle is pending for at most 10 s. SEC.OWNER_KEY
(R442) with a container of the right form, which the checks of Table 18.5 answer where one fails, and SEC.SEAL (R447) with
SEAL_EN high, a key set and FSEAL not blown, are pending, at most 100 ms and 2 s. Completion: under the conditions of its
clauses, which are on the state and the operands alone, exec answers a next state for secQuery, secAttest, secFwStage,
secFwActivate, secOwnerKey, secSeal, secBundleLoad. -/
def Obligations.SecurityCommands : Prop :=
  (∀ (m : Master) (s : State), let t := s.taken m; let tb := s.takenBulk m; let a := s.argsOf m
    (Accepts s m { code := 0x1300, cls := 0 } →
      exec (.secQuery m) s = .next (okAfter s m 0x1300
        ([if t.sec.fseal then 1 else 0, if t.ownerKeySet then 1 else 0] ++ le 1 t.tp.slot ++ [0] ++ le 8 t.rollback ++ t.sec.measurement ++ t.ownerHash) t)) ∧
    (Accepts s m { code := 0x1301, cls := 0, bulk := some 1, len := 48, args := [{ off := 16, n := 32 }] } →
      BulkFits s m { code := 0x1301, cls := 0, bulk := some 1, len := 48, args := [{ off := 16, n := 32 }] } → 36864 ≤ s.bulkLen m →
      t.opOn 0x1305 = false → s.pendingCount m.code < 16 → exec (.secAttest m) s = .next (pendAfter s m 0x1301 300000000 0 tb)) ∧
    (Accepts s m { code := 0x1302, cls := 1, bulk := some 0, len := 17, args := [{ off := 16 }] } →
      BulkFits s m { code := 0x1302, cls := 1, bulk := some 0, len := 17, args := [{ off := 16 }] } →
      byteAt a 16 ≠ t.tp.slot → byteAt a 16 ≤ 1 → s.bulkLen m ≤ 24 * 2 ^ 20 → t.secBusy = false → s.pendingCount m.code < 16 →
      ∃ bad, exec (.secFwStage m) s = .next (pendAfter s m 0x1302 90000000000 bad (tb.setSlot (byteAt a 16) false none))) ∧
    (Accepts s m { code := 0x1303, cls := 1, len := 1, args := [{ off := 0 }] } →
      byteAt a 0 ≠ t.tp.slot → byteAt a 0 ≤ 1 → t.slotValid (byteAt a 0) = true → t.secBusy = false → t.sec.items.length < 16 → s.pendingCount m.code < 16 →
      exec (.secFwActivate m) s = .next (match t.conCheck 0 (t.flashCon (slotBase (byteAt a 0)) slotSize) slotSize [] [3, 4, 5, 6] with
        | none => pendAfter s m 0x1303 1000000000 (byteAt a 0)
            ((t.setPreferred (byteAt a 0) true).modTp fun x => { x with state := .draining, deadline := some (t.time + 100000000), oldSlot := x.slot, restartCause := 0 })
        | some (st, r) => errAfter s m 0x1303 st 0xFF r 0xFFFF)) ∧
    (Accepts s m { code := 0x1306, cls := 1, bulk := some 0, len := 17, args := [{ off := 16, hi := 1 }] } →
      BulkFits s m { code := 0x1306, cls := 1, bulk := some 0, len := 17, args := [{ off := 16, hi := 1 }] } → t.secBusy = false →
      s.pendingCount m.code < 16 → ∃ bad, exec (.secBundleLoad m) s = .next (pendAfter s m 0x1306 10000000000 bad tb))) ∧
  (∀ (m : Master) (s : State), let t := s.taken m; let tb := s.takenBulk m
    (Accepts s m { code := 0x1304, cls := 1, bulk := some 0, len := 16 } → BulkFits s m { code := 0x1304, cls := 1, bulk := some 0, len := 16 } →
      let b := tb.devRead (s.bulkAt m) (s.bulkLen m)
      let p := conPayloadBytes b
      let key := slice p 16 48
      t.conCheck 3 b (s.bulkLen m) key [1, 2] = none → conPayload b = 96 → zeros p 64 32 = true →
      (key.all (· == 0) = true → t.ownerKeySet = true ∧ t.sec.fseal = false) →
      conBlocks b 1 = true → u64At p 0 = t.id.serial.toNat → u64At t.ownerKey 32 < u64At p 8 → (t.ownerKeySet = true ∨ slice b 64 48 = key) →
      t.secBusy = false → s.pendingCount m.code < 16 →
      exec (.secOwnerKey m) s = .next (match t.conCheck 3 b (s.bulkLen m) key allChecks with
        | none => pendAfter s m 0x1304 100000000 0 tb
        | some (st, r) => ((tb.releaseBulk m.code 0).answer m.code 0x1304 (s.tagOf m) st 0 (failData 0xFF r 0xFFFF)).settle)) ∧
    (∀ sealEn, let z := s.modPins fun p => { p with sealEn := sealEn }
      Accepts z m { code := 0x1305, cls := 1, len := 4, args := [{ off := 0, n := 4, lo := 0x5EA10F1D, hi := 0x5EA10F1D }] } → s.sec.fseal = false →
      s.ownerKeySet = true → s.secBusy = false → s.pendingCount m.code < 16 →
      (sealEn = true → exec (.secSeal m sealEn) s = .next (pendAfter z m 0x1305 2000000000 0 (z.taken m))) ∧
      (sealEn = false → exec (.secSeal m sealEn) s = .next (errAfter z m 0x1305 stAuthFail 0xFF 1 0xFFFF))))

/-- The SVC commands of a domain (R51, R98, R232, R356, R372): the query answers its service state, last cause and power cycles; a
drain is pending for at most 100 ms and stops what the domain does; a cycle of a drained domain switches it off and asks for
it again; a cycle, a test and a return are pending for at most 10 ms, 2 s and 100 ms; each is busy while an operation on the
domain runs or it is not drained. In recovery SVC writes a slot in chunks from the staging buffer and starts a valid one
(R439, Table 18.7); a code that nothing defines answers ST_BAD_COMMAND (R93, R439). Completion: under the conditions of its
clauses, which are on the state and the operands alone, exec answers a next state for svcQuery, svcDrain, svcPowerCycle,
svcRetest, svcReturn, recoveryFwStage, recoveryFwActivate, commandUndefined. -/
def Obligations.ServiceCommands : Prop :=
  (∀ (m : Master) (s : State), let t := s.taken m; let d := u16At (s.argsOf m) 0
    t.hasDomain d = true → s.pendingCount m.code < 16 →
    (Accepts s m { code := 0x1500, cls := 0, len := 2, args := [svcArg] } →
      exec (.svcQuery m) s = .next (okAfter s m 0x1500 (le 1 (t.serviceState d) ++ le 1 (t.dom d).lastCause ++ [0, 0] ++ le 4 (t.dom d).cycles.toNat) t)) ∧
    (Accepts s m { code := 0x1501, cls := 1, len := 2, args := [svcArg] } → t.svcBusy d = false → t.drainRefused d = false →
      let u := if t.domOn d then t.unitState d 5 else t
      exec (.svcDrain m) s = .next (pendAfter s m 0x1501 100000000 0
        (if d < 17 then (if !(u.cluster d).retired && u.domOn d then (u.retireCluster d 0x01).setUnit d fun x => { x with faulted := false, state := 5 } else u)
         else if d < 29 then u.removeChannel (d - 17) 0x01
         else if d == domCH then (if u.churn.run.isSome then u.modChurn fun x => { x with drainUntil := some (u.time + 100000000) } else u)
         else u))) ∧
    (Accepts s m { code := 0x1502, cls := 1, len := 2, args := [svcArg] } → t.svcBusy d = false → (t.dom d).service ≠ 0 →
      exec (.svcPowerCycle m) s = .next (pendAfter s m 0x1502 10000000 0 ((t.dropDomain d 2).reqDomain d true 2))) ∧
    (Accepts s m { code := 0x1501, cls := 1, len := 2, args := [svcArg] } → (t.svcBusy d = true ∨ t.drainRefused d = true) →
      exec (.svcDrain m) s = .next (errAfter s m 0x1501 stBusy 0xFF 0 d)) ∧
    (Accepts s m { code := 0x1502, cls := 1, len := 2, args := [svcArg] } → (t.svcBusy d = true ∨ (t.dom d).service = 0) →
      exec (.svcPowerCycle m) s = .next (errAfter s m 0x1502 stBusy 0xFF 0 d)) ∧
    (Accepts s m { code := 0x1503, cls := 1, len := 2, args := [svcArg] } → (t.svcBusy d = true ∨ (t.dom d).service = 0) →
      exec (.svcRetest m) s = .next (errAfter s m 0x1503 stBusy 0xFF 0 d)) ∧
    (Accepts s m { code := 0x1504, cls := 1, len := 2, args := [svcArg] } → (t.dom d).service ≠ 3 →
      exec (.svcReturn m) s = .next (errAfter s m 0x1504 stFaulted 0xFF 0 d)) ∧
    (Accepts s m { code := 0x1503, cls := 1, len := 2, args := [svcArg] } → t.svcBusy d = false → (t.dom d).service ≠ 0 →
      exec (.svcRetest m) s = .next (pendAfter s m 0x1503 2000000000 0
        (if t.domOn d then t.setUnit d fun u => { u with state := 6, flowing := false } else t))) ∧
    (Accepts s m { code := 0x1504, cls := 1, len := 2, args := [svcArg] } → t.svcBusy d = false → (t.dom d).service = 3 →
      exec (.svcReturn m) s = .next (pendAfter s m 0x1504 100000000 0
        (if 17 ≤ d ∧ d < 29 then t.modChan (d - 17) fun x => { x with joining := true } else t)))) ∧
  (∀ (s : State), let a := s.argsOf .svc; let t := s.taken .svc
    let okay := fun (code : Nat) (u : State) => ((u.releaseBulk 2 0).answer 2 code (s.tagOf .svc) stOk 0 []).settle
    (s.tp.state = .recovery → s.front 2 0x1302 = true →
      ({ code := 0x1302, cls := 0, bulk := some 0, len := 25, args := [{ off := 16, hi := 1 }, { off := 20, n := 4 }, { off := 24, hi := 1 }] } : Cmd).argError (s.frontSlot 2) a = none →
      s.bulkAt .svc = 0 → 1 ≤ s.bulkLen .svc → s.bulkLen .svc ≤ 2 ^ 20 → u32At a 20 % 65536 = 0 → u32At a 20 + s.bulkLen .svc ≤ slotSize → byteAt a 24 = 0 →
      exec .recoveryFwStage s = .next (okay 0x1302 ((t.setSlot (byteAt a 16) false none).flashProgram (slotBase (byteAt a 16) + u32At a 20)
        (memRead t.sec.staging 0 (s.bulkLen .svc))))) ∧
    (s.tp.state = .recovery → s.front 2 0x1303 = true →
      ({ code := 0x1303, cls := 0, len := 1, args := [{ off := 0, hi := 1 }] } : Cmd).argError (s.frontSlot 2) a = none → t.slotValid (byteAt a 0) = true →
      exec .recoveryFwActivate s = .next (okay 0x1303 ((t.setPreferred (byteAt a 0) false).modTp fun x => { x with state := .rom }))) ∧
    (∀ (m : Master) (code : Nat), s.front m.code code = true →
      (s.tp.state = .running → code ∉ definedCodes) →
      (s.tp.state = .recovery → m = .svc → code ≠ 0 ∧ code ≠ 6 ∧ code ≠ 0x1300 ∧ code ≠ 0x1302 ∧ code ≠ 0x1303) →
      (s.tp.state = .running ∨ s.tp.state = .recovery) →
      exec (.commandUndefined m) s = .next ((s.taken m).answer m.code code (s.tagOf m) stBadCommand 0 [0xFF, 0, 0xFF, 0xFF]).settle))

/-- OWN_CLAIM (R72, R73, R75) of a master whose port reaches the device, when no heartbeat and no handover window is over: a claim
on a vacant ownership, or the owner's own, waits for the tick with CLAIM_RESULT 1; the target's claim in an open window passes
ownership at once, cause 2, result 5; every other claim of a master is held, result 3; a token of 0 and SAFE's claim are
refused, result 6. Through a port that is not there nothing happens (R67, R68). The ownership tick (R73), 1 ms apart, when no
heartbeat and no window is over: of the claims on a vacant ownership that arrived before it, the one of the highest priority
is granted with cause 1 and result 2 and the others lose with result 4; no claim of those stays. Completion: under the
conditions of its clauses, which are on the state and the operands alone, exec answers a next state for ownClaim,
ownershipTick. -/
def Obligations.ClaimsOfOwnership : Prop :=
  (∀ (m : Master) (token : W32) (s : State), (s.portLive m.code = false → exec (.ownClaim m token) s = .next s.settle) ∧ (s.portLive m.code = true →
    (s.own.owner = 7 ∨ s.time < s.own.hbDeadline) → (∀ h, s.own.handover = some h → s.time < h.deadline) →
    let u := s.breakPair m
    (m ≠ .safe → token ≠ 0 → (s.own.owner = 7 ∨ s.own.owner = m.code) →
      exec (.ownClaim m token) s = .next (u.modOwn fun o => { o with
        claims := o.claims.filter (·.master != m.code) ++ [{ master := m.code, token := token, arrival := s.time }],
        results := o.results.set m.code 1 }).settle) ∧
    (m ≠ .safe → token ≠ 0 → s.own.owner ≠ 7 → s.own.owner ≠ m.code →
      ∀ h, s.own.handover = some h → h.target = m.code → ∃ t, exec (.ownClaim m token) s = .next t ∧
        t.own.owner = m.code ∧ t.own.token = token ∧ t.own.lastCause = 2 ∧ t.own.changes = s.own.changes + 1 ∧ t.own.handover = none ∧
        t.own.hbDeadline = s.time + s.own.hbInForce * 1000000 ∧ t.own.results = s.own.results.set m.code 5) ∧
    (m ≠ .safe → token ≠ 0 → s.own.owner ≠ 7 → s.own.owner ≠ m.code → (∀ h, s.own.handover = some h → h.target ≠ m.code) →
      exec (.ownClaim m token) s = .next (u.setResult m.code 3).settle) ∧
    (m ≠ .safe → token = 0 → exec (.ownClaim m token) s = .next (u.setResult m.code 6).settle) ∧
    (m = .safe → ∃ t, exec (.ownClaim m token) s = .next t ∧ t.own.owner = s.own.owner ∧ t.own.results = s.own.results.set 3 6))) ∧
  (∀ (s : State), let now := (s.time / 1000000 + 1) * 1000000
    let cs := s.own.claims.filter fun c => c.arrival < now
    s.own.owner = 7 → (∀ h, s.own.handover = some h → now < h.deadline) → ∃ t, exec .ownershipTick s = .next t ∧ t.time = now ∧
      t.own.claims = s.own.claims.filter (fun c => now ≤ c.arrival) ∧
      (winner s.own.prio cs = none → t.own.owner = 7 ∧ t.own.results = s.own.results) ∧
      (∀ w, winner s.own.prio cs = some w → t.own.owner = w.master ∧ t.own.token = w.token ∧ t.own.lastCause = 1 ∧ t.own.changes = s.own.changes + 1 ∧
        t.own.results = (cs.foldl (fun r c => r.set c.master 4) s.own.results).set w.master 2))

/-- OWN_HEARTBEAT, the heartbeat period and OWN_HANDOVER_TOKEN (R74, R21): the owner's token starts a new period, another token or
another master's write changes no period; a period set meanwhile counts from here on (R79); at the end of the period ownership
is vacant with cause 3; the owner's handover token is kept with its time, for the next OWN_HANDOVER. OWN_HANDOVER (R75, R76)
of the owner, within 1 ms of its token: TARGET 7 makes ownership vacant at once with cause 4, an existing other master gets a
window of 100 ms, and any other target changes nothing but breaks the pair; at its end the window is cancelled. SVC_PRESENT_N
(R68, Table 3.5): SVC comes with an event; when it leaves, an owner SVC leaves ownership vacant with cause 5 and a window for
SVC is cancelled and its waiting claim dropped. Completion: under the conditions of its clauses, which are on the state and
the operands alone, exec answers a next state for ownHeartbeat, heartbeatLapse, ownHandoverToken, ownHandover, ownRelease,
handoverExpiry, svcPresentChange. -/
def Obligations.HoldingOwnership : Prop :=
  (∀ (m : Master) (token : W32) (s : State), m ≠ .safe → s.portLive m.code = true → (s.own.owner = 7 ∨ s.time < s.own.hbDeadline) →
    let u := s.breakPair m
    (s.own.owner = m.code → s.own.token = token →
      exec (.ownHeartbeat m token) s = .next (u.modOwn fun o => { o with hbLast := s.time, hbInForce := s.own.hbPeriodMs, hbDeadline := s.time + s.own.hbPeriodMs * 1000000 }).settle) ∧
    (s.own.owner = m.code → s.own.token ≠ token → exec (.ownHeartbeat m token) s = .next (u.post 0x182 1 (le 1 m.code ++ le 1 0 ++ le 1 0)).settle) ∧
    (s.own.owner ≠ m.code → exec (.ownHeartbeat m token) s = .next (u.post 0x182 1 (le 1 m.code ++ le 1 0 ++ le 1 1)).settle) ∧
    (s.own.owner ≠ 7 → ∃ t, exec .heartbeatLapse s = .next t ∧ t.own.owner = 7 ∧ t.own.token = 0 ∧ t.own.lastCause = 3 ∧
      t.own.changes = s.own.changes + 1 ∧ t.time = s.own.hbDeadline) ∧
    (s.own.owner = m.code →
      exec (.ownHandoverToken m token) s = .next (u.modOwn fun o => { o with pairs := o.pairs.set m.code (some (token, s.time)) }).settle) ∧
    (s.own.owner ≠ m.code → exec (.ownHandoverToken m token) s = .next (u.post 0x182 1 (le 1 m.code ++ le 1 1 ++ le 1 1)).settle)) ∧
  (∀ (m : Master) (value : W32) (s : State) (at_ : Nat), m ≠ .safe → s.portLive m.code = true → s.own.owner = m.code → s.time < s.own.hbDeadline →
    (∀ h, s.own.handover = some h → s.time < h.deadline) → s.own.pairs.getD m.code none = some (s.own.token, at_) → s.time ≤ at_ + 1000000 →
    let k := value.toNat % 8
    (∃ t, exec (.ownRelease m) s = .next t ∧ t.own.owner = 7 ∧ t.own.lastCause = 4 ∧ t.own.changes = s.own.changes + 1 ∧ t.own.handover = none) ∧
    (k = 7 → ∃ t, exec (.ownHandover m value) s = .next t ∧ t.own.owner = 7 ∧ t.own.lastCause = 4 ∧ t.own.changes = s.own.changes + 1 ∧ t.own.handover = none) ∧
    (k ≠ m.code → s.canOwn k = true →
      exec (.ownHandover m value) s = .next ((s.breakPair m).modOwn fun o => { o with handover := some { target := k, deadline := s.time + 100000000 } }).settle) ∧
    (k ≠ 7 → (k = m.code ∨ s.canOwn k = false) →
      exec (.ownHandover m value) s = .next ((s.breakPair m).post 0x182 1 (le 1 m.code ++ le 1 1 ++ le 1 3)).settle) ∧
    (∀ h, s.own.handover = some h →
      exec .handoverExpiry s = .next ((s.timeTo h.deadline).modOwn fun o => { o with handover := none }).settle)) ∧
  (∀ (s : State),
    (s.pins.svcPresentN = true → exec (.svcPresentChange false) s = .next ((s.modPins fun p => { p with svcPresentN := false }).post 0x1580 0 []).settle) ∧
    (s.pins.svcPresentN = false → ∃ t, exec (.svcPresentChange true) s = .next t ∧ t.pins.svcPresentN = true ∧
      (s.own.owner = 2 → t.own.owner = 7 ∧ t.own.lastCause = 5) ∧ (s.own.owner ≠ 2 → t.own.owner = s.own.owner) ∧
      (∀ h, t.own.handover = some h → h.target ≠ 2) ∧ (∀ c ∈ t.own.claims, c.master ≠ 2)) ∧
    (∀ level, s.pins.svcPresentN = level → exec (.svcPresentChange level) s = .next s.settle))

/-- The owner releases ownership by writing OWN_HANDOVER with TARGET = 7 and its current token, given by its OWN_HANDOVER_TOKEN
write at most 1 ms before; in the same step ownership is vacant and the last cause is RELEASE (4) (R76). SVC writes only while
its port is present (R68). Completion: under the conditions of its clauses, which are on the state and the operands alone,
exec answers a next state for ownHandover. -/
def Obligations.ReleaseMakesOwnershipVacant : Prop :=
  ∀ (m : Master) (value : W32) (at_ : Nat) (s : State), s.portLive m.code = true → m ≠ .safe → s.own.owner = m.code → s.time < s.own.hbDeadline →
    (∀ h, s.own.handover = some h → s.time < h.deadline) → s.own.pairs.getD m.code none = some (s.own.token, at_) → s.time ≤ at_ + 1000000 →
    value.toNat % 8 = 7 → ∃ t, exec (.ownHandover m value) s = .next t ∧ t.own.owner = 7 ∧ t.own.lastCause = 4 ∧ t.time = s.time

/-- SAFE_CTRL is SAFE's (R80, R404): FORCE_SAFE_VIEW, HW_RELEASE, which stays 0 outside MAINTENANCE, and the alarm tone; of
another master the write is dropped with an event (R13). Completion: under the conditions of its clauses, which are on the
state and the operands alone, exec answers a next state for forceSafeViewSet, forceSafeViewClear, hwRelease, alarmToneOn,
alarmToneOff. -/
def Obligations.SafeControlBelongsToSafe : Prop :=
  ∀ (m : Master) (s : State),
    (m = .safe → ∃ t, exec (.forceSafeViewSet m) s = .next t ∧ t.own.forceSafeView = true ∧ t.mode.safeTrigger.isSome = true ∧ t.mode.ownerReq = none ∧ t.mode.fieldIn = none) ∧
    (m = .safe → exec (.forceSafeViewClear m) s = .next (s.modOwn fun o => { o with forceSafeView := false }).settle) ∧
    (m = .safe → exec (.hwRelease m) s = .next (s.modOwn fun o => { o with hwRelease := s.mode.mode == .maintenance }).settle) ∧
    (m = .safe → exec (.alarmToneOn m) s = .next ((s.modOwn fun o => { o with alarmTone := true }).modAud fun a =>
      { a with toneN := some (a.toneN.getD 0), toneEnding := false }).settle) ∧
    (m = .safe → exec (.alarmToneOff m) s = .next ((s.modOwn fun o => { o with alarmTone := false }).modAud fun a => { a with toneEnding := a.toneN.isSome }).settle) ∧
    (m ≠ .safe → ∀ i ∈ [Instr.forceSafeViewSet m, .forceSafeViewClear m, .hwRelease m, .alarmToneOn m, .alarmToneOff m],
      exec i s = .next (s.dropWrite m 0x1040).settle)

/-- SCENE_PRODUCER, FLIP_PRODUCER, CHURN_PRODUCER and AUDIO_PCM_PRODUCER written by the owner follow one rule, with their own
capacity and consumer count (R472): the write takes effect when V - Q ≤ C and V - P ≤ V - Q, changes nothing when V = P, and
else sets the ring's overrun flag. With its domain off the write of a flip or audio producer is logged and discarded (R15).
MB_DOORBELL (R81, R472, R88): the value of the mailbox's own master is taken under the producer rule while Taproot serves
mailboxes, a rejected one sets the mailbox's overrun flag, and another writer's is dropped. Completion: under the conditions
of its clauses, which are on the state and the operands alone, exec answers a next state for mbDoorbell, flipProducer,
audioPcmProducer. -/
def Obligations.EveryProducerFollowsOneRule : Prop :=
  (∀ (m : Master) (v : W32) (s : State), s.portLive m.code = true → s.isOwner m.code = true →
    let rule := fun (cap : Nat) (p q : W32) (i : Instr) (takes over_ : State) =>
      (v = p → exec i s = .next s.settle) ∧
      (v ≠ p → (v - q).toNat ≤ cap → (v - p).toNat ≤ (v - q).toNat → exec i s = .next takes.settle) ∧
      (v ≠ p → (cap < (v - q).toNat ∨ (v - q).toNat < (v - p).toNat) → exec i s = .next over_.settle)
    rule 256 s.scene.producer s.scene.consumed (.sceneProducer m v) (s.modScene fun x => { x with producer := v }) (s.modScene fun x => { x with overrun := true }) ∧
    (s.domOn domCMP = true → rule 256 s.layers.producer s.layers.consumed (.flipProducer m v)
      (s.modLayers fun x => { x with producer := v }) (s.modLayers fun x => { x with overrun := true })) ∧
    (s.domOn domCMP = false → exec (.flipProducer m v) s = .next (s.offAccess m domCMP 0x3F000 true).settle) ∧
    (s.domOn domAU = false → exec (.audioPcmProducer m v) s = .next (s.offAccess m domAU 0xF40 true).settle) ∧
    (∀ q, rule (s.chq q).entries (s.chq q).producer (s.chq q).completed (.churnProducer m q v) (s.modChq q fun x => { x with producer := v }) (s.modChq q fun x => { x with overrun := true })) ∧
    (s.domOn domAU = true → rule s.pcmFrames s.aud.producer s.aud.consumed (.audioPcmProducer m v)
      (s.modAud fun x => { x with producer := v }) (s.modAud fun x => { x with pcmOverrun := true }))) ∧
  (∀ (m : Master) (v : W32) (s : State), let b := s.box m.code; let w : W8 := v.setWidth 8
    (s.portLive m.code = false → ∀ k, exec (.mbDoorbell m k v) s = .next s.settle) ∧ (s.portLive m.code = true → s.tp.state = .running →
    (w ≠ b.producer → (w - b.responded).toNat ≤ 32 → (w - b.producer).toNat ≤ (w - b.responded).toNat →
      exec (.mbDoorbell m m.code v) s = .next (s.modBox m.code fun x => { x with producer := w }).settle) ∧
    (w = b.producer → exec (.mbDoorbell m m.code v) s = .next s.settle) ∧
    (w ≠ b.producer → (32 < (w - b.responded).toNat ∨ (w - b.responded).toNat < (w - b.producer).toNat) →
      exec (.mbDoorbell m m.code v) s = .next (s.modBox m.code fun x => { x with overrun := true }).settle) ∧
    (∀ k, k ≠ m.code → exec (.mbDoorbell m k v) s = .next (s.dropWrite m (0x12000 + k * 0x4000)).settle)))

/-- EVR_CONSUMER, EVR_LOST and the hold-off (R11, R83, R84): the ring's master moves its consumer forward within the producer, and
the completions it passes leave the pending count (R81); any other value changes nothing; a read of EVR_LOST returns the count
and clears it; the end of a hold-off sends the vector held off. Completion: under the conditions of its clauses, which are on
the state and the operands alone, exec answers a next state for evrConsumer, evrLostRead, eventInterruptHoldoff. -/
def Obligations.EventRingControl : Prop :=
  ∀ (m : Master) (v : W32) (s : State), let r := s.ring m.code
    (s.portLive m.code = false → ∀ k, exec (.evrConsumer m k v) s = .next s.settle ∧ exec (.evrLostRead m k) s = .next s.settle) ∧
    (s.portLive m.code = true → (v - r.consumer).toNat ≤ (r.producer - r.consumer).toNat → exec (.evrConsumer m m.code v) s = .next
      ((s.modRing m.code fun x => { x with consumer := v }).modBox m.code fun b =>
        { b with completions := b.completions.filter fun p => (v - r.consumer).toNat ≤ (p - r.consumer).toNat }).settle) ∧
    (s.portLive m.code = true → (r.producer - r.consumer).toNat < (v - r.consumer).toNat → exec (.evrConsumer m m.code v) s = .next s.settle) ∧
    (∀ k, s.portLive m.code = true → k ≠ m.code → exec (.evrConsumer m k v) s = .next (s.dropWrite m (0x28004 + k * 0x100)).settle) ∧
    (∀ k, s.portLive m.code = true → s.masterExists k = true → exec (.evrLostRead m k) s = .next
      ((s.emit (.readData m.code (le 4 (s.ring k).lost.toNat) false)).modRing k fun x => { x with lost := 0 }).settle) ∧
    (∀ k, (s.ring k).heldOff = true → exec (.eventInterruptHoldoff k) s = .next ((s.timeTo (s.ring k).holdUntil).ringVector k).settle)

/-- Operations end while Taproot runs (R96, R97): the hardware's completion has the effect the command asked for and posts the
completion event; at the limit what has not happened is given up and the event says ST_TIMEOUT with what was done. Completion:
under the conditions of its clauses, which are on the state and the operands alone, exec answers a next state for
pendingCompletion, pendingTimeout. -/
def Obligations.OperationsEnd : Prop :=
  ∀ (m : Master) (pid : Nat) (obs : Obs) (s : State) (o : PendingOp), s.tp.state = .running → s.findOp m.code pid = some o →
    let b := s.devRead (a40At o.args 0) (u32At o.args 8)
    (s.poisoned (a40At o.args 0) (u32At o.args 8) = false →
      (o.code = 0x0404 → exec (.pendingCompletion m pid obs) s = .next ((s.profileStored (byteAt o.args 16) b).complete o stOk []).settle) ∧
      (o.code = 0x0E03 → exec (.pendingCompletion m pid obs) s = .next ((s.plcStoreWave (byteAt o.args 16) b).complete o stOk []).settle) ∧
      (o.code = 0x1201 → exec (.pendingCompletion m pid obs) s = .next ((s.writeRecord o.aux b).complete o stOk []).settle) ∧
      (o.code = 0x1304 → exec (.pendingCompletion m pid obs) s = .next ((s.rotateDone b).complete o stOk []).settle)) ∧
    (s.poisoned (a40At o.args 0) (u32At o.args 8) = true → o.code = 0x1201 →
      exec (.pendingCompletion m pid obs) s = .next (s.complete o stFaulted []).settle) ∧
    (o.code = 0x1101 → byteAt o.args 0 ≠ 1 → u16At o.args 2 ≠ 0xFFFF → let k := byteAt o.args 0
      exec (.pendingCompletion m pid obs) s = .next ((s.calibrate k (u16At o.args 2) (sext 16 obs.a)).complete o stOk
        (le 2 (wrap 16 (trimClamp k (sext 16 obs.a))))).settle) ∧
    (o.code = 0x1301 → let r := s.attestReport (slice o.args 16 32)
      exec (.pendingCompletion m pid obs) s = .next ((s.devWrite (a40At o.args 0) r).complete o stOk (le 4 r.length)).settle) ∧
    (o.code ≠ 0x1303 → o.code ≠ 0x0C02 → o.code ≠ 0x0201 → let u := s.timeTo o.deadline
      exec (.pendingTimeout m pid) s = .next ((u.giveUp o).complete o stTimeout (u.progress o)).settle)

/-- Register writes (R11, R13, R84, R69): each register of an access is judged for itself; the page of a window, an event mask and
a hold-off are their master's; a status flag clears where the owner writes 1; a write of another master to a register of the
owner is dropped with its event. Device memory (R15, R69, R208): the owner's write into populated memory that nothing holds is
done, byte for byte, a write of another master is dropped with its event, and reads return what is stored with its poison
mark; where a burst lies in a channel whose controller is off, the event of R15 is posted. Completion: under the conditions of
its clauses, which are on the state and the operands alone, exec answers a next state for bar2Write, bar2Read, registerWrite. -/
def Obligations.RegisterAndMemoryAccess : Prop :=
  (∀ (m : Master) (v : W32) (s : State), (s.portLive m.code = false → ∀ off vs, exec (.registerWrite m off vs) s = .next s.settle) ∧ (s.portLive m.code = true →
    (∀ off rest, exec (.registerWrite m off (v :: rest)) s = .next ((s.writeReg m off v).writeRegs m (off + 4) rest).settle) ∧
    (2 ≤ m.code → exec (.registerWrite m 0x80 [v]) s = .next (s.modCtl fun c =>
      { c with ports := c.ports.modify (m.code - 2) fun p => { p with page := v.setWidth 16 } }).settle) ∧
    (exec (.registerWrite m (0x28008 + m.code * 0x100) [v]) s = .next (s.modRing m.code fun r => { r with mask := v &&& 0x3FFFFF }).settle) ∧
    (exec (.registerWrite m (0x28010 + m.code * 0x100) [v]) s = .next (s.modRing m.code fun r => { r with holdoff := v.setWidth 16 }).settle) ∧
    (s.isOwner m.code = true → exec (.registerWrite m 0x40 [v]) s = .next (s.modPwr fun p => { p with resetCause := p.resetCause &&& ~~~(v &&& 0x1FF) }).settle) ∧
    (s.isOwner m.code = false → ∀ off ∈ [0x40, 0xF48, 0x3F008, 0x4F008, 0x50008],
      exec (.registerWrite m off [v]) s = .next (s.dropWrite m off).settle))) ∧
  (∀ (m : Master) (addr : Nat) (data : List W8) (s : State), s.portLive m.code = true → data ≠ [] →
    (s.isOwner m.code = true → s.inMemory addr data.length = true → s.permanent addr data.length = none → s.held addr data.length = false →
      s.firstOff addr data.length = none →
      exec (.bar2Write m addr data) s = .next (s.devWrite addr data).settle) ∧
    (s.isOwner m.code = false → ∃ t, exec (.bar2Write m addr data) s = .next t ∧ t.mem = s.mem ∧ t.cellar = s.cellar ∧ t.win = s.win ∧
      t.own = s.own ∧ t.mode = s.mode) ∧
    (s.isOwner m.code = true → s.inMemory addr data.length = true → s.permanent addr data.length = none → s.held addr data.length = true →
      s.leases.allow = false → ∃ t, exec (.bar2Write m addr data) s = .next t ∧ t.mem = s.mem ∧ t.cellar = s.cellar) ∧
    (∀ n, m.code < 2 → s.firstOff addr n = none →
      exec (.bar2Read m addr n) s = .next (s.emit (.readData m.code (s.devRead addr n) (s.poisoned addr n))).settle) ∧
    (∀ n b d, m.code < 2 → s.firstOff addr n = some (b, d) →
      exec (.bar2Read m addr n) s = .next ((s.offAccess m d b false).emit (.readData m.code (s.devReadOn addr n) (s.poisoned addr n))).settle))

/-- The frames of the SVC port (R70): nothing answers while SVC_PRESENT_N is high; a WRITE of one word and a READ of one word act
on the window address after the opcode, and a STATUS frame returns the status byte, whose bits 1 to 3 clear; in the byte
positions of opcode, address, dummy and written data SVC_MISO carries 0. The transactions of the SAFE port (R70, R71, R463):
with its PEC right a WRITE of one word, a READ of one word and a STATUS read act, every byte of them acknowledged; the
device's PEC covers addr+R and the data; a wrong PEC discards the whole write and sets PEC_ERR. The test access port (R464,
Table 18.10): its reset selects IDCODE, an instruction scan keeps its opcode, and a data scan shifts the register of the
instruction in force. Completion: under the conditions of its clauses, which are on the state and the operands alone, exec
answers a next state for spiWriteFrame, spiReadFrame, spiStatusFrame, twoWireWrite, twoWireRead, twoWireStatus,
safeSclTimeout, testAccessPortOperation. -/
def Obligations.SerialPorts : Prop :=
  (∀ (a : Nat) (d : List W8) (s : State), a < 2 ^ 32 → d.length = 4 →
    (s.pins.svcPresentN = true → exec (.spiWriteFrame (2 :: (le 4 a ++ d))) s = .next s.settle ∧
      exec (.spiReadFrame (0x0B :: le 4 a) 1 []) s = .next s.settle ∧ exec .spiStatusFrame s = .next s.settle) ∧
    (s.pins.svcPresentN = false → exec (.spiWriteFrame (2 :: (le 4 a ++ d))) s = .next ((s.winWrite .svc a d).emit (.spi (List.replicate 9 0))).settle) ∧
    (s.pins.svcPresentN = false →
      let r := s.winRead .svc a
      let q := r.2.winRead .svc ((a + 4) % 2 ^ 32)
      exec (.spiReadFrame (0x0B :: le 4 a) 1 []) s = .next (q.2.emit (.spi (List.replicate 13 0 ++ (r.1 ++ q.1).take 4))).settle) ∧
    (s.pins.svcPresentN = false → exec .spiStatusFrame s = .next ((s.readStatus .svc).2.emit (.spi (0 :: le 1 (s.readStatus .svc).1))).settle)) ∧
  (∀ (a : Nat) (d : List W8) (s : State), a < 2 ^ 32 → d.length = 4 →
    let w : Bytes := 2 :: (le 4 a ++ d)
    let r : Bytes := 0x0B :: le 4 a
    (exec (.twoWireWrite (w ++ [pec (0x94 :: w)])) s = .next ((s.acks 9 true).winWrite .safe a d).settle) ∧
    (∀ p, p ≠ pec (0x94 :: w) → ∃ t, exec (.twoWireWrite (w ++ [p])) s = .next t ∧ t.mem = s.mem ∧ t.own = s.own ∧ t.win = s.win ∧
      (s.ctl.ports.length = 2 → (t.ctl.ports.getD 1 {}).pecErr = true)) ∧
    (let q := (s.acks 6 true).winRead .safe a;
      exec (.twoWireRead (r ++ [pec (0x94 :: r)]) 1 []) s = .next (q.2.emit (.twoWire (q.1 ++ [pec (0x95 :: q.1)]))).settle) ∧
    (let q := (s.acks 2 true).readStatus .safe;
      exec (.twoWireStatus [5, pec [0x94, 5]]) s = .next (q.2.emit (.twoWire (le 1 q.1 ++ [pec (0x95 :: le 1 q.1)]))).settle) ∧
    (exec (.safeSclTimeout false) s = .next s.settle) ∧ (exec (.safeSclTimeout true) s = .next (s.pecError 2 0).settle)) ∧
  (∀ (s : State),
    (exec (.testAccessPortOperation .reset) s = .next (s.modTap fun t => { t with ir := 1 }).settle) ∧
    (∀ op, exec (.testAccessPortOperation (.ir op)) s = .next (s.modTap fun t => { t with ir := op }).settle) ∧
    (∀ bits, exec (.testAccessPortOperation (.dr bits)) s = .next (s.tapShift bits).settle) ∧
    (∀ addr data, s.tapVendor = true → exec (.testAccessPortOperation (.vendor true 1 addr data)) s = .next (s.devWrite addr (le 4 data.toNat)).settle))

/-- A producer, a commit or a Churn abort written by a master that is not the owner, and a Heartwood register written by a master
other than SAFE, is dropped with its event (R13, R262); through a port that is not there nothing happens (R67, R68).
Completion: under the conditions of its clauses, which are on the state and the operands alone, exec answers a next state for
hwPortData, hwCommit, hwRefresh, flipProducer, dispCommit, sceneProducer, churnProducer, churnAbortWrite, audioPcmProducer. -/
def Obligations.ForeignWritesAreDropped : Prop :=
  ∀ (m : Master) (v : W32) (q : Nat) (s : State),
    (s.portLive m.code = false → ∀ i ∈ [Instr.sceneProducer m v, .flipProducer m v, .dispCommit m v, .churnProducer m q v, .churnAbortWrite m q v,
      .audioPcmProducer m v, .hwPortData m v, .hwCommit m v, .hwRefresh m v, .hwFrameRead m], exec i s = .next s.settle) ∧
    (s.portLive m.code = true → s.isOwner m.code = false →
      exec (.sceneProducer m v) s = .next (s.dropWrite m 0x4F000).settle ∧ exec (.flipProducer m v) s = .next (s.dropWrite m 0x3F000).settle ∧
      exec (.dispCommit m v) s = .next (s.dropWrite m 0x3F00C).settle ∧ exec (.churnProducer m q v) s = .next (s.dropWrite m (0x50000 + 0x100 * q)).settle ∧
      exec (.churnAbortWrite m q v) s = .next (s.dropWrite m (0x5000C + 0x100 * q)).settle ∧ exec (.audioPcmProducer m v) s = .next (s.dropWrite m 0xF40).settle) ∧
    (s.portLive m.code = true → m ≠ .safe →
      exec (.hwPortData m v) s = .next (s.dropWrite m 0x10C4).settle ∧ exec (.hwCommit m v) s = .next (s.dropWrite m 0x10C8).settle ∧
      exec (.hwRefresh m v) s = .next (s.dropWrite m 0x10CC).settle)

/-- Heartwood content and commits (R262, R263): a word goes into the staging bank of both copies and the port address moves to the
next word of the bank; a commit whose geometry passes waits for the latch point, one that does not leaves its REJECT_REASON;
while a commit is pending SAFE's writes are discarded; the copy of the new bank ends the commit. The Heartwood age (R262,
R264, R265): a refresh that equals the CRC of one of the two newest reports restarts the age, any other is dropped; a read of
HW_FRAME answers the newest report's frame and captures its CRC and status for the reader; when the age passes AGE_MS the
content is stale, SAFE_OK falls and one event is posted. Completion: under the conditions of its clauses, which are on the
state and the operands alone, exec answers a next state for hwPortData, hwCommit, hwBankCopyDone, hwRefresh, hwFrameRead,
heartwoodAgeExpiry. -/
def Obligations.HeartwoodLayer : Prop :=
  (∀ (v : W32) (s : State),
    (s.hw.stage = .idle →
      let a := s.hw.portAddr.toNat
      exec (.hwPortData .safe v) s = .next (s.modHw fun h => { h with
        copies := h.copies.map fun c => { c with bytes := memWrite c.bytes (2 ^ 21 * (1 - h.bank) + a / 4 % 2 ^ 19 * 4) (le 4 v.toNat) },
        portAddr := BitVec.ofNat 32 (a / 2 ^ 21 * 2 ^ 21 + (a / 4 + 1) % 2 ^ 19 * 4 + a % 4) }).settle) ∧
    (s.hw.stage = .idle → v.getLsbD 0 = true →
      ((∀ r < 4, s.hwRectReason s.hw.regs r = none) →
        exec (.hwCommit .safe v) s = .next (s.modHw fun h => { h with stage := .waitLatch, nextGeom := h.regs }).settle) ∧
      (∀ r k, r < 4 → s.hwRectReason s.hw.regs r = some k → (∀ j < r, s.hwRectReason s.hw.regs j = none) →
        exec (.hwCommit .safe v) s = .next (s.modHw fun h => { h with rejectReason := k }).settle)) ∧
    (s.hw.stage ≠ .idle → exec (.hwPortData .safe v) s = .next s.safeDropped.settle ∧
      (v.getLsbD 0 = true → exec (.hwCommit .safe v) s = .next s.safeDropped.settle)) ∧
    (s.hw.stage = .copying → ∃ t, exec .hwBankCopyDone s = .next t ∧ t.hw.stage = .idle ∧ t.hw.bank = s.hw.bank ∧ t.hw.geom = s.hw.geom)) ∧
  (∀ (m : Master) (crc : W32) (s : State),
    ((∃ r ∈ s.hw.reports, r.crc = crc) → exec (.hwRefresh .safe crc) s = .next (s.modHw fun h =>
      { h with ageFrom := h.ageFrom.map fun _ => s.time, stale := false }).settle) ∧
    ((∀ r ∈ s.hw.reports, r.crc ≠ crc) → exec (.hwRefresh .safe crc) s = .next (s.dropWrite .safe 0x10CC).settle) ∧
    (∀ r rest, s.portLive m.code = true → s.hw.reports = r :: rest → exec (.hwFrameRead m) s = .next
      ((s.modHw fun h => { h with captured := h.captured.set m.code (r.crc, r.panelMatch, r.slipped) }).emit (.readData m.code (le 4 r.frame.toNat) false)).settle) ∧
    (s.portLive m.code = true → s.hw.reports = [] → exec (.hwFrameRead m) s = .next (s.emit (.readData m.code (le 4 0) false)).settle) ∧
    (∀ t0, s.hw.ageFrom = some t0 → s.hw.stale = false → ∃ t, exec .heartwoodAgeExpiry s = .next t ∧ t.hw.stale = true ∧
      t.time = max (t0 + s.hw.ageMs * 1000000 + 1) s.time ∧ t.pins.safeOk = false))

/-- DISP_COMMIT and the flip ring (R15, R248, R249, R250): a commit of the owner without a reason against it is accepted, one with
a reason leaves REASON and layer and raises vector 4; a flip entry puts its buffers into the shadows, commits when it says so,
and gets its outcome in bytes 56 to 63, and CONSUMED moves past it. Completion: under the conditions of its clauses, which are
on the state and the operands alone, exec answers a next state for flipEntryConsume, dispCommit. -/
def Obligations.CommitsAndFlips : Prop :=
  ∀ (m : Master) (v : W32) (s : State), (s.portLive m.code = true → s.isOwner m.code = true → s.domOn domCMP = false →
      exec (.dispCommit m v) s = .next (s.offAccess m domCMP 0x3F00C true).settle) ∧ (s.domOn domCMP = true →
    (s.portLive m.code = true → s.isOwner m.code = true → v.getLsbD 0 = true →
      (s.commitReason = none → exec (.dispCommit m v) s = .next (s.accept (v.toNat / 256 % 256) false).settle) ∧
      (∀ r l, s.commitReason = some (r, l) → exec (.dispCommit m v) s = .next
        ((s.modLayers fun x => { x with rejected := true, lastReason := r, lastLayer := l }).ownerVector 4).settle)) ∧
    (s.portLive m.code = true → s.isOwner m.code = true → v.getLsbD 0 = false → exec (.dispCommit m v) s = .next s.settle) ∧
    (s.layers.producer ≠ s.layers.consumed → s.flipWaits = false →
      let a := flipEntryAddr s.layers.consumed.toNat
      let e := memRead s.win a 64
      let u := (s.flipBuffers e).modLayers fun x => { x with maskSince := x.maskSince ||| e.getD 1 0 }
      let outcome := fun (b : Bytes) (x : State) => ((x.modWin fun w => memWrite w (a + 56) b).modLayers fun y => { y with consumed := y.consumed + 1 }).settle
      (flipEntryBad e = true → exec .flipEntryConsume s = .next (outcome (le 4 0 ++ [3, 0, 0xFF, 0]) s)) ∧
      (flipEntryBad e = false → bit (byteAt e 0) 0 = false → exec .flipEntryConsume s = .next (outcome (le 4 0 ++ [0, 0, 0xFF, 0]) u)) ∧
      (flipEntryBad e = false → bit (byteAt e 0) 0 = true → u.commitReason = none →
        let x := u.accept 0 (bit (byteAt e 0) 1)
        exec .flipEntryConsume s = .next (outcome (le 4 x.layers.last ++ [1, 0, 0xFF, 0]) x)) ∧
      (flipEntryBad e = false → bit (byteAt e 0) 0 = true → ∀ r l, u.commitReason = some (r, l) →
        exec .flipEntryConsume s = .next (outcome (le 4 0 ++ [2, BitVec.ofNat 8 r, BitVec.ofNat 8 l, 0])
          ((u.modLayers fun y => { y with rejected := true, lastReason := r, lastLayer := l }).ownerVector 4)))) ∧
    ((s.layers.producer = s.layers.consumed ∨ s.flipWaits = true) → exec .flipEntryConsume s = .next s.settle))

/-- The boot sequences (R43, R44, R58, R60, R62): power first leaves the device waiting for PWR_OK; its rise, a released
SYS_RST_N, the release of SYS.RESET and a returned supply are cold boots, each with its cause; CORE_PG raises SDS_EN and
MEM_EN; a power-good that misses its deadline takes every rail down and is tried again after 1 s, at most twice. The ROM
(R437, R439): with TP and SEC on it ends the power sequence and starts the preferred slot, else the other one, and with
neither usable stays in recovery with every domain that needs firmware off. Completion: under the conditions of its clauses,
which are on the state and the operands alone, exec answers a next state for sysResetRelease, firstPower, pwrOkRise,
corePgRise, powerGoodDeadline, railRetryTimer, powerReturnRestart, sysRstNRelease, romBoot. -/
def Obligations.BootAndRom : Prop :=
  (∀ (s : State),
    (∃ t, exec .firstPower s = .next t ∧ t.pwr.phase = .waitPwrOk ∧ t.pins.pwrOk = false ∧ t.pwr.resetCause = 1 ∧ t.time = 0 ∧ t.own.owner = 7 ∧ AllEnablesLow t ∧ t.nvm.recs = s.nvm.recs) ∧
    (∀ split, s.pins.pwrOk = false → s.pwr.phase = .waitPwrOk → s.pins.sysRstN = true → ∃ t, exec (.pwrOkRise split) s = .next t ∧ Booted s t s.pwr.resetCause ∧
      t.time = 0 ∧ t.pins.pwrOk = true ∧ t.pwr.linkSplit = split) ∧
    (∀ split, s.pins.pwrOk = false → s.pwr.phase ≠ .waitPwrOk → ∃ t, exec (.pwrOkRise split) s = .next t ∧ t.pwr.phase = s.pwr.phase ∧ t.pwr.linkSplit = split ∧
      t.pins.pwrOk = true ∧ t.time = 0) ∧
    (∀ split, s.pins.pwrOk = true → exec (.pwrOkRise split) s = .next s.settle) ∧
    (s.pwr.phase = .heldReset → ∃ t, exec .sysRstNRelease s = .next t ∧ Booted s t (2 ||| s.pwr.resetCause) ∧ t.pins.sysRstN = true) ∧
    (s.pwr.phase = .softReset → s.pins.sysRstN = true → ∃ t, exec .sysResetRelease s = .next t ∧ Booted s t 16 ∧ t.time = s.time + 1000000) ∧
    (s.pwr.phase = .softReset → s.pins.sysRstN = false → ∃ t, exec .sysResetRelease s = .next t ∧ t.pwr.phase = .heldReset ∧ t.pins.coreEn = s.pins.coreEn) ∧
    (∀ split, s.pwr.phase = .lossWait → s.pins.sysRstN = true → ∃ t, exec (.powerReturnRestart split) s = .next t ∧ t.mode.mode = .boot ∧ t.own.owner = 7 ∧
      t.pwr.phase = .waitCore ∧ t.pins.coreEn = true ∧ t.pins.pwrOk = true ∧ t.pwr.resetCause.getLsbD 5 = true ∧ t.nvm.lossMarker = none ∧
      t.nvm.recs = s.nvm.recs ∧ (s.pins.pwrOk = false → t.pwr.linkSplit = split)) ∧
    (∀ split, s.pwr.phase = .trip → ∃ t, exec (.powerReturnRestart split) s = .next t ∧ t.pwr.phase = .trip ∧ t.pwr.lossSeq = false ∧
      t.pwr.resetCause = s.pwr.resetCause ||| 32) ∧
    (s.pwr.phase = .waitCore → ∃ t, exec .corePgRise s = .next t ∧ t.pwr.phase = .waitSds ∧ t.pins.corePg = true ∧ t.pins.sdsEn = true ∧ t.pins.memEn = true) ∧
    (∀ rail, (s.pwr.phase = .waitCore ∧ rail = 0) ∨ ((s.pwr.phase = .waitSds ∨ s.pwr.phase = .run) ∧ s.time ≤ s.pwr.deadline ∧
        ((rail = 1 ∧ s.pins.sdsPg = false) ∨ (rail = 2 ∧ s.pins.memPg = false))) →
      ∃ t, exec (.powerGoodDeadline rail) s = .next t ∧ t.pins.coreEn = false ∧ t.pins.sdsEn = false ∧ t.pins.memEn = false ∧
        t.pwr.resetCause = s.pwr.resetCause ||| 64 ∧ t.pwr.attempts = s.pwr.attempts + 1 ∧
        t.pwr.phase = (if 2 ≤ s.pwr.attempts then .railFailed else .retryWait)) ∧
    (s.pwr.phase = .retryWait → ∃ t, exec .railRetryTimer s = .next t ∧ t.pwr.phase = .waitCore ∧ t.pins.coreEn = true ∧ t.pwr.attempts = s.pwr.attempts)) ∧
  (∀ (s : State), (s.tp.state = .off ∨ s.tp.state = .rom) → s.domOn domTP = true → s.domOn domSEC = true → ∃ t, exec .romBoot s = .next t ∧
    t.pwr.phase = .run ∧ t.pwr.attempts = 0 ∧ (t.tp.state = .running ∨ t.tp.state = .recovery) ∧
    (t.tp.state = .running → t.tp.ready = false) ∧
    t.own.owner = s.own.owner ∧ (t.tp.state = .recovery → t.own = s.own))

/-- Losses and resets (R56, R57, R60): an abrupt loss runs its sequence, writes the power-loss marker and waits, and marks the
rail failure where a power-good fell with its enable high; a fall with the enable low, and a trigger in DORMANT, start none;
in the trip state only the marker is written; SYS_RST_N low runs it without a marker; a brown-out resets the whole device with
no sequence (that PWR_OK ends its wait: log 50). Wake and PERST (R55, R61): in DORMANT with PWR_OK high, WAKE_N low and the
rise of a link's PERST are cold boots with cause WAKE, link B's only with LINK_SPLIT 1; one before DORMANT is reached is held
with its time; a low PERST resets its host half alone. Completion: under the conditions of its clauses, which are on the state
and the operands alone, exec answers a next state for abruptLossTrigger, brownout, sysRstNLow, wakeNLow, perstRise, perstLow. -/
def Obligations.LossesAndWake : Prop :=
  (∀ (s : State),
    (∀ trigger, s.pwr.phase.lossRuns = true → (trigger = 3 → s.pins.coreEn = true) → ∃ t, exec (.abruptLossTrigger trigger) s = .next t ∧ AllEnablesLow t ∧ t.pwr.phase = .lossWait ∧
      t.pwr.lossSeq = true ∧ t.nvm.lossMarker.isSome = true ∧
      t.pwr.resetCause = (if trigger = 3 then s.pwr.resetCause ||| 64 else s.pwr.resetCause)) ∧
    (s.pwr.phase ≠ .trip → s.pins.coreEn = false → exec (.abruptLossTrigger 3) s = .next (s.modPins fun p => { p with corePg := false }).settle) ∧
    (∀ trigger, s.pwr.phase = .trip → ∃ t, exec (.abruptLossTrigger trigger) s = .next t ∧ t.pwr.phase = .trip ∧ t.pwr.lossSeq = true ∧ t.nvm.lossMarker.isSome = true) ∧
    (∀ trigger, s.pwr.phase = .dormant → ∃ t, exec (.abruptLossTrigger trigger) s = .next t ∧ t.pwr = s.pwr ∧ t.nvm = s.nvm) ∧
    (s.pwr.phase.up = true → ∃ t, exec .sysRstNLow s = .next t ∧ AllEnablesLow t ∧ t.pwr.phase = .heldReset ∧ t.pins.sysRstN = false ∧
      t.nvm.lossMarker = s.nvm.lossMarker) ∧
    (s.pwr.phase = .dormant → ∃ t, exec .sysRstNLow s = .next t ∧ t.pwr.phase = .heldReset ∧ t.pwr.resetCause = 2 ∧ t.pins.sysRstN = false) ∧
    (s.pwr.phase.up = false → s.pwr.phase ≠ .dormant → exec .sysRstNLow s = .next (s.modPins fun p => { p with sysRstN := false }).settle) ∧
    (∃ t, exec .brownout s = .next t ∧ AllEnablesLow t ∧ t.pwr.phase = .waitPwrOk ∧ t.pwr.resetCause = 4 ∧ t.own.owner = 7 ∧ t.pins.pwrOk = false)) ∧
  (∀ (split : Bool) (s : State),
    (s.pwr.phase = .dormant → s.pins.pwrOk = true → s.nvm.lossMarker = none →
      (∃ t, exec (.wakeNLow split) s = .next t ∧ Booted s t 128 ∧ t.pwr.linkSplit = split ∧ t.pins.wakeN = false) ∧
      (s.perstHigh 0 = false → ∃ t, exec (.perstRise 0 split) s = .next t ∧ Booted s t 128 ∧ t.pins.perstAN = true) ∧
      (s.perstHigh 1 = false → s.pwr.linkSplit = false → exec (.perstRise 1 split) s = .next (s.modPins fun p => { p with perstBN := true }).settle)) ∧
    (s.pwr.phase ≠ .dormant → s.mode.thenDormant = true → ∃ t, exec (.wakeNLow split) s = .next t ∧ t.pwr.wakeHeld = some (s.time, split) ∧ t.pwr.phase = s.pwr.phase) ∧
    (∃ t, exec (.perstLow 0) s = .next t ∧ t.pins.perstAN = false ∧ t.own = s.own ∧ t.mode = s.mode ∧ t.mem = s.mem ∧ t.pwr = s.pwr) ∧
    (s.pwr.linkSplit = false → exec (.perstLow 1) s = .next (s.modPins fun p => { p with perstBN := false }).settle))

/-- Power domains (R49, R50, R51): a request switches a domain that is not switching, in the time of Table 2.7, when the start
limit allows; one during a switch is held, and the domain that switches off takes no access meanwhile; a completed switch-on
leaves it on and a completed switch-off off. AVS, droop and the governor (R35, R36, R37, R46, R47, R416): an update that needs
more, or that finds an island stretched too often, raises a rail by one 5 mV step, at most to 850 mV; one that needs at least
a step less lowers it, unless a clock cap is in force; a frozen rail stays; at 850 mV every failing island of the rail that
runs loses a frequency step; a droop beyond the threshold counts one stretch; power above the limit caps and steps down (the
floor of 27 steps: log 50), time below 85 % of it is kept, and self-heating is regulated by the clock (log 59). Completion:
under the conditions of its clauses, which are on the state and the operands alone, exec answers a next state for
domainSwitchRequest, domainQueuedStart, domainOnComplete, domainOffComplete, avsUpdate, droopDetect, governorPeriod. -/
def Obligations.DomainsAndPower : Prop :=
  (∀ (d reason : Nat) (s : State), s.tp.state = .running → s.hasDomain d = true → s.pins.coreEn = true → d < s.pwr.domains.length →
    ((s.dom d).switching = none → (s.dom d).queued = false → (s.dom d).on = false → s.pwr.startQueue = [] → s.startAllowed d = true →
      ∃ t, exec (.domainSwitchRequest d true reason) s = .next t ∧ (t.dom d).switching = some (true, s.time + domOnUs d * 1000) ∧ (t.dom d).on = false) ∧
    ((s.dom d).switching = none → (s.dom d).queued = false → (s.dom d).on = false → (s.pwr.startQueue ≠ [] ∨ s.startAllowed d = false) →
      ∃ t, exec (.domainSwitchRequest d true reason) s = .next t ∧ (t.dom d).queued = true ∧ t.pwr.startQueue = s.pwr.startQueue ++ [(d, reason)]) ∧
    ((s.dom d).switching = none → (s.dom d).queued = false → (s.dom d).on = true → s.domNeeded d = false →
      ∃ t, exec (.domainSwitchRequest d false reason) s = .next t ∧ (t.dom d).switching = some (false, s.time + domOffUs d * 1000) ∧ t.domOn d = false) ∧
    (∀ x on, (s.dom d).switching = some x → (on = true ∨ s.domNeeded d = false) →
      ∃ t, exec (.domainSwitchRequest d on reason) s = .next t ∧ (t.dom d).held = some (on, reason) ∧ (t.dom d).switching = some x) ∧
    (∀ t0, (s.dom d).switching = some (true, t0) → (s.dom d).held = none → ∃ t, exec (.domainOnComplete d) s = .next t ∧ t.domOn d = true ∧ (t.dom d).switching = none ∧
      (29 ≤ d → d < 47 → t.pins.sdsPg = true) ∧ (17 ≤ d → d < 29 → t.pins.memPg = true)) ∧
    (∀ t0, (s.dom d).switching = some (false, t0) → (s.dom d).held = none → ∃ t, exec (.domainOffComplete d) s = .next t ∧ t.domOn d = false ∧ (t.dom d).switching = none) ∧
    (∀ r rest, s.pwr.startQueue = (d, r) :: rest → ∃ t, exec .domainQueuedStart s = .next t ∧ t.pwr.startQueue = rest ∧ (t.dom d).queued = false ∧
      (t.dom d).switching = some (true, t.time + domOnUs d * 1000)) ∧
    (s.pwr.startQueue = [] → exec .domainQueuedStart s = .next s.settle)) ∧
  (∀ (s : State), s.pwr.phase = .run →
    (∀ r need, r < 2 → (s.rail r).frozen = false → (s.rail r).mv < need → (s.rail r).mv < 850 →
      ∃ t, exec (.avsUpdate r need true []) s = .next t ∧ (t.rail r).mv = min 850 ((s.rail r).mv + 5) ∧ t.rail (1 - r) = s.rail (1 - r)) ∧
    (∀ r d need, r < 2 → (s.rail r).frozen = false → d < 59 → onRail r d = true → 16 < (s.dom d).stretchPeriod →
      ∃ t, exec (.avsUpdate r need true []) s = .next t ∧ (t.rail r).mv = min 850 ((s.rail r).mv + 5) ∧ (t.dom d).stretchPeriod = 0) ∧
    (∀ r need, r < 2 → (s.rail r).frozen = false → need + 5 ≤ (s.rail r).mv → s.gov.cap = false → (∀ d < 59, onRail r d = true → (s.dom d).stretchPeriod ≤ 16) →
      ∃ t, exec (.avsUpdate r need true []) s = .next t ∧ (t.rail r).mv = max (if r = 0 then 550 else 600) ((s.rail r).mv - 5)) ∧
    (∀ r need ack failing, r < 2 → (s.rail r).frozen = true → ∃ t, exec (.avsUpdate r need ack failing) s = .next t ∧ t.rail r = s.rail r) ∧
    (∀ r d need, r < 2 → (s.rail r).frozen = false → (s.rail r).mv = 850 → 850 < need → (s.rail r).naks = 0 → (s.rail r).mismatches < 4 → onRail r d = true →
      s.domOn d = true → ∃ t, exec (.avsUpdate r need true [d]) s = .next t ∧ (t.dom d).freqSteps = (s.dom d).freqSteps + 1) ∧
    (∀ d mv, s.domOn d = true → d < s.pwr.domains.length → s.pwr.droopMv < mv → ∃ t, exec (.droopDetect d mv) s = .next t ∧
      (t.dom d).stretchPeriod = (s.dom d).stretchPeriod + 1 ∧ t.time = s.time) ∧
    (∀ d mv, mv ≤ s.pwr.droopMv → exec (.droopDetect d mv) s = .next s.settle) ∧
    (∀ measured, s.powerLimit * 10 < measured → ∃ t, exec (.governorPeriod measured) s = .next t ∧ t.gov.measured = measured ∧ t.gov.cap = true ∧
      t.gov.capSteps = min 27 (s.gov.capSteps + 1) ∧ t.gov.exceeded = true) ∧
    (∀ measured, measured ≤ s.powerLimit * 10 → s.hk.selfHeating = false → ∃ t, exec (.governorPeriod measured) s = .next t ∧ t.gov.measured = measured ∧
      t.gov.capSteps = s.gov.capSteps ∧ (measured * 100 < 85 * (s.powerLimit * 10) ↔ t.gov.belowSince.isSome = true)) ∧
    (∀ measured, measured ≤ s.powerLimit * 10 → s.hk.selfHeating = true → ∃ t, exec (.governorPeriod measured) s = .next t ∧ t.gov.measured = measured ∧
      t.gov.capSteps = (if s.heatLimit < measured then min 27 (s.gov.capSteps + 1) else s.gov.capSteps - 1)))

/-- Watchdog expiry, restart and READY (R62, R88, R89, R451): the first expiries restart the running image and count, with the
commands it held answered; a restarted image runs again; READY is marked once. A live update (R89, R451): at the end of the
drain what is still pending completes with ST_UPDATING; the new image takes over when its slot is usable; READY completes the
activation, and without it the old image comes back. Completion: under the conditions of its clauses, which are on the state
and the operands alone, exec answers a next state for taprootWdtExpiry, taprootRestarted, liveUpdateDrainTimeout,
liveUpdateRestart, taprootReady, activationReadyTimeout. -/
def Obligations.TaprootFirmware : Prop :=
  (∀ (s : State),
    (s.tp.state = .running → s.domOn domTP = true → s.opOn 0x1303 = false → (s.tp.wdtTimes.filter fun t => s.time < t + 600000000000).length < 3 →
      ∃ t, exec .taprootWdtExpiry s = .next t ∧ t.tp.state = .restarting ∧ t.tp.restartCause = 1 ∧ t.tp.slot = s.tp.slot ∧ t.ctl.executing = [] ∧
        t.pwr.wdtCount = satInc s.pwr.wdtCount ∧ t.pwr.resetCause = s.pwr.resetCause ||| 0x100) ∧
    (s.tp.state = .restarting → s.tp.restartCause ≠ 0 → ∃ t, exec .taprootRestarted s = .next t ∧ t.tp.state = .running ∧ t.tp.deadline = none) ∧
    (s.tp.state = .running → s.tp.ready = false → ∃ t, exec .taprootReady s = .next t ∧ t.tp.ready = true ∧ t.tp.state = .running) ∧
    (s.tp.state = .running → s.tp.ready = true → exec .taprootReady s = .next s.settle)) ∧
  (∀ (s : State),
    (s.tp.state = .draining → ∃ t, exec .liveUpdateDrainTimeout s = .next t ∧ (∀ o ∈ t.ctl.pendingOps, o.code = 0x1303) ∧ t.tp.state = .draining) ∧
    (s.tp.state = .draining → s.ctl.executing = [] → (∀ o ∈ s.ctl.pendingOps, o.code = 0x1303) → ∃ t, exec .liveUpdateRestart s = .next t ∧
      t.tp.state = .restarting ∧ (t.tp.restartCause = 0 ∨ t.tp.restartCause = 2)) ∧
    (s.tp.state = .restarting → s.opOn 0x1303 = true → s.tp.restartCause = 0 →
      (∃ t, exec .taprootReady s = .next t ∧ t.tp.state = .running ∧ t.tp.ready = true ∧ t.opOn 0x1303 = false) ∧
      (∃ t, exec .activationReadyTimeout s = .next t ∧ t.tp.state = .restarting ∧ t.tp.restartCause = 2 ∧ t.tp.slot = s.tp.oldSlot)))

/-- The latch point (R22, R250 to R252, R271, R277): with panel and compositor there and no blocking hold it ends the frame and
latches the next one, keeps what a compositor restart takes up again, and a changed lane rate, like a new panel on a running
link, starts its hold and latches nothing; without them it does nothing. The retire fence (R201, R205, R252): commits that a
later one has replaced retire, and holds that end there are released. The relink (R277): no training within 50 ms, or too few
lanes for the new LINE_NS, leaves the old rate to be trained again; training that suffices is followed by the latch point at
the next slot boundary; back at the old rate the command completes with ST_TIMEOUT. Completion: under the conditions of its
clauses, which are on the state and the operands alone, exec answers a next state for latchPoint, retireFence,
relinkTrainingDone, relinkTimeout. -/
def Obligations.LatchPoints : Prop :=
  (∀ (s : State),
    (s.disp.sched = true → s.disp.panel.isSome = true → s.domOn domCMP = true → s.latchBlocked = false →
      let u := s.toLatch
      ((u.mode.thenDormant && u.mode.mode == .safeView) = false → u.relinkDue = false → u.disp.panelNext = none →
        ∃ t, exec .latchPoint s = .next t ∧ t = u.flushFrame.latchTaken.settle ∧ t.disp.timing = u.flushFrame.latchTaken.disp.timing ∧
          t.pnl.mirror = some (t.layers.force, t.disp.timing, t.disp.frame, t.disp.panel, t.layers.capture)) ∧
      ((u.mode.thenDormant && u.mode.mode == .safeView) = false → u.relinkDue = false → u.disp.panelNext.isSome = true → u.scan.hold.isSome = true →
        exec .latchPoint s = .next u.nextSlot.flushFrame.latchTaken.settle) ∧
      ((u.mode.thenDormant && u.mode.mode == .safeView) = false → u.relinkDue = false → u.disp.panelNext.isSome = true → u.scan.hold = none →
        u.disp.running = true → ∃ t, exec .latchPoint s = .next t ∧ t.scan.hold = some (2, u.time) ∧ t.disp = u.disp ∧ t.mode = u.mode) ∧
      ((u.mode.thenDormant && u.mode.mode == .safeView) = false → u.relinkDue = true → ∃ t, exec .latchPoint s = .next t ∧
        t.scan.relink = some (u.disp.timing, u.time) ∧ t.disp.timing.laneRate = (u.disp.timingNext.getD u.disp.timing).laneRate) ∧
      ((u.mode.thenDormant && u.mode.mode == .safeView) = true → ∃ t, exec .latchPoint s = .next t ∧ t = u.flushFrame.enterDormant.settle)) ∧
    ((s.disp.sched = false ∨ s.disp.panel = none ∨ s.domOn domCMP = false ∨ s.latchBlocked = true) → exec .latchPoint s = .next s.settle)) ∧
  (∀ (s : State), ∃ t, exec .retireFence s = .next t ∧ t.layers.retiring = [] ∧ t.leases.ending = [] ∧ t.scene.prevPlanes = none ∧
    (∀ h ∈ t.leases.holds, h ∈ s.leases.holds) ∧ (∀ e ∈ t.scene.live, e.due = false) ∧ t.mem.dram = s.mem.dram ∧ t.own = s.own) ∧
  (∀ (s : State) (old : Timing) (t0 : Nat), s.scan.relink = some (old, t0) →
    (s.scan.relinkBack = false → ∃ t, exec .relinkTimeout s = .next t ∧ t.scan.relinkBack = true ∧ t.disp.timing = old ∧ t.disp.timingNext = none) ∧
    (s.scan.relinkBack = true → exec .relinkTimeout s = .next s.settle) ∧
    (s.trainingRuns = true → exec .relinkTrainingDone s = .next s.settle) ∧
    (s.trainingRuns = false → s.trainedLanes ≠ [] →
      let u := s.joinTrained
      (s.scan.relinkBack = false → (u.disp.timingNext.getD u.disp.timing).lineNs < u.tMin →
        exec .relinkTrainingDone s = .next (u.relinkFail old).settle) ∧
      let v := (u.modScan fun x => { x with relink := none, relinkBack := false }).nextSlot.flushFrame.latchTaken
      (s.scan.relinkBack = false → u.tMin ≤ (u.disp.timingNext.getD u.disp.timing).lineNs → u.scan.relinkBack = false →
        exec .relinkTrainingDone s = .next v.settle) ∧
      (u.scan.relinkBack = true → v.taprootUp = true → exec .relinkTrainingDone s = .next (v.completeAll 0x0A02 stTimeout (le 4 v.disp.frame.toNat)).settle)))

/-- The slot schedule (R271, R272): a boundary in the active lines enters the next line one slot later, one in blanking counts the
slot, the end of the blanking of an earlier subframe starts the next subframe, that of the last one the next frame, and the
slot after which the frame must be latched is not left before its latch point; after the active lines of the last subframe
extension slots follow while R273 to R275 ask for them; without a panel or a schedule nothing moves. A completed line of the
frame latched last goes into the line store in SAFE-VIEW when its slot has not begun, and one of the ray engine when every
strip of its row has completed (R223, R257, R280). The panel's reports (R283, R291, R298, R299): a matching SIG_REPORT in time
confirms its subframe unless a line error stands, a differing or missing one is a mismatch, a LINE_ERROR leaves the subframe
unconfirmed; the status is kept with its time and 500 ms without one are a lost status. Completion: under the conditions of
its clauses, which are on the state and the operands alone, exec answers a next state for slotBoundary, lineComplete,
sigReport, sigReportMissing, lineError, panelStatus, panelStatusLost. -/
def Obligations.ScanOut : Prop :=
  (∀ (s : State), (s.disp.sched = false ∨ s.disp.panel = none → exec .slotBoundary s = .next s.settle) ∧ (s.disp.sched = true → s.disp.panel.isSome = true →
    let d := s.disp; let g := s.disp.timing
    let u := (s.timeTo (s.slotStart (d.slotNo + 1))).modDisp fun x => { x with slotNo := x.slotNo + 1 }
    let v := u.modDisp fun x => { x with ext := x.ext + 1 }
    (d.extending = true → v.extends v.disp.ext = true → exec .slotBoundary s = .next (v.modDisp fun x => { x with slot := x.slot + 1 }).settle) ∧
    (d.extending = true → v.extends v.disp.ext = false → exec .slotBoundary s = .next ((v.startVertical.idleLanes false).watermarks).settle) ∧
    (d.extending = false →
    (d.blanking = false → d.slot + 1 < g.activeLines → (s.pins.frameOut = false ∨ d.slotNo + 1 ≠ 1) →
      exec .slotBoundary s = .next (u.enterActive (d.slot + 1)).settle) ∧
    (d.blanking = false → g.activeLines ≤ d.slot + 1 → d.subframe + 1 ≠ s.subframes → (s.pins.frameOut = false ∨ d.slotNo + 1 ≠ 1) →
      exec .slotBoundary s = .next (((u.endSubframe d.subframe).modDisp fun x => { x with blanking := true, slot := 0 }).watermarks).settle) ∧
    (d.blanking = false → g.activeLines ≤ d.slot + 1 → d.subframe + 1 = s.subframes → (s.pins.frameOut = false ∨ d.slotNo + 1 ≠ 1) →
      ((u.endSubframe d.subframe).extends 0 = true →
        exec .slotBoundary s = .next (((u.endSubframe d.subframe).modDisp fun x => { x with extending := true, slot := 0 }).watermarks).settle) ∧
      ((u.endSubframe d.subframe).extends 0 = false → exec .slotBoundary s = .next ((u.endSubframe d.subframe).startVertical.watermarks).settle)) ∧
    (d.blanking = true → d.subframe + 1 = s.subframes → d.slot = 2 → d.latched = false → s.latchBlocked = false →
      exec .slotBoundary s = .next s.settle) ∧
    (d.blanking = true → ¬ (d.subframe + 1 = s.subframes ∧ d.slot = 2 ∧ d.latched = false ∧ s.latchBlocked = false) → d.slot + 1 < g.vtMin →
      exec .slotBoundary s = .next ((((u.modDisp fun x => { x with slot := x.slot + 1 }).idleLanes false).watermarks).settle)) ∧
    (d.blanking = true → d.subframe + 1 ≠ s.subframes → g.vtMin ≤ d.slot + 1 →
      exec .slotBoundary s = .next ((u.modDisp fun x => { x with subframe := x.subframe + 1 }).enterActive 0).settle) ∧
    (d.blanking = true → d.subframe + 1 = s.subframes → ¬ (d.slot = 2 ∧ d.latched = false ∧ s.latchBlocked = false) → g.vtMin ≤ d.slot + 1 →
      exec .slotBoundary s = .next u.startFrame.settle)))) ∧
  (∀ (sf line : Nat) (s : State) (f : RayFrame), s.ray.cur = some f → sf < f.subs → line < f.height → s.stored sf line = none →
    (f.bypass = true → (sf * f.height + line < s.begun ∨ s.beamLine + 128 ≤ sf * f.height + line) → exec (.lineComplete sf line) s = .next s.settle) ∧
    (f.bypass = true → sf ≠ 0 → s.begun ≤ sf * f.height + line → sf * f.height + line < s.beamLine + 128 →
      let codes := (List.range f.width).flatMap fun x => (List.range 3).map fun c => s.safePixel x line c
      exec (.lineComplete sf line) s = .next ((((s.modRay fun r => { r with cur := some { f with capture := f.capture.map fun c => { c with lacks := c.lacks || false } } }).modDisp
        fun d => { d with store := d.store ++ [{ sf := sf, y := line, codes := codes }] }).watermarks).settle)) ∧
    (f.bypass = false → (∃ k < f.cols, ∀ p ∈ f.parts, ¬ (p.1 = (sf * f.rowsPer + line / 8) * f.cols + k ∧ p.2.1 = line)) →
      exec (.lineComplete sf line) s = .next s.settle) ∧
    (f.bypass = true → sf = 0 → s.begun ≤ line → line < s.beamLine + 128 → ∃ t, exec (.lineComplete sf line) s = .next t ∧
      t.disp.store = s.disp.store ++ [{ sf := 0, y := line, codes := (List.range f.width).flatMap fun x => (List.range 3).map fun c => s.safePixel x line c }]) ∧
    (f.bypass = false → (∀ k < f.cols, ∃ p ∈ f.parts, p.1 = (sf * f.rowsPer + line / 8) * f.cols + k ∧ p.2.1 = line) → ∃ t, exec (.lineComplete sf line) s = .next t ∧
      (sf * f.height + line < s.begun → t.disp.store = s.disp.store) ∧
      (s.begun ≤ sf * f.height + line → ∃ l, t.disp.store = s.disp.store ++ [l] ∧ l.sf = sf ∧ l.y = line))) ∧
  (∀ (sf : Nat) (frame : W32) (sig : W32) (lines : Nat) (s : State), sf < s.subframes →
    (∀ t0, s.disp.sigDue.getD sf none = some t0 → s.time ≤ t0 + 1000000 → (s.disp.scanFrame.getD sf 0).toNat % 256 = frame.toNat % 256 →
      let f := s.disp.scanFrame.getD sf 0
      (sig = s.disp.endXor.getD sf 0 → exec (.sigReport sf frame sig lines) s = .next (((s.modDisp fun d => { d with
        sigDue := d.sigDue.set sf none,
        unconfirmed := if d.lineErr.getLsbD sf then d.unconfirmed else d.unconfirmed &&& ~~~(BitVec.ofNat 8 (2 ^ sf)) }).decideSf f sf true).settle)) ∧
      (sig ≠ s.disp.endXor.getD sf 0 → exec (.sigReport sf frame sig lines) s = .next (s.sigMismatch sf sig).settle)) ∧
    (∀ t0, s.disp.sigDue.getD sf none = some t0 → exec (.sigReportMissing sf) s = .next ((s.timeTo (t0 + 1000000)).sigMismatch sf 0).settle) ∧
    (s.disp.sigDue.getD sf none = none → exec (.sigReport sf frame sig lines) s = .next s.settle ∧ exec (.sigReportMissing sf) s = .next s.settle) ∧
    (∀ line cause, cause ≠ 4 → exec (.lineError sf frame line cause) s = .next (s.modDisp fun d =>
      { d with unconfirmed := d.unconfirmed ||| BitVec.ofNat 8 (2 ^ sf), lineErr := d.lineErr ||| BitVec.ofNat 8 (2 ^ sf) }).settle) ∧
    (∀ temp flags, exec (.panelStatus temp flags) s = .next (s.modScan fun x =>
      { x with panelTemp := temp, panelFlags := flags &&& 3, lastStatus := s.time, statusLost := false }).settle) ∧
    (exec .panelStatusLost s = .next ((s.timeTo (s.scan.lastStatus + 500000000)).modScan fun x => { x with statusLost := true }).settle))

/-- Panel power (R293, R294): the power-up enables the first rail, each PNL_PG the next one after the rail gap and the last one
ends it; a rail fault takes the panel down, is tried again after 1 s and is given up at the third within 60 s. Holds and the
compositor (R266, R275, R296, R297): a hold of 100 ms is remembered; the hold sequencer sends HOLD with REASON 3; a compositor
fault switches CMP off and on, for good at the third within 10 minutes, with every report dropped; after the restart the
mirror is in force and every subframe is unconfirmed; a second edge of FRAME_LOCK_IN in a frame is early. Completion: under
the conditions of its clauses, which are on the state and the operands alone, exec answers a next state for frameLockInEdge,
panelPowerUp, pnlPgRise, panelRailFault, panelRetryTimer, holdSequencerTimeout, cmpFault, cmpRestartComplete, panelHoldLimit. -/
def Obligations.PanelAndHolds : Prop :=
  (∀ (s : State),
    (∀ p, s.disp.panel = some p → s.domOn domCMP = true → s.pnl.up = false → s.pnl.rail = none → s.pnl.gaveUp = false → s.pnl.retryAt = none →
      ∃ t, exec .panelPowerUp s = .next t ∧ t.pnl.rail = some 0 ∧ t.pnl.railsUsed = p.rails ∧ t.pins.pnlPwrEn = s.pins.pnlPwrEn.set 0 true ∧ t.pins.pnlDischN = true) ∧
    (∀ rail, s.pnl.rail = some rail →
      (rail + 1 < s.pnl.railsUsed → ∃ t, exec (.pnlPgRise rail) s = .next t ∧ t.pnl.rail = some (rail + 1) ∧ t.pins.pnlPwrEn = s.pins.pnlPwrEn.set (rail + 1) true ∧
        t.pnl.railAt = s.time + s.pnl.gapUsed * 1000000 + 50000000) ∧
      (s.pnl.railsUsed ≤ rail + 1 → ∃ t, exec (.pnlPgRise rail) s = .next t ∧ t.pnl.rail = none ∧ t.pnl.up = true ∧ t.scan.railFault = false)) ∧
    (∀ rail, s.pins.pnlPwrEn.getD rail false = true → ∃ t, exec (.panelRailFault rail) s = .next t ∧ t.pnl.up = false ∧ t.pnl.rail = none ∧
      t.disp.running = false ∧ t.scan.railFault = true ∧ t.pins.pnlPwrEn = [false, false, false, false] ∧
      (t.pnl.gaveUp = true ↔ 3 ≤ t.pnl.faults.length) ∧ (t.pnl.gaveUp = true → t.pnl.retryAt = none)) ∧
    (∀ t0 p, s.pnl.retryAt = some t0 → s.disp.panel = some p → s.domOn domCMP = true → s.pnl.up = false → s.pnl.rail = none → s.pnl.gaveUp = false →
      ∃ t, exec .panelRetryTimer s = .next t ∧ t.pnl.retryAt = none ∧ t.pnl.rail = some 0 ∧ t.time = max t0 s.time)) ∧
  (∀ (s : State),
    (∀ why t0, s.scan.hold = some (why, t0) → exec .panelHoldLimit s = .next ((s.timeTo (t0 + 100000001)).modScan fun x => { x with holdExceeded := true }).settle) ∧
    (s.scan.hold = none → exec .panelHoldLimit s = .next s.settle) ∧
    (∀ g, s.hasGroup g = true → s.domOn (domSG g) = true → (∃ l ∈ s.groupLanes g, (s.lane l).included = true) →
      exec (.holdSequencerTimeout g) s = .next (s.emit (.ctrl 0x33 [3, 16, g])).settle) ∧
    (s.domOn domCMP = true → ∃ t, exec .cmpFault s = .next t ∧ t.hw.frames = [] ∧ t.pnl.cmpFaults.getLast? = some s.time ∧
      (t.pnl.cmpOff = true ↔ 3 ≤ t.pnl.cmpFaults.length) ∧ (t.pnl.cmpDown = true ↔ t.pnl.cmpFaults.length < 3)) ∧
    (s.pnl.cmpDown = true → s.domOn domCMP = true → ∃ t, exec .cmpRestartComplete s = .next t ∧ t.pnl.cmpDown = false ∧ t.disp.fullAfter = true ∧
      (∀ c g f p cap, s.pnl.mirror = some (c, g, f, p, cap) → t.disp.timing = g ∧ t.disp.frame = f ∧ t.disp.panel = p ∧ t.layers.force = c ∧ t.layers.capture = cap)) ∧
    ((s.lockIn = false ∨ s.domOn domCMP = false) → exec .frameLockInEdge s = .next s.settle) ∧
    (s.lockIn = true → s.domOn domCMP = true → s.scan.edge.isSome = true → exec .frameLockInEdge s = .next (s.modScan fun x => { x with early := satInc x.early, frameBad := true }).settle) ∧
    (s.lockIn = true → s.domOn domCMP = true → s.scan.edge = none → ∃ t, exec .frameLockInEdge s = .next t ∧ t.scan.edge = some s.time ∧ t.scan.lastEdge = some s.time ∧
      (∀ t0, s.scan.lastEdge = some t0 → t.scan.periods = ((s.time - t0) :: s.scan.periods).take 8)))

/-- Reconciliation (R86, R87): a unit in an intended state has no mismatch; a mismatch is noted, and 10 ms later reported with the
intent applied again, up to three times; 40 ms after it began the unit is FAULTED and the mismatch is over. Faults of units
and clusters (R20, R34, Table 1.10): a fault of a present unit that works is absorbed as its kind of unit is, and posted for a
unit without an event of its own; a second fault of the same unit, or one of a unit that is absent or off, changes nothing.
Reference clocks (R65, R66): a lost input is marked with its event; the panel and camera clocks run on from their backups
while REFCLK_SYS is there, and without both the panel's link stops; a restored input is unmarked with its event. Completion:
under the conditions of its clauses, which are on the state and the operands alone, exec answers a next state for refclkLost,
refclkRestored, unitMismatchCheck, domainFault. -/
def Obligations.UnitsAndClocks : Prop :=
  (∀ (u : Nat) (s : State), s.tp.state = .running → s.unitPresent u = true → let r := s.unit u
    let z := s.modUnit u fun x => { x with checked := some s.time }
    ((r.intent.getLsbD (s.observed u) = true ∨ s.time < r.settle) →
      exec (.unitMismatchCheck u) s = .next (z.modUnit u fun x => { x with mismatchSince := none, attempts := 0 }).settle) ∧
    (r.intent.getLsbD (s.observed u) = false → r.settle ≤ s.time → r.mismatchSince = none →
      exec (.unitMismatchCheck u) s = .next (z.modUnit u fun x => { x with mismatchSince := some s.time, attempts := 0 }).settle) ∧
    (∀ t0, r.intent.getLsbD (s.observed u) = false → r.settle ≤ s.time → r.mismatchSince = some t0 → r.attempts < 3 →
      ∃ t, exec (.unitMismatchCheck u) s = .next t ∧ t.time = max (t0 + 10000000 * (r.attempts + 1)) s.time) ∧
    (∀ t0, r.intent.getLsbD (s.observed u) = false → r.settle ≤ s.time → r.mismatchSince = some t0 → 3 ≤ r.attempts → u < s.units.recs.length →
      ∃ t, exec (.unitMismatchCheck u) s = .next t ∧ (t.unit u).mismatchSince = none ∧ (t.unit u).attempts = 0 ∧ (t.unit u).faulted = true)) ∧
  (∀ (u : Nat) (s : State),
    (s.unitPresent u = true → (s.unit u).faulted = false → (unitDomain u).any s.domOn = true →
      (s.ownFaultEvent u = true → exec (.domainFault u) s = .next (s.absorb u 0x20).settle) ∧
      (s.ownFaultEvent u = false → exec (.domainFault u) s = .next ((s.absorb u 0x20).post 0x85 3 (le 2 u ++ le 1 0x20)).settle)) ∧
    ((s.unitPresent u = false ∨ (s.unit u).faulted = true ∨ (unitDomain u).any s.domOn = false) → exec (.domainFault u) s = .next s.settle)) ∧
  (∀ (reason : Nat) (ppm : Int) (s : State), s.clk.lost.length = 5 →
    (∀ i < 5, s.clkLost i = false → ∃ t, exec (.refclkLost i reason ppm) s = .next t ∧ t.clk.lost = s.clk.lost.set i true) ∧
    (s.clkLost 2 = false → s.clkLost 0 = false → ∃ t, exec (.refclkLost 2 reason ppm) s = .next t ∧ t.clk.pnlBackup = true ∧ t.clk.camBackup = s.clk.camBackup) ∧
    (s.clkLost 3 = false → s.clkLost 0 = false → ∃ t, exec (.refclkLost 3 reason ppm) s = .next t ∧ t.clk.camBackup = true ∧ t.clk.pnlBackup = s.clk.pnlBackup) ∧
    (((s.clkLost 2 = false ∧ s.clkLost 0 = true) → ∃ t, exec (.refclkLost 2 reason ppm) s = .next t ∧ t.disp.running = false ∧ t.clk.pnlBackup = false ∧ t.scan.relink = none) ∧
      ((s.clkLost 2 = true ∧ s.clkLost 0 = false) → ∃ t, exec (.refclkLost 0 reason ppm) s = .next t ∧ t.disp.running = false ∧ t.clk.pnlBackup = false ∧ t.clk.camBackup = false)) ∧
    (∀ i, s.clkLost i = true → exec (.refclkLost i reason ppm) s = .next s.settle) ∧
    (∀ i, s.clkLost i = true → ∃ t, exec (.refclkRestored i) s = .next t ∧ t.clk.lost = s.clk.lost.set i false) ∧
    (∀ i, s.clkLost i = false → exec (.refclkRestored i) s = .next s.settle))

/-- Training (R302 to R306): the lanes of a group that is on start together, unless LOW_STOP holds them (R415); the panel's
requests set the taps, end the training well only from a margin of 51 of 256, or end it badly, and in service leave a STEP
waiting; the budget of 2 ms fails the lanes that have not ended; once every lane has ended, those that trained carry frames.
Supervision in service (R309, R313 to R315): a waiting STEP is applied and acknowledged; the margin events follow their two
thresholds; bad reports count up to a retrain, which LOW_STOP puts off (R415); an excluded lane is retried six times.
Completion: under the conditions of its clauses, which are on the state and the operands alone, exec answers a next state for
laneStats, saplineTrainReq, saplineGroupTraining, trainingBudgetExpiry, saplineTrainingDone, stepRequestApply, laneRetryTimer,
laneMarginTimer. -/
def Obligations.SaplineLanes : Prop :=
  (∀ (g lane seq kind preset margin : Nat) (steps : W8) (s : State),
    (g < 12 → s.lanes.groupStart.length = 12 → s.hasGroup g = true → s.domOn (domSG g) = true → s.lowHold = false → s.pnl.up = true → s.disp.running = false →
      ∃ t, exec (.saplineGroupTraining g) s = .next t ∧ t.lanes.groupStart.getD g none = some s.time ∧ t.time = s.time) ∧
    (s.lowHold = true → exec (.saplineGroupTraining g) s = .next s.settle) ∧
    (s.hasLane lane = true → 1 ≤ seq → seq < 256 → margin < 256 → (s.lane lane).ackSeq ≠ seq → (s.lane lane).state = 1 → (s.lane lane).ended = false →
      let z := s.modLane lane fun x => { x with margin := marginMui margin, ackSeq := seq, blockLock := true }
      (preset < 10 → exec (.saplineTrainReq lane seq 1 preset steps margin) s = .next ((z.modLane lane fun x => { x.setPreset preset with tapStatus := 0 }).sendTrain lane).settle) ∧
      exec (.saplineTrainReq lane seq 2 preset steps margin) s = .next ((z.modLane lane (·.applyStep steps.toNat)).sendTrain lane).settle ∧
      (51 ≤ margin → exec (.saplineTrainReq lane seq 3 preset steps margin) s = .next ((z.passLane lane).sendTrain lane).settle) ∧
      (margin < 51 → exec (.saplineTrainReq lane seq 3 preset steps margin) s = .next (z.failLane lane).settle) ∧
      exec (.saplineTrainReq lane seq 0 preset steps margin) s = .next (z.sendTrain lane).settle ∧
      exec (.saplineTrainReq lane seq 4 preset steps margin) s = .next (z.failLane lane).settle) ∧
    (s.hasLane lane = true → 1 ≤ seq → seq < 256 → margin < 256 → (s.lane lane).ackSeq ≠ seq → ((s.lane lane).state = 2 ∨ (s.lane lane).state = 3) →
      let z := s.modLane lane fun x => { x with margin := marginMui margin }
      ((s.lane lane).step = none → (s.lane lane).lastStep + 10000000 ≤ s.time → lane < s.lanes.lanes.length →
        exec (.saplineTrainReq lane seq 2 preset steps margin) s = .next (z.modLane lane fun x => { x with step := some (seq, steps.toNat) }).settle) ∧
      (kind ≠ 2 → kind < 5 → exec (.saplineTrainReq lane seq kind preset steps margin) s = .next z.settle)) ∧
    ((s.lane lane).ackSeq = seq → exec (.saplineTrainReq lane seq kind preset steps margin) s = .next s.settle) ∧
    (∀ t0, s.lanes.groupStart.getD g none = some t0 → ∃ t, exec (.trainingBudgetExpiry g) s = .next t ∧ t.time = max (t0 + ms 2) s.time ∧
      ∀ l ∈ s.groupLanes g, (s.lane l).state = 1 → (s.lane l).ended = false → (t.lane l).state = 4 ∧ (t.lane l).included = false) ∧
    (s.trainingRuns = false → s.trainedLanes ≠ [] → ∃ t, exec .saplineTrainingDone s = .next t ∧ t.lanes.alignCount = s.lanes.alignCount + 16 ∧
      (∀ l ∈ s.trainedLanes, (t.lane l).state = 2 ∧ (t.lane l).included = true) ∧
      (s.pnl.up = true → s.scan.relink = none → t.disp.running = true ∧ t.disp.fullNext = true))) ∧
  (∀ (lane : Nat) (s : State), let x := s.lane lane
    (∀ seq steps, x.step = some (seq, steps) →
      exec (.stepRequestApply lane) s = .next (s.modLane lane fun x => { x.applyStep steps with ackSeq := seq, step := none, lastStep := s.time }).settle) ∧
    ((x.state = 2 ∨ x.state = 3) → x.margin < 120 → (s.laneAux lane).lowPosted = false →
      exec (.laneMarginTimer lane) s = .next ((s.modLaneAux lane fun a => { a with lowPosted := true }).post 0xB81 1 (le 1 lane ++ [0] ++ le 2 x.margin)).settle) ∧
    (((x.state ≠ 2 ∧ x.state ≠ 3) ∨ 120 ≤ x.margin) → (s.laneAux lane).lowPosted = false → exec (.laneMarginTimer lane) s = .next s.settle) ∧
    ((s.laneAux lane).lowPosted = true → 150 ≤ x.margin → exec (.laneMarginTimer lane) s = .next (s.modLaneAux lane fun a => { a with lowPosted := false }).settle) ∧
    (∀ errors : W32, lane < 96 → x.included = true → errors.toNat < 16 →
      exec (.laneStats lane errors) s = .next (s.modLaneAux lane fun a => { a with lastReport := errors, statsBad := 0 }).settle) ∧
    (∀ errors : W32, lane < 96 → lane < s.lanes.aux.length → x.included = true → 16 ≤ errors.toNat → (s.laneAux lane).statsBad < 2 →
      exec (.laneStats lane errors) s = .next (s.modLaneAux lane fun a => { a with lastReport := errors, statsBad := a.statsBad + 1 }).settle) ∧
    (x.state = 4 → lane < 96 → lane < s.lanes.aux.length → (s.laneAux lane).retries < 6 → s.disp.running = true → s.tp.state = .running → s.scan.hold.isSome = true → ∃ t,
      exec (.laneRetryTimer lane) s = .next t ∧ t.time = max (s.laneAux lane).retryAt s.time ∧ (t.laneAux lane).retries = (s.laneAux lane).retries + 1) ∧
    (∀ errors : W32, lane < 96 → lane < s.lanes.aux.length → lane < s.lanes.lanes.length → x.included = true → 16 ≤ errors.toNat → (s.laneAux lane).statsBad = 2 → ∃ t,
      exec (.laneStats lane errors) s = .next t ∧ (t.laneAux lane).statsBad = 0 ∧
      (s.lowHold = false → (t.lane lane).state = 1 ∧ (t.lane lane).included = false ∧ (t.laneAux lane).alone = true) ∧
      (s.lowHold = true → (t.laneAux lane).waits = true ∧ (t.lane lane).state = x.state)) ∧
    (x.state = 4 → lane < 96 → lane < s.lanes.aux.length → lane < s.lanes.lanes.length → (s.laneAux lane).retries < 6 → s.disp.running = true →
      s.tp.state = .running → s.scan.hold = none → s.lowHold = false → ∃ t,
      exec (.laneRetryTimer lane) s = .next t ∧ (t.lane lane).state = 1 ∧ (t.lane lane).included = false ∧ (t.laneAux lane).alone = true) ∧
    (x.state = 4 → 6 ≤ (s.laneAux lane).retries → exec (.laneRetryTimer lane) s = .next s.settle))

/-- The receivers' loops and electrical idle (R310 to R312, R317): the CTLE code moves one towards the better side and stays in
range, the taps of the decision feedback stay within their limits, and the margin is the eye width; a held offset trim stays;
a lane in electrical idle sends its burst and 64 IDLE blocks each millisecond. Completion: under the conditions of its
clauses, which are on the state and the operands alone, exec answers a next state for adaptationUpdate, offsetTrim,
elecIdleKeepalive. -/
def Obligations.ReceiversAdapt : Prop :=
  ∀ (lane steps : Nat) (better target : Int) (corr : List Int) (s : State), let x := s.lane lane
    (96 ≤ lane → lane < s.lanes.lanes.length → x.signal = true → ∃ t, exec (.adaptationUpdate lane better steps corr) s = .next t ∧
      (t.lane lane).margin = roundNat (steps * 1000) 64 ∧ (t.lane lane).dfe.length = x.dfe.length ∧ (∀ v ∈ (t.lane lane).dfe, v.natAbs ≤ 120) ∧
      (x.ctle ≤ 15 → (t.lane lane).ctle ≤ 15)) ∧
    (hasReceiver lane = true → lane < 96 → lane < s.lanes.lanes.length → x.signal = true → ∃ t, exec (.adaptationUpdate lane better steps corr) s = .next t ∧
      (t.lane lane).margin = x.margin ∧ (t.lane lane).dfe = x.dfe ∧ (x.ctle ≤ 15 → (t.lane lane).ctle ≤ 15)) ∧
    (x.signal = false → exec (.adaptationUpdate lane better steps corr) s = .next s.settle ∧ exec (.offsetTrim lane target) s = .next s.settle) ∧
    (hasReceiver lane = true → x.signal = true → (s.hk.cal.getD 2 {}).held = false → lane < s.lanes.lanes.length →
      ∃ t, exec (.offsetTrim lane target) s = .next t ∧ (t.lane lane).offset = clampI (-63) 63 target) ∧
    ((s.hk.cal.getD 2 {}).held = true → exec (.offsetTrim lane target) s = .next s.settle) ∧
    (∀ t0, (s.laneAux lane).idleAt = some t0 → x.state = 3 → exec (.elecIdleKeepalive lane) s =
      .next (((((s.timeTo (t0 + ms 1)).burst lane).emit (.lane lane 0x1E 64)).modLaneAux lane fun a => { a with idleAt := some (max (t0 + ms 1) s.time) }).settle)) ∧
    ((s.laneAux lane).idleAt = none → exec (.elecIdleKeepalive lane) s = .next s.settle)

/-- A panel's STEP moves each tap by at most one, within the limits of Table 12.3 and the sum of 63 (R301, R305). -/
def Obligations.StepsKeepTheTapLimits : Prop :=
  ∀ (x : Lane) (steps : Nat), x.pre ≤ 12 → 27 ≤ x.main → x.main ≤ 63 → x.post ≤ 24 → x.pre + x.main + x.post ≤ 63 →
    let y := x.applyStep steps
    y.pre ≤ 12 ∧ 27 ≤ y.main ∧ y.main ≤ 63 ∧ y.post ≤ 24 ∧ y.pre + y.main + y.post ≤ 63 ∧
    y.pre ≤ x.pre + 1 ∧ x.pre ≤ y.pre + 1 ∧ y.main ≤ x.main + 1 ∧ x.main ≤ y.main + 1 ∧ y.post ≤ x.post + 1 ∧ x.post ≤ y.post + 1

/-- Step of a state with c at the front of its queue is exec of c on the state with the queue's rest. With an empty queue the
block idles and one nanosecond passes, which is the model's own choice (log 4). -/
def Obligations.StepRunsTheFrontCommand : Prop :=
  (∀ (c : Instr) (s : State), step { s with pending := c :: s.pending } = exec c s) ∧
  (∀ (c : Instr) (rest : List Instr) (s : State), s.pending = c :: rest → step s = exec c { s with pending := rest }) ∧
  (∀ s : State, s.pending = [] → step s = .next ({ s with time := s.time + 1 } : State).settle)

/-- R266, from every state whatever: every step, and every command that it executes, of whatever constructor of Instr and with
whatever operands, completes in a next state (log 2), and there SAFE_OK is high only while the mode is one of its modes, the
content is within AGE_MS, no two frame reports in a row lack PANEL_MATCH, no panel hold has exceeded 100 ms, GEOM_INVALID is 0
and a copy of the Heartwood region is usable. -/
def Obligations.SafeOkNeedsItsConditions : Prop :=
  let safe := fun t : State => t.pins.safeOk = true →
    (t.mode.mode = .safeView ∨ t.mode.mode = .field ∨ t.mode.mode = .degraded ∨ (t.mode.mode = .maintenance ∧ t.own.hwRelease = false)) ∧
    t.ageOk = true ∧ t.hw.misses < 2 ∧ t.scan.holdExceeded = false ∧ t.hw.geomInvalid = false ∧ ∃ c ∈ t.hw.copies, c.usable = true
  (∀ s : State, ∃ t, step s = .next t ∧ safe t) ∧ (∀ (i : Instr) (s : State), ∃ t, exec i s = .next t ∧ safe t)

/-- What reset leaves (Table 2.2, R72, R73, R83): the outputs at their reset levels, ownership vacant, no event, no operation and
no command under way, every memory empty and SAFE_OK consistent with its conditions. -/
def Obligations.ResetLeavesTheBlockIdle : Prop :=
  State.reset.pins.coreEn = false ∧ State.reset.pins.sdsEn = false ∧ State.reset.pins.memEn = false ∧ State.reset.pins.safeOk = false ∧
    State.reset.pins.plcOeN = true ∧ State.reset.pins.thermTripN = true ∧ State.reset.pins.pnlPwrEn = [false, false, false, false] ∧
    State.reset.pins.pnlDischN = false ∧ State.reset.pins.frameOut = false ∧ State.reset.own.owner = 7 ∧ State.reset.own.claims = [] ∧
    (∀ m < 4, (State.reset.ring m).unconsumed = 0 ∧ (State.reset.ring m).mask = 0x003FFFFF) ∧ State.reset.ctl.pendingOps = [] ∧
    State.reset.ctl.executing = [] ∧ State.reset.pending = [] ∧ State.reset.memoriesWf ∧ State.reset.SafeInv

/-- A changing command of a master that is not the owner, and a command of SAFE alone from another master, completes with
ST_NOT_OWNER and has no effect (R78, R95); where no such command is the mailbox's oldest, nothing changes. -/
def Obligations.OwnerCommandsNeedOwnership : Prop :=
  ∀ (m : Master) (b : Bool) (s : State), s.tp.state = .running → 
    let denied := fun (i : Instr) (code : Nat) =>
      (s.front m.code code = true → exec i s = .next (errAfter s m code stNotOwner 0xFF 0 0xFFFF)) ∧ (s.front m.code code = false → exec i s = .next s.settle)
    (s.isOwner m.code = false →
      denied (.sysReset m) 0x0006 ∧ denied (.ownConfig m) 0x0101 ∧ denied (.modeSet m) 0x0201 ∧ denied (.modeBootTarget m) 0x0202 ∧
      denied (.pwrSetLimit m) 0x0301 ∧ denied (.camConfig m) 0x0401 ∧ denied (.camHeadWrite m) 0x0403 ∧ denied (.camProfileSet m) 0x0404 ∧
      denied (.ispContextSet m) 0x0501 ∧ denied (.ispSlotMask m) 0x0502 ∧ denied (.ispTap m) 0x0503 ∧ denied (.ispAeConfig m) 0x0505 ∧
      denied (.depthPairSet m) 0x0601 ∧ denied (.depthWarpLoad m) 0x0602 ∧ denied (.depthSliceSet m) 0x0603 ∧ denied (.scenePoolSet m) 0x0701 ∧
      denied (.sceneLeasePolicy m) 0x0702 ∧ denied (.sceneLeaseAdd m) 0x0703 ∧ denied (.sceneLeaseRemove m) 0x0704 ∧ denied (.rayCalLoad m) 0x0801 ∧
      denied (.rayLimits m) 0x0802 ∧ denied (.layerSet m) 0x0902 ∧ denied (.layerCaptureSet m) 0x0903 ∧ denied (.dispPanelSet m) 0x0A01 ∧
      denied (.dispTimingSet m) 0x0A02 ∧ denied (.dispFullWrite m) 0x0A03 ∧ denied (.lanePattern m) 0x0B01 ∧ denied (.laneRetrain m) 0x0B02 ∧
      denied (.memRetrain m) 0x0C01 ∧ denied (.memTest m) 0x0C02 ∧ denied (.memSet m) 0x0C03 ∧ denied (.churnQueueSet m) 0x0D01 ∧
      denied (.churnAbort m) 0x0D02 ∧ denied (.placardConfig m) 0x0E01 ∧ denied (.placardUpdate m) 0x0E02 ∧ denied (.placardWaveLoad m) 0x0E03 ∧
      denied (.audioPortSet m) 0x0F01 ∧ denied (.audioMixSet m) 0x0F02 ∧ denied (.audioDelaySet m) 0x0F03 ∧ denied (.audioPcmRing m) 0x0F04 ∧
      denied (.audioIecSet m) 0x0F05 ∧ denied (.hkThresholdSet m) 0x1001 ∧ denied (.calRun m) 0x1101 ∧ denied (.calHold m) 0x1102 ∧
      denied (.nvmWrite m) 0x1201 ∧ denied (.secFwStage m) 0x1302 ∧ denied (.secFwActivate m) 0x1303 ∧ denied (.secOwnerKey m) 0x1304 ∧
      denied (.secBundleLoad m) 0x1306 ∧ denied (.logClear m) 0x1402 ∧ denied (.svcDrain m) 0x1501 ∧ denied (.svcPowerCycle m) 0x1502 ∧
      denied (.svcRetest m) 0x1503 ∧ denied (.svcReturn m) 0x1504 ∧
      (s.pins.sealEn = b → denied (.secSeal m b) 0x1305)) ∧
    (m ≠ .safe → denied (.layerHwAgeSet m) 0x0906)

/-- An event posted goes to each ring that takes it (R83): with fewer than 240 entries unconsumed it is the ring's newest entry
and the producer counts it; else it is counted lost and the next entry carries GAP; a ring that does not take it keeps its
counts. No ring holds more than 240 entries by events. -/
def Obligations.EventsGoToTheirRings : Prop :=
  ∀ (code sev m : Nat) (payload : Bytes) (s : State), m < 4 → s.ctl.rings.length = 4 → let r := s.ring m; let q := (s.post code sev payload).ring m
    (s.ringTakes code sev m = true → r.unconsumed < 240 → q.producer = r.producer + 1 ∧ q.unconsumed = r.unconsumed + 1 ∧ q.lost = r.lost ∧ q.gap = false ∧
      ∃ e, q.entries.getLast? = some e ∧ e.code = code ∧ e.sev = sev ∧ e.time = s.time ∧ e.payload = pad 16 payload ∧ e.seq = r.offered ∧ e.gap = r.gap) ∧
    (s.ringTakes code sev m = true → 240 ≤ r.unconsumed → q.producer = r.producer ∧ q.lost = satInc r.lost ∧ q.gap = true ∧ q.offered = r.offered + 1) ∧
    (s.ringTakes code sev m = false → q = r) ∧ q.consumer = r.consumer

/-- The PENDING_ID of a new operation is none of the master's operations in progress, and lies from 1 to 0xFFFF (R97). -/
def Obligations.PendingIdsAreFresh : Prop :=
  ∀ (m : Master) (s : State), (s.ctl.pendingOps.filter fun p => p.master == m.code).length ≤ 16 → 1 ≤ (s.box m.code).nextId → (s.box m.code).nextId ≤ 0xFFFF →
    1 ≤ s.newPid m ∧ s.newPid m ≤ 0xFFFF ∧ ∀ p ∈ s.ctl.pendingOps, p.master = m.code → p.id ≠ s.newPid m

/-- A CRC of the PEC's kind over a byte string followed by its own PEC is 0, so what follows has the CRC of itself alone (R71). -/
def Obligations.PecOfItsOwnPecIsZero : Prop :=
  ∀ b c : Bytes, pec (b ++ [pec b]) = 0 ∧ pec (b ++ [pec b] ++ c) = pec c

/-- The address map of DRAM (R330), over n channels in ascending order of 1 GiB or 512 MiB each: an address of the interleave goes
to the channel and the local address of the rule's formula, its 2 KiB granule lies in one channel, no two addresses share a
place since the inverse leads back, and above the interleave nothing is populated. -/
def Obligations.DramMapIsOneToOne : Prop :=
  ∀ (a : Nat) (s : State), s.mem.map.Pairwise (· < ·) →
    (s.dramTop ≤ a → a < cellarBase → s.populated a = false) ∧
    (a < s.dramTop →
    let n := s.mem.map.length
    let g := a >>> 11
    let q := g / n
    let h := (q &&& 15) ^^^ ((q >>> 4) &&& 15) ^^^ ((q >>> 8) &&& 15) ^^^ ((q >>> 12) &&& 15) ^^^ ((q >>> 16) &&& 15)
    s.mem.map[(g % n + h) % n]? = some (s.dramPlace a).1 ∧ (s.dramPlace a).2 = q * 2048 + (a &&& 2047) ∧ (s.dramPlace a).2 < chanBytes s ∧
    s.deviceOf (s.dramPlace a).1 (s.dramPlace a).2 = a ∧
    (∀ b, b / 2048 = a / 2048 → (s.dramPlace b).1 = (s.dramPlace a).1) ∧
    s.dramTop = n * (if s.mem.cfg.dense then 1024 * 1024 * 1024 else 512 * 1024 * 1024))

/-- The Placard's newest intent is the valid slot with the highest number (R388, R391). -/
def Obligations.NewestIntentIsTheHighest : Prop :=
  ∀ l : List PlcSlot,
    (newestIntent l = none ↔ ∀ x ∈ l, x.valid = false) ∧
    (∀ x, newestIntent l = some x → x ∈ l ∧ x.valid = true ∧ ∀ y ∈ l, y.valid = true → y.seq.toNat ≤ x.seq.toNat)

/-- Eviction makes room for one tile, takes a cached tile whose last sample came in the lowest strip, and never a flat layer's
(R228, R247). -/
def Obligations.EvictionSparesFlatTiles : Prop :=
  ∀ (slots : Nat) (l : List Tile), let flat := fun t : Tile => match t.key with | .flat .. => true | _ => false
    l.length ≤ slots → (∃ t ∈ l, flat t = false) → (evictTile slots l).length < slots ∧
      (∀ t ∈ l, flat t = true → t ∈ evictTile slots l) ∧
      (∀ t ∈ l, t ∉ evictTile slots l → flat t = false ∧ ∀ u ∈ l, flat u = false → t.last ≤ u.last)

/-- Commands that write the block's memories keep their canonical form (log 6). -/
def Obligations.WritesKeepTheMemoriesForm : Prop :=
  ∀ (m : Master) (addr n : Nat) (data : List W8) (v : W32) (ecc : Ecc) (s t : State) (i : Instr),
    (i = .bar2Write m addr data ∨ i = .hwPortData m v ∨ i = .memRequestIssue n ecc) → exec i s = .next t → s.memoriesWf → t.memoriesWf

/-- Device memory reads back what was written to it, and every other byte is as before (R69, R330). -/
def Obligations.DeviceMemoryReadsBack : Prop :=
  ∀ (a : Nat) (data : Bytes) (s : State), s.mem.map.Pairwise (· < ·) → s.memoriesWf → s.inMemory a data.length = true →
    (s.devWrite a data).devRead a data.length = data ∧
    ∀ b, s.populated b = true → (b < a ∨ a + data.length ≤ b) → (s.devWrite a data).devByte b = s.devByte b
end

