-- ==== Sys2Proof/Laws/State.lean ====
section
/-! SUPPORT. What each named update of State does to each part of it: one lemma per part and update. -/

namespace Sys2Proof.Machine

@[simp] theorem State.modId_id (g : Ident → Ident) (s : State) : (s.modId g).id = g s.id := rfl
@[simp] theorem State.modId_pins (g : Ident → Ident) (s : State) : (s.modId g).pins = s.pins := rfl
@[simp] theorem State.modId_pwr (g : Ident → Ident) (s : State) : (s.modId g).pwr = s.pwr := rfl
@[simp] theorem State.modId_gov (g : Ident → Ident) (s : State) : (s.modId g).gov = s.gov := rfl
@[simp] theorem State.modId_clk (g : Ident → Ident) (s : State) : (s.modId g).clk = s.clk := rfl
@[simp] theorem State.modId_own (g : Ident → Ident) (s : State) : (s.modId g).own = s.own := rfl
@[simp] theorem State.modId_ctl (g : Ident → Ident) (s : State) : (s.modId g).ctl = s.ctl := rfl
@[simp] theorem State.modId_units (g : Ident → Ident) (s : State) : (s.modId g).units = s.units := rfl
@[simp] theorem State.modId_mode (g : Ident → Ident) (s : State) : (s.modId g).mode = s.mode := rfl
@[simp] theorem State.modId_cam (g : Ident → Ident) (s : State) : (s.modId g).cam = s.cam := rfl
@[simp] theorem State.modId_isp (g : Ident → Ident) (s : State) : (s.modId g).isp = s.isp := rfl
@[simp] theorem State.modId_depth (g : Ident → Ident) (s : State) : (s.modId g).depth = s.depth := rfl
@[simp] theorem State.modId_scene (g : Ident → Ident) (s : State) : (s.modId g).scene = s.scene := rfl
@[simp] theorem State.modId_leases (g : Ident → Ident) (s : State) : (s.modId g).leases = s.leases := rfl
@[simp] theorem State.modId_ray (g : Ident → Ident) (s : State) : (s.modId g).ray = s.ray := rfl
@[simp] theorem State.modId_cellar (g : Ident → Ident) (s : State) : (s.modId g).cellar = s.cellar := rfl
@[simp] theorem State.modId_layers (g : Ident → Ident) (s : State) : (s.modId g).layers = s.layers := rfl
@[simp] theorem State.modId_hw (g : Ident → Ident) (s : State) : (s.modId g).hw = s.hw := rfl
@[simp] theorem State.modId_disp (g : Ident → Ident) (s : State) : (s.modId g).disp = s.disp := rfl
@[simp] theorem State.modId_scan (g : Ident → Ident) (s : State) : (s.modId g).scan = s.scan := rfl
@[simp] theorem State.modId_pnl (g : Ident → Ident) (s : State) : (s.modId g).pnl = s.pnl := rfl
@[simp] theorem State.modId_lanes (g : Ident → Ident) (s : State) : (s.modId g).lanes = s.lanes := rfl
@[simp] theorem State.modId_mem (g : Ident → Ident) (s : State) : (s.modId g).mem = s.mem := rfl
@[simp] theorem State.modId_churn (g : Ident → Ident) (s : State) : (s.modId g).churn = s.churn := rfl
@[simp] theorem State.modId_plc (g : Ident → Ident) (s : State) : (s.modId g).plc = s.plc := rfl
@[simp] theorem State.modId_aud (g : Ident → Ident) (s : State) : (s.modId g).aud = s.aud := rfl
@[simp] theorem State.modId_hk (g : Ident → Ident) (s : State) : (s.modId g).hk = s.hk := rfl
@[simp] theorem State.modId_nvm (g : Ident → Ident) (s : State) : (s.modId g).nvm = s.nvm := rfl
@[simp] theorem State.modId_tp (g : Ident → Ident) (s : State) : (s.modId g).tp = s.tp := rfl
@[simp] theorem State.modId_sec (g : Ident → Ident) (s : State) : (s.modId g).sec = s.sec := rfl
@[simp] theorem State.modId_tap (g : Ident → Ident) (s : State) : (s.modId g).tap = s.tap := rfl
@[simp] theorem State.modId_time (g : Ident → Ident) (s : State) : (s.modId g).time = s.time := rfl
@[simp] theorem State.modId_win (g : Ident → Ident) (s : State) : (s.modId g).win = s.win := rfl
@[simp] theorem State.modId_out (g : Ident → Ident) (s : State) : (s.modId g).out = s.out := rfl
@[simp] theorem State.modId_free (g : Ident → Ident) (s : State) : (s.modId g).free = s.free := rfl
@[simp] theorem State.modId_pending (g : Ident → Ident) (s : State) : (s.modId g).pending = s.pending := rfl
@[simp] theorem State.modPins_id (g : Pins → Pins) (s : State) : (s.modPins g).id = s.id := rfl
@[simp] theorem State.modPins_pins (g : Pins → Pins) (s : State) : (s.modPins g).pins = g s.pins := rfl
@[simp] theorem State.modPins_pwr (g : Pins → Pins) (s : State) : (s.modPins g).pwr = s.pwr := rfl
@[simp] theorem State.modPins_gov (g : Pins → Pins) (s : State) : (s.modPins g).gov = s.gov := rfl
@[simp] theorem State.modPins_clk (g : Pins → Pins) (s : State) : (s.modPins g).clk = s.clk := rfl
@[simp] theorem State.modPins_own (g : Pins → Pins) (s : State) : (s.modPins g).own = s.own := rfl
@[simp] theorem State.modPins_ctl (g : Pins → Pins) (s : State) : (s.modPins g).ctl = s.ctl := rfl
@[simp] theorem State.modPins_units (g : Pins → Pins) (s : State) : (s.modPins g).units = s.units := rfl
@[simp] theorem State.modPins_mode (g : Pins → Pins) (s : State) : (s.modPins g).mode = s.mode := rfl
@[simp] theorem State.modPins_cam (g : Pins → Pins) (s : State) : (s.modPins g).cam = s.cam := rfl
@[simp] theorem State.modPins_isp (g : Pins → Pins) (s : State) : (s.modPins g).isp = s.isp := rfl
@[simp] theorem State.modPins_depth (g : Pins → Pins) (s : State) : (s.modPins g).depth = s.depth := rfl
@[simp] theorem State.modPins_scene (g : Pins → Pins) (s : State) : (s.modPins g).scene = s.scene := rfl
@[simp] theorem State.modPins_leases (g : Pins → Pins) (s : State) : (s.modPins g).leases = s.leases := rfl
@[simp] theorem State.modPins_ray (g : Pins → Pins) (s : State) : (s.modPins g).ray = s.ray := rfl
@[simp] theorem State.modPins_cellar (g : Pins → Pins) (s : State) : (s.modPins g).cellar = s.cellar := rfl
@[simp] theorem State.modPins_layers (g : Pins → Pins) (s : State) : (s.modPins g).layers = s.layers := rfl
@[simp] theorem State.modPins_hw (g : Pins → Pins) (s : State) : (s.modPins g).hw = s.hw := rfl
@[simp] theorem State.modPins_disp (g : Pins → Pins) (s : State) : (s.modPins g).disp = s.disp := rfl
@[simp] theorem State.modPins_scan (g : Pins → Pins) (s : State) : (s.modPins g).scan = s.scan := rfl
@[simp] theorem State.modPins_pnl (g : Pins → Pins) (s : State) : (s.modPins g).pnl = s.pnl := rfl
@[simp] theorem State.modPins_lanes (g : Pins → Pins) (s : State) : (s.modPins g).lanes = s.lanes := rfl
@[simp] theorem State.modPins_mem (g : Pins → Pins) (s : State) : (s.modPins g).mem = s.mem := rfl
@[simp] theorem State.modPins_churn (g : Pins → Pins) (s : State) : (s.modPins g).churn = s.churn := rfl
@[simp] theorem State.modPins_plc (g : Pins → Pins) (s : State) : (s.modPins g).plc = s.plc := rfl
@[simp] theorem State.modPins_aud (g : Pins → Pins) (s : State) : (s.modPins g).aud = s.aud := rfl
@[simp] theorem State.modPins_hk (g : Pins → Pins) (s : State) : (s.modPins g).hk = s.hk := rfl
@[simp] theorem State.modPins_nvm (g : Pins → Pins) (s : State) : (s.modPins g).nvm = s.nvm := rfl
@[simp] theorem State.modPins_tp (g : Pins → Pins) (s : State) : (s.modPins g).tp = s.tp := rfl
@[simp] theorem State.modPins_sec (g : Pins → Pins) (s : State) : (s.modPins g).sec = s.sec := rfl
@[simp] theorem State.modPins_tap (g : Pins → Pins) (s : State) : (s.modPins g).tap = s.tap := rfl
@[simp] theorem State.modPins_time (g : Pins → Pins) (s : State) : (s.modPins g).time = s.time := rfl
@[simp] theorem State.modPins_win (g : Pins → Pins) (s : State) : (s.modPins g).win = s.win := rfl
@[simp] theorem State.modPins_out (g : Pins → Pins) (s : State) : (s.modPins g).out = s.out := rfl
@[simp] theorem State.modPins_free (g : Pins → Pins) (s : State) : (s.modPins g).free = s.free := rfl
@[simp] theorem State.modPins_pending (g : Pins → Pins) (s : State) : (s.modPins g).pending = s.pending := rfl
@[simp] theorem State.modPwr_id (g : Pwr → Pwr) (s : State) : (s.modPwr g).id = s.id := rfl
@[simp] theorem State.modPwr_pins (g : Pwr → Pwr) (s : State) : (s.modPwr g).pins = s.pins := rfl
@[simp] theorem State.modPwr_pwr (g : Pwr → Pwr) (s : State) : (s.modPwr g).pwr = g s.pwr := rfl
@[simp] theorem State.modPwr_gov (g : Pwr → Pwr) (s : State) : (s.modPwr g).gov = s.gov := rfl
@[simp] theorem State.modPwr_clk (g : Pwr → Pwr) (s : State) : (s.modPwr g).clk = s.clk := rfl
@[simp] theorem State.modPwr_own (g : Pwr → Pwr) (s : State) : (s.modPwr g).own = s.own := rfl
@[simp] theorem State.modPwr_ctl (g : Pwr → Pwr) (s : State) : (s.modPwr g).ctl = s.ctl := rfl
@[simp] theorem State.modPwr_units (g : Pwr → Pwr) (s : State) : (s.modPwr g).units = s.units := rfl
@[simp] theorem State.modPwr_mode (g : Pwr → Pwr) (s : State) : (s.modPwr g).mode = s.mode := rfl
@[simp] theorem State.modPwr_cam (g : Pwr → Pwr) (s : State) : (s.modPwr g).cam = s.cam := rfl
@[simp] theorem State.modPwr_isp (g : Pwr → Pwr) (s : State) : (s.modPwr g).isp = s.isp := rfl
@[simp] theorem State.modPwr_depth (g : Pwr → Pwr) (s : State) : (s.modPwr g).depth = s.depth := rfl
@[simp] theorem State.modPwr_scene (g : Pwr → Pwr) (s : State) : (s.modPwr g).scene = s.scene := rfl
@[simp] theorem State.modPwr_leases (g : Pwr → Pwr) (s : State) : (s.modPwr g).leases = s.leases := rfl
@[simp] theorem State.modPwr_ray (g : Pwr → Pwr) (s : State) : (s.modPwr g).ray = s.ray := rfl
@[simp] theorem State.modPwr_cellar (g : Pwr → Pwr) (s : State) : (s.modPwr g).cellar = s.cellar := rfl
@[simp] theorem State.modPwr_layers (g : Pwr → Pwr) (s : State) : (s.modPwr g).layers = s.layers := rfl
@[simp] theorem State.modPwr_hw (g : Pwr → Pwr) (s : State) : (s.modPwr g).hw = s.hw := rfl
@[simp] theorem State.modPwr_disp (g : Pwr → Pwr) (s : State) : (s.modPwr g).disp = s.disp := rfl
@[simp] theorem State.modPwr_scan (g : Pwr → Pwr) (s : State) : (s.modPwr g).scan = s.scan := rfl
@[simp] theorem State.modPwr_pnl (g : Pwr → Pwr) (s : State) : (s.modPwr g).pnl = s.pnl := rfl
@[simp] theorem State.modPwr_lanes (g : Pwr → Pwr) (s : State) : (s.modPwr g).lanes = s.lanes := rfl
@[simp] theorem State.modPwr_mem (g : Pwr → Pwr) (s : State) : (s.modPwr g).mem = s.mem := rfl
@[simp] theorem State.modPwr_churn (g : Pwr → Pwr) (s : State) : (s.modPwr g).churn = s.churn := rfl
@[simp] theorem State.modPwr_plc (g : Pwr → Pwr) (s : State) : (s.modPwr g).plc = s.plc := rfl
@[simp] theorem State.modPwr_aud (g : Pwr → Pwr) (s : State) : (s.modPwr g).aud = s.aud := rfl
@[simp] theorem State.modPwr_hk (g : Pwr → Pwr) (s : State) : (s.modPwr g).hk = s.hk := rfl
@[simp] theorem State.modPwr_nvm (g : Pwr → Pwr) (s : State) : (s.modPwr g).nvm = s.nvm := rfl
@[simp] theorem State.modPwr_tp (g : Pwr → Pwr) (s : State) : (s.modPwr g).tp = s.tp := rfl
@[simp] theorem State.modPwr_sec (g : Pwr → Pwr) (s : State) : (s.modPwr g).sec = s.sec := rfl
@[simp] theorem State.modPwr_tap (g : Pwr → Pwr) (s : State) : (s.modPwr g).tap = s.tap := rfl
@[simp] theorem State.modPwr_time (g : Pwr → Pwr) (s : State) : (s.modPwr g).time = s.time := rfl
@[simp] theorem State.modPwr_win (g : Pwr → Pwr) (s : State) : (s.modPwr g).win = s.win := rfl
@[simp] theorem State.modPwr_out (g : Pwr → Pwr) (s : State) : (s.modPwr g).out = s.out := rfl
@[simp] theorem State.modPwr_free (g : Pwr → Pwr) (s : State) : (s.modPwr g).free = s.free := rfl
@[simp] theorem State.modPwr_pending (g : Pwr → Pwr) (s : State) : (s.modPwr g).pending = s.pending := rfl
@[simp] theorem State.modGov_id (g : Gov → Gov) (s : State) : (s.modGov g).id = s.id := rfl
@[simp] theorem State.modGov_pins (g : Gov → Gov) (s : State) : (s.modGov g).pins = s.pins := rfl
@[simp] theorem State.modGov_pwr (g : Gov → Gov) (s : State) : (s.modGov g).pwr = s.pwr := rfl
@[simp] theorem State.modGov_gov (g : Gov → Gov) (s : State) : (s.modGov g).gov = g s.gov := rfl
@[simp] theorem State.modGov_clk (g : Gov → Gov) (s : State) : (s.modGov g).clk = s.clk := rfl
@[simp] theorem State.modGov_own (g : Gov → Gov) (s : State) : (s.modGov g).own = s.own := rfl
@[simp] theorem State.modGov_ctl (g : Gov → Gov) (s : State) : (s.modGov g).ctl = s.ctl := rfl
@[simp] theorem State.modGov_units (g : Gov → Gov) (s : State) : (s.modGov g).units = s.units := rfl
@[simp] theorem State.modGov_mode (g : Gov → Gov) (s : State) : (s.modGov g).mode = s.mode := rfl
@[simp] theorem State.modGov_cam (g : Gov → Gov) (s : State) : (s.modGov g).cam = s.cam := rfl
@[simp] theorem State.modGov_isp (g : Gov → Gov) (s : State) : (s.modGov g).isp = s.isp := rfl
@[simp] theorem State.modGov_depth (g : Gov → Gov) (s : State) : (s.modGov g).depth = s.depth := rfl
@[simp] theorem State.modGov_scene (g : Gov → Gov) (s : State) : (s.modGov g).scene = s.scene := rfl
@[simp] theorem State.modGov_leases (g : Gov → Gov) (s : State) : (s.modGov g).leases = s.leases := rfl
@[simp] theorem State.modGov_ray (g : Gov → Gov) (s : State) : (s.modGov g).ray = s.ray := rfl
@[simp] theorem State.modGov_cellar (g : Gov → Gov) (s : State) : (s.modGov g).cellar = s.cellar := rfl
@[simp] theorem State.modGov_layers (g : Gov → Gov) (s : State) : (s.modGov g).layers = s.layers := rfl
@[simp] theorem State.modGov_hw (g : Gov → Gov) (s : State) : (s.modGov g).hw = s.hw := rfl
@[simp] theorem State.modGov_disp (g : Gov → Gov) (s : State) : (s.modGov g).disp = s.disp := rfl
@[simp] theorem State.modGov_scan (g : Gov → Gov) (s : State) : (s.modGov g).scan = s.scan := rfl
@[simp] theorem State.modGov_pnl (g : Gov → Gov) (s : State) : (s.modGov g).pnl = s.pnl := rfl
@[simp] theorem State.modGov_lanes (g : Gov → Gov) (s : State) : (s.modGov g).lanes = s.lanes := rfl
@[simp] theorem State.modGov_mem (g : Gov → Gov) (s : State) : (s.modGov g).mem = s.mem := rfl
@[simp] theorem State.modGov_churn (g : Gov → Gov) (s : State) : (s.modGov g).churn = s.churn := rfl
@[simp] theorem State.modGov_plc (g : Gov → Gov) (s : State) : (s.modGov g).plc = s.plc := rfl
@[simp] theorem State.modGov_aud (g : Gov → Gov) (s : State) : (s.modGov g).aud = s.aud := rfl
@[simp] theorem State.modGov_hk (g : Gov → Gov) (s : State) : (s.modGov g).hk = s.hk := rfl
@[simp] theorem State.modGov_nvm (g : Gov → Gov) (s : State) : (s.modGov g).nvm = s.nvm := rfl
@[simp] theorem State.modGov_tp (g : Gov → Gov) (s : State) : (s.modGov g).tp = s.tp := rfl
@[simp] theorem State.modGov_sec (g : Gov → Gov) (s : State) : (s.modGov g).sec = s.sec := rfl
@[simp] theorem State.modGov_tap (g : Gov → Gov) (s : State) : (s.modGov g).tap = s.tap := rfl
@[simp] theorem State.modGov_time (g : Gov → Gov) (s : State) : (s.modGov g).time = s.time := rfl
@[simp] theorem State.modGov_win (g : Gov → Gov) (s : State) : (s.modGov g).win = s.win := rfl
@[simp] theorem State.modGov_out (g : Gov → Gov) (s : State) : (s.modGov g).out = s.out := rfl
@[simp] theorem State.modGov_free (g : Gov → Gov) (s : State) : (s.modGov g).free = s.free := rfl
@[simp] theorem State.modGov_pending (g : Gov → Gov) (s : State) : (s.modGov g).pending = s.pending := rfl
@[simp] theorem State.modClk_id (g : Clk → Clk) (s : State) : (s.modClk g).id = s.id := rfl
@[simp] theorem State.modClk_pins (g : Clk → Clk) (s : State) : (s.modClk g).pins = s.pins := rfl
@[simp] theorem State.modClk_pwr (g : Clk → Clk) (s : State) : (s.modClk g).pwr = s.pwr := rfl
@[simp] theorem State.modClk_gov (g : Clk → Clk) (s : State) : (s.modClk g).gov = s.gov := rfl
@[simp] theorem State.modClk_clk (g : Clk → Clk) (s : State) : (s.modClk g).clk = g s.clk := rfl
@[simp] theorem State.modClk_own (g : Clk → Clk) (s : State) : (s.modClk g).own = s.own := rfl
@[simp] theorem State.modClk_ctl (g : Clk → Clk) (s : State) : (s.modClk g).ctl = s.ctl := rfl
@[simp] theorem State.modClk_units (g : Clk → Clk) (s : State) : (s.modClk g).units = s.units := rfl
@[simp] theorem State.modClk_mode (g : Clk → Clk) (s : State) : (s.modClk g).mode = s.mode := rfl
@[simp] theorem State.modClk_cam (g : Clk → Clk) (s : State) : (s.modClk g).cam = s.cam := rfl
@[simp] theorem State.modClk_isp (g : Clk → Clk) (s : State) : (s.modClk g).isp = s.isp := rfl
@[simp] theorem State.modClk_depth (g : Clk → Clk) (s : State) : (s.modClk g).depth = s.depth := rfl
@[simp] theorem State.modClk_scene (g : Clk → Clk) (s : State) : (s.modClk g).scene = s.scene := rfl
@[simp] theorem State.modClk_leases (g : Clk → Clk) (s : State) : (s.modClk g).leases = s.leases := rfl
@[simp] theorem State.modClk_ray (g : Clk → Clk) (s : State) : (s.modClk g).ray = s.ray := rfl
@[simp] theorem State.modClk_cellar (g : Clk → Clk) (s : State) : (s.modClk g).cellar = s.cellar := rfl
@[simp] theorem State.modClk_layers (g : Clk → Clk) (s : State) : (s.modClk g).layers = s.layers := rfl
@[simp] theorem State.modClk_hw (g : Clk → Clk) (s : State) : (s.modClk g).hw = s.hw := rfl
@[simp] theorem State.modClk_disp (g : Clk → Clk) (s : State) : (s.modClk g).disp = s.disp := rfl
@[simp] theorem State.modClk_scan (g : Clk → Clk) (s : State) : (s.modClk g).scan = s.scan := rfl
@[simp] theorem State.modClk_pnl (g : Clk → Clk) (s : State) : (s.modClk g).pnl = s.pnl := rfl
@[simp] theorem State.modClk_lanes (g : Clk → Clk) (s : State) : (s.modClk g).lanes = s.lanes := rfl
@[simp] theorem State.modClk_mem (g : Clk → Clk) (s : State) : (s.modClk g).mem = s.mem := rfl
@[simp] theorem State.modClk_churn (g : Clk → Clk) (s : State) : (s.modClk g).churn = s.churn := rfl
@[simp] theorem State.modClk_plc (g : Clk → Clk) (s : State) : (s.modClk g).plc = s.plc := rfl
@[simp] theorem State.modClk_aud (g : Clk → Clk) (s : State) : (s.modClk g).aud = s.aud := rfl
@[simp] theorem State.modClk_hk (g : Clk → Clk) (s : State) : (s.modClk g).hk = s.hk := rfl
@[simp] theorem State.modClk_nvm (g : Clk → Clk) (s : State) : (s.modClk g).nvm = s.nvm := rfl
@[simp] theorem State.modClk_tp (g : Clk → Clk) (s : State) : (s.modClk g).tp = s.tp := rfl
@[simp] theorem State.modClk_sec (g : Clk → Clk) (s : State) : (s.modClk g).sec = s.sec := rfl
@[simp] theorem State.modClk_tap (g : Clk → Clk) (s : State) : (s.modClk g).tap = s.tap := rfl
@[simp] theorem State.modClk_time (g : Clk → Clk) (s : State) : (s.modClk g).time = s.time := rfl
@[simp] theorem State.modClk_win (g : Clk → Clk) (s : State) : (s.modClk g).win = s.win := rfl
@[simp] theorem State.modClk_out (g : Clk → Clk) (s : State) : (s.modClk g).out = s.out := rfl
@[simp] theorem State.modClk_free (g : Clk → Clk) (s : State) : (s.modClk g).free = s.free := rfl
@[simp] theorem State.modClk_pending (g : Clk → Clk) (s : State) : (s.modClk g).pending = s.pending := rfl
@[simp] theorem State.modOwn_id (g : Own → Own) (s : State) : (s.modOwn g).id = s.id := rfl
@[simp] theorem State.modOwn_pins (g : Own → Own) (s : State) : (s.modOwn g).pins = s.pins := rfl
@[simp] theorem State.modOwn_pwr (g : Own → Own) (s : State) : (s.modOwn g).pwr = s.pwr := rfl
@[simp] theorem State.modOwn_gov (g : Own → Own) (s : State) : (s.modOwn g).gov = s.gov := rfl
@[simp] theorem State.modOwn_clk (g : Own → Own) (s : State) : (s.modOwn g).clk = s.clk := rfl
@[simp] theorem State.modOwn_own (g : Own → Own) (s : State) : (s.modOwn g).own = g s.own := rfl
@[simp] theorem State.modOwn_ctl (g : Own → Own) (s : State) : (s.modOwn g).ctl = s.ctl := rfl
@[simp] theorem State.modOwn_units (g : Own → Own) (s : State) : (s.modOwn g).units = s.units := rfl
@[simp] theorem State.modOwn_mode (g : Own → Own) (s : State) : (s.modOwn g).mode = s.mode := rfl
@[simp] theorem State.modOwn_cam (g : Own → Own) (s : State) : (s.modOwn g).cam = s.cam := rfl
@[simp] theorem State.modOwn_isp (g : Own → Own) (s : State) : (s.modOwn g).isp = s.isp := rfl
@[simp] theorem State.modOwn_depth (g : Own → Own) (s : State) : (s.modOwn g).depth = s.depth := rfl
@[simp] theorem State.modOwn_scene (g : Own → Own) (s : State) : (s.modOwn g).scene = s.scene := rfl
@[simp] theorem State.modOwn_leases (g : Own → Own) (s : State) : (s.modOwn g).leases = s.leases := rfl
@[simp] theorem State.modOwn_ray (g : Own → Own) (s : State) : (s.modOwn g).ray = s.ray := rfl
@[simp] theorem State.modOwn_cellar (g : Own → Own) (s : State) : (s.modOwn g).cellar = s.cellar := rfl
@[simp] theorem State.modOwn_layers (g : Own → Own) (s : State) : (s.modOwn g).layers = s.layers := rfl
@[simp] theorem State.modOwn_hw (g : Own → Own) (s : State) : (s.modOwn g).hw = s.hw := rfl
@[simp] theorem State.modOwn_disp (g : Own → Own) (s : State) : (s.modOwn g).disp = s.disp := rfl
@[simp] theorem State.modOwn_scan (g : Own → Own) (s : State) : (s.modOwn g).scan = s.scan := rfl
@[simp] theorem State.modOwn_pnl (g : Own → Own) (s : State) : (s.modOwn g).pnl = s.pnl := rfl
@[simp] theorem State.modOwn_lanes (g : Own → Own) (s : State) : (s.modOwn g).lanes = s.lanes := rfl
@[simp] theorem State.modOwn_mem (g : Own → Own) (s : State) : (s.modOwn g).mem = s.mem := rfl
@[simp] theorem State.modOwn_churn (g : Own → Own) (s : State) : (s.modOwn g).churn = s.churn := rfl
@[simp] theorem State.modOwn_plc (g : Own → Own) (s : State) : (s.modOwn g).plc = s.plc := rfl
@[simp] theorem State.modOwn_aud (g : Own → Own) (s : State) : (s.modOwn g).aud = s.aud := rfl
@[simp] theorem State.modOwn_hk (g : Own → Own) (s : State) : (s.modOwn g).hk = s.hk := rfl
@[simp] theorem State.modOwn_nvm (g : Own → Own) (s : State) : (s.modOwn g).nvm = s.nvm := rfl
@[simp] theorem State.modOwn_tp (g : Own → Own) (s : State) : (s.modOwn g).tp = s.tp := rfl
@[simp] theorem State.modOwn_sec (g : Own → Own) (s : State) : (s.modOwn g).sec = s.sec := rfl
@[simp] theorem State.modOwn_tap (g : Own → Own) (s : State) : (s.modOwn g).tap = s.tap := rfl
@[simp] theorem State.modOwn_time (g : Own → Own) (s : State) : (s.modOwn g).time = s.time := rfl
@[simp] theorem State.modOwn_win (g : Own → Own) (s : State) : (s.modOwn g).win = s.win := rfl
@[simp] theorem State.modOwn_out (g : Own → Own) (s : State) : (s.modOwn g).out = s.out := rfl
@[simp] theorem State.modOwn_free (g : Own → Own) (s : State) : (s.modOwn g).free = s.free := rfl
@[simp] theorem State.modOwn_pending (g : Own → Own) (s : State) : (s.modOwn g).pending = s.pending := rfl
@[simp] theorem State.modCtl_id (g : Ctl → Ctl) (s : State) : (s.modCtl g).id = s.id := rfl
@[simp] theorem State.modCtl_pins (g : Ctl → Ctl) (s : State) : (s.modCtl g).pins = s.pins := rfl
@[simp] theorem State.modCtl_pwr (g : Ctl → Ctl) (s : State) : (s.modCtl g).pwr = s.pwr := rfl
@[simp] theorem State.modCtl_gov (g : Ctl → Ctl) (s : State) : (s.modCtl g).gov = s.gov := rfl
@[simp] theorem State.modCtl_clk (g : Ctl → Ctl) (s : State) : (s.modCtl g).clk = s.clk := rfl
@[simp] theorem State.modCtl_own (g : Ctl → Ctl) (s : State) : (s.modCtl g).own = s.own := rfl
@[simp] theorem State.modCtl_ctl (g : Ctl → Ctl) (s : State) : (s.modCtl g).ctl = g s.ctl := rfl
@[simp] theorem State.modCtl_units (g : Ctl → Ctl) (s : State) : (s.modCtl g).units = s.units := rfl
@[simp] theorem State.modCtl_mode (g : Ctl → Ctl) (s : State) : (s.modCtl g).mode = s.mode := rfl
@[simp] theorem State.modCtl_cam (g : Ctl → Ctl) (s : State) : (s.modCtl g).cam = s.cam := rfl
@[simp] theorem State.modCtl_isp (g : Ctl → Ctl) (s : State) : (s.modCtl g).isp = s.isp := rfl
@[simp] theorem State.modCtl_depth (g : Ctl → Ctl) (s : State) : (s.modCtl g).depth = s.depth := rfl
@[simp] theorem State.modCtl_scene (g : Ctl → Ctl) (s : State) : (s.modCtl g).scene = s.scene := rfl
@[simp] theorem State.modCtl_leases (g : Ctl → Ctl) (s : State) : (s.modCtl g).leases = s.leases := rfl
@[simp] theorem State.modCtl_ray (g : Ctl → Ctl) (s : State) : (s.modCtl g).ray = s.ray := rfl
@[simp] theorem State.modCtl_cellar (g : Ctl → Ctl) (s : State) : (s.modCtl g).cellar = s.cellar := rfl
@[simp] theorem State.modCtl_layers (g : Ctl → Ctl) (s : State) : (s.modCtl g).layers = s.layers := rfl
@[simp] theorem State.modCtl_hw (g : Ctl → Ctl) (s : State) : (s.modCtl g).hw = s.hw := rfl
@[simp] theorem State.modCtl_disp (g : Ctl → Ctl) (s : State) : (s.modCtl g).disp = s.disp := rfl
@[simp] theorem State.modCtl_scan (g : Ctl → Ctl) (s : State) : (s.modCtl g).scan = s.scan := rfl
@[simp] theorem State.modCtl_pnl (g : Ctl → Ctl) (s : State) : (s.modCtl g).pnl = s.pnl := rfl
@[simp] theorem State.modCtl_lanes (g : Ctl → Ctl) (s : State) : (s.modCtl g).lanes = s.lanes := rfl
@[simp] theorem State.modCtl_mem (g : Ctl → Ctl) (s : State) : (s.modCtl g).mem = s.mem := rfl
@[simp] theorem State.modCtl_churn (g : Ctl → Ctl) (s : State) : (s.modCtl g).churn = s.churn := rfl
@[simp] theorem State.modCtl_plc (g : Ctl → Ctl) (s : State) : (s.modCtl g).plc = s.plc := rfl
@[simp] theorem State.modCtl_aud (g : Ctl → Ctl) (s : State) : (s.modCtl g).aud = s.aud := rfl
@[simp] theorem State.modCtl_hk (g : Ctl → Ctl) (s : State) : (s.modCtl g).hk = s.hk := rfl
@[simp] theorem State.modCtl_nvm (g : Ctl → Ctl) (s : State) : (s.modCtl g).nvm = s.nvm := rfl
@[simp] theorem State.modCtl_tp (g : Ctl → Ctl) (s : State) : (s.modCtl g).tp = s.tp := rfl
@[simp] theorem State.modCtl_sec (g : Ctl → Ctl) (s : State) : (s.modCtl g).sec = s.sec := rfl
@[simp] theorem State.modCtl_tap (g : Ctl → Ctl) (s : State) : (s.modCtl g).tap = s.tap := rfl
@[simp] theorem State.modCtl_time (g : Ctl → Ctl) (s : State) : (s.modCtl g).time = s.time := rfl
@[simp] theorem State.modCtl_win (g : Ctl → Ctl) (s : State) : (s.modCtl g).win = s.win := rfl
@[simp] theorem State.modCtl_out (g : Ctl → Ctl) (s : State) : (s.modCtl g).out = s.out := rfl
@[simp] theorem State.modCtl_free (g : Ctl → Ctl) (s : State) : (s.modCtl g).free = s.free := rfl
@[simp] theorem State.modCtl_pending (g : Ctl → Ctl) (s : State) : (s.modCtl g).pending = s.pending := rfl
@[simp] theorem State.modUnits_id (g : Units → Units) (s : State) : (s.modUnits g).id = s.id := rfl
@[simp] theorem State.modUnits_pins (g : Units → Units) (s : State) : (s.modUnits g).pins = s.pins := rfl
@[simp] theorem State.modUnits_pwr (g : Units → Units) (s : State) : (s.modUnits g).pwr = s.pwr := rfl
@[simp] theorem State.modUnits_gov (g : Units → Units) (s : State) : (s.modUnits g).gov = s.gov := rfl
@[simp] theorem State.modUnits_clk (g : Units → Units) (s : State) : (s.modUnits g).clk = s.clk := rfl
@[simp] theorem State.modUnits_own (g : Units → Units) (s : State) : (s.modUnits g).own = s.own := rfl
@[simp] theorem State.modUnits_ctl (g : Units → Units) (s : State) : (s.modUnits g).ctl = s.ctl := rfl
@[simp] theorem State.modUnits_units (g : Units → Units) (s : State) : (s.modUnits g).units = g s.units := rfl
@[simp] theorem State.modUnits_mode (g : Units → Units) (s : State) : (s.modUnits g).mode = s.mode := rfl
@[simp] theorem State.modUnits_cam (g : Units → Units) (s : State) : (s.modUnits g).cam = s.cam := rfl
@[simp] theorem State.modUnits_isp (g : Units → Units) (s : State) : (s.modUnits g).isp = s.isp := rfl
@[simp] theorem State.modUnits_depth (g : Units → Units) (s : State) : (s.modUnits g).depth = s.depth := rfl
@[simp] theorem State.modUnits_scene (g : Units → Units) (s : State) : (s.modUnits g).scene = s.scene := rfl
@[simp] theorem State.modUnits_leases (g : Units → Units) (s : State) : (s.modUnits g).leases = s.leases := rfl
@[simp] theorem State.modUnits_ray (g : Units → Units) (s : State) : (s.modUnits g).ray = s.ray := rfl
@[simp] theorem State.modUnits_cellar (g : Units → Units) (s : State) : (s.modUnits g).cellar = s.cellar := rfl
@[simp] theorem State.modUnits_layers (g : Units → Units) (s : State) : (s.modUnits g).layers = s.layers := rfl
@[simp] theorem State.modUnits_hw (g : Units → Units) (s : State) : (s.modUnits g).hw = s.hw := rfl
@[simp] theorem State.modUnits_disp (g : Units → Units) (s : State) : (s.modUnits g).disp = s.disp := rfl
@[simp] theorem State.modUnits_scan (g : Units → Units) (s : State) : (s.modUnits g).scan = s.scan := rfl
@[simp] theorem State.modUnits_pnl (g : Units → Units) (s : State) : (s.modUnits g).pnl = s.pnl := rfl
@[simp] theorem State.modUnits_lanes (g : Units → Units) (s : State) : (s.modUnits g).lanes = s.lanes := rfl
@[simp] theorem State.modUnits_mem (g : Units → Units) (s : State) : (s.modUnits g).mem = s.mem := rfl
@[simp] theorem State.modUnits_churn (g : Units → Units) (s : State) : (s.modUnits g).churn = s.churn := rfl
@[simp] theorem State.modUnits_plc (g : Units → Units) (s : State) : (s.modUnits g).plc = s.plc := rfl
@[simp] theorem State.modUnits_aud (g : Units → Units) (s : State) : (s.modUnits g).aud = s.aud := rfl
@[simp] theorem State.modUnits_hk (g : Units → Units) (s : State) : (s.modUnits g).hk = s.hk := rfl
@[simp] theorem State.modUnits_nvm (g : Units → Units) (s : State) : (s.modUnits g).nvm = s.nvm := rfl
@[simp] theorem State.modUnits_tp (g : Units → Units) (s : State) : (s.modUnits g).tp = s.tp := rfl
@[simp] theorem State.modUnits_sec (g : Units → Units) (s : State) : (s.modUnits g).sec = s.sec := rfl
@[simp] theorem State.modUnits_tap (g : Units → Units) (s : State) : (s.modUnits g).tap = s.tap := rfl
@[simp] theorem State.modUnits_time (g : Units → Units) (s : State) : (s.modUnits g).time = s.time := rfl
@[simp] theorem State.modUnits_win (g : Units → Units) (s : State) : (s.modUnits g).win = s.win := rfl
@[simp] theorem State.modUnits_out (g : Units → Units) (s : State) : (s.modUnits g).out = s.out := rfl
@[simp] theorem State.modUnits_free (g : Units → Units) (s : State) : (s.modUnits g).free = s.free := rfl
@[simp] theorem State.modUnits_pending (g : Units → Units) (s : State) : (s.modUnits g).pending = s.pending := rfl
@[simp] theorem State.modMode_id (g : ModeSt → ModeSt) (s : State) : (s.modMode g).id = s.id := rfl
@[simp] theorem State.modMode_pins (g : ModeSt → ModeSt) (s : State) : (s.modMode g).pins = s.pins := rfl
@[simp] theorem State.modMode_pwr (g : ModeSt → ModeSt) (s : State) : (s.modMode g).pwr = s.pwr := rfl
@[simp] theorem State.modMode_gov (g : ModeSt → ModeSt) (s : State) : (s.modMode g).gov = s.gov := rfl
@[simp] theorem State.modMode_clk (g : ModeSt → ModeSt) (s : State) : (s.modMode g).clk = s.clk := rfl
@[simp] theorem State.modMode_own (g : ModeSt → ModeSt) (s : State) : (s.modMode g).own = s.own := rfl
@[simp] theorem State.modMode_ctl (g : ModeSt → ModeSt) (s : State) : (s.modMode g).ctl = s.ctl := rfl
@[simp] theorem State.modMode_units (g : ModeSt → ModeSt) (s : State) : (s.modMode g).units = s.units := rfl
@[simp] theorem State.modMode_mode (g : ModeSt → ModeSt) (s : State) : (s.modMode g).mode = g s.mode := rfl
@[simp] theorem State.modMode_cam (g : ModeSt → ModeSt) (s : State) : (s.modMode g).cam = s.cam := rfl
@[simp] theorem State.modMode_isp (g : ModeSt → ModeSt) (s : State) : (s.modMode g).isp = s.isp := rfl
@[simp] theorem State.modMode_depth (g : ModeSt → ModeSt) (s : State) : (s.modMode g).depth = s.depth := rfl
@[simp] theorem State.modMode_scene (g : ModeSt → ModeSt) (s : State) : (s.modMode g).scene = s.scene := rfl
@[simp] theorem State.modMode_leases (g : ModeSt → ModeSt) (s : State) : (s.modMode g).leases = s.leases := rfl
@[simp] theorem State.modMode_ray (g : ModeSt → ModeSt) (s : State) : (s.modMode g).ray = s.ray := rfl
@[simp] theorem State.modMode_cellar (g : ModeSt → ModeSt) (s : State) : (s.modMode g).cellar = s.cellar := rfl
@[simp] theorem State.modMode_layers (g : ModeSt → ModeSt) (s : State) : (s.modMode g).layers = s.layers := rfl
@[simp] theorem State.modMode_hw (g : ModeSt → ModeSt) (s : State) : (s.modMode g).hw = s.hw := rfl
@[simp] theorem State.modMode_disp (g : ModeSt → ModeSt) (s : State) : (s.modMode g).disp = s.disp := rfl
@[simp] theorem State.modMode_scan (g : ModeSt → ModeSt) (s : State) : (s.modMode g).scan = s.scan := rfl
@[simp] theorem State.modMode_pnl (g : ModeSt → ModeSt) (s : State) : (s.modMode g).pnl = s.pnl := rfl
@[simp] theorem State.modMode_lanes (g : ModeSt → ModeSt) (s : State) : (s.modMode g).lanes = s.lanes := rfl
@[simp] theorem State.modMode_mem (g : ModeSt → ModeSt) (s : State) : (s.modMode g).mem = s.mem := rfl
@[simp] theorem State.modMode_churn (g : ModeSt → ModeSt) (s : State) : (s.modMode g).churn = s.churn := rfl
@[simp] theorem State.modMode_plc (g : ModeSt → ModeSt) (s : State) : (s.modMode g).plc = s.plc := rfl
@[simp] theorem State.modMode_aud (g : ModeSt → ModeSt) (s : State) : (s.modMode g).aud = s.aud := rfl
@[simp] theorem State.modMode_hk (g : ModeSt → ModeSt) (s : State) : (s.modMode g).hk = s.hk := rfl
@[simp] theorem State.modMode_nvm (g : ModeSt → ModeSt) (s : State) : (s.modMode g).nvm = s.nvm := rfl
@[simp] theorem State.modMode_tp (g : ModeSt → ModeSt) (s : State) : (s.modMode g).tp = s.tp := rfl
@[simp] theorem State.modMode_sec (g : ModeSt → ModeSt) (s : State) : (s.modMode g).sec = s.sec := rfl
@[simp] theorem State.modMode_tap (g : ModeSt → ModeSt) (s : State) : (s.modMode g).tap = s.tap := rfl
@[simp] theorem State.modMode_time (g : ModeSt → ModeSt) (s : State) : (s.modMode g).time = s.time := rfl
@[simp] theorem State.modMode_win (g : ModeSt → ModeSt) (s : State) : (s.modMode g).win = s.win := rfl
@[simp] theorem State.modMode_out (g : ModeSt → ModeSt) (s : State) : (s.modMode g).out = s.out := rfl
@[simp] theorem State.modMode_free (g : ModeSt → ModeSt) (s : State) : (s.modMode g).free = s.free := rfl
@[simp] theorem State.modMode_pending (g : ModeSt → ModeSt) (s : State) : (s.modMode g).pending = s.pending := rfl
@[simp] theorem State.modCam_id (g : Cam → Cam) (s : State) : (s.modCam g).id = s.id := rfl
@[simp] theorem State.modCam_pins (g : Cam → Cam) (s : State) : (s.modCam g).pins = s.pins := rfl
@[simp] theorem State.modCam_pwr (g : Cam → Cam) (s : State) : (s.modCam g).pwr = s.pwr := rfl
@[simp] theorem State.modCam_gov (g : Cam → Cam) (s : State) : (s.modCam g).gov = s.gov := rfl
@[simp] theorem State.modCam_clk (g : Cam → Cam) (s : State) : (s.modCam g).clk = s.clk := rfl
@[simp] theorem State.modCam_own (g : Cam → Cam) (s : State) : (s.modCam g).own = s.own := rfl
@[simp] theorem State.modCam_ctl (g : Cam → Cam) (s : State) : (s.modCam g).ctl = s.ctl := rfl
@[simp] theorem State.modCam_units (g : Cam → Cam) (s : State) : (s.modCam g).units = s.units := rfl
@[simp] theorem State.modCam_mode (g : Cam → Cam) (s : State) : (s.modCam g).mode = s.mode := rfl
@[simp] theorem State.modCam_cam (g : Cam → Cam) (s : State) : (s.modCam g).cam = g s.cam := rfl
@[simp] theorem State.modCam_isp (g : Cam → Cam) (s : State) : (s.modCam g).isp = s.isp := rfl
@[simp] theorem State.modCam_depth (g : Cam → Cam) (s : State) : (s.modCam g).depth = s.depth := rfl
@[simp] theorem State.modCam_scene (g : Cam → Cam) (s : State) : (s.modCam g).scene = s.scene := rfl
@[simp] theorem State.modCam_leases (g : Cam → Cam) (s : State) : (s.modCam g).leases = s.leases := rfl
@[simp] theorem State.modCam_ray (g : Cam → Cam) (s : State) : (s.modCam g).ray = s.ray := rfl
@[simp] theorem State.modCam_cellar (g : Cam → Cam) (s : State) : (s.modCam g).cellar = s.cellar := rfl
@[simp] theorem State.modCam_layers (g : Cam → Cam) (s : State) : (s.modCam g).layers = s.layers := rfl
@[simp] theorem State.modCam_hw (g : Cam → Cam) (s : State) : (s.modCam g).hw = s.hw := rfl
@[simp] theorem State.modCam_disp (g : Cam → Cam) (s : State) : (s.modCam g).disp = s.disp := rfl
@[simp] theorem State.modCam_scan (g : Cam → Cam) (s : State) : (s.modCam g).scan = s.scan := rfl
@[simp] theorem State.modCam_pnl (g : Cam → Cam) (s : State) : (s.modCam g).pnl = s.pnl := rfl
@[simp] theorem State.modCam_lanes (g : Cam → Cam) (s : State) : (s.modCam g).lanes = s.lanes := rfl
@[simp] theorem State.modCam_mem (g : Cam → Cam) (s : State) : (s.modCam g).mem = s.mem := rfl
@[simp] theorem State.modCam_churn (g : Cam → Cam) (s : State) : (s.modCam g).churn = s.churn := rfl
@[simp] theorem State.modCam_plc (g : Cam → Cam) (s : State) : (s.modCam g).plc = s.plc := rfl
@[simp] theorem State.modCam_aud (g : Cam → Cam) (s : State) : (s.modCam g).aud = s.aud := rfl
@[simp] theorem State.modCam_hk (g : Cam → Cam) (s : State) : (s.modCam g).hk = s.hk := rfl
@[simp] theorem State.modCam_nvm (g : Cam → Cam) (s : State) : (s.modCam g).nvm = s.nvm := rfl
@[simp] theorem State.modCam_tp (g : Cam → Cam) (s : State) : (s.modCam g).tp = s.tp := rfl
@[simp] theorem State.modCam_sec (g : Cam → Cam) (s : State) : (s.modCam g).sec = s.sec := rfl
@[simp] theorem State.modCam_tap (g : Cam → Cam) (s : State) : (s.modCam g).tap = s.tap := rfl
@[simp] theorem State.modCam_time (g : Cam → Cam) (s : State) : (s.modCam g).time = s.time := rfl
@[simp] theorem State.modCam_win (g : Cam → Cam) (s : State) : (s.modCam g).win = s.win := rfl
@[simp] theorem State.modCam_out (g : Cam → Cam) (s : State) : (s.modCam g).out = s.out := rfl
@[simp] theorem State.modCam_free (g : Cam → Cam) (s : State) : (s.modCam g).free = s.free := rfl
@[simp] theorem State.modCam_pending (g : Cam → Cam) (s : State) : (s.modCam g).pending = s.pending := rfl
@[simp] theorem State.modIsp_id (g : Isp → Isp) (s : State) : (s.modIsp g).id = s.id := rfl
@[simp] theorem State.modIsp_pins (g : Isp → Isp) (s : State) : (s.modIsp g).pins = s.pins := rfl
@[simp] theorem State.modIsp_pwr (g : Isp → Isp) (s : State) : (s.modIsp g).pwr = s.pwr := rfl
@[simp] theorem State.modIsp_gov (g : Isp → Isp) (s : State) : (s.modIsp g).gov = s.gov := rfl
@[simp] theorem State.modIsp_clk (g : Isp → Isp) (s : State) : (s.modIsp g).clk = s.clk := rfl
@[simp] theorem State.modIsp_own (g : Isp → Isp) (s : State) : (s.modIsp g).own = s.own := rfl
@[simp] theorem State.modIsp_ctl (g : Isp → Isp) (s : State) : (s.modIsp g).ctl = s.ctl := rfl
@[simp] theorem State.modIsp_units (g : Isp → Isp) (s : State) : (s.modIsp g).units = s.units := rfl
@[simp] theorem State.modIsp_mode (g : Isp → Isp) (s : State) : (s.modIsp g).mode = s.mode := rfl
@[simp] theorem State.modIsp_cam (g : Isp → Isp) (s : State) : (s.modIsp g).cam = s.cam := rfl
@[simp] theorem State.modIsp_isp (g : Isp → Isp) (s : State) : (s.modIsp g).isp = g s.isp := rfl
@[simp] theorem State.modIsp_depth (g : Isp → Isp) (s : State) : (s.modIsp g).depth = s.depth := rfl
@[simp] theorem State.modIsp_scene (g : Isp → Isp) (s : State) : (s.modIsp g).scene = s.scene := rfl
@[simp] theorem State.modIsp_leases (g : Isp → Isp) (s : State) : (s.modIsp g).leases = s.leases := rfl
@[simp] theorem State.modIsp_ray (g : Isp → Isp) (s : State) : (s.modIsp g).ray = s.ray := rfl
@[simp] theorem State.modIsp_cellar (g : Isp → Isp) (s : State) : (s.modIsp g).cellar = s.cellar := rfl
@[simp] theorem State.modIsp_layers (g : Isp → Isp) (s : State) : (s.modIsp g).layers = s.layers := rfl
@[simp] theorem State.modIsp_hw (g : Isp → Isp) (s : State) : (s.modIsp g).hw = s.hw := rfl
@[simp] theorem State.modIsp_disp (g : Isp → Isp) (s : State) : (s.modIsp g).disp = s.disp := rfl
@[simp] theorem State.modIsp_scan (g : Isp → Isp) (s : State) : (s.modIsp g).scan = s.scan := rfl
@[simp] theorem State.modIsp_pnl (g : Isp → Isp) (s : State) : (s.modIsp g).pnl = s.pnl := rfl
@[simp] theorem State.modIsp_lanes (g : Isp → Isp) (s : State) : (s.modIsp g).lanes = s.lanes := rfl
@[simp] theorem State.modIsp_mem (g : Isp → Isp) (s : State) : (s.modIsp g).mem = s.mem := rfl
@[simp] theorem State.modIsp_churn (g : Isp → Isp) (s : State) : (s.modIsp g).churn = s.churn := rfl
@[simp] theorem State.modIsp_plc (g : Isp → Isp) (s : State) : (s.modIsp g).plc = s.plc := rfl
@[simp] theorem State.modIsp_aud (g : Isp → Isp) (s : State) : (s.modIsp g).aud = s.aud := rfl
@[simp] theorem State.modIsp_hk (g : Isp → Isp) (s : State) : (s.modIsp g).hk = s.hk := rfl
@[simp] theorem State.modIsp_nvm (g : Isp → Isp) (s : State) : (s.modIsp g).nvm = s.nvm := rfl
@[simp] theorem State.modIsp_tp (g : Isp → Isp) (s : State) : (s.modIsp g).tp = s.tp := rfl
@[simp] theorem State.modIsp_sec (g : Isp → Isp) (s : State) : (s.modIsp g).sec = s.sec := rfl
@[simp] theorem State.modIsp_tap (g : Isp → Isp) (s : State) : (s.modIsp g).tap = s.tap := rfl
@[simp] theorem State.modIsp_time (g : Isp → Isp) (s : State) : (s.modIsp g).time = s.time := rfl
@[simp] theorem State.modIsp_win (g : Isp → Isp) (s : State) : (s.modIsp g).win = s.win := rfl
@[simp] theorem State.modIsp_out (g : Isp → Isp) (s : State) : (s.modIsp g).out = s.out := rfl
@[simp] theorem State.modIsp_free (g : Isp → Isp) (s : State) : (s.modIsp g).free = s.free := rfl
@[simp] theorem State.modIsp_pending (g : Isp → Isp) (s : State) : (s.modIsp g).pending = s.pending := rfl
@[simp] theorem State.modDepth_id (g : Depth → Depth) (s : State) : (s.modDepth g).id = s.id := rfl
@[simp] theorem State.modDepth_pins (g : Depth → Depth) (s : State) : (s.modDepth g).pins = s.pins := rfl
@[simp] theorem State.modDepth_pwr (g : Depth → Depth) (s : State) : (s.modDepth g).pwr = s.pwr := rfl
@[simp] theorem State.modDepth_gov (g : Depth → Depth) (s : State) : (s.modDepth g).gov = s.gov := rfl
@[simp] theorem State.modDepth_clk (g : Depth → Depth) (s : State) : (s.modDepth g).clk = s.clk := rfl
@[simp] theorem State.modDepth_own (g : Depth → Depth) (s : State) : (s.modDepth g).own = s.own := rfl
@[simp] theorem State.modDepth_ctl (g : Depth → Depth) (s : State) : (s.modDepth g).ctl = s.ctl := rfl
@[simp] theorem State.modDepth_units (g : Depth → Depth) (s : State) : (s.modDepth g).units = s.units := rfl
@[simp] theorem State.modDepth_mode (g : Depth → Depth) (s : State) : (s.modDepth g).mode = s.mode := rfl
@[simp] theorem State.modDepth_cam (g : Depth → Depth) (s : State) : (s.modDepth g).cam = s.cam := rfl
@[simp] theorem State.modDepth_isp (g : Depth → Depth) (s : State) : (s.modDepth g).isp = s.isp := rfl
@[simp] theorem State.modDepth_depth (g : Depth → Depth) (s : State) : (s.modDepth g).depth = g s.depth := rfl
@[simp] theorem State.modDepth_scene (g : Depth → Depth) (s : State) : (s.modDepth g).scene = s.scene := rfl
@[simp] theorem State.modDepth_leases (g : Depth → Depth) (s : State) : (s.modDepth g).leases = s.leases := rfl
@[simp] theorem State.modDepth_ray (g : Depth → Depth) (s : State) : (s.modDepth g).ray = s.ray := rfl
@[simp] theorem State.modDepth_cellar (g : Depth → Depth) (s : State) : (s.modDepth g).cellar = s.cellar := rfl
@[simp] theorem State.modDepth_layers (g : Depth → Depth) (s : State) : (s.modDepth g).layers = s.layers := rfl
@[simp] theorem State.modDepth_hw (g : Depth → Depth) (s : State) : (s.modDepth g).hw = s.hw := rfl
@[simp] theorem State.modDepth_disp (g : Depth → Depth) (s : State) : (s.modDepth g).disp = s.disp := rfl
@[simp] theorem State.modDepth_scan (g : Depth → Depth) (s : State) : (s.modDepth g).scan = s.scan := rfl
@[simp] theorem State.modDepth_pnl (g : Depth → Depth) (s : State) : (s.modDepth g).pnl = s.pnl := rfl
@[simp] theorem State.modDepth_lanes (g : Depth → Depth) (s : State) : (s.modDepth g).lanes = s.lanes := rfl
@[simp] theorem State.modDepth_mem (g : Depth → Depth) (s : State) : (s.modDepth g).mem = s.mem := rfl
@[simp] theorem State.modDepth_churn (g : Depth → Depth) (s : State) : (s.modDepth g).churn = s.churn := rfl
@[simp] theorem State.modDepth_plc (g : Depth → Depth) (s : State) : (s.modDepth g).plc = s.plc := rfl
@[simp] theorem State.modDepth_aud (g : Depth → Depth) (s : State) : (s.modDepth g).aud = s.aud := rfl
@[simp] theorem State.modDepth_hk (g : Depth → Depth) (s : State) : (s.modDepth g).hk = s.hk := rfl
@[simp] theorem State.modDepth_nvm (g : Depth → Depth) (s : State) : (s.modDepth g).nvm = s.nvm := rfl
@[simp] theorem State.modDepth_tp (g : Depth → Depth) (s : State) : (s.modDepth g).tp = s.tp := rfl
@[simp] theorem State.modDepth_sec (g : Depth → Depth) (s : State) : (s.modDepth g).sec = s.sec := rfl
@[simp] theorem State.modDepth_tap (g : Depth → Depth) (s : State) : (s.modDepth g).tap = s.tap := rfl
@[simp] theorem State.modDepth_time (g : Depth → Depth) (s : State) : (s.modDepth g).time = s.time := rfl
@[simp] theorem State.modDepth_win (g : Depth → Depth) (s : State) : (s.modDepth g).win = s.win := rfl
@[simp] theorem State.modDepth_out (g : Depth → Depth) (s : State) : (s.modDepth g).out = s.out := rfl
@[simp] theorem State.modDepth_free (g : Depth → Depth) (s : State) : (s.modDepth g).free = s.free := rfl
@[simp] theorem State.modDepth_pending (g : Depth → Depth) (s : State) : (s.modDepth g).pending = s.pending := rfl
@[simp] theorem State.modScene_id (g : Scene → Scene) (s : State) : (s.modScene g).id = s.id := rfl
@[simp] theorem State.modScene_pins (g : Scene → Scene) (s : State) : (s.modScene g).pins = s.pins := rfl
@[simp] theorem State.modScene_pwr (g : Scene → Scene) (s : State) : (s.modScene g).pwr = s.pwr := rfl
@[simp] theorem State.modScene_gov (g : Scene → Scene) (s : State) : (s.modScene g).gov = s.gov := rfl
@[simp] theorem State.modScene_clk (g : Scene → Scene) (s : State) : (s.modScene g).clk = s.clk := rfl
@[simp] theorem State.modScene_own (g : Scene → Scene) (s : State) : (s.modScene g).own = s.own := rfl
@[simp] theorem State.modScene_ctl (g : Scene → Scene) (s : State) : (s.modScene g).ctl = s.ctl := rfl
@[simp] theorem State.modScene_units (g : Scene → Scene) (s : State) : (s.modScene g).units = s.units := rfl
@[simp] theorem State.modScene_mode (g : Scene → Scene) (s : State) : (s.modScene g).mode = s.mode := rfl
@[simp] theorem State.modScene_cam (g : Scene → Scene) (s : State) : (s.modScene g).cam = s.cam := rfl
@[simp] theorem State.modScene_isp (g : Scene → Scene) (s : State) : (s.modScene g).isp = s.isp := rfl
@[simp] theorem State.modScene_depth (g : Scene → Scene) (s : State) : (s.modScene g).depth = s.depth := rfl
@[simp] theorem State.modScene_scene (g : Scene → Scene) (s : State) : (s.modScene g).scene = g s.scene := rfl
@[simp] theorem State.modScene_leases (g : Scene → Scene) (s : State) : (s.modScene g).leases = s.leases := rfl
@[simp] theorem State.modScene_ray (g : Scene → Scene) (s : State) : (s.modScene g).ray = s.ray := rfl
@[simp] theorem State.modScene_cellar (g : Scene → Scene) (s : State) : (s.modScene g).cellar = s.cellar := rfl
@[simp] theorem State.modScene_layers (g : Scene → Scene) (s : State) : (s.modScene g).layers = s.layers := rfl
@[simp] theorem State.modScene_hw (g : Scene → Scene) (s : State) : (s.modScene g).hw = s.hw := rfl
@[simp] theorem State.modScene_disp (g : Scene → Scene) (s : State) : (s.modScene g).disp = s.disp := rfl
@[simp] theorem State.modScene_scan (g : Scene → Scene) (s : State) : (s.modScene g).scan = s.scan := rfl
@[simp] theorem State.modScene_pnl (g : Scene → Scene) (s : State) : (s.modScene g).pnl = s.pnl := rfl
@[simp] theorem State.modScene_lanes (g : Scene → Scene) (s : State) : (s.modScene g).lanes = s.lanes := rfl
@[simp] theorem State.modScene_mem (g : Scene → Scene) (s : State) : (s.modScene g).mem = s.mem := rfl
@[simp] theorem State.modScene_churn (g : Scene → Scene) (s : State) : (s.modScene g).churn = s.churn := rfl
@[simp] theorem State.modScene_plc (g : Scene → Scene) (s : State) : (s.modScene g).plc = s.plc := rfl
@[simp] theorem State.modScene_aud (g : Scene → Scene) (s : State) : (s.modScene g).aud = s.aud := rfl
@[simp] theorem State.modScene_hk (g : Scene → Scene) (s : State) : (s.modScene g).hk = s.hk := rfl
@[simp] theorem State.modScene_nvm (g : Scene → Scene) (s : State) : (s.modScene g).nvm = s.nvm := rfl
@[simp] theorem State.modScene_tp (g : Scene → Scene) (s : State) : (s.modScene g).tp = s.tp := rfl
@[simp] theorem State.modScene_sec (g : Scene → Scene) (s : State) : (s.modScene g).sec = s.sec := rfl
@[simp] theorem State.modScene_tap (g : Scene → Scene) (s : State) : (s.modScene g).tap = s.tap := rfl
@[simp] theorem State.modScene_time (g : Scene → Scene) (s : State) : (s.modScene g).time = s.time := rfl
@[simp] theorem State.modScene_win (g : Scene → Scene) (s : State) : (s.modScene g).win = s.win := rfl
@[simp] theorem State.modScene_out (g : Scene → Scene) (s : State) : (s.modScene g).out = s.out := rfl
@[simp] theorem State.modScene_free (g : Scene → Scene) (s : State) : (s.modScene g).free = s.free := rfl
@[simp] theorem State.modScene_pending (g : Scene → Scene) (s : State) : (s.modScene g).pending = s.pending := rfl
@[simp] theorem State.modLeases_id (g : Leases → Leases) (s : State) : (s.modLeases g).id = s.id := rfl
@[simp] theorem State.modLeases_pins (g : Leases → Leases) (s : State) : (s.modLeases g).pins = s.pins := rfl
@[simp] theorem State.modLeases_pwr (g : Leases → Leases) (s : State) : (s.modLeases g).pwr = s.pwr := rfl
@[simp] theorem State.modLeases_gov (g : Leases → Leases) (s : State) : (s.modLeases g).gov = s.gov := rfl
@[simp] theorem State.modLeases_clk (g : Leases → Leases) (s : State) : (s.modLeases g).clk = s.clk := rfl
@[simp] theorem State.modLeases_own (g : Leases → Leases) (s : State) : (s.modLeases g).own = s.own := rfl
@[simp] theorem State.modLeases_ctl (g : Leases → Leases) (s : State) : (s.modLeases g).ctl = s.ctl := rfl
@[simp] theorem State.modLeases_units (g : Leases → Leases) (s : State) : (s.modLeases g).units = s.units := rfl
@[simp] theorem State.modLeases_mode (g : Leases → Leases) (s : State) : (s.modLeases g).mode = s.mode := rfl
@[simp] theorem State.modLeases_cam (g : Leases → Leases) (s : State) : (s.modLeases g).cam = s.cam := rfl
@[simp] theorem State.modLeases_isp (g : Leases → Leases) (s : State) : (s.modLeases g).isp = s.isp := rfl
@[simp] theorem State.modLeases_depth (g : Leases → Leases) (s : State) : (s.modLeases g).depth = s.depth := rfl
@[simp] theorem State.modLeases_scene (g : Leases → Leases) (s : State) : (s.modLeases g).scene = s.scene := rfl
@[simp] theorem State.modLeases_leases (g : Leases → Leases) (s : State) : (s.modLeases g).leases = g s.leases := rfl
@[simp] theorem State.modLeases_ray (g : Leases → Leases) (s : State) : (s.modLeases g).ray = s.ray := rfl
@[simp] theorem State.modLeases_cellar (g : Leases → Leases) (s : State) : (s.modLeases g).cellar = s.cellar := rfl
@[simp] theorem State.modLeases_layers (g : Leases → Leases) (s : State) : (s.modLeases g).layers = s.layers := rfl
@[simp] theorem State.modLeases_hw (g : Leases → Leases) (s : State) : (s.modLeases g).hw = s.hw := rfl
@[simp] theorem State.modLeases_disp (g : Leases → Leases) (s : State) : (s.modLeases g).disp = s.disp := rfl
@[simp] theorem State.modLeases_scan (g : Leases → Leases) (s : State) : (s.modLeases g).scan = s.scan := rfl
@[simp] theorem State.modLeases_pnl (g : Leases → Leases) (s : State) : (s.modLeases g).pnl = s.pnl := rfl
@[simp] theorem State.modLeases_lanes (g : Leases → Leases) (s : State) : (s.modLeases g).lanes = s.lanes := rfl
@[simp] theorem State.modLeases_mem (g : Leases → Leases) (s : State) : (s.modLeases g).mem = s.mem := rfl
@[simp] theorem State.modLeases_churn (g : Leases → Leases) (s : State) : (s.modLeases g).churn = s.churn := rfl
@[simp] theorem State.modLeases_plc (g : Leases → Leases) (s : State) : (s.modLeases g).plc = s.plc := rfl
@[simp] theorem State.modLeases_aud (g : Leases → Leases) (s : State) : (s.modLeases g).aud = s.aud := rfl
@[simp] theorem State.modLeases_hk (g : Leases → Leases) (s : State) : (s.modLeases g).hk = s.hk := rfl
@[simp] theorem State.modLeases_nvm (g : Leases → Leases) (s : State) : (s.modLeases g).nvm = s.nvm := rfl
@[simp] theorem State.modLeases_tp (g : Leases → Leases) (s : State) : (s.modLeases g).tp = s.tp := rfl
@[simp] theorem State.modLeases_sec (g : Leases → Leases) (s : State) : (s.modLeases g).sec = s.sec := rfl
@[simp] theorem State.modLeases_tap (g : Leases → Leases) (s : State) : (s.modLeases g).tap = s.tap := rfl
@[simp] theorem State.modLeases_time (g : Leases → Leases) (s : State) : (s.modLeases g).time = s.time := rfl
@[simp] theorem State.modLeases_win (g : Leases → Leases) (s : State) : (s.modLeases g).win = s.win := rfl
@[simp] theorem State.modLeases_out (g : Leases → Leases) (s : State) : (s.modLeases g).out = s.out := rfl
@[simp] theorem State.modLeases_free (g : Leases → Leases) (s : State) : (s.modLeases g).free = s.free := rfl
@[simp] theorem State.modLeases_pending (g : Leases → Leases) (s : State) : (s.modLeases g).pending = s.pending := rfl
@[simp] theorem State.modRay_id (g : Ray → Ray) (s : State) : (s.modRay g).id = s.id := rfl
@[simp] theorem State.modRay_pins (g : Ray → Ray) (s : State) : (s.modRay g).pins = s.pins := rfl
@[simp] theorem State.modRay_pwr (g : Ray → Ray) (s : State) : (s.modRay g).pwr = s.pwr := rfl
@[simp] theorem State.modRay_gov (g : Ray → Ray) (s : State) : (s.modRay g).gov = s.gov := rfl
@[simp] theorem State.modRay_clk (g : Ray → Ray) (s : State) : (s.modRay g).clk = s.clk := rfl
@[simp] theorem State.modRay_own (g : Ray → Ray) (s : State) : (s.modRay g).own = s.own := rfl
@[simp] theorem State.modRay_ctl (g : Ray → Ray) (s : State) : (s.modRay g).ctl = s.ctl := rfl
@[simp] theorem State.modRay_units (g : Ray → Ray) (s : State) : (s.modRay g).units = s.units := rfl
@[simp] theorem State.modRay_mode (g : Ray → Ray) (s : State) : (s.modRay g).mode = s.mode := rfl
@[simp] theorem State.modRay_cam (g : Ray → Ray) (s : State) : (s.modRay g).cam = s.cam := rfl
@[simp] theorem State.modRay_isp (g : Ray → Ray) (s : State) : (s.modRay g).isp = s.isp := rfl
@[simp] theorem State.modRay_depth (g : Ray → Ray) (s : State) : (s.modRay g).depth = s.depth := rfl
@[simp] theorem State.modRay_scene (g : Ray → Ray) (s : State) : (s.modRay g).scene = s.scene := rfl
@[simp] theorem State.modRay_leases (g : Ray → Ray) (s : State) : (s.modRay g).leases = s.leases := rfl
@[simp] theorem State.modRay_ray (g : Ray → Ray) (s : State) : (s.modRay g).ray = g s.ray := rfl
@[simp] theorem State.modRay_cellar (g : Ray → Ray) (s : State) : (s.modRay g).cellar = s.cellar := rfl
@[simp] theorem State.modRay_layers (g : Ray → Ray) (s : State) : (s.modRay g).layers = s.layers := rfl
@[simp] theorem State.modRay_hw (g : Ray → Ray) (s : State) : (s.modRay g).hw = s.hw := rfl
@[simp] theorem State.modRay_disp (g : Ray → Ray) (s : State) : (s.modRay g).disp = s.disp := rfl
@[simp] theorem State.modRay_scan (g : Ray → Ray) (s : State) : (s.modRay g).scan = s.scan := rfl
@[simp] theorem State.modRay_pnl (g : Ray → Ray) (s : State) : (s.modRay g).pnl = s.pnl := rfl
@[simp] theorem State.modRay_lanes (g : Ray → Ray) (s : State) : (s.modRay g).lanes = s.lanes := rfl
@[simp] theorem State.modRay_mem (g : Ray → Ray) (s : State) : (s.modRay g).mem = s.mem := rfl
@[simp] theorem State.modRay_churn (g : Ray → Ray) (s : State) : (s.modRay g).churn = s.churn := rfl
@[simp] theorem State.modRay_plc (g : Ray → Ray) (s : State) : (s.modRay g).plc = s.plc := rfl
@[simp] theorem State.modRay_aud (g : Ray → Ray) (s : State) : (s.modRay g).aud = s.aud := rfl
@[simp] theorem State.modRay_hk (g : Ray → Ray) (s : State) : (s.modRay g).hk = s.hk := rfl
@[simp] theorem State.modRay_nvm (g : Ray → Ray) (s : State) : (s.modRay g).nvm = s.nvm := rfl
@[simp] theorem State.modRay_tp (g : Ray → Ray) (s : State) : (s.modRay g).tp = s.tp := rfl
@[simp] theorem State.modRay_sec (g : Ray → Ray) (s : State) : (s.modRay g).sec = s.sec := rfl
@[simp] theorem State.modRay_tap (g : Ray → Ray) (s : State) : (s.modRay g).tap = s.tap := rfl
@[simp] theorem State.modRay_time (g : Ray → Ray) (s : State) : (s.modRay g).time = s.time := rfl
@[simp] theorem State.modRay_win (g : Ray → Ray) (s : State) : (s.modRay g).win = s.win := rfl
@[simp] theorem State.modRay_out (g : Ray → Ray) (s : State) : (s.modRay g).out = s.out := rfl
@[simp] theorem State.modRay_free (g : Ray → Ray) (s : State) : (s.modRay g).free = s.free := rfl
@[simp] theorem State.modRay_pending (g : Ray → Ray) (s : State) : (s.modRay g).pending = s.pending := rfl
@[simp] theorem State.modCellar_id (g : Cellar → Cellar) (s : State) : (s.modCellar g).id = s.id := rfl
@[simp] theorem State.modCellar_pins (g : Cellar → Cellar) (s : State) : (s.modCellar g).pins = s.pins := rfl
@[simp] theorem State.modCellar_pwr (g : Cellar → Cellar) (s : State) : (s.modCellar g).pwr = s.pwr := rfl
@[simp] theorem State.modCellar_gov (g : Cellar → Cellar) (s : State) : (s.modCellar g).gov = s.gov := rfl
@[simp] theorem State.modCellar_clk (g : Cellar → Cellar) (s : State) : (s.modCellar g).clk = s.clk := rfl
@[simp] theorem State.modCellar_own (g : Cellar → Cellar) (s : State) : (s.modCellar g).own = s.own := rfl
@[simp] theorem State.modCellar_ctl (g : Cellar → Cellar) (s : State) : (s.modCellar g).ctl = s.ctl := rfl
@[simp] theorem State.modCellar_units (g : Cellar → Cellar) (s : State) : (s.modCellar g).units = s.units := rfl
@[simp] theorem State.modCellar_mode (g : Cellar → Cellar) (s : State) : (s.modCellar g).mode = s.mode := rfl
@[simp] theorem State.modCellar_cam (g : Cellar → Cellar) (s : State) : (s.modCellar g).cam = s.cam := rfl
@[simp] theorem State.modCellar_isp (g : Cellar → Cellar) (s : State) : (s.modCellar g).isp = s.isp := rfl
@[simp] theorem State.modCellar_depth (g : Cellar → Cellar) (s : State) : (s.modCellar g).depth = s.depth := rfl
@[simp] theorem State.modCellar_scene (g : Cellar → Cellar) (s : State) : (s.modCellar g).scene = s.scene := rfl
@[simp] theorem State.modCellar_leases (g : Cellar → Cellar) (s : State) : (s.modCellar g).leases = s.leases := rfl
@[simp] theorem State.modCellar_ray (g : Cellar → Cellar) (s : State) : (s.modCellar g).ray = s.ray := rfl
@[simp] theorem State.modCellar_cellar (g : Cellar → Cellar) (s : State) : (s.modCellar g).cellar = g s.cellar := rfl
@[simp] theorem State.modCellar_layers (g : Cellar → Cellar) (s : State) : (s.modCellar g).layers = s.layers := rfl
@[simp] theorem State.modCellar_hw (g : Cellar → Cellar) (s : State) : (s.modCellar g).hw = s.hw := rfl
@[simp] theorem State.modCellar_disp (g : Cellar → Cellar) (s : State) : (s.modCellar g).disp = s.disp := rfl
@[simp] theorem State.modCellar_scan (g : Cellar → Cellar) (s : State) : (s.modCellar g).scan = s.scan := rfl
@[simp] theorem State.modCellar_pnl (g : Cellar → Cellar) (s : State) : (s.modCellar g).pnl = s.pnl := rfl
@[simp] theorem State.modCellar_lanes (g : Cellar → Cellar) (s : State) : (s.modCellar g).lanes = s.lanes := rfl
@[simp] theorem State.modCellar_mem (g : Cellar → Cellar) (s : State) : (s.modCellar g).mem = s.mem := rfl
@[simp] theorem State.modCellar_churn (g : Cellar → Cellar) (s : State) : (s.modCellar g).churn = s.churn := rfl
@[simp] theorem State.modCellar_plc (g : Cellar → Cellar) (s : State) : (s.modCellar g).plc = s.plc := rfl
@[simp] theorem State.modCellar_aud (g : Cellar → Cellar) (s : State) : (s.modCellar g).aud = s.aud := rfl
@[simp] theorem State.modCellar_hk (g : Cellar → Cellar) (s : State) : (s.modCellar g).hk = s.hk := rfl
@[simp] theorem State.modCellar_nvm (g : Cellar → Cellar) (s : State) : (s.modCellar g).nvm = s.nvm := rfl
@[simp] theorem State.modCellar_tp (g : Cellar → Cellar) (s : State) : (s.modCellar g).tp = s.tp := rfl
@[simp] theorem State.modCellar_sec (g : Cellar → Cellar) (s : State) : (s.modCellar g).sec = s.sec := rfl
@[simp] theorem State.modCellar_tap (g : Cellar → Cellar) (s : State) : (s.modCellar g).tap = s.tap := rfl
@[simp] theorem State.modCellar_time (g : Cellar → Cellar) (s : State) : (s.modCellar g).time = s.time := rfl
@[simp] theorem State.modCellar_win (g : Cellar → Cellar) (s : State) : (s.modCellar g).win = s.win := rfl
@[simp] theorem State.modCellar_out (g : Cellar → Cellar) (s : State) : (s.modCellar g).out = s.out := rfl
@[simp] theorem State.modCellar_free (g : Cellar → Cellar) (s : State) : (s.modCellar g).free = s.free := rfl
@[simp] theorem State.modCellar_pending (g : Cellar → Cellar) (s : State) : (s.modCellar g).pending = s.pending := rfl
@[simp] theorem State.modLayers_id (g : Layers → Layers) (s : State) : (s.modLayers g).id = s.id := rfl
@[simp] theorem State.modLayers_pins (g : Layers → Layers) (s : State) : (s.modLayers g).pins = s.pins := rfl
@[simp] theorem State.modLayers_pwr (g : Layers → Layers) (s : State) : (s.modLayers g).pwr = s.pwr := rfl
@[simp] theorem State.modLayers_gov (g : Layers → Layers) (s : State) : (s.modLayers g).gov = s.gov := rfl
@[simp] theorem State.modLayers_clk (g : Layers → Layers) (s : State) : (s.modLayers g).clk = s.clk := rfl
@[simp] theorem State.modLayers_own (g : Layers → Layers) (s : State) : (s.modLayers g).own = s.own := rfl
@[simp] theorem State.modLayers_ctl (g : Layers → Layers) (s : State) : (s.modLayers g).ctl = s.ctl := rfl
@[simp] theorem State.modLayers_units (g : Layers → Layers) (s : State) : (s.modLayers g).units = s.units := rfl
@[simp] theorem State.modLayers_mode (g : Layers → Layers) (s : State) : (s.modLayers g).mode = s.mode := rfl
@[simp] theorem State.modLayers_cam (g : Layers → Layers) (s : State) : (s.modLayers g).cam = s.cam := rfl
@[simp] theorem State.modLayers_isp (g : Layers → Layers) (s : State) : (s.modLayers g).isp = s.isp := rfl
@[simp] theorem State.modLayers_depth (g : Layers → Layers) (s : State) : (s.modLayers g).depth = s.depth := rfl
@[simp] theorem State.modLayers_scene (g : Layers → Layers) (s : State) : (s.modLayers g).scene = s.scene := rfl
@[simp] theorem State.modLayers_leases (g : Layers → Layers) (s : State) : (s.modLayers g).leases = s.leases := rfl
@[simp] theorem State.modLayers_ray (g : Layers → Layers) (s : State) : (s.modLayers g).ray = s.ray := rfl
@[simp] theorem State.modLayers_cellar (g : Layers → Layers) (s : State) : (s.modLayers g).cellar = s.cellar := rfl
@[simp] theorem State.modLayers_layers (g : Layers → Layers) (s : State) : (s.modLayers g).layers = g s.layers := rfl
@[simp] theorem State.modLayers_hw (g : Layers → Layers) (s : State) : (s.modLayers g).hw = s.hw := rfl
@[simp] theorem State.modLayers_disp (g : Layers → Layers) (s : State) : (s.modLayers g).disp = s.disp := rfl
@[simp] theorem State.modLayers_scan (g : Layers → Layers) (s : State) : (s.modLayers g).scan = s.scan := rfl
@[simp] theorem State.modLayers_pnl (g : Layers → Layers) (s : State) : (s.modLayers g).pnl = s.pnl := rfl
@[simp] theorem State.modLayers_lanes (g : Layers → Layers) (s : State) : (s.modLayers g).lanes = s.lanes := rfl
@[simp] theorem State.modLayers_mem (g : Layers → Layers) (s : State) : (s.modLayers g).mem = s.mem := rfl
@[simp] theorem State.modLayers_churn (g : Layers → Layers) (s : State) : (s.modLayers g).churn = s.churn := rfl
@[simp] theorem State.modLayers_plc (g : Layers → Layers) (s : State) : (s.modLayers g).plc = s.plc := rfl
@[simp] theorem State.modLayers_aud (g : Layers → Layers) (s : State) : (s.modLayers g).aud = s.aud := rfl
@[simp] theorem State.modLayers_hk (g : Layers → Layers) (s : State) : (s.modLayers g).hk = s.hk := rfl
@[simp] theorem State.modLayers_nvm (g : Layers → Layers) (s : State) : (s.modLayers g).nvm = s.nvm := rfl
@[simp] theorem State.modLayers_tp (g : Layers → Layers) (s : State) : (s.modLayers g).tp = s.tp := rfl
@[simp] theorem State.modLayers_sec (g : Layers → Layers) (s : State) : (s.modLayers g).sec = s.sec := rfl
@[simp] theorem State.modLayers_tap (g : Layers → Layers) (s : State) : (s.modLayers g).tap = s.tap := rfl
@[simp] theorem State.modLayers_time (g : Layers → Layers) (s : State) : (s.modLayers g).time = s.time := rfl
@[simp] theorem State.modLayers_win (g : Layers → Layers) (s : State) : (s.modLayers g).win = s.win := rfl
@[simp] theorem State.modLayers_out (g : Layers → Layers) (s : State) : (s.modLayers g).out = s.out := rfl
@[simp] theorem State.modLayers_free (g : Layers → Layers) (s : State) : (s.modLayers g).free = s.free := rfl
@[simp] theorem State.modLayers_pending (g : Layers → Layers) (s : State) : (s.modLayers g).pending = s.pending := rfl
@[simp] theorem State.modHw_id (g : Heartwood → Heartwood) (s : State) : (s.modHw g).id = s.id := rfl
@[simp] theorem State.modHw_pins (g : Heartwood → Heartwood) (s : State) : (s.modHw g).pins = s.pins := rfl
@[simp] theorem State.modHw_pwr (g : Heartwood → Heartwood) (s : State) : (s.modHw g).pwr = s.pwr := rfl
@[simp] theorem State.modHw_gov (g : Heartwood → Heartwood) (s : State) : (s.modHw g).gov = s.gov := rfl
@[simp] theorem State.modHw_clk (g : Heartwood → Heartwood) (s : State) : (s.modHw g).clk = s.clk := rfl
@[simp] theorem State.modHw_own (g : Heartwood → Heartwood) (s : State) : (s.modHw g).own = s.own := rfl
@[simp] theorem State.modHw_ctl (g : Heartwood → Heartwood) (s : State) : (s.modHw g).ctl = s.ctl := rfl
@[simp] theorem State.modHw_units (g : Heartwood → Heartwood) (s : State) : (s.modHw g).units = s.units := rfl
@[simp] theorem State.modHw_mode (g : Heartwood → Heartwood) (s : State) : (s.modHw g).mode = s.mode := rfl
@[simp] theorem State.modHw_cam (g : Heartwood → Heartwood) (s : State) : (s.modHw g).cam = s.cam := rfl
@[simp] theorem State.modHw_isp (g : Heartwood → Heartwood) (s : State) : (s.modHw g).isp = s.isp := rfl
@[simp] theorem State.modHw_depth (g : Heartwood → Heartwood) (s : State) : (s.modHw g).depth = s.depth := rfl
@[simp] theorem State.modHw_scene (g : Heartwood → Heartwood) (s : State) : (s.modHw g).scene = s.scene := rfl
@[simp] theorem State.modHw_leases (g : Heartwood → Heartwood) (s : State) : (s.modHw g).leases = s.leases := rfl
@[simp] theorem State.modHw_ray (g : Heartwood → Heartwood) (s : State) : (s.modHw g).ray = s.ray := rfl
@[simp] theorem State.modHw_cellar (g : Heartwood → Heartwood) (s : State) : (s.modHw g).cellar = s.cellar := rfl
@[simp] theorem State.modHw_layers (g : Heartwood → Heartwood) (s : State) : (s.modHw g).layers = s.layers := rfl
@[simp] theorem State.modHw_hw (g : Heartwood → Heartwood) (s : State) : (s.modHw g).hw = g s.hw := rfl
@[simp] theorem State.modHw_disp (g : Heartwood → Heartwood) (s : State) : (s.modHw g).disp = s.disp := rfl
@[simp] theorem State.modHw_scan (g : Heartwood → Heartwood) (s : State) : (s.modHw g).scan = s.scan := rfl
@[simp] theorem State.modHw_pnl (g : Heartwood → Heartwood) (s : State) : (s.modHw g).pnl = s.pnl := rfl
@[simp] theorem State.modHw_lanes (g : Heartwood → Heartwood) (s : State) : (s.modHw g).lanes = s.lanes := rfl
@[simp] theorem State.modHw_mem (g : Heartwood → Heartwood) (s : State) : (s.modHw g).mem = s.mem := rfl
@[simp] theorem State.modHw_churn (g : Heartwood → Heartwood) (s : State) : (s.modHw g).churn = s.churn := rfl
@[simp] theorem State.modHw_plc (g : Heartwood → Heartwood) (s : State) : (s.modHw g).plc = s.plc := rfl
@[simp] theorem State.modHw_aud (g : Heartwood → Heartwood) (s : State) : (s.modHw g).aud = s.aud := rfl
@[simp] theorem State.modHw_hk (g : Heartwood → Heartwood) (s : State) : (s.modHw g).hk = s.hk := rfl
@[simp] theorem State.modHw_nvm (g : Heartwood → Heartwood) (s : State) : (s.modHw g).nvm = s.nvm := rfl
@[simp] theorem State.modHw_tp (g : Heartwood → Heartwood) (s : State) : (s.modHw g).tp = s.tp := rfl
@[simp] theorem State.modHw_sec (g : Heartwood → Heartwood) (s : State) : (s.modHw g).sec = s.sec := rfl
@[simp] theorem State.modHw_tap (g : Heartwood → Heartwood) (s : State) : (s.modHw g).tap = s.tap := rfl
@[simp] theorem State.modHw_time (g : Heartwood → Heartwood) (s : State) : (s.modHw g).time = s.time := rfl
@[simp] theorem State.modHw_win (g : Heartwood → Heartwood) (s : State) : (s.modHw g).win = s.win := rfl
@[simp] theorem State.modHw_out (g : Heartwood → Heartwood) (s : State) : (s.modHw g).out = s.out := rfl
@[simp] theorem State.modHw_free (g : Heartwood → Heartwood) (s : State) : (s.modHw g).free = s.free := rfl
@[simp] theorem State.modHw_pending (g : Heartwood → Heartwood) (s : State) : (s.modHw g).pending = s.pending := rfl
@[simp] theorem State.modDisp_id (g : Disp → Disp) (s : State) : (s.modDisp g).id = s.id := rfl
@[simp] theorem State.modDisp_pins (g : Disp → Disp) (s : State) : (s.modDisp g).pins = s.pins := rfl
@[simp] theorem State.modDisp_pwr (g : Disp → Disp) (s : State) : (s.modDisp g).pwr = s.pwr := rfl
@[simp] theorem State.modDisp_gov (g : Disp → Disp) (s : State) : (s.modDisp g).gov = s.gov := rfl
@[simp] theorem State.modDisp_clk (g : Disp → Disp) (s : State) : (s.modDisp g).clk = s.clk := rfl
@[simp] theorem State.modDisp_own (g : Disp → Disp) (s : State) : (s.modDisp g).own = s.own := rfl
@[simp] theorem State.modDisp_ctl (g : Disp → Disp) (s : State) : (s.modDisp g).ctl = s.ctl := rfl
@[simp] theorem State.modDisp_units (g : Disp → Disp) (s : State) : (s.modDisp g).units = s.units := rfl
@[simp] theorem State.modDisp_mode (g : Disp → Disp) (s : State) : (s.modDisp g).mode = s.mode := rfl
@[simp] theorem State.modDisp_cam (g : Disp → Disp) (s : State) : (s.modDisp g).cam = s.cam := rfl
@[simp] theorem State.modDisp_isp (g : Disp → Disp) (s : State) : (s.modDisp g).isp = s.isp := rfl
@[simp] theorem State.modDisp_depth (g : Disp → Disp) (s : State) : (s.modDisp g).depth = s.depth := rfl
@[simp] theorem State.modDisp_scene (g : Disp → Disp) (s : State) : (s.modDisp g).scene = s.scene := rfl
@[simp] theorem State.modDisp_leases (g : Disp → Disp) (s : State) : (s.modDisp g).leases = s.leases := rfl
@[simp] theorem State.modDisp_ray (g : Disp → Disp) (s : State) : (s.modDisp g).ray = s.ray := rfl
@[simp] theorem State.modDisp_cellar (g : Disp → Disp) (s : State) : (s.modDisp g).cellar = s.cellar := rfl
@[simp] theorem State.modDisp_layers (g : Disp → Disp) (s : State) : (s.modDisp g).layers = s.layers := rfl
@[simp] theorem State.modDisp_hw (g : Disp → Disp) (s : State) : (s.modDisp g).hw = s.hw := rfl
@[simp] theorem State.modDisp_disp (g : Disp → Disp) (s : State) : (s.modDisp g).disp = g s.disp := rfl
@[simp] theorem State.modDisp_scan (g : Disp → Disp) (s : State) : (s.modDisp g).scan = s.scan := rfl
@[simp] theorem State.modDisp_pnl (g : Disp → Disp) (s : State) : (s.modDisp g).pnl = s.pnl := rfl
@[simp] theorem State.modDisp_lanes (g : Disp → Disp) (s : State) : (s.modDisp g).lanes = s.lanes := rfl
@[simp] theorem State.modDisp_mem (g : Disp → Disp) (s : State) : (s.modDisp g).mem = s.mem := rfl
@[simp] theorem State.modDisp_churn (g : Disp → Disp) (s : State) : (s.modDisp g).churn = s.churn := rfl
@[simp] theorem State.modDisp_plc (g : Disp → Disp) (s : State) : (s.modDisp g).plc = s.plc := rfl
@[simp] theorem State.modDisp_aud (g : Disp → Disp) (s : State) : (s.modDisp g).aud = s.aud := rfl
@[simp] theorem State.modDisp_hk (g : Disp → Disp) (s : State) : (s.modDisp g).hk = s.hk := rfl
@[simp] theorem State.modDisp_nvm (g : Disp → Disp) (s : State) : (s.modDisp g).nvm = s.nvm := rfl
@[simp] theorem State.modDisp_tp (g : Disp → Disp) (s : State) : (s.modDisp g).tp = s.tp := rfl
@[simp] theorem State.modDisp_sec (g : Disp → Disp) (s : State) : (s.modDisp g).sec = s.sec := rfl
@[simp] theorem State.modDisp_tap (g : Disp → Disp) (s : State) : (s.modDisp g).tap = s.tap := rfl
@[simp] theorem State.modDisp_time (g : Disp → Disp) (s : State) : (s.modDisp g).time = s.time := rfl
@[simp] theorem State.modDisp_win (g : Disp → Disp) (s : State) : (s.modDisp g).win = s.win := rfl
@[simp] theorem State.modDisp_out (g : Disp → Disp) (s : State) : (s.modDisp g).out = s.out := rfl
@[simp] theorem State.modDisp_free (g : Disp → Disp) (s : State) : (s.modDisp g).free = s.free := rfl
@[simp] theorem State.modDisp_pending (g : Disp → Disp) (s : State) : (s.modDisp g).pending = s.pending := rfl
@[simp] theorem State.modScan_id (g : Scan → Scan) (s : State) : (s.modScan g).id = s.id := rfl
@[simp] theorem State.modScan_pins (g : Scan → Scan) (s : State) : (s.modScan g).pins = s.pins := rfl
@[simp] theorem State.modScan_pwr (g : Scan → Scan) (s : State) : (s.modScan g).pwr = s.pwr := rfl
@[simp] theorem State.modScan_gov (g : Scan → Scan) (s : State) : (s.modScan g).gov = s.gov := rfl
@[simp] theorem State.modScan_clk (g : Scan → Scan) (s : State) : (s.modScan g).clk = s.clk := rfl
@[simp] theorem State.modScan_own (g : Scan → Scan) (s : State) : (s.modScan g).own = s.own := rfl
@[simp] theorem State.modScan_ctl (g : Scan → Scan) (s : State) : (s.modScan g).ctl = s.ctl := rfl
@[simp] theorem State.modScan_units (g : Scan → Scan) (s : State) : (s.modScan g).units = s.units := rfl
@[simp] theorem State.modScan_mode (g : Scan → Scan) (s : State) : (s.modScan g).mode = s.mode := rfl
@[simp] theorem State.modScan_cam (g : Scan → Scan) (s : State) : (s.modScan g).cam = s.cam := rfl
@[simp] theorem State.modScan_isp (g : Scan → Scan) (s : State) : (s.modScan g).isp = s.isp := rfl
@[simp] theorem State.modScan_depth (g : Scan → Scan) (s : State) : (s.modScan g).depth = s.depth := rfl
@[simp] theorem State.modScan_scene (g : Scan → Scan) (s : State) : (s.modScan g).scene = s.scene := rfl
@[simp] theorem State.modScan_leases (g : Scan → Scan) (s : State) : (s.modScan g).leases = s.leases := rfl
@[simp] theorem State.modScan_ray (g : Scan → Scan) (s : State) : (s.modScan g).ray = s.ray := rfl
@[simp] theorem State.modScan_cellar (g : Scan → Scan) (s : State) : (s.modScan g).cellar = s.cellar := rfl
@[simp] theorem State.modScan_layers (g : Scan → Scan) (s : State) : (s.modScan g).layers = s.layers := rfl
@[simp] theorem State.modScan_hw (g : Scan → Scan) (s : State) : (s.modScan g).hw = s.hw := rfl
@[simp] theorem State.modScan_disp (g : Scan → Scan) (s : State) : (s.modScan g).disp = s.disp := rfl
@[simp] theorem State.modScan_scan (g : Scan → Scan) (s : State) : (s.modScan g).scan = g s.scan := rfl
@[simp] theorem State.modScan_pnl (g : Scan → Scan) (s : State) : (s.modScan g).pnl = s.pnl := rfl
@[simp] theorem State.modScan_lanes (g : Scan → Scan) (s : State) : (s.modScan g).lanes = s.lanes := rfl
@[simp] theorem State.modScan_mem (g : Scan → Scan) (s : State) : (s.modScan g).mem = s.mem := rfl
@[simp] theorem State.modScan_churn (g : Scan → Scan) (s : State) : (s.modScan g).churn = s.churn := rfl
@[simp] theorem State.modScan_plc (g : Scan → Scan) (s : State) : (s.modScan g).plc = s.plc := rfl
@[simp] theorem State.modScan_aud (g : Scan → Scan) (s : State) : (s.modScan g).aud = s.aud := rfl
@[simp] theorem State.modScan_hk (g : Scan → Scan) (s : State) : (s.modScan g).hk = s.hk := rfl
@[simp] theorem State.modScan_nvm (g : Scan → Scan) (s : State) : (s.modScan g).nvm = s.nvm := rfl
@[simp] theorem State.modScan_tp (g : Scan → Scan) (s : State) : (s.modScan g).tp = s.tp := rfl
@[simp] theorem State.modScan_sec (g : Scan → Scan) (s : State) : (s.modScan g).sec = s.sec := rfl
@[simp] theorem State.modScan_tap (g : Scan → Scan) (s : State) : (s.modScan g).tap = s.tap := rfl
@[simp] theorem State.modScan_time (g : Scan → Scan) (s : State) : (s.modScan g).time = s.time := rfl
@[simp] theorem State.modScan_win (g : Scan → Scan) (s : State) : (s.modScan g).win = s.win := rfl
@[simp] theorem State.modScan_out (g : Scan → Scan) (s : State) : (s.modScan g).out = s.out := rfl
@[simp] theorem State.modScan_free (g : Scan → Scan) (s : State) : (s.modScan g).free = s.free := rfl
@[simp] theorem State.modScan_pending (g : Scan → Scan) (s : State) : (s.modScan g).pending = s.pending := rfl
@[simp] theorem State.modPnl_id (g : Pnl → Pnl) (s : State) : (s.modPnl g).id = s.id := rfl
@[simp] theorem State.modPnl_pins (g : Pnl → Pnl) (s : State) : (s.modPnl g).pins = s.pins := rfl
@[simp] theorem State.modPnl_pwr (g : Pnl → Pnl) (s : State) : (s.modPnl g).pwr = s.pwr := rfl
@[simp] theorem State.modPnl_gov (g : Pnl → Pnl) (s : State) : (s.modPnl g).gov = s.gov := rfl
@[simp] theorem State.modPnl_clk (g : Pnl → Pnl) (s : State) : (s.modPnl g).clk = s.clk := rfl
@[simp] theorem State.modPnl_own (g : Pnl → Pnl) (s : State) : (s.modPnl g).own = s.own := rfl
@[simp] theorem State.modPnl_ctl (g : Pnl → Pnl) (s : State) : (s.modPnl g).ctl = s.ctl := rfl
@[simp] theorem State.modPnl_units (g : Pnl → Pnl) (s : State) : (s.modPnl g).units = s.units := rfl
@[simp] theorem State.modPnl_mode (g : Pnl → Pnl) (s : State) : (s.modPnl g).mode = s.mode := rfl
@[simp] theorem State.modPnl_cam (g : Pnl → Pnl) (s : State) : (s.modPnl g).cam = s.cam := rfl
@[simp] theorem State.modPnl_isp (g : Pnl → Pnl) (s : State) : (s.modPnl g).isp = s.isp := rfl
@[simp] theorem State.modPnl_depth (g : Pnl → Pnl) (s : State) : (s.modPnl g).depth = s.depth := rfl
@[simp] theorem State.modPnl_scene (g : Pnl → Pnl) (s : State) : (s.modPnl g).scene = s.scene := rfl
@[simp] theorem State.modPnl_leases (g : Pnl → Pnl) (s : State) : (s.modPnl g).leases = s.leases := rfl
@[simp] theorem State.modPnl_ray (g : Pnl → Pnl) (s : State) : (s.modPnl g).ray = s.ray := rfl
@[simp] theorem State.modPnl_cellar (g : Pnl → Pnl) (s : State) : (s.modPnl g).cellar = s.cellar := rfl
@[simp] theorem State.modPnl_layers (g : Pnl → Pnl) (s : State) : (s.modPnl g).layers = s.layers := rfl
@[simp] theorem State.modPnl_hw (g : Pnl → Pnl) (s : State) : (s.modPnl g).hw = s.hw := rfl
@[simp] theorem State.modPnl_disp (g : Pnl → Pnl) (s : State) : (s.modPnl g).disp = s.disp := rfl
@[simp] theorem State.modPnl_scan (g : Pnl → Pnl) (s : State) : (s.modPnl g).scan = s.scan := rfl
@[simp] theorem State.modPnl_pnl (g : Pnl → Pnl) (s : State) : (s.modPnl g).pnl = g s.pnl := rfl
@[simp] theorem State.modPnl_lanes (g : Pnl → Pnl) (s : State) : (s.modPnl g).lanes = s.lanes := rfl
@[simp] theorem State.modPnl_mem (g : Pnl → Pnl) (s : State) : (s.modPnl g).mem = s.mem := rfl
@[simp] theorem State.modPnl_churn (g : Pnl → Pnl) (s : State) : (s.modPnl g).churn = s.churn := rfl
@[simp] theorem State.modPnl_plc (g : Pnl → Pnl) (s : State) : (s.modPnl g).plc = s.plc := rfl
@[simp] theorem State.modPnl_aud (g : Pnl → Pnl) (s : State) : (s.modPnl g).aud = s.aud := rfl
@[simp] theorem State.modPnl_hk (g : Pnl → Pnl) (s : State) : (s.modPnl g).hk = s.hk := rfl
@[simp] theorem State.modPnl_nvm (g : Pnl → Pnl) (s : State) : (s.modPnl g).nvm = s.nvm := rfl
@[simp] theorem State.modPnl_tp (g : Pnl → Pnl) (s : State) : (s.modPnl g).tp = s.tp := rfl
@[simp] theorem State.modPnl_sec (g : Pnl → Pnl) (s : State) : (s.modPnl g).sec = s.sec := rfl
@[simp] theorem State.modPnl_tap (g : Pnl → Pnl) (s : State) : (s.modPnl g).tap = s.tap := rfl
@[simp] theorem State.modPnl_time (g : Pnl → Pnl) (s : State) : (s.modPnl g).time = s.time := rfl
@[simp] theorem State.modPnl_win (g : Pnl → Pnl) (s : State) : (s.modPnl g).win = s.win := rfl
@[simp] theorem State.modPnl_out (g : Pnl → Pnl) (s : State) : (s.modPnl g).out = s.out := rfl
@[simp] theorem State.modPnl_free (g : Pnl → Pnl) (s : State) : (s.modPnl g).free = s.free := rfl
@[simp] theorem State.modPnl_pending (g : Pnl → Pnl) (s : State) : (s.modPnl g).pending = s.pending := rfl
@[simp] theorem State.modLanes_id (g : Lanes → Lanes) (s : State) : (s.modLanes g).id = s.id := rfl
@[simp] theorem State.modLanes_pins (g : Lanes → Lanes) (s : State) : (s.modLanes g).pins = s.pins := rfl
@[simp] theorem State.modLanes_pwr (g : Lanes → Lanes) (s : State) : (s.modLanes g).pwr = s.pwr := rfl
@[simp] theorem State.modLanes_gov (g : Lanes → Lanes) (s : State) : (s.modLanes g).gov = s.gov := rfl
@[simp] theorem State.modLanes_clk (g : Lanes → Lanes) (s : State) : (s.modLanes g).clk = s.clk := rfl
@[simp] theorem State.modLanes_own (g : Lanes → Lanes) (s : State) : (s.modLanes g).own = s.own := rfl
@[simp] theorem State.modLanes_ctl (g : Lanes → Lanes) (s : State) : (s.modLanes g).ctl = s.ctl := rfl
@[simp] theorem State.modLanes_units (g : Lanes → Lanes) (s : State) : (s.modLanes g).units = s.units := rfl
@[simp] theorem State.modLanes_mode (g : Lanes → Lanes) (s : State) : (s.modLanes g).mode = s.mode := rfl
@[simp] theorem State.modLanes_cam (g : Lanes → Lanes) (s : State) : (s.modLanes g).cam = s.cam := rfl
@[simp] theorem State.modLanes_isp (g : Lanes → Lanes) (s : State) : (s.modLanes g).isp = s.isp := rfl
@[simp] theorem State.modLanes_depth (g : Lanes → Lanes) (s : State) : (s.modLanes g).depth = s.depth := rfl
@[simp] theorem State.modLanes_scene (g : Lanes → Lanes) (s : State) : (s.modLanes g).scene = s.scene := rfl
@[simp] theorem State.modLanes_leases (g : Lanes → Lanes) (s : State) : (s.modLanes g).leases = s.leases := rfl
@[simp] theorem State.modLanes_ray (g : Lanes → Lanes) (s : State) : (s.modLanes g).ray = s.ray := rfl
@[simp] theorem State.modLanes_cellar (g : Lanes → Lanes) (s : State) : (s.modLanes g).cellar = s.cellar := rfl
@[simp] theorem State.modLanes_layers (g : Lanes → Lanes) (s : State) : (s.modLanes g).layers = s.layers := rfl
@[simp] theorem State.modLanes_hw (g : Lanes → Lanes) (s : State) : (s.modLanes g).hw = s.hw := rfl
@[simp] theorem State.modLanes_disp (g : Lanes → Lanes) (s : State) : (s.modLanes g).disp = s.disp := rfl
@[simp] theorem State.modLanes_scan (g : Lanes → Lanes) (s : State) : (s.modLanes g).scan = s.scan := rfl
@[simp] theorem State.modLanes_pnl (g : Lanes → Lanes) (s : State) : (s.modLanes g).pnl = s.pnl := rfl
@[simp] theorem State.modLanes_lanes (g : Lanes → Lanes) (s : State) : (s.modLanes g).lanes = g s.lanes := rfl
@[simp] theorem State.modLanes_mem (g : Lanes → Lanes) (s : State) : (s.modLanes g).mem = s.mem := rfl
@[simp] theorem State.modLanes_churn (g : Lanes → Lanes) (s : State) : (s.modLanes g).churn = s.churn := rfl
@[simp] theorem State.modLanes_plc (g : Lanes → Lanes) (s : State) : (s.modLanes g).plc = s.plc := rfl
@[simp] theorem State.modLanes_aud (g : Lanes → Lanes) (s : State) : (s.modLanes g).aud = s.aud := rfl
@[simp] theorem State.modLanes_hk (g : Lanes → Lanes) (s : State) : (s.modLanes g).hk = s.hk := rfl
@[simp] theorem State.modLanes_nvm (g : Lanes → Lanes) (s : State) : (s.modLanes g).nvm = s.nvm := rfl
@[simp] theorem State.modLanes_tp (g : Lanes → Lanes) (s : State) : (s.modLanes g).tp = s.tp := rfl
@[simp] theorem State.modLanes_sec (g : Lanes → Lanes) (s : State) : (s.modLanes g).sec = s.sec := rfl
@[simp] theorem State.modLanes_tap (g : Lanes → Lanes) (s : State) : (s.modLanes g).tap = s.tap := rfl
@[simp] theorem State.modLanes_time (g : Lanes → Lanes) (s : State) : (s.modLanes g).time = s.time := rfl
@[simp] theorem State.modLanes_win (g : Lanes → Lanes) (s : State) : (s.modLanes g).win = s.win := rfl
@[simp] theorem State.modLanes_out (g : Lanes → Lanes) (s : State) : (s.modLanes g).out = s.out := rfl
@[simp] theorem State.modLanes_free (g : Lanes → Lanes) (s : State) : (s.modLanes g).free = s.free := rfl
@[simp] theorem State.modLanes_pending (g : Lanes → Lanes) (s : State) : (s.modLanes g).pending = s.pending := rfl
@[simp] theorem State.modMem_id (g : Mem → Mem) (s : State) : (s.modMem g).id = s.id := rfl
@[simp] theorem State.modMem_pins (g : Mem → Mem) (s : State) : (s.modMem g).pins = s.pins := rfl
@[simp] theorem State.modMem_pwr (g : Mem → Mem) (s : State) : (s.modMem g).pwr = s.pwr := rfl
@[simp] theorem State.modMem_gov (g : Mem → Mem) (s : State) : (s.modMem g).gov = s.gov := rfl
@[simp] theorem State.modMem_clk (g : Mem → Mem) (s : State) : (s.modMem g).clk = s.clk := rfl
@[simp] theorem State.modMem_own (g : Mem → Mem) (s : State) : (s.modMem g).own = s.own := rfl
@[simp] theorem State.modMem_ctl (g : Mem → Mem) (s : State) : (s.modMem g).ctl = s.ctl := rfl
@[simp] theorem State.modMem_units (g : Mem → Mem) (s : State) : (s.modMem g).units = s.units := rfl
@[simp] theorem State.modMem_mode (g : Mem → Mem) (s : State) : (s.modMem g).mode = s.mode := rfl
@[simp] theorem State.modMem_cam (g : Mem → Mem) (s : State) : (s.modMem g).cam = s.cam := rfl
@[simp] theorem State.modMem_isp (g : Mem → Mem) (s : State) : (s.modMem g).isp = s.isp := rfl
@[simp] theorem State.modMem_depth (g : Mem → Mem) (s : State) : (s.modMem g).depth = s.depth := rfl
@[simp] theorem State.modMem_scene (g : Mem → Mem) (s : State) : (s.modMem g).scene = s.scene := rfl
@[simp] theorem State.modMem_leases (g : Mem → Mem) (s : State) : (s.modMem g).leases = s.leases := rfl
@[simp] theorem State.modMem_ray (g : Mem → Mem) (s : State) : (s.modMem g).ray = s.ray := rfl
@[simp] theorem State.modMem_cellar (g : Mem → Mem) (s : State) : (s.modMem g).cellar = s.cellar := rfl
@[simp] theorem State.modMem_layers (g : Mem → Mem) (s : State) : (s.modMem g).layers = s.layers := rfl
@[simp] theorem State.modMem_hw (g : Mem → Mem) (s : State) : (s.modMem g).hw = s.hw := rfl
@[simp] theorem State.modMem_disp (g : Mem → Mem) (s : State) : (s.modMem g).disp = s.disp := rfl
@[simp] theorem State.modMem_scan (g : Mem → Mem) (s : State) : (s.modMem g).scan = s.scan := rfl
@[simp] theorem State.modMem_pnl (g : Mem → Mem) (s : State) : (s.modMem g).pnl = s.pnl := rfl
@[simp] theorem State.modMem_lanes (g : Mem → Mem) (s : State) : (s.modMem g).lanes = s.lanes := rfl
@[simp] theorem State.modMem_mem (g : Mem → Mem) (s : State) : (s.modMem g).mem = g s.mem := rfl
@[simp] theorem State.modMem_churn (g : Mem → Mem) (s : State) : (s.modMem g).churn = s.churn := rfl
@[simp] theorem State.modMem_plc (g : Mem → Mem) (s : State) : (s.modMem g).plc = s.plc := rfl
@[simp] theorem State.modMem_aud (g : Mem → Mem) (s : State) : (s.modMem g).aud = s.aud := rfl
@[simp] theorem State.modMem_hk (g : Mem → Mem) (s : State) : (s.modMem g).hk = s.hk := rfl
@[simp] theorem State.modMem_nvm (g : Mem → Mem) (s : State) : (s.modMem g).nvm = s.nvm := rfl
@[simp] theorem State.modMem_tp (g : Mem → Mem) (s : State) : (s.modMem g).tp = s.tp := rfl
@[simp] theorem State.modMem_sec (g : Mem → Mem) (s : State) : (s.modMem g).sec = s.sec := rfl
@[simp] theorem State.modMem_tap (g : Mem → Mem) (s : State) : (s.modMem g).tap = s.tap := rfl
@[simp] theorem State.modMem_time (g : Mem → Mem) (s : State) : (s.modMem g).time = s.time := rfl
@[simp] theorem State.modMem_win (g : Mem → Mem) (s : State) : (s.modMem g).win = s.win := rfl
@[simp] theorem State.modMem_out (g : Mem → Mem) (s : State) : (s.modMem g).out = s.out := rfl
@[simp] theorem State.modMem_free (g : Mem → Mem) (s : State) : (s.modMem g).free = s.free := rfl
@[simp] theorem State.modMem_pending (g : Mem → Mem) (s : State) : (s.modMem g).pending = s.pending := rfl
@[simp] theorem State.modChurn_id (g : Churn → Churn) (s : State) : (s.modChurn g).id = s.id := rfl
@[simp] theorem State.modChurn_pins (g : Churn → Churn) (s : State) : (s.modChurn g).pins = s.pins := rfl
@[simp] theorem State.modChurn_pwr (g : Churn → Churn) (s : State) : (s.modChurn g).pwr = s.pwr := rfl
@[simp] theorem State.modChurn_gov (g : Churn → Churn) (s : State) : (s.modChurn g).gov = s.gov := rfl
@[simp] theorem State.modChurn_clk (g : Churn → Churn) (s : State) : (s.modChurn g).clk = s.clk := rfl
@[simp] theorem State.modChurn_own (g : Churn → Churn) (s : State) : (s.modChurn g).own = s.own := rfl
@[simp] theorem State.modChurn_ctl (g : Churn → Churn) (s : State) : (s.modChurn g).ctl = s.ctl := rfl
@[simp] theorem State.modChurn_units (g : Churn → Churn) (s : State) : (s.modChurn g).units = s.units := rfl
@[simp] theorem State.modChurn_mode (g : Churn → Churn) (s : State) : (s.modChurn g).mode = s.mode := rfl
@[simp] theorem State.modChurn_cam (g : Churn → Churn) (s : State) : (s.modChurn g).cam = s.cam := rfl
@[simp] theorem State.modChurn_isp (g : Churn → Churn) (s : State) : (s.modChurn g).isp = s.isp := rfl
@[simp] theorem State.modChurn_depth (g : Churn → Churn) (s : State) : (s.modChurn g).depth = s.depth := rfl
@[simp] theorem State.modChurn_scene (g : Churn → Churn) (s : State) : (s.modChurn g).scene = s.scene := rfl
@[simp] theorem State.modChurn_leases (g : Churn → Churn) (s : State) : (s.modChurn g).leases = s.leases := rfl
@[simp] theorem State.modChurn_ray (g : Churn → Churn) (s : State) : (s.modChurn g).ray = s.ray := rfl
@[simp] theorem State.modChurn_cellar (g : Churn → Churn) (s : State) : (s.modChurn g).cellar = s.cellar := rfl
@[simp] theorem State.modChurn_layers (g : Churn → Churn) (s : State) : (s.modChurn g).layers = s.layers := rfl
@[simp] theorem State.modChurn_hw (g : Churn → Churn) (s : State) : (s.modChurn g).hw = s.hw := rfl
@[simp] theorem State.modChurn_disp (g : Churn → Churn) (s : State) : (s.modChurn g).disp = s.disp := rfl
@[simp] theorem State.modChurn_scan (g : Churn → Churn) (s : State) : (s.modChurn g).scan = s.scan := rfl
@[simp] theorem State.modChurn_pnl (g : Churn → Churn) (s : State) : (s.modChurn g).pnl = s.pnl := rfl
@[simp] theorem State.modChurn_lanes (g : Churn → Churn) (s : State) : (s.modChurn g).lanes = s.lanes := rfl
@[simp] theorem State.modChurn_mem (g : Churn → Churn) (s : State) : (s.modChurn g).mem = s.mem := rfl
@[simp] theorem State.modChurn_churn (g : Churn → Churn) (s : State) : (s.modChurn g).churn = g s.churn := rfl
@[simp] theorem State.modChurn_plc (g : Churn → Churn) (s : State) : (s.modChurn g).plc = s.plc := rfl
@[simp] theorem State.modChurn_aud (g : Churn → Churn) (s : State) : (s.modChurn g).aud = s.aud := rfl
@[simp] theorem State.modChurn_hk (g : Churn → Churn) (s : State) : (s.modChurn g).hk = s.hk := rfl
@[simp] theorem State.modChurn_nvm (g : Churn → Churn) (s : State) : (s.modChurn g).nvm = s.nvm := rfl
@[simp] theorem State.modChurn_tp (g : Churn → Churn) (s : State) : (s.modChurn g).tp = s.tp := rfl
@[simp] theorem State.modChurn_sec (g : Churn → Churn) (s : State) : (s.modChurn g).sec = s.sec := rfl
@[simp] theorem State.modChurn_tap (g : Churn → Churn) (s : State) : (s.modChurn g).tap = s.tap := rfl
@[simp] theorem State.modChurn_time (g : Churn → Churn) (s : State) : (s.modChurn g).time = s.time := rfl
@[simp] theorem State.modChurn_win (g : Churn → Churn) (s : State) : (s.modChurn g).win = s.win := rfl
@[simp] theorem State.modChurn_out (g : Churn → Churn) (s : State) : (s.modChurn g).out = s.out := rfl
@[simp] theorem State.modChurn_free (g : Churn → Churn) (s : State) : (s.modChurn g).free = s.free := rfl
@[simp] theorem State.modChurn_pending (g : Churn → Churn) (s : State) : (s.modChurn g).pending = s.pending := rfl
@[simp] theorem State.modPlc_id (g : Plc → Plc) (s : State) : (s.modPlc g).id = s.id := rfl
@[simp] theorem State.modPlc_pins (g : Plc → Plc) (s : State) : (s.modPlc g).pins = s.pins := rfl
@[simp] theorem State.modPlc_pwr (g : Plc → Plc) (s : State) : (s.modPlc g).pwr = s.pwr := rfl
@[simp] theorem State.modPlc_gov (g : Plc → Plc) (s : State) : (s.modPlc g).gov = s.gov := rfl
@[simp] theorem State.modPlc_clk (g : Plc → Plc) (s : State) : (s.modPlc g).clk = s.clk := rfl
@[simp] theorem State.modPlc_own (g : Plc → Plc) (s : State) : (s.modPlc g).own = s.own := rfl
@[simp] theorem State.modPlc_ctl (g : Plc → Plc) (s : State) : (s.modPlc g).ctl = s.ctl := rfl
@[simp] theorem State.modPlc_units (g : Plc → Plc) (s : State) : (s.modPlc g).units = s.units := rfl
@[simp] theorem State.modPlc_mode (g : Plc → Plc) (s : State) : (s.modPlc g).mode = s.mode := rfl
@[simp] theorem State.modPlc_cam (g : Plc → Plc) (s : State) : (s.modPlc g).cam = s.cam := rfl
@[simp] theorem State.modPlc_isp (g : Plc → Plc) (s : State) : (s.modPlc g).isp = s.isp := rfl
@[simp] theorem State.modPlc_depth (g : Plc → Plc) (s : State) : (s.modPlc g).depth = s.depth := rfl
@[simp] theorem State.modPlc_scene (g : Plc → Plc) (s : State) : (s.modPlc g).scene = s.scene := rfl
@[simp] theorem State.modPlc_leases (g : Plc → Plc) (s : State) : (s.modPlc g).leases = s.leases := rfl
@[simp] theorem State.modPlc_ray (g : Plc → Plc) (s : State) : (s.modPlc g).ray = s.ray := rfl
@[simp] theorem State.modPlc_cellar (g : Plc → Plc) (s : State) : (s.modPlc g).cellar = s.cellar := rfl
@[simp] theorem State.modPlc_layers (g : Plc → Plc) (s : State) : (s.modPlc g).layers = s.layers := rfl
@[simp] theorem State.modPlc_hw (g : Plc → Plc) (s : State) : (s.modPlc g).hw = s.hw := rfl
@[simp] theorem State.modPlc_disp (g : Plc → Plc) (s : State) : (s.modPlc g).disp = s.disp := rfl
@[simp] theorem State.modPlc_scan (g : Plc → Plc) (s : State) : (s.modPlc g).scan = s.scan := rfl
@[simp] theorem State.modPlc_pnl (g : Plc → Plc) (s : State) : (s.modPlc g).pnl = s.pnl := rfl
@[simp] theorem State.modPlc_lanes (g : Plc → Plc) (s : State) : (s.modPlc g).lanes = s.lanes := rfl
@[simp] theorem State.modPlc_mem (g : Plc → Plc) (s : State) : (s.modPlc g).mem = s.mem := rfl
@[simp] theorem State.modPlc_churn (g : Plc → Plc) (s : State) : (s.modPlc g).churn = s.churn := rfl
@[simp] theorem State.modPlc_plc (g : Plc → Plc) (s : State) : (s.modPlc g).plc = g s.plc := rfl
@[simp] theorem State.modPlc_aud (g : Plc → Plc) (s : State) : (s.modPlc g).aud = s.aud := rfl
@[simp] theorem State.modPlc_hk (g : Plc → Plc) (s : State) : (s.modPlc g).hk = s.hk := rfl
@[simp] theorem State.modPlc_nvm (g : Plc → Plc) (s : State) : (s.modPlc g).nvm = s.nvm := rfl
@[simp] theorem State.modPlc_tp (g : Plc → Plc) (s : State) : (s.modPlc g).tp = s.tp := rfl
@[simp] theorem State.modPlc_sec (g : Plc → Plc) (s : State) : (s.modPlc g).sec = s.sec := rfl
@[simp] theorem State.modPlc_tap (g : Plc → Plc) (s : State) : (s.modPlc g).tap = s.tap := rfl
@[simp] theorem State.modPlc_time (g : Plc → Plc) (s : State) : (s.modPlc g).time = s.time := rfl
@[simp] theorem State.modPlc_win (g : Plc → Plc) (s : State) : (s.modPlc g).win = s.win := rfl
@[simp] theorem State.modPlc_out (g : Plc → Plc) (s : State) : (s.modPlc g).out = s.out := rfl
@[simp] theorem State.modPlc_free (g : Plc → Plc) (s : State) : (s.modPlc g).free = s.free := rfl
@[simp] theorem State.modPlc_pending (g : Plc → Plc) (s : State) : (s.modPlc g).pending = s.pending := rfl
@[simp] theorem State.modAud_id (g : Aud → Aud) (s : State) : (s.modAud g).id = s.id := rfl
@[simp] theorem State.modAud_pins (g : Aud → Aud) (s : State) : (s.modAud g).pins = s.pins := rfl
@[simp] theorem State.modAud_pwr (g : Aud → Aud) (s : State) : (s.modAud g).pwr = s.pwr := rfl
@[simp] theorem State.modAud_gov (g : Aud → Aud) (s : State) : (s.modAud g).gov = s.gov := rfl
@[simp] theorem State.modAud_clk (g : Aud → Aud) (s : State) : (s.modAud g).clk = s.clk := rfl
@[simp] theorem State.modAud_own (g : Aud → Aud) (s : State) : (s.modAud g).own = s.own := rfl
@[simp] theorem State.modAud_ctl (g : Aud → Aud) (s : State) : (s.modAud g).ctl = s.ctl := rfl
@[simp] theorem State.modAud_units (g : Aud → Aud) (s : State) : (s.modAud g).units = s.units := rfl
@[simp] theorem State.modAud_mode (g : Aud → Aud) (s : State) : (s.modAud g).mode = s.mode := rfl
@[simp] theorem State.modAud_cam (g : Aud → Aud) (s : State) : (s.modAud g).cam = s.cam := rfl
@[simp] theorem State.modAud_isp (g : Aud → Aud) (s : State) : (s.modAud g).isp = s.isp := rfl
@[simp] theorem State.modAud_depth (g : Aud → Aud) (s : State) : (s.modAud g).depth = s.depth := rfl
@[simp] theorem State.modAud_scene (g : Aud → Aud) (s : State) : (s.modAud g).scene = s.scene := rfl
@[simp] theorem State.modAud_leases (g : Aud → Aud) (s : State) : (s.modAud g).leases = s.leases := rfl
@[simp] theorem State.modAud_ray (g : Aud → Aud) (s : State) : (s.modAud g).ray = s.ray := rfl
@[simp] theorem State.modAud_cellar (g : Aud → Aud) (s : State) : (s.modAud g).cellar = s.cellar := rfl
@[simp] theorem State.modAud_layers (g : Aud → Aud) (s : State) : (s.modAud g).layers = s.layers := rfl
@[simp] theorem State.modAud_hw (g : Aud → Aud) (s : State) : (s.modAud g).hw = s.hw := rfl
@[simp] theorem State.modAud_disp (g : Aud → Aud) (s : State) : (s.modAud g).disp = s.disp := rfl
@[simp] theorem State.modAud_scan (g : Aud → Aud) (s : State) : (s.modAud g).scan = s.scan := rfl
@[simp] theorem State.modAud_pnl (g : Aud → Aud) (s : State) : (s.modAud g).pnl = s.pnl := rfl
@[simp] theorem State.modAud_lanes (g : Aud → Aud) (s : State) : (s.modAud g).lanes = s.lanes := rfl
@[simp] theorem State.modAud_mem (g : Aud → Aud) (s : State) : (s.modAud g).mem = s.mem := rfl
@[simp] theorem State.modAud_churn (g : Aud → Aud) (s : State) : (s.modAud g).churn = s.churn := rfl
@[simp] theorem State.modAud_plc (g : Aud → Aud) (s : State) : (s.modAud g).plc = s.plc := rfl
@[simp] theorem State.modAud_aud (g : Aud → Aud) (s : State) : (s.modAud g).aud = g s.aud := rfl
@[simp] theorem State.modAud_hk (g : Aud → Aud) (s : State) : (s.modAud g).hk = s.hk := rfl
@[simp] theorem State.modAud_nvm (g : Aud → Aud) (s : State) : (s.modAud g).nvm = s.nvm := rfl
@[simp] theorem State.modAud_tp (g : Aud → Aud) (s : State) : (s.modAud g).tp = s.tp := rfl
@[simp] theorem State.modAud_sec (g : Aud → Aud) (s : State) : (s.modAud g).sec = s.sec := rfl
@[simp] theorem State.modAud_tap (g : Aud → Aud) (s : State) : (s.modAud g).tap = s.tap := rfl
@[simp] theorem State.modAud_time (g : Aud → Aud) (s : State) : (s.modAud g).time = s.time := rfl
@[simp] theorem State.modAud_win (g : Aud → Aud) (s : State) : (s.modAud g).win = s.win := rfl
@[simp] theorem State.modAud_out (g : Aud → Aud) (s : State) : (s.modAud g).out = s.out := rfl
@[simp] theorem State.modAud_free (g : Aud → Aud) (s : State) : (s.modAud g).free = s.free := rfl
@[simp] theorem State.modAud_pending (g : Aud → Aud) (s : State) : (s.modAud g).pending = s.pending := rfl
@[simp] theorem State.modHk_id (g : Hk → Hk) (s : State) : (s.modHk g).id = s.id := rfl
@[simp] theorem State.modHk_pins (g : Hk → Hk) (s : State) : (s.modHk g).pins = s.pins := rfl
@[simp] theorem State.modHk_pwr (g : Hk → Hk) (s : State) : (s.modHk g).pwr = s.pwr := rfl
@[simp] theorem State.modHk_gov (g : Hk → Hk) (s : State) : (s.modHk g).gov = s.gov := rfl
@[simp] theorem State.modHk_clk (g : Hk → Hk) (s : State) : (s.modHk g).clk = s.clk := rfl
@[simp] theorem State.modHk_own (g : Hk → Hk) (s : State) : (s.modHk g).own = s.own := rfl
@[simp] theorem State.modHk_ctl (g : Hk → Hk) (s : State) : (s.modHk g).ctl = s.ctl := rfl
@[simp] theorem State.modHk_units (g : Hk → Hk) (s : State) : (s.modHk g).units = s.units := rfl
@[simp] theorem State.modHk_mode (g : Hk → Hk) (s : State) : (s.modHk g).mode = s.mode := rfl
@[simp] theorem State.modHk_cam (g : Hk → Hk) (s : State) : (s.modHk g).cam = s.cam := rfl
@[simp] theorem State.modHk_isp (g : Hk → Hk) (s : State) : (s.modHk g).isp = s.isp := rfl
@[simp] theorem State.modHk_depth (g : Hk → Hk) (s : State) : (s.modHk g).depth = s.depth := rfl
@[simp] theorem State.modHk_scene (g : Hk → Hk) (s : State) : (s.modHk g).scene = s.scene := rfl
@[simp] theorem State.modHk_leases (g : Hk → Hk) (s : State) : (s.modHk g).leases = s.leases := rfl
@[simp] theorem State.modHk_ray (g : Hk → Hk) (s : State) : (s.modHk g).ray = s.ray := rfl
@[simp] theorem State.modHk_cellar (g : Hk → Hk) (s : State) : (s.modHk g).cellar = s.cellar := rfl
@[simp] theorem State.modHk_layers (g : Hk → Hk) (s : State) : (s.modHk g).layers = s.layers := rfl
@[simp] theorem State.modHk_hw (g : Hk → Hk) (s : State) : (s.modHk g).hw = s.hw := rfl
@[simp] theorem State.modHk_disp (g : Hk → Hk) (s : State) : (s.modHk g).disp = s.disp := rfl
@[simp] theorem State.modHk_scan (g : Hk → Hk) (s : State) : (s.modHk g).scan = s.scan := rfl
@[simp] theorem State.modHk_pnl (g : Hk → Hk) (s : State) : (s.modHk g).pnl = s.pnl := rfl
@[simp] theorem State.modHk_lanes (g : Hk → Hk) (s : State) : (s.modHk g).lanes = s.lanes := rfl
@[simp] theorem State.modHk_mem (g : Hk → Hk) (s : State) : (s.modHk g).mem = s.mem := rfl
@[simp] theorem State.modHk_churn (g : Hk → Hk) (s : State) : (s.modHk g).churn = s.churn := rfl
@[simp] theorem State.modHk_plc (g : Hk → Hk) (s : State) : (s.modHk g).plc = s.plc := rfl
@[simp] theorem State.modHk_aud (g : Hk → Hk) (s : State) : (s.modHk g).aud = s.aud := rfl
@[simp] theorem State.modHk_hk (g : Hk → Hk) (s : State) : (s.modHk g).hk = g s.hk := rfl
@[simp] theorem State.modHk_nvm (g : Hk → Hk) (s : State) : (s.modHk g).nvm = s.nvm := rfl
@[simp] theorem State.modHk_tp (g : Hk → Hk) (s : State) : (s.modHk g).tp = s.tp := rfl
@[simp] theorem State.modHk_sec (g : Hk → Hk) (s : State) : (s.modHk g).sec = s.sec := rfl
@[simp] theorem State.modHk_tap (g : Hk → Hk) (s : State) : (s.modHk g).tap = s.tap := rfl
@[simp] theorem State.modHk_time (g : Hk → Hk) (s : State) : (s.modHk g).time = s.time := rfl
@[simp] theorem State.modHk_win (g : Hk → Hk) (s : State) : (s.modHk g).win = s.win := rfl
@[simp] theorem State.modHk_out (g : Hk → Hk) (s : State) : (s.modHk g).out = s.out := rfl
@[simp] theorem State.modHk_free (g : Hk → Hk) (s : State) : (s.modHk g).free = s.free := rfl
@[simp] theorem State.modHk_pending (g : Hk → Hk) (s : State) : (s.modHk g).pending = s.pending := rfl
@[simp] theorem State.modNvm_id (g : Nvm → Nvm) (s : State) : (s.modNvm g).id = s.id := rfl
@[simp] theorem State.modNvm_pins (g : Nvm → Nvm) (s : State) : (s.modNvm g).pins = s.pins := rfl
@[simp] theorem State.modNvm_pwr (g : Nvm → Nvm) (s : State) : (s.modNvm g).pwr = s.pwr := rfl
@[simp] theorem State.modNvm_gov (g : Nvm → Nvm) (s : State) : (s.modNvm g).gov = s.gov := rfl
@[simp] theorem State.modNvm_clk (g : Nvm → Nvm) (s : State) : (s.modNvm g).clk = s.clk := rfl
@[simp] theorem State.modNvm_own (g : Nvm → Nvm) (s : State) : (s.modNvm g).own = s.own := rfl
@[simp] theorem State.modNvm_ctl (g : Nvm → Nvm) (s : State) : (s.modNvm g).ctl = s.ctl := rfl
@[simp] theorem State.modNvm_units (g : Nvm → Nvm) (s : State) : (s.modNvm g).units = s.units := rfl
@[simp] theorem State.modNvm_mode (g : Nvm → Nvm) (s : State) : (s.modNvm g).mode = s.mode := rfl
@[simp] theorem State.modNvm_cam (g : Nvm → Nvm) (s : State) : (s.modNvm g).cam = s.cam := rfl
@[simp] theorem State.modNvm_isp (g : Nvm → Nvm) (s : State) : (s.modNvm g).isp = s.isp := rfl
@[simp] theorem State.modNvm_depth (g : Nvm → Nvm) (s : State) : (s.modNvm g).depth = s.depth := rfl
@[simp] theorem State.modNvm_scene (g : Nvm → Nvm) (s : State) : (s.modNvm g).scene = s.scene := rfl
@[simp] theorem State.modNvm_leases (g : Nvm → Nvm) (s : State) : (s.modNvm g).leases = s.leases := rfl
@[simp] theorem State.modNvm_ray (g : Nvm → Nvm) (s : State) : (s.modNvm g).ray = s.ray := rfl
@[simp] theorem State.modNvm_cellar (g : Nvm → Nvm) (s : State) : (s.modNvm g).cellar = s.cellar := rfl
@[simp] theorem State.modNvm_layers (g : Nvm → Nvm) (s : State) : (s.modNvm g).layers = s.layers := rfl
@[simp] theorem State.modNvm_hw (g : Nvm → Nvm) (s : State) : (s.modNvm g).hw = s.hw := rfl
@[simp] theorem State.modNvm_disp (g : Nvm → Nvm) (s : State) : (s.modNvm g).disp = s.disp := rfl
@[simp] theorem State.modNvm_scan (g : Nvm → Nvm) (s : State) : (s.modNvm g).scan = s.scan := rfl
@[simp] theorem State.modNvm_pnl (g : Nvm → Nvm) (s : State) : (s.modNvm g).pnl = s.pnl := rfl
@[simp] theorem State.modNvm_lanes (g : Nvm → Nvm) (s : State) : (s.modNvm g).lanes = s.lanes := rfl
@[simp] theorem State.modNvm_mem (g : Nvm → Nvm) (s : State) : (s.modNvm g).mem = s.mem := rfl
@[simp] theorem State.modNvm_churn (g : Nvm → Nvm) (s : State) : (s.modNvm g).churn = s.churn := rfl
@[simp] theorem State.modNvm_plc (g : Nvm → Nvm) (s : State) : (s.modNvm g).plc = s.plc := rfl
@[simp] theorem State.modNvm_aud (g : Nvm → Nvm) (s : State) : (s.modNvm g).aud = s.aud := rfl
@[simp] theorem State.modNvm_hk (g : Nvm → Nvm) (s : State) : (s.modNvm g).hk = s.hk := rfl
@[simp] theorem State.modNvm_nvm (g : Nvm → Nvm) (s : State) : (s.modNvm g).nvm = g s.nvm := rfl
@[simp] theorem State.modNvm_tp (g : Nvm → Nvm) (s : State) : (s.modNvm g).tp = s.tp := rfl
@[simp] theorem State.modNvm_sec (g : Nvm → Nvm) (s : State) : (s.modNvm g).sec = s.sec := rfl
@[simp] theorem State.modNvm_tap (g : Nvm → Nvm) (s : State) : (s.modNvm g).tap = s.tap := rfl
@[simp] theorem State.modNvm_time (g : Nvm → Nvm) (s : State) : (s.modNvm g).time = s.time := rfl
@[simp] theorem State.modNvm_win (g : Nvm → Nvm) (s : State) : (s.modNvm g).win = s.win := rfl
@[simp] theorem State.modNvm_out (g : Nvm → Nvm) (s : State) : (s.modNvm g).out = s.out := rfl
@[simp] theorem State.modNvm_free (g : Nvm → Nvm) (s : State) : (s.modNvm g).free = s.free := rfl
@[simp] theorem State.modNvm_pending (g : Nvm → Nvm) (s : State) : (s.modNvm g).pending = s.pending := rfl
@[simp] theorem State.modTp_id (g : Tp → Tp) (s : State) : (s.modTp g).id = s.id := rfl
@[simp] theorem State.modTp_pins (g : Tp → Tp) (s : State) : (s.modTp g).pins = s.pins := rfl
@[simp] theorem State.modTp_pwr (g : Tp → Tp) (s : State) : (s.modTp g).pwr = s.pwr := rfl
@[simp] theorem State.modTp_gov (g : Tp → Tp) (s : State) : (s.modTp g).gov = s.gov := rfl
@[simp] theorem State.modTp_clk (g : Tp → Tp) (s : State) : (s.modTp g).clk = s.clk := rfl
@[simp] theorem State.modTp_own (g : Tp → Tp) (s : State) : (s.modTp g).own = s.own := rfl
@[simp] theorem State.modTp_ctl (g : Tp → Tp) (s : State) : (s.modTp g).ctl = s.ctl := rfl
@[simp] theorem State.modTp_units (g : Tp → Tp) (s : State) : (s.modTp g).units = s.units := rfl
@[simp] theorem State.modTp_mode (g : Tp → Tp) (s : State) : (s.modTp g).mode = s.mode := rfl
@[simp] theorem State.modTp_cam (g : Tp → Tp) (s : State) : (s.modTp g).cam = s.cam := rfl
@[simp] theorem State.modTp_isp (g : Tp → Tp) (s : State) : (s.modTp g).isp = s.isp := rfl
@[simp] theorem State.modTp_depth (g : Tp → Tp) (s : State) : (s.modTp g).depth = s.depth := rfl
@[simp] theorem State.modTp_scene (g : Tp → Tp) (s : State) : (s.modTp g).scene = s.scene := rfl
@[simp] theorem State.modTp_leases (g : Tp → Tp) (s : State) : (s.modTp g).leases = s.leases := rfl
@[simp] theorem State.modTp_ray (g : Tp → Tp) (s : State) : (s.modTp g).ray = s.ray := rfl
@[simp] theorem State.modTp_cellar (g : Tp → Tp) (s : State) : (s.modTp g).cellar = s.cellar := rfl
@[simp] theorem State.modTp_layers (g : Tp → Tp) (s : State) : (s.modTp g).layers = s.layers := rfl
@[simp] theorem State.modTp_hw (g : Tp → Tp) (s : State) : (s.modTp g).hw = s.hw := rfl
@[simp] theorem State.modTp_disp (g : Tp → Tp) (s : State) : (s.modTp g).disp = s.disp := rfl
@[simp] theorem State.modTp_scan (g : Tp → Tp) (s : State) : (s.modTp g).scan = s.scan := rfl
@[simp] theorem State.modTp_pnl (g : Tp → Tp) (s : State) : (s.modTp g).pnl = s.pnl := rfl
@[simp] theorem State.modTp_lanes (g : Tp → Tp) (s : State) : (s.modTp g).lanes = s.lanes := rfl
@[simp] theorem State.modTp_mem (g : Tp → Tp) (s : State) : (s.modTp g).mem = s.mem := rfl
@[simp] theorem State.modTp_churn (g : Tp → Tp) (s : State) : (s.modTp g).churn = s.churn := rfl
@[simp] theorem State.modTp_plc (g : Tp → Tp) (s : State) : (s.modTp g).plc = s.plc := rfl
@[simp] theorem State.modTp_aud (g : Tp → Tp) (s : State) : (s.modTp g).aud = s.aud := rfl
@[simp] theorem State.modTp_hk (g : Tp → Tp) (s : State) : (s.modTp g).hk = s.hk := rfl
@[simp] theorem State.modTp_nvm (g : Tp → Tp) (s : State) : (s.modTp g).nvm = s.nvm := rfl
@[simp] theorem State.modTp_tp (g : Tp → Tp) (s : State) : (s.modTp g).tp = g s.tp := rfl
@[simp] theorem State.modTp_sec (g : Tp → Tp) (s : State) : (s.modTp g).sec = s.sec := rfl
@[simp] theorem State.modTp_tap (g : Tp → Tp) (s : State) : (s.modTp g).tap = s.tap := rfl
@[simp] theorem State.modTp_time (g : Tp → Tp) (s : State) : (s.modTp g).time = s.time := rfl
@[simp] theorem State.modTp_win (g : Tp → Tp) (s : State) : (s.modTp g).win = s.win := rfl
@[simp] theorem State.modTp_out (g : Tp → Tp) (s : State) : (s.modTp g).out = s.out := rfl
@[simp] theorem State.modTp_free (g : Tp → Tp) (s : State) : (s.modTp g).free = s.free := rfl
@[simp] theorem State.modTp_pending (g : Tp → Tp) (s : State) : (s.modTp g).pending = s.pending := rfl
@[simp] theorem State.modSec_id (g : Sec → Sec) (s : State) : (s.modSec g).id = s.id := rfl
@[simp] theorem State.modSec_pins (g : Sec → Sec) (s : State) : (s.modSec g).pins = s.pins := rfl
@[simp] theorem State.modSec_pwr (g : Sec → Sec) (s : State) : (s.modSec g).pwr = s.pwr := rfl
@[simp] theorem State.modSec_gov (g : Sec → Sec) (s : State) : (s.modSec g).gov = s.gov := rfl
@[simp] theorem State.modSec_clk (g : Sec → Sec) (s : State) : (s.modSec g).clk = s.clk := rfl
@[simp] theorem State.modSec_own (g : Sec → Sec) (s : State) : (s.modSec g).own = s.own := rfl
@[simp] theorem State.modSec_ctl (g : Sec → Sec) (s : State) : (s.modSec g).ctl = s.ctl := rfl
@[simp] theorem State.modSec_units (g : Sec → Sec) (s : State) : (s.modSec g).units = s.units := rfl
@[simp] theorem State.modSec_mode (g : Sec → Sec) (s : State) : (s.modSec g).mode = s.mode := rfl
@[simp] theorem State.modSec_cam (g : Sec → Sec) (s : State) : (s.modSec g).cam = s.cam := rfl
@[simp] theorem State.modSec_isp (g : Sec → Sec) (s : State) : (s.modSec g).isp = s.isp := rfl
@[simp] theorem State.modSec_depth (g : Sec → Sec) (s : State) : (s.modSec g).depth = s.depth := rfl
@[simp] theorem State.modSec_scene (g : Sec → Sec) (s : State) : (s.modSec g).scene = s.scene := rfl
@[simp] theorem State.modSec_leases (g : Sec → Sec) (s : State) : (s.modSec g).leases = s.leases := rfl
@[simp] theorem State.modSec_ray (g : Sec → Sec) (s : State) : (s.modSec g).ray = s.ray := rfl
@[simp] theorem State.modSec_cellar (g : Sec → Sec) (s : State) : (s.modSec g).cellar = s.cellar := rfl
@[simp] theorem State.modSec_layers (g : Sec → Sec) (s : State) : (s.modSec g).layers = s.layers := rfl
@[simp] theorem State.modSec_hw (g : Sec → Sec) (s : State) : (s.modSec g).hw = s.hw := rfl
@[simp] theorem State.modSec_disp (g : Sec → Sec) (s : State) : (s.modSec g).disp = s.disp := rfl
@[simp] theorem State.modSec_scan (g : Sec → Sec) (s : State) : (s.modSec g).scan = s.scan := rfl
@[simp] theorem State.modSec_pnl (g : Sec → Sec) (s : State) : (s.modSec g).pnl = s.pnl := rfl
@[simp] theorem State.modSec_lanes (g : Sec → Sec) (s : State) : (s.modSec g).lanes = s.lanes := rfl
@[simp] theorem State.modSec_mem (g : Sec → Sec) (s : State) : (s.modSec g).mem = s.mem := rfl
@[simp] theorem State.modSec_churn (g : Sec → Sec) (s : State) : (s.modSec g).churn = s.churn := rfl
@[simp] theorem State.modSec_plc (g : Sec → Sec) (s : State) : (s.modSec g).plc = s.plc := rfl
@[simp] theorem State.modSec_aud (g : Sec → Sec) (s : State) : (s.modSec g).aud = s.aud := rfl
@[simp] theorem State.modSec_hk (g : Sec → Sec) (s : State) : (s.modSec g).hk = s.hk := rfl
@[simp] theorem State.modSec_nvm (g : Sec → Sec) (s : State) : (s.modSec g).nvm = s.nvm := rfl
@[simp] theorem State.modSec_tp (g : Sec → Sec) (s : State) : (s.modSec g).tp = s.tp := rfl
@[simp] theorem State.modSec_sec (g : Sec → Sec) (s : State) : (s.modSec g).sec = g s.sec := rfl
@[simp] theorem State.modSec_tap (g : Sec → Sec) (s : State) : (s.modSec g).tap = s.tap := rfl
@[simp] theorem State.modSec_time (g : Sec → Sec) (s : State) : (s.modSec g).time = s.time := rfl
@[simp] theorem State.modSec_win (g : Sec → Sec) (s : State) : (s.modSec g).win = s.win := rfl
@[simp] theorem State.modSec_out (g : Sec → Sec) (s : State) : (s.modSec g).out = s.out := rfl
@[simp] theorem State.modSec_free (g : Sec → Sec) (s : State) : (s.modSec g).free = s.free := rfl
@[simp] theorem State.modSec_pending (g : Sec → Sec) (s : State) : (s.modSec g).pending = s.pending := rfl
@[simp] theorem State.modTap_id (g : TestPort → TestPort) (s : State) : (s.modTap g).id = s.id := rfl
@[simp] theorem State.modTap_pins (g : TestPort → TestPort) (s : State) : (s.modTap g).pins = s.pins := rfl
@[simp] theorem State.modTap_pwr (g : TestPort → TestPort) (s : State) : (s.modTap g).pwr = s.pwr := rfl
@[simp] theorem State.modTap_gov (g : TestPort → TestPort) (s : State) : (s.modTap g).gov = s.gov := rfl
@[simp] theorem State.modTap_clk (g : TestPort → TestPort) (s : State) : (s.modTap g).clk = s.clk := rfl
@[simp] theorem State.modTap_own (g : TestPort → TestPort) (s : State) : (s.modTap g).own = s.own := rfl
@[simp] theorem State.modTap_ctl (g : TestPort → TestPort) (s : State) : (s.modTap g).ctl = s.ctl := rfl
@[simp] theorem State.modTap_units (g : TestPort → TestPort) (s : State) : (s.modTap g).units = s.units := rfl
@[simp] theorem State.modTap_mode (g : TestPort → TestPort) (s : State) : (s.modTap g).mode = s.mode := rfl
@[simp] theorem State.modTap_cam (g : TestPort → TestPort) (s : State) : (s.modTap g).cam = s.cam := rfl
@[simp] theorem State.modTap_isp (g : TestPort → TestPort) (s : State) : (s.modTap g).isp = s.isp := rfl
@[simp] theorem State.modTap_depth (g : TestPort → TestPort) (s : State) : (s.modTap g).depth = s.depth := rfl
@[simp] theorem State.modTap_scene (g : TestPort → TestPort) (s : State) : (s.modTap g).scene = s.scene := rfl
@[simp] theorem State.modTap_leases (g : TestPort → TestPort) (s : State) : (s.modTap g).leases = s.leases := rfl
@[simp] theorem State.modTap_ray (g : TestPort → TestPort) (s : State) : (s.modTap g).ray = s.ray := rfl
@[simp] theorem State.modTap_cellar (g : TestPort → TestPort) (s : State) : (s.modTap g).cellar = s.cellar := rfl
@[simp] theorem State.modTap_layers (g : TestPort → TestPort) (s : State) : (s.modTap g).layers = s.layers := rfl
@[simp] theorem State.modTap_hw (g : TestPort → TestPort) (s : State) : (s.modTap g).hw = s.hw := rfl
@[simp] theorem State.modTap_disp (g : TestPort → TestPort) (s : State) : (s.modTap g).disp = s.disp := rfl
@[simp] theorem State.modTap_scan (g : TestPort → TestPort) (s : State) : (s.modTap g).scan = s.scan := rfl
@[simp] theorem State.modTap_pnl (g : TestPort → TestPort) (s : State) : (s.modTap g).pnl = s.pnl := rfl
@[simp] theorem State.modTap_lanes (g : TestPort → TestPort) (s : State) : (s.modTap g).lanes = s.lanes := rfl
@[simp] theorem State.modTap_mem (g : TestPort → TestPort) (s : State) : (s.modTap g).mem = s.mem := rfl
@[simp] theorem State.modTap_churn (g : TestPort → TestPort) (s : State) : (s.modTap g).churn = s.churn := rfl
@[simp] theorem State.modTap_plc (g : TestPort → TestPort) (s : State) : (s.modTap g).plc = s.plc := rfl
@[simp] theorem State.modTap_aud (g : TestPort → TestPort) (s : State) : (s.modTap g).aud = s.aud := rfl
@[simp] theorem State.modTap_hk (g : TestPort → TestPort) (s : State) : (s.modTap g).hk = s.hk := rfl
@[simp] theorem State.modTap_nvm (g : TestPort → TestPort) (s : State) : (s.modTap g).nvm = s.nvm := rfl
@[simp] theorem State.modTap_tp (g : TestPort → TestPort) (s : State) : (s.modTap g).tp = s.tp := rfl
@[simp] theorem State.modTap_sec (g : TestPort → TestPort) (s : State) : (s.modTap g).sec = s.sec := rfl
@[simp] theorem State.modTap_tap (g : TestPort → TestPort) (s : State) : (s.modTap g).tap = g s.tap := rfl
@[simp] theorem State.modTap_time (g : TestPort → TestPort) (s : State) : (s.modTap g).time = s.time := rfl
@[simp] theorem State.modTap_win (g : TestPort → TestPort) (s : State) : (s.modTap g).win = s.win := rfl
@[simp] theorem State.modTap_out (g : TestPort → TestPort) (s : State) : (s.modTap g).out = s.out := rfl
@[simp] theorem State.modTap_free (g : TestPort → TestPort) (s : State) : (s.modTap g).free = s.free := rfl
@[simp] theorem State.modTap_pending (g : TestPort → TestPort) (s : State) : (s.modTap g).pending = s.pending := rfl
@[simp] theorem State.modTime_id (g : Nat → Nat) (s : State) : (s.modTime g).id = s.id := rfl
@[simp] theorem State.modTime_pins (g : Nat → Nat) (s : State) : (s.modTime g).pins = s.pins := rfl
@[simp] theorem State.modTime_pwr (g : Nat → Nat) (s : State) : (s.modTime g).pwr = s.pwr := rfl
@[simp] theorem State.modTime_gov (g : Nat → Nat) (s : State) : (s.modTime g).gov = s.gov := rfl
@[simp] theorem State.modTime_clk (g : Nat → Nat) (s : State) : (s.modTime g).clk = s.clk := rfl
@[simp] theorem State.modTime_own (g : Nat → Nat) (s : State) : (s.modTime g).own = s.own := rfl
@[simp] theorem State.modTime_ctl (g : Nat → Nat) (s : State) : (s.modTime g).ctl = s.ctl := rfl
@[simp] theorem State.modTime_units (g : Nat → Nat) (s : State) : (s.modTime g).units = s.units := rfl
@[simp] theorem State.modTime_mode (g : Nat → Nat) (s : State) : (s.modTime g).mode = s.mode := rfl
@[simp] theorem State.modTime_cam (g : Nat → Nat) (s : State) : (s.modTime g).cam = s.cam := rfl
@[simp] theorem State.modTime_isp (g : Nat → Nat) (s : State) : (s.modTime g).isp = s.isp := rfl
@[simp] theorem State.modTime_depth (g : Nat → Nat) (s : State) : (s.modTime g).depth = s.depth := rfl
@[simp] theorem State.modTime_scene (g : Nat → Nat) (s : State) : (s.modTime g).scene = s.scene := rfl
@[simp] theorem State.modTime_leases (g : Nat → Nat) (s : State) : (s.modTime g).leases = s.leases := rfl
@[simp] theorem State.modTime_ray (g : Nat → Nat) (s : State) : (s.modTime g).ray = s.ray := rfl
@[simp] theorem State.modTime_cellar (g : Nat → Nat) (s : State) : (s.modTime g).cellar = s.cellar := rfl
@[simp] theorem State.modTime_layers (g : Nat → Nat) (s : State) : (s.modTime g).layers = s.layers := rfl
@[simp] theorem State.modTime_hw (g : Nat → Nat) (s : State) : (s.modTime g).hw = s.hw := rfl
@[simp] theorem State.modTime_disp (g : Nat → Nat) (s : State) : (s.modTime g).disp = s.disp := rfl
@[simp] theorem State.modTime_scan (g : Nat → Nat) (s : State) : (s.modTime g).scan = s.scan := rfl
@[simp] theorem State.modTime_pnl (g : Nat → Nat) (s : State) : (s.modTime g).pnl = s.pnl := rfl
@[simp] theorem State.modTime_lanes (g : Nat → Nat) (s : State) : (s.modTime g).lanes = s.lanes := rfl
@[simp] theorem State.modTime_mem (g : Nat → Nat) (s : State) : (s.modTime g).mem = s.mem := rfl
@[simp] theorem State.modTime_churn (g : Nat → Nat) (s : State) : (s.modTime g).churn = s.churn := rfl
@[simp] theorem State.modTime_plc (g : Nat → Nat) (s : State) : (s.modTime g).plc = s.plc := rfl
@[simp] theorem State.modTime_aud (g : Nat → Nat) (s : State) : (s.modTime g).aud = s.aud := rfl
@[simp] theorem State.modTime_hk (g : Nat → Nat) (s : State) : (s.modTime g).hk = s.hk := rfl
@[simp] theorem State.modTime_nvm (g : Nat → Nat) (s : State) : (s.modTime g).nvm = s.nvm := rfl
@[simp] theorem State.modTime_tp (g : Nat → Nat) (s : State) : (s.modTime g).tp = s.tp := rfl
@[simp] theorem State.modTime_sec (g : Nat → Nat) (s : State) : (s.modTime g).sec = s.sec := rfl
@[simp] theorem State.modTime_tap (g : Nat → Nat) (s : State) : (s.modTime g).tap = s.tap := rfl
@[simp] theorem State.modTime_time (g : Nat → Nat) (s : State) : (s.modTime g).time = g s.time := rfl
@[simp] theorem State.modTime_win (g : Nat → Nat) (s : State) : (s.modTime g).win = s.win := rfl
@[simp] theorem State.modTime_out (g : Nat → Nat) (s : State) : (s.modTime g).out = s.out := rfl
@[simp] theorem State.modTime_free (g : Nat → Nat) (s : State) : (s.modTime g).free = s.free := rfl
@[simp] theorem State.modTime_pending (g : Nat → Nat) (s : State) : (s.modTime g).pending = s.pending := rfl
@[simp] theorem State.modWin_id (g : Memory → Memory) (s : State) : (s.modWin g).id = s.id := rfl
@[simp] theorem State.modWin_pins (g : Memory → Memory) (s : State) : (s.modWin g).pins = s.pins := rfl
@[simp] theorem State.modWin_pwr (g : Memory → Memory) (s : State) : (s.modWin g).pwr = s.pwr := rfl
@[simp] theorem State.modWin_gov (g : Memory → Memory) (s : State) : (s.modWin g).gov = s.gov := rfl
@[simp] theorem State.modWin_clk (g : Memory → Memory) (s : State) : (s.modWin g).clk = s.clk := rfl
@[simp] theorem State.modWin_own (g : Memory → Memory) (s : State) : (s.modWin g).own = s.own := rfl
@[simp] theorem State.modWin_ctl (g : Memory → Memory) (s : State) : (s.modWin g).ctl = s.ctl := rfl
@[simp] theorem State.modWin_units (g : Memory → Memory) (s : State) : (s.modWin g).units = s.units := rfl
@[simp] theorem State.modWin_mode (g : Memory → Memory) (s : State) : (s.modWin g).mode = s.mode := rfl
@[simp] theorem State.modWin_cam (g : Memory → Memory) (s : State) : (s.modWin g).cam = s.cam := rfl
@[simp] theorem State.modWin_isp (g : Memory → Memory) (s : State) : (s.modWin g).isp = s.isp := rfl
@[simp] theorem State.modWin_depth (g : Memory → Memory) (s : State) : (s.modWin g).depth = s.depth := rfl
@[simp] theorem State.modWin_scene (g : Memory → Memory) (s : State) : (s.modWin g).scene = s.scene := rfl
@[simp] theorem State.modWin_leases (g : Memory → Memory) (s : State) : (s.modWin g).leases = s.leases := rfl
@[simp] theorem State.modWin_ray (g : Memory → Memory) (s : State) : (s.modWin g).ray = s.ray := rfl
@[simp] theorem State.modWin_cellar (g : Memory → Memory) (s : State) : (s.modWin g).cellar = s.cellar := rfl
@[simp] theorem State.modWin_layers (g : Memory → Memory) (s : State) : (s.modWin g).layers = s.layers := rfl
@[simp] theorem State.modWin_hw (g : Memory → Memory) (s : State) : (s.modWin g).hw = s.hw := rfl
@[simp] theorem State.modWin_disp (g : Memory → Memory) (s : State) : (s.modWin g).disp = s.disp := rfl
@[simp] theorem State.modWin_scan (g : Memory → Memory) (s : State) : (s.modWin g).scan = s.scan := rfl
@[simp] theorem State.modWin_pnl (g : Memory → Memory) (s : State) : (s.modWin g).pnl = s.pnl := rfl
@[simp] theorem State.modWin_lanes (g : Memory → Memory) (s : State) : (s.modWin g).lanes = s.lanes := rfl
@[simp] theorem State.modWin_mem (g : Memory → Memory) (s : State) : (s.modWin g).mem = s.mem := rfl
@[simp] theorem State.modWin_churn (g : Memory → Memory) (s : State) : (s.modWin g).churn = s.churn := rfl
@[simp] theorem State.modWin_plc (g : Memory → Memory) (s : State) : (s.modWin g).plc = s.plc := rfl
@[simp] theorem State.modWin_aud (g : Memory → Memory) (s : State) : (s.modWin g).aud = s.aud := rfl
@[simp] theorem State.modWin_hk (g : Memory → Memory) (s : State) : (s.modWin g).hk = s.hk := rfl
@[simp] theorem State.modWin_nvm (g : Memory → Memory) (s : State) : (s.modWin g).nvm = s.nvm := rfl
@[simp] theorem State.modWin_tp (g : Memory → Memory) (s : State) : (s.modWin g).tp = s.tp := rfl
@[simp] theorem State.modWin_sec (g : Memory → Memory) (s : State) : (s.modWin g).sec = s.sec := rfl
@[simp] theorem State.modWin_tap (g : Memory → Memory) (s : State) : (s.modWin g).tap = s.tap := rfl
@[simp] theorem State.modWin_time (g : Memory → Memory) (s : State) : (s.modWin g).time = s.time := rfl
@[simp] theorem State.modWin_win (g : Memory → Memory) (s : State) : (s.modWin g).win = g s.win := rfl
@[simp] theorem State.modWin_out (g : Memory → Memory) (s : State) : (s.modWin g).out = s.out := rfl
@[simp] theorem State.modWin_free (g : Memory → Memory) (s : State) : (s.modWin g).free = s.free := rfl
@[simp] theorem State.modWin_pending (g : Memory → Memory) (s : State) : (s.modWin g).pending = s.pending := rfl
@[simp] theorem State.modOut_id (g : (List Out) → (List Out)) (s : State) : (s.modOut g).id = s.id := rfl
@[simp] theorem State.modOut_pins (g : (List Out) → (List Out)) (s : State) : (s.modOut g).pins = s.pins := rfl
@[simp] theorem State.modOut_pwr (g : (List Out) → (List Out)) (s : State) : (s.modOut g).pwr = s.pwr := rfl
@[simp] theorem State.modOut_gov (g : (List Out) → (List Out)) (s : State) : (s.modOut g).gov = s.gov := rfl
@[simp] theorem State.modOut_clk (g : (List Out) → (List Out)) (s : State) : (s.modOut g).clk = s.clk := rfl
@[simp] theorem State.modOut_own (g : (List Out) → (List Out)) (s : State) : (s.modOut g).own = s.own := rfl
@[simp] theorem State.modOut_ctl (g : (List Out) → (List Out)) (s : State) : (s.modOut g).ctl = s.ctl := rfl
@[simp] theorem State.modOut_units (g : (List Out) → (List Out)) (s : State) : (s.modOut g).units = s.units := rfl
@[simp] theorem State.modOut_mode (g : (List Out) → (List Out)) (s : State) : (s.modOut g).mode = s.mode := rfl
@[simp] theorem State.modOut_cam (g : (List Out) → (List Out)) (s : State) : (s.modOut g).cam = s.cam := rfl
@[simp] theorem State.modOut_isp (g : (List Out) → (List Out)) (s : State) : (s.modOut g).isp = s.isp := rfl
@[simp] theorem State.modOut_depth (g : (List Out) → (List Out)) (s : State) : (s.modOut g).depth = s.depth := rfl
@[simp] theorem State.modOut_scene (g : (List Out) → (List Out)) (s : State) : (s.modOut g).scene = s.scene := rfl
@[simp] theorem State.modOut_leases (g : (List Out) → (List Out)) (s : State) : (s.modOut g).leases = s.leases := rfl
@[simp] theorem State.modOut_ray (g : (List Out) → (List Out)) (s : State) : (s.modOut g).ray = s.ray := rfl
@[simp] theorem State.modOut_cellar (g : (List Out) → (List Out)) (s : State) : (s.modOut g).cellar = s.cellar := rfl
@[simp] theorem State.modOut_layers (g : (List Out) → (List Out)) (s : State) : (s.modOut g).layers = s.layers := rfl
@[simp] theorem State.modOut_hw (g : (List Out) → (List Out)) (s : State) : (s.modOut g).hw = s.hw := rfl
@[simp] theorem State.modOut_disp (g : (List Out) → (List Out)) (s : State) : (s.modOut g).disp = s.disp := rfl
@[simp] theorem State.modOut_scan (g : (List Out) → (List Out)) (s : State) : (s.modOut g).scan = s.scan := rfl
@[simp] theorem State.modOut_pnl (g : (List Out) → (List Out)) (s : State) : (s.modOut g).pnl = s.pnl := rfl
@[simp] theorem State.modOut_lanes (g : (List Out) → (List Out)) (s : State) : (s.modOut g).lanes = s.lanes := rfl
@[simp] theorem State.modOut_mem (g : (List Out) → (List Out)) (s : State) : (s.modOut g).mem = s.mem := rfl
@[simp] theorem State.modOut_churn (g : (List Out) → (List Out)) (s : State) : (s.modOut g).churn = s.churn := rfl
@[simp] theorem State.modOut_plc (g : (List Out) → (List Out)) (s : State) : (s.modOut g).plc = s.plc := rfl
@[simp] theorem State.modOut_aud (g : (List Out) → (List Out)) (s : State) : (s.modOut g).aud = s.aud := rfl
@[simp] theorem State.modOut_hk (g : (List Out) → (List Out)) (s : State) : (s.modOut g).hk = s.hk := rfl
@[simp] theorem State.modOut_nvm (g : (List Out) → (List Out)) (s : State) : (s.modOut g).nvm = s.nvm := rfl
@[simp] theorem State.modOut_tp (g : (List Out) → (List Out)) (s : State) : (s.modOut g).tp = s.tp := rfl
@[simp] theorem State.modOut_sec (g : (List Out) → (List Out)) (s : State) : (s.modOut g).sec = s.sec := rfl
@[simp] theorem State.modOut_tap (g : (List Out) → (List Out)) (s : State) : (s.modOut g).tap = s.tap := rfl
@[simp] theorem State.modOut_time (g : (List Out) → (List Out)) (s : State) : (s.modOut g).time = s.time := rfl
@[simp] theorem State.modOut_win (g : (List Out) → (List Out)) (s : State) : (s.modOut g).win = s.win := rfl
@[simp] theorem State.modOut_out (g : (List Out) → (List Out)) (s : State) : (s.modOut g).out = g s.out := rfl
@[simp] theorem State.modOut_free (g : (List Out) → (List Out)) (s : State) : (s.modOut g).free = s.free := rfl
@[simp] theorem State.modOut_pending (g : (List Out) → (List Out)) (s : State) : (s.modOut g).pending = s.pending := rfl
@[simp] theorem State.modFree_id (g : Nat → Nat) (s : State) : (s.modFree g).id = s.id := rfl
@[simp] theorem State.modFree_pins (g : Nat → Nat) (s : State) : (s.modFree g).pins = s.pins := rfl
@[simp] theorem State.modFree_pwr (g : Nat → Nat) (s : State) : (s.modFree g).pwr = s.pwr := rfl
@[simp] theorem State.modFree_gov (g : Nat → Nat) (s : State) : (s.modFree g).gov = s.gov := rfl
@[simp] theorem State.modFree_clk (g : Nat → Nat) (s : State) : (s.modFree g).clk = s.clk := rfl
@[simp] theorem State.modFree_own (g : Nat → Nat) (s : State) : (s.modFree g).own = s.own := rfl
@[simp] theorem State.modFree_ctl (g : Nat → Nat) (s : State) : (s.modFree g).ctl = s.ctl := rfl
@[simp] theorem State.modFree_units (g : Nat → Nat) (s : State) : (s.modFree g).units = s.units := rfl
@[simp] theorem State.modFree_mode (g : Nat → Nat) (s : State) : (s.modFree g).mode = s.mode := rfl
@[simp] theorem State.modFree_cam (g : Nat → Nat) (s : State) : (s.modFree g).cam = s.cam := rfl
@[simp] theorem State.modFree_isp (g : Nat → Nat) (s : State) : (s.modFree g).isp = s.isp := rfl
@[simp] theorem State.modFree_depth (g : Nat → Nat) (s : State) : (s.modFree g).depth = s.depth := rfl
@[simp] theorem State.modFree_scene (g : Nat → Nat) (s : State) : (s.modFree g).scene = s.scene := rfl
@[simp] theorem State.modFree_leases (g : Nat → Nat) (s : State) : (s.modFree g).leases = s.leases := rfl
@[simp] theorem State.modFree_ray (g : Nat → Nat) (s : State) : (s.modFree g).ray = s.ray := rfl
@[simp] theorem State.modFree_cellar (g : Nat → Nat) (s : State) : (s.modFree g).cellar = s.cellar := rfl
@[simp] theorem State.modFree_layers (g : Nat → Nat) (s : State) : (s.modFree g).layers = s.layers := rfl
@[simp] theorem State.modFree_hw (g : Nat → Nat) (s : State) : (s.modFree g).hw = s.hw := rfl
@[simp] theorem State.modFree_disp (g : Nat → Nat) (s : State) : (s.modFree g).disp = s.disp := rfl
@[simp] theorem State.modFree_scan (g : Nat → Nat) (s : State) : (s.modFree g).scan = s.scan := rfl
@[simp] theorem State.modFree_pnl (g : Nat → Nat) (s : State) : (s.modFree g).pnl = s.pnl := rfl
@[simp] theorem State.modFree_lanes (g : Nat → Nat) (s : State) : (s.modFree g).lanes = s.lanes := rfl
@[simp] theorem State.modFree_mem (g : Nat → Nat) (s : State) : (s.modFree g).mem = s.mem := rfl
@[simp] theorem State.modFree_churn (g : Nat → Nat) (s : State) : (s.modFree g).churn = s.churn := rfl
@[simp] theorem State.modFree_plc (g : Nat → Nat) (s : State) : (s.modFree g).plc = s.plc := rfl
@[simp] theorem State.modFree_aud (g : Nat → Nat) (s : State) : (s.modFree g).aud = s.aud := rfl
@[simp] theorem State.modFree_hk (g : Nat → Nat) (s : State) : (s.modFree g).hk = s.hk := rfl
@[simp] theorem State.modFree_nvm (g : Nat → Nat) (s : State) : (s.modFree g).nvm = s.nvm := rfl
@[simp] theorem State.modFree_tp (g : Nat → Nat) (s : State) : (s.modFree g).tp = s.tp := rfl
@[simp] theorem State.modFree_sec (g : Nat → Nat) (s : State) : (s.modFree g).sec = s.sec := rfl
@[simp] theorem State.modFree_tap (g : Nat → Nat) (s : State) : (s.modFree g).tap = s.tap := rfl
@[simp] theorem State.modFree_time (g : Nat → Nat) (s : State) : (s.modFree g).time = s.time := rfl
@[simp] theorem State.modFree_win (g : Nat → Nat) (s : State) : (s.modFree g).win = s.win := rfl
@[simp] theorem State.modFree_out (g : Nat → Nat) (s : State) : (s.modFree g).out = s.out := rfl
@[simp] theorem State.modFree_free (g : Nat → Nat) (s : State) : (s.modFree g).free = g s.free := rfl
@[simp] theorem State.modFree_pending (g : Nat → Nat) (s : State) : (s.modFree g).pending = s.pending := rfl
@[simp] theorem State.modPending_id (g : (List Instr) → (List Instr)) (s : State) : (s.modPending g).id = s.id := rfl
@[simp] theorem State.modPending_pins (g : (List Instr) → (List Instr)) (s : State) : (s.modPending g).pins = s.pins := rfl
@[simp] theorem State.modPending_pwr (g : (List Instr) → (List Instr)) (s : State) : (s.modPending g).pwr = s.pwr := rfl
@[simp] theorem State.modPending_gov (g : (List Instr) → (List Instr)) (s : State) : (s.modPending g).gov = s.gov := rfl
@[simp] theorem State.modPending_clk (g : (List Instr) → (List Instr)) (s : State) : (s.modPending g).clk = s.clk := rfl
@[simp] theorem State.modPending_own (g : (List Instr) → (List Instr)) (s : State) : (s.modPending g).own = s.own := rfl
@[simp] theorem State.modPending_ctl (g : (List Instr) → (List Instr)) (s : State) : (s.modPending g).ctl = s.ctl := rfl
@[simp] theorem State.modPending_units (g : (List Instr) → (List Instr)) (s : State) : (s.modPending g).units = s.units := rfl
@[simp] theorem State.modPending_mode (g : (List Instr) → (List Instr)) (s : State) : (s.modPending g).mode = s.mode := rfl
@[simp] theorem State.modPending_cam (g : (List Instr) → (List Instr)) (s : State) : (s.modPending g).cam = s.cam := rfl
@[simp] theorem State.modPending_isp (g : (List Instr) → (List Instr)) (s : State) : (s.modPending g).isp = s.isp := rfl
@[simp] theorem State.modPending_depth (g : (List Instr) → (List Instr)) (s : State) : (s.modPending g).depth = s.depth := rfl
@[simp] theorem State.modPending_scene (g : (List Instr) → (List Instr)) (s : State) : (s.modPending g).scene = s.scene := rfl
@[simp] theorem State.modPending_leases (g : (List Instr) → (List Instr)) (s : State) : (s.modPending g).leases = s.leases := rfl
@[simp] theorem State.modPending_ray (g : (List Instr) → (List Instr)) (s : State) : (s.modPending g).ray = s.ray := rfl
@[simp] theorem State.modPending_cellar (g : (List Instr) → (List Instr)) (s : State) : (s.modPending g).cellar = s.cellar := rfl
@[simp] theorem State.modPending_layers (g : (List Instr) → (List Instr)) (s : State) : (s.modPending g).layers = s.layers := rfl
@[simp] theorem State.modPending_hw (g : (List Instr) → (List Instr)) (s : State) : (s.modPending g).hw = s.hw := rfl
@[simp] theorem State.modPending_disp (g : (List Instr) → (List Instr)) (s : State) : (s.modPending g).disp = s.disp := rfl
@[simp] theorem State.modPending_scan (g : (List Instr) → (List Instr)) (s : State) : (s.modPending g).scan = s.scan := rfl
@[simp] theorem State.modPending_pnl (g : (List Instr) → (List Instr)) (s : State) : (s.modPending g).pnl = s.pnl := rfl
@[simp] theorem State.modPending_lanes (g : (List Instr) → (List Instr)) (s : State) : (s.modPending g).lanes = s.lanes := rfl
@[simp] theorem State.modPending_mem (g : (List Instr) → (List Instr)) (s : State) : (s.modPending g).mem = s.mem := rfl
@[simp] theorem State.modPending_churn (g : (List Instr) → (List Instr)) (s : State) : (s.modPending g).churn = s.churn := rfl
@[simp] theorem State.modPending_plc (g : (List Instr) → (List Instr)) (s : State) : (s.modPending g).plc = s.plc := rfl
@[simp] theorem State.modPending_aud (g : (List Instr) → (List Instr)) (s : State) : (s.modPending g).aud = s.aud := rfl
@[simp] theorem State.modPending_hk (g : (List Instr) → (List Instr)) (s : State) : (s.modPending g).hk = s.hk := rfl
@[simp] theorem State.modPending_nvm (g : (List Instr) → (List Instr)) (s : State) : (s.modPending g).nvm = s.nvm := rfl
@[simp] theorem State.modPending_tp (g : (List Instr) → (List Instr)) (s : State) : (s.modPending g).tp = s.tp := rfl
@[simp] theorem State.modPending_sec (g : (List Instr) → (List Instr)) (s : State) : (s.modPending g).sec = s.sec := rfl
@[simp] theorem State.modPending_tap (g : (List Instr) → (List Instr)) (s : State) : (s.modPending g).tap = s.tap := rfl
@[simp] theorem State.modPending_time (g : (List Instr) → (List Instr)) (s : State) : (s.modPending g).time = s.time := rfl
@[simp] theorem State.modPending_win (g : (List Instr) → (List Instr)) (s : State) : (s.modPending g).win = s.win := rfl
@[simp] theorem State.modPending_out (g : (List Instr) → (List Instr)) (s : State) : (s.modPending g).out = s.out := rfl
@[simp] theorem State.modPending_free (g : (List Instr) → (List Instr)) (s : State) : (s.modPending g).free = s.free := rfl
@[simp] theorem State.modPending_pending (g : (List Instr) → (List Instr)) (s : State) : (s.modPending g).pending = g s.pending := rfl

end Sys2Proof.Machine
end

