-- ==== Sys2Proof/Laws/Frames.lean ====
section
/-! SUPPORT. What the shared operations leave unchanged: one lemma per operation and untouched part of State. -/

namespace Sys2Proof.Machine

@[simp] theorem State.emit_id (o : Out) (s : State) : (s.emit o).id = s.id := rfl
@[simp] theorem State.emit_pins (o : Out) (s : State) : (s.emit o).pins = s.pins := rfl
@[simp] theorem State.emit_pwr (o : Out) (s : State) : (s.emit o).pwr = s.pwr := rfl
@[simp] theorem State.emit_gov (o : Out) (s : State) : (s.emit o).gov = s.gov := rfl
@[simp] theorem State.emit_clk (o : Out) (s : State) : (s.emit o).clk = s.clk := rfl
@[simp] theorem State.emit_own (o : Out) (s : State) : (s.emit o).own = s.own := rfl
@[simp] theorem State.emit_ctl (o : Out) (s : State) : (s.emit o).ctl = s.ctl := rfl
@[simp] theorem State.emit_units (o : Out) (s : State) : (s.emit o).units = s.units := rfl
@[simp] theorem State.emit_mode (o : Out) (s : State) : (s.emit o).mode = s.mode := rfl
@[simp] theorem State.emit_cam (o : Out) (s : State) : (s.emit o).cam = s.cam := rfl
@[simp] theorem State.emit_isp (o : Out) (s : State) : (s.emit o).isp = s.isp := rfl
@[simp] theorem State.emit_depth (o : Out) (s : State) : (s.emit o).depth = s.depth := rfl
@[simp] theorem State.emit_scene (o : Out) (s : State) : (s.emit o).scene = s.scene := rfl
@[simp] theorem State.emit_leases (o : Out) (s : State) : (s.emit o).leases = s.leases := rfl
@[simp] theorem State.emit_ray (o : Out) (s : State) : (s.emit o).ray = s.ray := rfl
@[simp] theorem State.emit_cellar (o : Out) (s : State) : (s.emit o).cellar = s.cellar := rfl
@[simp] theorem State.emit_layers (o : Out) (s : State) : (s.emit o).layers = s.layers := rfl
@[simp] theorem State.emit_hw (o : Out) (s : State) : (s.emit o).hw = s.hw := rfl
@[simp] theorem State.emit_disp (o : Out) (s : State) : (s.emit o).disp = s.disp := rfl
@[simp] theorem State.emit_scan (o : Out) (s : State) : (s.emit o).scan = s.scan := rfl
@[simp] theorem State.emit_pnl (o : Out) (s : State) : (s.emit o).pnl = s.pnl := rfl
@[simp] theorem State.emit_lanes (o : Out) (s : State) : (s.emit o).lanes = s.lanes := rfl
@[simp] theorem State.emit_mem (o : Out) (s : State) : (s.emit o).mem = s.mem := rfl
@[simp] theorem State.emit_churn (o : Out) (s : State) : (s.emit o).churn = s.churn := rfl
@[simp] theorem State.emit_plc (o : Out) (s : State) : (s.emit o).plc = s.plc := rfl
@[simp] theorem State.emit_aud (o : Out) (s : State) : (s.emit o).aud = s.aud := rfl
@[simp] theorem State.emit_hk (o : Out) (s : State) : (s.emit o).hk = s.hk := rfl
@[simp] theorem State.emit_nvm (o : Out) (s : State) : (s.emit o).nvm = s.nvm := rfl
@[simp] theorem State.emit_tp (o : Out) (s : State) : (s.emit o).tp = s.tp := rfl
@[simp] theorem State.emit_sec (o : Out) (s : State) : (s.emit o).sec = s.sec := rfl
@[simp] theorem State.emit_tap (o : Out) (s : State) : (s.emit o).tap = s.tap := rfl
@[simp] theorem State.emit_time (o : Out) (s : State) : (s.emit o).time = s.time := rfl
@[simp] theorem State.emit_win (o : Out) (s : State) : (s.emit o).win = s.win := rfl
@[simp] theorem State.emit_free (o : Out) (s : State) : (s.emit o).free = s.free := rfl
@[simp] theorem State.emit_pending (o : Out) (s : State) : (s.emit o).pending = s.pending := rfl
@[simp] theorem State.modFn_id (f : Nat) (g : PcieFn → PcieFn) (s : State) : (s.modFn f g).id = s.id := rfl
@[simp] theorem State.modFn_pins (f : Nat) (g : PcieFn → PcieFn) (s : State) : (s.modFn f g).pins = s.pins := rfl
@[simp] theorem State.modFn_pwr (f : Nat) (g : PcieFn → PcieFn) (s : State) : (s.modFn f g).pwr = s.pwr := rfl
@[simp] theorem State.modFn_gov (f : Nat) (g : PcieFn → PcieFn) (s : State) : (s.modFn f g).gov = s.gov := rfl
@[simp] theorem State.modFn_clk (f : Nat) (g : PcieFn → PcieFn) (s : State) : (s.modFn f g).clk = s.clk := rfl
@[simp] theorem State.modFn_own (f : Nat) (g : PcieFn → PcieFn) (s : State) : (s.modFn f g).own = s.own := rfl
@[simp] theorem State.modFn_units (f : Nat) (g : PcieFn → PcieFn) (s : State) : (s.modFn f g).units = s.units := rfl
@[simp] theorem State.modFn_mode (f : Nat) (g : PcieFn → PcieFn) (s : State) : (s.modFn f g).mode = s.mode := rfl
@[simp] theorem State.modFn_cam (f : Nat) (g : PcieFn → PcieFn) (s : State) : (s.modFn f g).cam = s.cam := rfl
@[simp] theorem State.modFn_isp (f : Nat) (g : PcieFn → PcieFn) (s : State) : (s.modFn f g).isp = s.isp := rfl
@[simp] theorem State.modFn_depth (f : Nat) (g : PcieFn → PcieFn) (s : State) : (s.modFn f g).depth = s.depth := rfl
@[simp] theorem State.modFn_scene (f : Nat) (g : PcieFn → PcieFn) (s : State) : (s.modFn f g).scene = s.scene := rfl
@[simp] theorem State.modFn_leases (f : Nat) (g : PcieFn → PcieFn) (s : State) : (s.modFn f g).leases = s.leases := rfl
@[simp] theorem State.modFn_ray (f : Nat) (g : PcieFn → PcieFn) (s : State) : (s.modFn f g).ray = s.ray := rfl
@[simp] theorem State.modFn_cellar (f : Nat) (g : PcieFn → PcieFn) (s : State) : (s.modFn f g).cellar = s.cellar := rfl
@[simp] theorem State.modFn_layers (f : Nat) (g : PcieFn → PcieFn) (s : State) : (s.modFn f g).layers = s.layers := rfl
@[simp] theorem State.modFn_hw (f : Nat) (g : PcieFn → PcieFn) (s : State) : (s.modFn f g).hw = s.hw := rfl
@[simp] theorem State.modFn_disp (f : Nat) (g : PcieFn → PcieFn) (s : State) : (s.modFn f g).disp = s.disp := rfl
@[simp] theorem State.modFn_scan (f : Nat) (g : PcieFn → PcieFn) (s : State) : (s.modFn f g).scan = s.scan := rfl
@[simp] theorem State.modFn_pnl (f : Nat) (g : PcieFn → PcieFn) (s : State) : (s.modFn f g).pnl = s.pnl := rfl
@[simp] theorem State.modFn_lanes (f : Nat) (g : PcieFn → PcieFn) (s : State) : (s.modFn f g).lanes = s.lanes := rfl
@[simp] theorem State.modFn_mem (f : Nat) (g : PcieFn → PcieFn) (s : State) : (s.modFn f g).mem = s.mem := rfl
@[simp] theorem State.modFn_churn (f : Nat) (g : PcieFn → PcieFn) (s : State) : (s.modFn f g).churn = s.churn := rfl
@[simp] theorem State.modFn_plc (f : Nat) (g : PcieFn → PcieFn) (s : State) : (s.modFn f g).plc = s.plc := rfl
@[simp] theorem State.modFn_aud (f : Nat) (g : PcieFn → PcieFn) (s : State) : (s.modFn f g).aud = s.aud := rfl
@[simp] theorem State.modFn_hk (f : Nat) (g : PcieFn → PcieFn) (s : State) : (s.modFn f g).hk = s.hk := rfl
@[simp] theorem State.modFn_nvm (f : Nat) (g : PcieFn → PcieFn) (s : State) : (s.modFn f g).nvm = s.nvm := rfl
@[simp] theorem State.modFn_tp (f : Nat) (g : PcieFn → PcieFn) (s : State) : (s.modFn f g).tp = s.tp := rfl
@[simp] theorem State.modFn_sec (f : Nat) (g : PcieFn → PcieFn) (s : State) : (s.modFn f g).sec = s.sec := rfl
@[simp] theorem State.modFn_tap (f : Nat) (g : PcieFn → PcieFn) (s : State) : (s.modFn f g).tap = s.tap := rfl
@[simp] theorem State.modFn_time (f : Nat) (g : PcieFn → PcieFn) (s : State) : (s.modFn f g).time = s.time := rfl
@[simp] theorem State.modFn_win (f : Nat) (g : PcieFn → PcieFn) (s : State) : (s.modFn f g).win = s.win := rfl
@[simp] theorem State.modFn_out (f : Nat) (g : PcieFn → PcieFn) (s : State) : (s.modFn f g).out = s.out := rfl
@[simp] theorem State.modFn_free (f : Nat) (g : PcieFn → PcieFn) (s : State) : (s.modFn f g).free = s.free := rfl
@[simp] theorem State.modFn_pending (f : Nat) (g : PcieFn → PcieFn) (s : State) : (s.modFn f g).pending = s.pending := rfl
@[simp] theorem State.modRing_id (m : Nat) (g : EvRing → EvRing) (s : State) : (s.modRing m g).id = s.id := rfl
@[simp] theorem State.modRing_pins (m : Nat) (g : EvRing → EvRing) (s : State) : (s.modRing m g).pins = s.pins := rfl
@[simp] theorem State.modRing_pwr (m : Nat) (g : EvRing → EvRing) (s : State) : (s.modRing m g).pwr = s.pwr := rfl
@[simp] theorem State.modRing_gov (m : Nat) (g : EvRing → EvRing) (s : State) : (s.modRing m g).gov = s.gov := rfl
@[simp] theorem State.modRing_clk (m : Nat) (g : EvRing → EvRing) (s : State) : (s.modRing m g).clk = s.clk := rfl
@[simp] theorem State.modRing_own (m : Nat) (g : EvRing → EvRing) (s : State) : (s.modRing m g).own = s.own := rfl
@[simp] theorem State.modRing_units (m : Nat) (g : EvRing → EvRing) (s : State) : (s.modRing m g).units = s.units := rfl
@[simp] theorem State.modRing_mode (m : Nat) (g : EvRing → EvRing) (s : State) : (s.modRing m g).mode = s.mode := rfl
@[simp] theorem State.modRing_cam (m : Nat) (g : EvRing → EvRing) (s : State) : (s.modRing m g).cam = s.cam := rfl
@[simp] theorem State.modRing_isp (m : Nat) (g : EvRing → EvRing) (s : State) : (s.modRing m g).isp = s.isp := rfl
@[simp] theorem State.modRing_depth (m : Nat) (g : EvRing → EvRing) (s : State) : (s.modRing m g).depth = s.depth := rfl
@[simp] theorem State.modRing_scene (m : Nat) (g : EvRing → EvRing) (s : State) : (s.modRing m g).scene = s.scene := rfl
@[simp] theorem State.modRing_leases (m : Nat) (g : EvRing → EvRing) (s : State) : (s.modRing m g).leases = s.leases := rfl
@[simp] theorem State.modRing_ray (m : Nat) (g : EvRing → EvRing) (s : State) : (s.modRing m g).ray = s.ray := rfl
@[simp] theorem State.modRing_cellar (m : Nat) (g : EvRing → EvRing) (s : State) : (s.modRing m g).cellar = s.cellar := rfl
@[simp] theorem State.modRing_layers (m : Nat) (g : EvRing → EvRing) (s : State) : (s.modRing m g).layers = s.layers := rfl
@[simp] theorem State.modRing_hw (m : Nat) (g : EvRing → EvRing) (s : State) : (s.modRing m g).hw = s.hw := rfl
@[simp] theorem State.modRing_disp (m : Nat) (g : EvRing → EvRing) (s : State) : (s.modRing m g).disp = s.disp := rfl
@[simp] theorem State.modRing_scan (m : Nat) (g : EvRing → EvRing) (s : State) : (s.modRing m g).scan = s.scan := rfl
@[simp] theorem State.modRing_pnl (m : Nat) (g : EvRing → EvRing) (s : State) : (s.modRing m g).pnl = s.pnl := rfl
@[simp] theorem State.modRing_lanes (m : Nat) (g : EvRing → EvRing) (s : State) : (s.modRing m g).lanes = s.lanes := rfl
@[simp] theorem State.modRing_mem (m : Nat) (g : EvRing → EvRing) (s : State) : (s.modRing m g).mem = s.mem := rfl
@[simp] theorem State.modRing_churn (m : Nat) (g : EvRing → EvRing) (s : State) : (s.modRing m g).churn = s.churn := rfl
@[simp] theorem State.modRing_plc (m : Nat) (g : EvRing → EvRing) (s : State) : (s.modRing m g).plc = s.plc := rfl
@[simp] theorem State.modRing_aud (m : Nat) (g : EvRing → EvRing) (s : State) : (s.modRing m g).aud = s.aud := rfl
@[simp] theorem State.modRing_hk (m : Nat) (g : EvRing → EvRing) (s : State) : (s.modRing m g).hk = s.hk := rfl
@[simp] theorem State.modRing_nvm (m : Nat) (g : EvRing → EvRing) (s : State) : (s.modRing m g).nvm = s.nvm := rfl
@[simp] theorem State.modRing_tp (m : Nat) (g : EvRing → EvRing) (s : State) : (s.modRing m g).tp = s.tp := rfl
@[simp] theorem State.modRing_sec (m : Nat) (g : EvRing → EvRing) (s : State) : (s.modRing m g).sec = s.sec := rfl
@[simp] theorem State.modRing_tap (m : Nat) (g : EvRing → EvRing) (s : State) : (s.modRing m g).tap = s.tap := rfl
@[simp] theorem State.modRing_time (m : Nat) (g : EvRing → EvRing) (s : State) : (s.modRing m g).time = s.time := rfl
@[simp] theorem State.modRing_win (m : Nat) (g : EvRing → EvRing) (s : State) : (s.modRing m g).win = s.win := rfl
@[simp] theorem State.modRing_out (m : Nat) (g : EvRing → EvRing) (s : State) : (s.modRing m g).out = s.out := rfl
@[simp] theorem State.modRing_free (m : Nat) (g : EvRing → EvRing) (s : State) : (s.modRing m g).free = s.free := rfl
@[simp] theorem State.modRing_pending (m : Nat) (g : EvRing → EvRing) (s : State) : (s.modRing m g).pending = s.pending := rfl
@[simp] theorem State.modBox_id (m : Nat) (g : Mailbox → Mailbox) (s : State) : (s.modBox m g).id = s.id := rfl
@[simp] theorem State.modBox_pins (m : Nat) (g : Mailbox → Mailbox) (s : State) : (s.modBox m g).pins = s.pins := rfl
@[simp] theorem State.modBox_pwr (m : Nat) (g : Mailbox → Mailbox) (s : State) : (s.modBox m g).pwr = s.pwr := rfl
@[simp] theorem State.modBox_gov (m : Nat) (g : Mailbox → Mailbox) (s : State) : (s.modBox m g).gov = s.gov := rfl
@[simp] theorem State.modBox_clk (m : Nat) (g : Mailbox → Mailbox) (s : State) : (s.modBox m g).clk = s.clk := rfl
@[simp] theorem State.modBox_own (m : Nat) (g : Mailbox → Mailbox) (s : State) : (s.modBox m g).own = s.own := rfl
@[simp] theorem State.modBox_units (m : Nat) (g : Mailbox → Mailbox) (s : State) : (s.modBox m g).units = s.units := rfl
@[simp] theorem State.modBox_mode (m : Nat) (g : Mailbox → Mailbox) (s : State) : (s.modBox m g).mode = s.mode := rfl
@[simp] theorem State.modBox_cam (m : Nat) (g : Mailbox → Mailbox) (s : State) : (s.modBox m g).cam = s.cam := rfl
@[simp] theorem State.modBox_isp (m : Nat) (g : Mailbox → Mailbox) (s : State) : (s.modBox m g).isp = s.isp := rfl
@[simp] theorem State.modBox_depth (m : Nat) (g : Mailbox → Mailbox) (s : State) : (s.modBox m g).depth = s.depth := rfl
@[simp] theorem State.modBox_scene (m : Nat) (g : Mailbox → Mailbox) (s : State) : (s.modBox m g).scene = s.scene := rfl
@[simp] theorem State.modBox_leases (m : Nat) (g : Mailbox → Mailbox) (s : State) : (s.modBox m g).leases = s.leases := rfl
@[simp] theorem State.modBox_ray (m : Nat) (g : Mailbox → Mailbox) (s : State) : (s.modBox m g).ray = s.ray := rfl
@[simp] theorem State.modBox_cellar (m : Nat) (g : Mailbox → Mailbox) (s : State) : (s.modBox m g).cellar = s.cellar := rfl
@[simp] theorem State.modBox_layers (m : Nat) (g : Mailbox → Mailbox) (s : State) : (s.modBox m g).layers = s.layers := rfl
@[simp] theorem State.modBox_hw (m : Nat) (g : Mailbox → Mailbox) (s : State) : (s.modBox m g).hw = s.hw := rfl
@[simp] theorem State.modBox_disp (m : Nat) (g : Mailbox → Mailbox) (s : State) : (s.modBox m g).disp = s.disp := rfl
@[simp] theorem State.modBox_scan (m : Nat) (g : Mailbox → Mailbox) (s : State) : (s.modBox m g).scan = s.scan := rfl
@[simp] theorem State.modBox_pnl (m : Nat) (g : Mailbox → Mailbox) (s : State) : (s.modBox m g).pnl = s.pnl := rfl
@[simp] theorem State.modBox_lanes (m : Nat) (g : Mailbox → Mailbox) (s : State) : (s.modBox m g).lanes = s.lanes := rfl
@[simp] theorem State.modBox_mem (m : Nat) (g : Mailbox → Mailbox) (s : State) : (s.modBox m g).mem = s.mem := rfl
@[simp] theorem State.modBox_churn (m : Nat) (g : Mailbox → Mailbox) (s : State) : (s.modBox m g).churn = s.churn := rfl
@[simp] theorem State.modBox_plc (m : Nat) (g : Mailbox → Mailbox) (s : State) : (s.modBox m g).plc = s.plc := rfl
@[simp] theorem State.modBox_aud (m : Nat) (g : Mailbox → Mailbox) (s : State) : (s.modBox m g).aud = s.aud := rfl
@[simp] theorem State.modBox_hk (m : Nat) (g : Mailbox → Mailbox) (s : State) : (s.modBox m g).hk = s.hk := rfl
@[simp] theorem State.modBox_nvm (m : Nat) (g : Mailbox → Mailbox) (s : State) : (s.modBox m g).nvm = s.nvm := rfl
@[simp] theorem State.modBox_tp (m : Nat) (g : Mailbox → Mailbox) (s : State) : (s.modBox m g).tp = s.tp := rfl
@[simp] theorem State.modBox_sec (m : Nat) (g : Mailbox → Mailbox) (s : State) : (s.modBox m g).sec = s.sec := rfl
@[simp] theorem State.modBox_tap (m : Nat) (g : Mailbox → Mailbox) (s : State) : (s.modBox m g).tap = s.tap := rfl
@[simp] theorem State.modBox_time (m : Nat) (g : Mailbox → Mailbox) (s : State) : (s.modBox m g).time = s.time := rfl
@[simp] theorem State.modBox_win (m : Nat) (g : Mailbox → Mailbox) (s : State) : (s.modBox m g).win = s.win := rfl
@[simp] theorem State.modBox_out (m : Nat) (g : Mailbox → Mailbox) (s : State) : (s.modBox m g).out = s.out := rfl
@[simp] theorem State.modBox_free (m : Nat) (g : Mailbox → Mailbox) (s : State) : (s.modBox m g).free = s.free := rfl
@[simp] theorem State.modBox_pending (m : Nat) (g : Mailbox → Mailbox) (s : State) : (s.modBox m g).pending = s.pending := rfl
@[simp] theorem State.dequeue_id (m : Nat) (s : State) : (s.dequeue m).id = s.id := rfl
@[simp] theorem State.dequeue_pins (m : Nat) (s : State) : (s.dequeue m).pins = s.pins := rfl
@[simp] theorem State.dequeue_pwr (m : Nat) (s : State) : (s.dequeue m).pwr = s.pwr := rfl
@[simp] theorem State.dequeue_gov (m : Nat) (s : State) : (s.dequeue m).gov = s.gov := rfl
@[simp] theorem State.dequeue_clk (m : Nat) (s : State) : (s.dequeue m).clk = s.clk := rfl
@[simp] theorem State.dequeue_own (m : Nat) (s : State) : (s.dequeue m).own = s.own := rfl
@[simp] theorem State.dequeue_units (m : Nat) (s : State) : (s.dequeue m).units = s.units := rfl
@[simp] theorem State.dequeue_mode (m : Nat) (s : State) : (s.dequeue m).mode = s.mode := rfl
@[simp] theorem State.dequeue_cam (m : Nat) (s : State) : (s.dequeue m).cam = s.cam := rfl
@[simp] theorem State.dequeue_isp (m : Nat) (s : State) : (s.dequeue m).isp = s.isp := rfl
@[simp] theorem State.dequeue_depth (m : Nat) (s : State) : (s.dequeue m).depth = s.depth := rfl
@[simp] theorem State.dequeue_scene (m : Nat) (s : State) : (s.dequeue m).scene = s.scene := rfl
@[simp] theorem State.dequeue_leases (m : Nat) (s : State) : (s.dequeue m).leases = s.leases := rfl
@[simp] theorem State.dequeue_ray (m : Nat) (s : State) : (s.dequeue m).ray = s.ray := rfl
@[simp] theorem State.dequeue_cellar (m : Nat) (s : State) : (s.dequeue m).cellar = s.cellar := rfl
@[simp] theorem State.dequeue_layers (m : Nat) (s : State) : (s.dequeue m).layers = s.layers := rfl
@[simp] theorem State.dequeue_hw (m : Nat) (s : State) : (s.dequeue m).hw = s.hw := rfl
@[simp] theorem State.dequeue_disp (m : Nat) (s : State) : (s.dequeue m).disp = s.disp := rfl
@[simp] theorem State.dequeue_scan (m : Nat) (s : State) : (s.dequeue m).scan = s.scan := rfl
@[simp] theorem State.dequeue_pnl (m : Nat) (s : State) : (s.dequeue m).pnl = s.pnl := rfl
@[simp] theorem State.dequeue_lanes (m : Nat) (s : State) : (s.dequeue m).lanes = s.lanes := rfl
@[simp] theorem State.dequeue_mem (m : Nat) (s : State) : (s.dequeue m).mem = s.mem := rfl
@[simp] theorem State.dequeue_churn (m : Nat) (s : State) : (s.dequeue m).churn = s.churn := rfl
@[simp] theorem State.dequeue_plc (m : Nat) (s : State) : (s.dequeue m).plc = s.plc := rfl
@[simp] theorem State.dequeue_aud (m : Nat) (s : State) : (s.dequeue m).aud = s.aud := rfl
@[simp] theorem State.dequeue_hk (m : Nat) (s : State) : (s.dequeue m).hk = s.hk := rfl
@[simp] theorem State.dequeue_nvm (m : Nat) (s : State) : (s.dequeue m).nvm = s.nvm := rfl
@[simp] theorem State.dequeue_tp (m : Nat) (s : State) : (s.dequeue m).tp = s.tp := rfl
@[simp] theorem State.dequeue_sec (m : Nat) (s : State) : (s.dequeue m).sec = s.sec := rfl
@[simp] theorem State.dequeue_tap (m : Nat) (s : State) : (s.dequeue m).tap = s.tap := rfl
@[simp] theorem State.dequeue_time (m : Nat) (s : State) : (s.dequeue m).time = s.time := rfl
@[simp] theorem State.dequeue_win (m : Nat) (s : State) : (s.dequeue m).win = s.win := rfl
@[simp] theorem State.dequeue_out (m : Nat) (s : State) : (s.dequeue m).out = s.out := rfl
@[simp] theorem State.dequeue_free (m : Nat) (s : State) : (s.dequeue m).free = s.free := rfl
@[simp] theorem State.dequeue_pending (m : Nat) (s : State) : (s.dequeue m).pending = s.pending := rfl
@[simp] theorem State.takeBulk_id (m b l : Nat) (s : State) : (s.takeBulk m b l).id = s.id := rfl
@[simp] theorem State.takeBulk_pins (m b l : Nat) (s : State) : (s.takeBulk m b l).pins = s.pins := rfl
@[simp] theorem State.takeBulk_pwr (m b l : Nat) (s : State) : (s.takeBulk m b l).pwr = s.pwr := rfl
@[simp] theorem State.takeBulk_gov (m b l : Nat) (s : State) : (s.takeBulk m b l).gov = s.gov := rfl
@[simp] theorem State.takeBulk_clk (m b l : Nat) (s : State) : (s.takeBulk m b l).clk = s.clk := rfl
@[simp] theorem State.takeBulk_own (m b l : Nat) (s : State) : (s.takeBulk m b l).own = s.own := rfl
@[simp] theorem State.takeBulk_units (m b l : Nat) (s : State) : (s.takeBulk m b l).units = s.units := rfl
@[simp] theorem State.takeBulk_mode (m b l : Nat) (s : State) : (s.takeBulk m b l).mode = s.mode := rfl
@[simp] theorem State.takeBulk_cam (m b l : Nat) (s : State) : (s.takeBulk m b l).cam = s.cam := rfl
@[simp] theorem State.takeBulk_isp (m b l : Nat) (s : State) : (s.takeBulk m b l).isp = s.isp := rfl
@[simp] theorem State.takeBulk_depth (m b l : Nat) (s : State) : (s.takeBulk m b l).depth = s.depth := rfl
@[simp] theorem State.takeBulk_scene (m b l : Nat) (s : State) : (s.takeBulk m b l).scene = s.scene := rfl
@[simp] theorem State.takeBulk_leases (m b l : Nat) (s : State) : (s.takeBulk m b l).leases = s.leases := rfl
@[simp] theorem State.takeBulk_ray (m b l : Nat) (s : State) : (s.takeBulk m b l).ray = s.ray := rfl
@[simp] theorem State.takeBulk_cellar (m b l : Nat) (s : State) : (s.takeBulk m b l).cellar = s.cellar := rfl
@[simp] theorem State.takeBulk_layers (m b l : Nat) (s : State) : (s.takeBulk m b l).layers = s.layers := rfl
@[simp] theorem State.takeBulk_hw (m b l : Nat) (s : State) : (s.takeBulk m b l).hw = s.hw := rfl
@[simp] theorem State.takeBulk_disp (m b l : Nat) (s : State) : (s.takeBulk m b l).disp = s.disp := rfl
@[simp] theorem State.takeBulk_scan (m b l : Nat) (s : State) : (s.takeBulk m b l).scan = s.scan := rfl
@[simp] theorem State.takeBulk_pnl (m b l : Nat) (s : State) : (s.takeBulk m b l).pnl = s.pnl := rfl
@[simp] theorem State.takeBulk_lanes (m b l : Nat) (s : State) : (s.takeBulk m b l).lanes = s.lanes := rfl
@[simp] theorem State.takeBulk_mem (m b l : Nat) (s : State) : (s.takeBulk m b l).mem = s.mem := rfl
@[simp] theorem State.takeBulk_churn (m b l : Nat) (s : State) : (s.takeBulk m b l).churn = s.churn := rfl
@[simp] theorem State.takeBulk_plc (m b l : Nat) (s : State) : (s.takeBulk m b l).plc = s.plc := rfl
@[simp] theorem State.takeBulk_aud (m b l : Nat) (s : State) : (s.takeBulk m b l).aud = s.aud := rfl
@[simp] theorem State.takeBulk_hk (m b l : Nat) (s : State) : (s.takeBulk m b l).hk = s.hk := rfl
@[simp] theorem State.takeBulk_nvm (m b l : Nat) (s : State) : (s.takeBulk m b l).nvm = s.nvm := rfl
@[simp] theorem State.takeBulk_tp (m b l : Nat) (s : State) : (s.takeBulk m b l).tp = s.tp := rfl
@[simp] theorem State.takeBulk_sec (m b l : Nat) (s : State) : (s.takeBulk m b l).sec = s.sec := rfl
@[simp] theorem State.takeBulk_tap (m b l : Nat) (s : State) : (s.takeBulk m b l).tap = s.tap := rfl
@[simp] theorem State.takeBulk_time (m b l : Nat) (s : State) : (s.takeBulk m b l).time = s.time := rfl
@[simp] theorem State.takeBulk_win (m b l : Nat) (s : State) : (s.takeBulk m b l).win = s.win := rfl
@[simp] theorem State.takeBulk_out (m b l : Nat) (s : State) : (s.takeBulk m b l).out = s.out := rfl
@[simp] theorem State.takeBulk_free (m b l : Nat) (s : State) : (s.takeBulk m b l).free = s.free := rfl
@[simp] theorem State.takeBulk_pending (m b l : Nat) (s : State) : (s.takeBulk m b l).pending = s.pending := rfl
@[simp] theorem State.releaseBulk_id (m i : Nat) (s : State) : (s.releaseBulk m i).id = s.id := rfl
@[simp] theorem State.releaseBulk_pins (m i : Nat) (s : State) : (s.releaseBulk m i).pins = s.pins := rfl
@[simp] theorem State.releaseBulk_pwr (m i : Nat) (s : State) : (s.releaseBulk m i).pwr = s.pwr := rfl
@[simp] theorem State.releaseBulk_gov (m i : Nat) (s : State) : (s.releaseBulk m i).gov = s.gov := rfl
@[simp] theorem State.releaseBulk_clk (m i : Nat) (s : State) : (s.releaseBulk m i).clk = s.clk := rfl
@[simp] theorem State.releaseBulk_own (m i : Nat) (s : State) : (s.releaseBulk m i).own = s.own := rfl
@[simp] theorem State.releaseBulk_units (m i : Nat) (s : State) : (s.releaseBulk m i).units = s.units := rfl
@[simp] theorem State.releaseBulk_mode (m i : Nat) (s : State) : (s.releaseBulk m i).mode = s.mode := rfl
@[simp] theorem State.releaseBulk_cam (m i : Nat) (s : State) : (s.releaseBulk m i).cam = s.cam := rfl
@[simp] theorem State.releaseBulk_isp (m i : Nat) (s : State) : (s.releaseBulk m i).isp = s.isp := rfl
@[simp] theorem State.releaseBulk_depth (m i : Nat) (s : State) : (s.releaseBulk m i).depth = s.depth := rfl
@[simp] theorem State.releaseBulk_scene (m i : Nat) (s : State) : (s.releaseBulk m i).scene = s.scene := rfl
@[simp] theorem State.releaseBulk_leases (m i : Nat) (s : State) : (s.releaseBulk m i).leases = s.leases := rfl
@[simp] theorem State.releaseBulk_ray (m i : Nat) (s : State) : (s.releaseBulk m i).ray = s.ray := rfl
@[simp] theorem State.releaseBulk_cellar (m i : Nat) (s : State) : (s.releaseBulk m i).cellar = s.cellar := rfl
@[simp] theorem State.releaseBulk_layers (m i : Nat) (s : State) : (s.releaseBulk m i).layers = s.layers := rfl
@[simp] theorem State.releaseBulk_hw (m i : Nat) (s : State) : (s.releaseBulk m i).hw = s.hw := rfl
@[simp] theorem State.releaseBulk_disp (m i : Nat) (s : State) : (s.releaseBulk m i).disp = s.disp := rfl
@[simp] theorem State.releaseBulk_scan (m i : Nat) (s : State) : (s.releaseBulk m i).scan = s.scan := rfl
@[simp] theorem State.releaseBulk_pnl (m i : Nat) (s : State) : (s.releaseBulk m i).pnl = s.pnl := rfl
@[simp] theorem State.releaseBulk_lanes (m i : Nat) (s : State) : (s.releaseBulk m i).lanes = s.lanes := rfl
@[simp] theorem State.releaseBulk_mem (m i : Nat) (s : State) : (s.releaseBulk m i).mem = s.mem := rfl
@[simp] theorem State.releaseBulk_churn (m i : Nat) (s : State) : (s.releaseBulk m i).churn = s.churn := rfl
@[simp] theorem State.releaseBulk_plc (m i : Nat) (s : State) : (s.releaseBulk m i).plc = s.plc := rfl
@[simp] theorem State.releaseBulk_aud (m i : Nat) (s : State) : (s.releaseBulk m i).aud = s.aud := rfl
@[simp] theorem State.releaseBulk_hk (m i : Nat) (s : State) : (s.releaseBulk m i).hk = s.hk := rfl
@[simp] theorem State.releaseBulk_nvm (m i : Nat) (s : State) : (s.releaseBulk m i).nvm = s.nvm := rfl
@[simp] theorem State.releaseBulk_tp (m i : Nat) (s : State) : (s.releaseBulk m i).tp = s.tp := rfl
@[simp] theorem State.releaseBulk_sec (m i : Nat) (s : State) : (s.releaseBulk m i).sec = s.sec := rfl
@[simp] theorem State.releaseBulk_tap (m i : Nat) (s : State) : (s.releaseBulk m i).tap = s.tap := rfl
@[simp] theorem State.releaseBulk_time (m i : Nat) (s : State) : (s.releaseBulk m i).time = s.time := rfl
@[simp] theorem State.releaseBulk_win (m i : Nat) (s : State) : (s.releaseBulk m i).win = s.win := rfl
@[simp] theorem State.releaseBulk_out (m i : Nat) (s : State) : (s.releaseBulk m i).out = s.out := rfl
@[simp] theorem State.releaseBulk_free (m i : Nat) (s : State) : (s.releaseBulk m i).free = s.free := rfl
@[simp] theorem State.releaseBulk_pending (m i : Nat) (s : State) : (s.releaseBulk m i).pending = s.pending := rfl
@[simp] theorem State.toLog_id (e : EvEntry) (s : State) : (s.toLog e).id = s.id := by
  unfold State.toLog; split <;> rfl
@[simp] theorem State.toLog_pins (e : EvEntry) (s : State) : (s.toLog e).pins = s.pins := by
  unfold State.toLog; split <;> rfl
@[simp] theorem State.toLog_pwr (e : EvEntry) (s : State) : (s.toLog e).pwr = s.pwr := by
  unfold State.toLog; split <;> rfl
@[simp] theorem State.toLog_gov (e : EvEntry) (s : State) : (s.toLog e).gov = s.gov := by
  unfold State.toLog; split <;> rfl
@[simp] theorem State.toLog_clk (e : EvEntry) (s : State) : (s.toLog e).clk = s.clk := by
  unfold State.toLog; split <;> rfl
@[simp] theorem State.toLog_own (e : EvEntry) (s : State) : (s.toLog e).own = s.own := by
  unfold State.toLog; split <;> rfl
@[simp] theorem State.toLog_ctl (e : EvEntry) (s : State) : (s.toLog e).ctl = s.ctl := by
  unfold State.toLog; split <;> rfl
@[simp] theorem State.toLog_units (e : EvEntry) (s : State) : (s.toLog e).units = s.units := by
  unfold State.toLog; split <;> rfl
@[simp] theorem State.toLog_mode (e : EvEntry) (s : State) : (s.toLog e).mode = s.mode := by
  unfold State.toLog; split <;> rfl
@[simp] theorem State.toLog_cam (e : EvEntry) (s : State) : (s.toLog e).cam = s.cam := by
  unfold State.toLog; split <;> rfl
@[simp] theorem State.toLog_isp (e : EvEntry) (s : State) : (s.toLog e).isp = s.isp := by
  unfold State.toLog; split <;> rfl
@[simp] theorem State.toLog_depth (e : EvEntry) (s : State) : (s.toLog e).depth = s.depth := by
  unfold State.toLog; split <;> rfl
@[simp] theorem State.toLog_scene (e : EvEntry) (s : State) : (s.toLog e).scene = s.scene := by
  unfold State.toLog; split <;> rfl
@[simp] theorem State.toLog_leases (e : EvEntry) (s : State) : (s.toLog e).leases = s.leases := by
  unfold State.toLog; split <;> rfl
@[simp] theorem State.toLog_ray (e : EvEntry) (s : State) : (s.toLog e).ray = s.ray := by
  unfold State.toLog; split <;> rfl
@[simp] theorem State.toLog_cellar (e : EvEntry) (s : State) : (s.toLog e).cellar = s.cellar := by
  unfold State.toLog; split <;> rfl
@[simp] theorem State.toLog_layers (e : EvEntry) (s : State) : (s.toLog e).layers = s.layers := by
  unfold State.toLog; split <;> rfl
@[simp] theorem State.toLog_hw (e : EvEntry) (s : State) : (s.toLog e).hw = s.hw := by
  unfold State.toLog; split <;> rfl
@[simp] theorem State.toLog_disp (e : EvEntry) (s : State) : (s.toLog e).disp = s.disp := by
  unfold State.toLog; split <;> rfl
@[simp] theorem State.toLog_scan (e : EvEntry) (s : State) : (s.toLog e).scan = s.scan := by
  unfold State.toLog; split <;> rfl
@[simp] theorem State.toLog_pnl (e : EvEntry) (s : State) : (s.toLog e).pnl = s.pnl := by
  unfold State.toLog; split <;> rfl
@[simp] theorem State.toLog_lanes (e : EvEntry) (s : State) : (s.toLog e).lanes = s.lanes := by
  unfold State.toLog; split <;> rfl
@[simp] theorem State.toLog_mem (e : EvEntry) (s : State) : (s.toLog e).mem = s.mem := by
  unfold State.toLog; split <;> rfl
@[simp] theorem State.toLog_churn (e : EvEntry) (s : State) : (s.toLog e).churn = s.churn := by
  unfold State.toLog; split <;> rfl
@[simp] theorem State.toLog_plc (e : EvEntry) (s : State) : (s.toLog e).plc = s.plc := by
  unfold State.toLog; split <;> rfl
@[simp] theorem State.toLog_aud (e : EvEntry) (s : State) : (s.toLog e).aud = s.aud := by
  unfold State.toLog; split <;> rfl
@[simp] theorem State.toLog_hk (e : EvEntry) (s : State) : (s.toLog e).hk = s.hk := by
  unfold State.toLog; split <;> rfl
@[simp] theorem State.toLog_tp (e : EvEntry) (s : State) : (s.toLog e).tp = s.tp := by
  unfold State.toLog; split <;> rfl
@[simp] theorem State.toLog_sec (e : EvEntry) (s : State) : (s.toLog e).sec = s.sec := by
  unfold State.toLog; split <;> rfl
@[simp] theorem State.toLog_tap (e : EvEntry) (s : State) : (s.toLog e).tap = s.tap := by
  unfold State.toLog; split <;> rfl
@[simp] theorem State.toLog_time (e : EvEntry) (s : State) : (s.toLog e).time = s.time := by
  unfold State.toLog; split <;> rfl
@[simp] theorem State.toLog_win (e : EvEntry) (s : State) : (s.toLog e).win = s.win := by
  unfold State.toLog; split <;> rfl
@[simp] theorem State.toLog_out (e : EvEntry) (s : State) : (s.toLog e).out = s.out := by
  unfold State.toLog; split <;> rfl
@[simp] theorem State.toLog_free (e : EvEntry) (s : State) : (s.toLog e).free = s.free := by
  unfold State.toLog; split <;> rfl
@[simp] theorem State.toLog_pending (e : EvEntry) (s : State) : (s.toLog e).pending = s.pending := by
  unfold State.toLog; split <;> rfl
@[simp] theorem State.vector_id (f v : Nat) (s : State) : (s.vector f v).id = s.id := by
  unfold State.vector; split
  · rfl
  · split <;> rfl
@[simp] theorem State.vector_pins (f v : Nat) (s : State) : (s.vector f v).pins = s.pins := by
  unfold State.vector; split
  · rfl
  · split <;> rfl
@[simp] theorem State.vector_pwr (f v : Nat) (s : State) : (s.vector f v).pwr = s.pwr := by
  unfold State.vector; split
  · rfl
  · split <;> rfl
@[simp] theorem State.vector_gov (f v : Nat) (s : State) : (s.vector f v).gov = s.gov := by
  unfold State.vector; split
  · rfl
  · split <;> rfl
@[simp] theorem State.vector_clk (f v : Nat) (s : State) : (s.vector f v).clk = s.clk := by
  unfold State.vector; split
  · rfl
  · split <;> rfl
@[simp] theorem State.vector_own (f v : Nat) (s : State) : (s.vector f v).own = s.own := by
  unfold State.vector; split
  · rfl
  · split <;> rfl
@[simp] theorem State.vector_units (f v : Nat) (s : State) : (s.vector f v).units = s.units := by
  unfold State.vector; split
  · rfl
  · split <;> rfl
@[simp] theorem State.vector_mode (f v : Nat) (s : State) : (s.vector f v).mode = s.mode := by
  unfold State.vector; split
  · rfl
  · split <;> rfl
@[simp] theorem State.vector_cam (f v : Nat) (s : State) : (s.vector f v).cam = s.cam := by
  unfold State.vector; split
  · rfl
  · split <;> rfl
@[simp] theorem State.vector_isp (f v : Nat) (s : State) : (s.vector f v).isp = s.isp := by
  unfold State.vector; split
  · rfl
  · split <;> rfl
@[simp] theorem State.vector_depth (f v : Nat) (s : State) : (s.vector f v).depth = s.depth := by
  unfold State.vector; split
  · rfl
  · split <;> rfl
@[simp] theorem State.vector_scene (f v : Nat) (s : State) : (s.vector f v).scene = s.scene := by
  unfold State.vector; split
  · rfl
  · split <;> rfl
@[simp] theorem State.vector_leases (f v : Nat) (s : State) : (s.vector f v).leases = s.leases := by
  unfold State.vector; split
  · rfl
  · split <;> rfl
@[simp] theorem State.vector_ray (f v : Nat) (s : State) : (s.vector f v).ray = s.ray := by
  unfold State.vector; split
  · rfl
  · split <;> rfl
@[simp] theorem State.vector_cellar (f v : Nat) (s : State) : (s.vector f v).cellar = s.cellar := by
  unfold State.vector; split
  · rfl
  · split <;> rfl
@[simp] theorem State.vector_layers (f v : Nat) (s : State) : (s.vector f v).layers = s.layers := by
  unfold State.vector; split
  · rfl
  · split <;> rfl
@[simp] theorem State.vector_hw (f v : Nat) (s : State) : (s.vector f v).hw = s.hw := by
  unfold State.vector; split
  · rfl
  · split <;> rfl
@[simp] theorem State.vector_disp (f v : Nat) (s : State) : (s.vector f v).disp = s.disp := by
  unfold State.vector; split
  · rfl
  · split <;> rfl
@[simp] theorem State.vector_scan (f v : Nat) (s : State) : (s.vector f v).scan = s.scan := by
  unfold State.vector; split
  · rfl
  · split <;> rfl
@[simp] theorem State.vector_pnl (f v : Nat) (s : State) : (s.vector f v).pnl = s.pnl := by
  unfold State.vector; split
  · rfl
  · split <;> rfl
@[simp] theorem State.vector_lanes (f v : Nat) (s : State) : (s.vector f v).lanes = s.lanes := by
  unfold State.vector; split
  · rfl
  · split <;> rfl
@[simp] theorem State.vector_mem (f v : Nat) (s : State) : (s.vector f v).mem = s.mem := by
  unfold State.vector; split
  · rfl
  · split <;> rfl
@[simp] theorem State.vector_churn (f v : Nat) (s : State) : (s.vector f v).churn = s.churn := by
  unfold State.vector; split
  · rfl
  · split <;> rfl
@[simp] theorem State.vector_plc (f v : Nat) (s : State) : (s.vector f v).plc = s.plc := by
  unfold State.vector; split
  · rfl
  · split <;> rfl
@[simp] theorem State.vector_aud (f v : Nat) (s : State) : (s.vector f v).aud = s.aud := by
  unfold State.vector; split
  · rfl
  · split <;> rfl
@[simp] theorem State.vector_hk (f v : Nat) (s : State) : (s.vector f v).hk = s.hk := by
  unfold State.vector; split
  · rfl
  · split <;> rfl
@[simp] theorem State.vector_nvm (f v : Nat) (s : State) : (s.vector f v).nvm = s.nvm := by
  unfold State.vector; split
  · rfl
  · split <;> rfl
@[simp] theorem State.vector_tp (f v : Nat) (s : State) : (s.vector f v).tp = s.tp := by
  unfold State.vector; split
  · rfl
  · split <;> rfl
@[simp] theorem State.vector_sec (f v : Nat) (s : State) : (s.vector f v).sec = s.sec := by
  unfold State.vector; split
  · rfl
  · split <;> rfl
@[simp] theorem State.vector_tap (f v : Nat) (s : State) : (s.vector f v).tap = s.tap := by
  unfold State.vector; split
  · rfl
  · split <;> rfl
@[simp] theorem State.vector_time (f v : Nat) (s : State) : (s.vector f v).time = s.time := by
  unfold State.vector; split
  · rfl
  · split <;> rfl
@[simp] theorem State.vector_win (f v : Nat) (s : State) : (s.vector f v).win = s.win := by
  unfold State.vector; split
  · rfl
  · split <;> rfl
@[simp] theorem State.vector_free (f v : Nat) (s : State) : (s.vector f v).free = s.free := by
  unfold State.vector; split
  · rfl
  · split <;> rfl
@[simp] theorem State.vector_pending (f v : Nat) (s : State) : (s.vector f v).pending = s.pending := by
  unfold State.vector; split
  · rfl
  · split <;> rfl
@[simp] theorem State.ownerVector_id (v : Nat) (s : State) : (s.ownerVector v).id = s.id := by
  unfold State.ownerVector; split <;> simp
@[simp] theorem State.ownerVector_pins (v : Nat) (s : State) : (s.ownerVector v).pins = s.pins := by
  unfold State.ownerVector; split <;> simp
@[simp] theorem State.ownerVector_pwr (v : Nat) (s : State) : (s.ownerVector v).pwr = s.pwr := by
  unfold State.ownerVector; split <;> simp
@[simp] theorem State.ownerVector_gov (v : Nat) (s : State) : (s.ownerVector v).gov = s.gov := by
  unfold State.ownerVector; split <;> simp
@[simp] theorem State.ownerVector_clk (v : Nat) (s : State) : (s.ownerVector v).clk = s.clk := by
  unfold State.ownerVector; split <;> simp
@[simp] theorem State.ownerVector_own (v : Nat) (s : State) : (s.ownerVector v).own = s.own := by
  unfold State.ownerVector; split <;> simp
@[simp] theorem State.ownerVector_units (v : Nat) (s : State) : (s.ownerVector v).units = s.units := by
  unfold State.ownerVector; split <;> simp
@[simp] theorem State.ownerVector_mode (v : Nat) (s : State) : (s.ownerVector v).mode = s.mode := by
  unfold State.ownerVector; split <;> simp
@[simp] theorem State.ownerVector_cam (v : Nat) (s : State) : (s.ownerVector v).cam = s.cam := by
  unfold State.ownerVector; split <;> simp
@[simp] theorem State.ownerVector_isp (v : Nat) (s : State) : (s.ownerVector v).isp = s.isp := by
  unfold State.ownerVector; split <;> simp
@[simp] theorem State.ownerVector_depth (v : Nat) (s : State) : (s.ownerVector v).depth = s.depth := by
  unfold State.ownerVector; split <;> simp
@[simp] theorem State.ownerVector_scene (v : Nat) (s : State) : (s.ownerVector v).scene = s.scene := by
  unfold State.ownerVector; split <;> simp
@[simp] theorem State.ownerVector_leases (v : Nat) (s : State) : (s.ownerVector v).leases = s.leases := by
  unfold State.ownerVector; split <;> simp
@[simp] theorem State.ownerVector_ray (v : Nat) (s : State) : (s.ownerVector v).ray = s.ray := by
  unfold State.ownerVector; split <;> simp
@[simp] theorem State.ownerVector_cellar (v : Nat) (s : State) : (s.ownerVector v).cellar = s.cellar := by
  unfold State.ownerVector; split <;> simp
@[simp] theorem State.ownerVector_layers (v : Nat) (s : State) : (s.ownerVector v).layers = s.layers := by
  unfold State.ownerVector; split <;> simp
@[simp] theorem State.ownerVector_hw (v : Nat) (s : State) : (s.ownerVector v).hw = s.hw := by
  unfold State.ownerVector; split <;> simp
@[simp] theorem State.ownerVector_disp (v : Nat) (s : State) : (s.ownerVector v).disp = s.disp := by
  unfold State.ownerVector; split <;> simp
@[simp] theorem State.ownerVector_scan (v : Nat) (s : State) : (s.ownerVector v).scan = s.scan := by
  unfold State.ownerVector; split <;> simp
@[simp] theorem State.ownerVector_pnl (v : Nat) (s : State) : (s.ownerVector v).pnl = s.pnl := by
  unfold State.ownerVector; split <;> simp
@[simp] theorem State.ownerVector_lanes (v : Nat) (s : State) : (s.ownerVector v).lanes = s.lanes := by
  unfold State.ownerVector; split <;> simp
@[simp] theorem State.ownerVector_mem (v : Nat) (s : State) : (s.ownerVector v).mem = s.mem := by
  unfold State.ownerVector; split <;> simp
@[simp] theorem State.ownerVector_churn (v : Nat) (s : State) : (s.ownerVector v).churn = s.churn := by
  unfold State.ownerVector; split <;> simp
@[simp] theorem State.ownerVector_plc (v : Nat) (s : State) : (s.ownerVector v).plc = s.plc := by
  unfold State.ownerVector; split <;> simp
@[simp] theorem State.ownerVector_aud (v : Nat) (s : State) : (s.ownerVector v).aud = s.aud := by
  unfold State.ownerVector; split <;> simp
@[simp] theorem State.ownerVector_hk (v : Nat) (s : State) : (s.ownerVector v).hk = s.hk := by
  unfold State.ownerVector; split <;> simp
@[simp] theorem State.ownerVector_nvm (v : Nat) (s : State) : (s.ownerVector v).nvm = s.nvm := by
  unfold State.ownerVector; split <;> simp
@[simp] theorem State.ownerVector_tp (v : Nat) (s : State) : (s.ownerVector v).tp = s.tp := by
  unfold State.ownerVector; split <;> simp
@[simp] theorem State.ownerVector_sec (v : Nat) (s : State) : (s.ownerVector v).sec = s.sec := by
  unfold State.ownerVector; split <;> simp
@[simp] theorem State.ownerVector_tap (v : Nat) (s : State) : (s.ownerVector v).tap = s.tap := by
  unfold State.ownerVector; split <;> simp
@[simp] theorem State.ownerVector_time (v : Nat) (s : State) : (s.ownerVector v).time = s.time := by
  unfold State.ownerVector; split <;> simp
@[simp] theorem State.ownerVector_win (v : Nat) (s : State) : (s.ownerVector v).win = s.win := by
  unfold State.ownerVector; split <;> simp
@[simp] theorem State.ownerVector_free (v : Nat) (s : State) : (s.ownerVector v).free = s.free := by
  unfold State.ownerVector; split <;> simp
@[simp] theorem State.ownerVector_pending (v : Nat) (s : State) : (s.ownerVector v).pending = s.pending := by
  unfold State.ownerVector; split <;> simp
@[simp] theorem State.allVector_id (v : Nat) (s : State) : (s.allVector v).id = s.id := by
  unfold State.allVector; simp
@[simp] theorem State.allVector_pins (v : Nat) (s : State) : (s.allVector v).pins = s.pins := by
  unfold State.allVector; simp
@[simp] theorem State.allVector_pwr (v : Nat) (s : State) : (s.allVector v).pwr = s.pwr := by
  unfold State.allVector; simp
@[simp] theorem State.allVector_gov (v : Nat) (s : State) : (s.allVector v).gov = s.gov := by
  unfold State.allVector; simp
@[simp] theorem State.allVector_clk (v : Nat) (s : State) : (s.allVector v).clk = s.clk := by
  unfold State.allVector; simp
@[simp] theorem State.allVector_own (v : Nat) (s : State) : (s.allVector v).own = s.own := by
  unfold State.allVector; simp
@[simp] theorem State.allVector_units (v : Nat) (s : State) : (s.allVector v).units = s.units := by
  unfold State.allVector; simp
@[simp] theorem State.allVector_mode (v : Nat) (s : State) : (s.allVector v).mode = s.mode := by
  unfold State.allVector; simp
@[simp] theorem State.allVector_cam (v : Nat) (s : State) : (s.allVector v).cam = s.cam := by
  unfold State.allVector; simp
@[simp] theorem State.allVector_isp (v : Nat) (s : State) : (s.allVector v).isp = s.isp := by
  unfold State.allVector; simp
@[simp] theorem State.allVector_depth (v : Nat) (s : State) : (s.allVector v).depth = s.depth := by
  unfold State.allVector; simp
@[simp] theorem State.allVector_scene (v : Nat) (s : State) : (s.allVector v).scene = s.scene := by
  unfold State.allVector; simp
@[simp] theorem State.allVector_leases (v : Nat) (s : State) : (s.allVector v).leases = s.leases := by
  unfold State.allVector; simp
@[simp] theorem State.allVector_ray (v : Nat) (s : State) : (s.allVector v).ray = s.ray := by
  unfold State.allVector; simp
@[simp] theorem State.allVector_cellar (v : Nat) (s : State) : (s.allVector v).cellar = s.cellar := by
  unfold State.allVector; simp
@[simp] theorem State.allVector_layers (v : Nat) (s : State) : (s.allVector v).layers = s.layers := by
  unfold State.allVector; simp
@[simp] theorem State.allVector_hw (v : Nat) (s : State) : (s.allVector v).hw = s.hw := by
  unfold State.allVector; simp
@[simp] theorem State.allVector_disp (v : Nat) (s : State) : (s.allVector v).disp = s.disp := by
  unfold State.allVector; simp
@[simp] theorem State.allVector_scan (v : Nat) (s : State) : (s.allVector v).scan = s.scan := by
  unfold State.allVector; simp
@[simp] theorem State.allVector_pnl (v : Nat) (s : State) : (s.allVector v).pnl = s.pnl := by
  unfold State.allVector; simp
@[simp] theorem State.allVector_lanes (v : Nat) (s : State) : (s.allVector v).lanes = s.lanes := by
  unfold State.allVector; simp
@[simp] theorem State.allVector_mem (v : Nat) (s : State) : (s.allVector v).mem = s.mem := by
  unfold State.allVector; simp
@[simp] theorem State.allVector_churn (v : Nat) (s : State) : (s.allVector v).churn = s.churn := by
  unfold State.allVector; simp
@[simp] theorem State.allVector_plc (v : Nat) (s : State) : (s.allVector v).plc = s.plc := by
  unfold State.allVector; simp
@[simp] theorem State.allVector_aud (v : Nat) (s : State) : (s.allVector v).aud = s.aud := by
  unfold State.allVector; simp
@[simp] theorem State.allVector_hk (v : Nat) (s : State) : (s.allVector v).hk = s.hk := by
  unfold State.allVector; simp
@[simp] theorem State.allVector_nvm (v : Nat) (s : State) : (s.allVector v).nvm = s.nvm := by
  unfold State.allVector; simp
@[simp] theorem State.allVector_tp (v : Nat) (s : State) : (s.allVector v).tp = s.tp := by
  unfold State.allVector; simp
@[simp] theorem State.allVector_sec (v : Nat) (s : State) : (s.allVector v).sec = s.sec := by
  unfold State.allVector; simp
@[simp] theorem State.allVector_tap (v : Nat) (s : State) : (s.allVector v).tap = s.tap := by
  unfold State.allVector; simp
@[simp] theorem State.allVector_time (v : Nat) (s : State) : (s.allVector v).time = s.time := by
  unfold State.allVector; simp
@[simp] theorem State.allVector_win (v : Nat) (s : State) : (s.allVector v).win = s.win := by
  unfold State.allVector; simp
@[simp] theorem State.allVector_free (v : Nat) (s : State) : (s.allVector v).free = s.free := by
  unfold State.allVector; simp
@[simp] theorem State.allVector_pending (v : Nat) (s : State) : (s.allVector v).pending = s.pending := by
  unfold State.allVector; simp
@[simp] theorem State.ringVector_id (m : Nat) (s : State) : (s.ringVector m).id = s.id := by
  unfold State.ringVector; dsimp only; split <;> simp
@[simp] theorem State.ringVector_pins (m : Nat) (s : State) : (s.ringVector m).pins = s.pins := by
  unfold State.ringVector; dsimp only; split <;> simp
@[simp] theorem State.ringVector_pwr (m : Nat) (s : State) : (s.ringVector m).pwr = s.pwr := by
  unfold State.ringVector; dsimp only; split <;> simp
@[simp] theorem State.ringVector_gov (m : Nat) (s : State) : (s.ringVector m).gov = s.gov := by
  unfold State.ringVector; dsimp only; split <;> simp
@[simp] theorem State.ringVector_clk (m : Nat) (s : State) : (s.ringVector m).clk = s.clk := by
  unfold State.ringVector; dsimp only; split <;> simp
@[simp] theorem State.ringVector_own (m : Nat) (s : State) : (s.ringVector m).own = s.own := by
  unfold State.ringVector; dsimp only; split <;> simp
@[simp] theorem State.ringVector_units (m : Nat) (s : State) : (s.ringVector m).units = s.units := by
  unfold State.ringVector; dsimp only; split <;> simp
@[simp] theorem State.ringVector_mode (m : Nat) (s : State) : (s.ringVector m).mode = s.mode := by
  unfold State.ringVector; dsimp only; split <;> simp
@[simp] theorem State.ringVector_cam (m : Nat) (s : State) : (s.ringVector m).cam = s.cam := by
  unfold State.ringVector; dsimp only; split <;> simp
@[simp] theorem State.ringVector_isp (m : Nat) (s : State) : (s.ringVector m).isp = s.isp := by
  unfold State.ringVector; dsimp only; split <;> simp
@[simp] theorem State.ringVector_depth (m : Nat) (s : State) : (s.ringVector m).depth = s.depth := by
  unfold State.ringVector; dsimp only; split <;> simp
@[simp] theorem State.ringVector_scene (m : Nat) (s : State) : (s.ringVector m).scene = s.scene := by
  unfold State.ringVector; dsimp only; split <;> simp
@[simp] theorem State.ringVector_leases (m : Nat) (s : State) : (s.ringVector m).leases = s.leases := by
  unfold State.ringVector; dsimp only; split <;> simp
@[simp] theorem State.ringVector_ray (m : Nat) (s : State) : (s.ringVector m).ray = s.ray := by
  unfold State.ringVector; dsimp only; split <;> simp
@[simp] theorem State.ringVector_cellar (m : Nat) (s : State) : (s.ringVector m).cellar = s.cellar := by
  unfold State.ringVector; dsimp only; split <;> simp
@[simp] theorem State.ringVector_layers (m : Nat) (s : State) : (s.ringVector m).layers = s.layers := by
  unfold State.ringVector; dsimp only; split <;> simp
@[simp] theorem State.ringVector_hw (m : Nat) (s : State) : (s.ringVector m).hw = s.hw := by
  unfold State.ringVector; dsimp only; split <;> simp
@[simp] theorem State.ringVector_disp (m : Nat) (s : State) : (s.ringVector m).disp = s.disp := by
  unfold State.ringVector; dsimp only; split <;> simp
@[simp] theorem State.ringVector_scan (m : Nat) (s : State) : (s.ringVector m).scan = s.scan := by
  unfold State.ringVector; dsimp only; split <;> simp
@[simp] theorem State.ringVector_pnl (m : Nat) (s : State) : (s.ringVector m).pnl = s.pnl := by
  unfold State.ringVector; dsimp only; split <;> simp
@[simp] theorem State.ringVector_lanes (m : Nat) (s : State) : (s.ringVector m).lanes = s.lanes := by
  unfold State.ringVector; dsimp only; split <;> simp
@[simp] theorem State.ringVector_mem (m : Nat) (s : State) : (s.ringVector m).mem = s.mem := by
  unfold State.ringVector; dsimp only; split <;> simp
@[simp] theorem State.ringVector_churn (m : Nat) (s : State) : (s.ringVector m).churn = s.churn := by
  unfold State.ringVector; dsimp only; split <;> simp
@[simp] theorem State.ringVector_plc (m : Nat) (s : State) : (s.ringVector m).plc = s.plc := by
  unfold State.ringVector; dsimp only; split <;> simp
@[simp] theorem State.ringVector_aud (m : Nat) (s : State) : (s.ringVector m).aud = s.aud := by
  unfold State.ringVector; dsimp only; split <;> simp
@[simp] theorem State.ringVector_hk (m : Nat) (s : State) : (s.ringVector m).hk = s.hk := by
  unfold State.ringVector; dsimp only; split <;> simp
@[simp] theorem State.ringVector_nvm (m : Nat) (s : State) : (s.ringVector m).nvm = s.nvm := by
  unfold State.ringVector; dsimp only; split <;> simp
@[simp] theorem State.ringVector_tp (m : Nat) (s : State) : (s.ringVector m).tp = s.tp := by
  unfold State.ringVector; dsimp only; split <;> simp
@[simp] theorem State.ringVector_sec (m : Nat) (s : State) : (s.ringVector m).sec = s.sec := by
  unfold State.ringVector; dsimp only; split <;> simp
@[simp] theorem State.ringVector_tap (m : Nat) (s : State) : (s.ringVector m).tap = s.tap := by
  unfold State.ringVector; dsimp only; split <;> simp
@[simp] theorem State.ringVector_time (m : Nat) (s : State) : (s.ringVector m).time = s.time := by
  unfold State.ringVector; dsimp only; split <;> simp
@[simp] theorem State.ringVector_win (m : Nat) (s : State) : (s.ringVector m).win = s.win := by
  unfold State.ringVector; dsimp only; split <;> simp
@[simp] theorem State.ringVector_free (m : Nat) (s : State) : (s.ringVector m).free = s.free := by
  unfold State.ringVector; dsimp only; split <;> simp
@[simp] theorem State.ringVector_pending (m : Nat) (s : State) : (s.ringVector m).pending = s.pending := by
  unfold State.ringVector; dsimp only; split <;> simp
@[simp] theorem State.offer_id (m : Nat) (e : EvEntry) (s : State) : (s.offer m e).id = s.id := by
  unfold State.offer; dsimp only; repeat' split
  all_goals simp
@[simp] theorem State.offer_pins (m : Nat) (e : EvEntry) (s : State) : (s.offer m e).pins = s.pins := by
  unfold State.offer; dsimp only; repeat' split
  all_goals simp
@[simp] theorem State.offer_pwr (m : Nat) (e : EvEntry) (s : State) : (s.offer m e).pwr = s.pwr := by
  unfold State.offer; dsimp only; repeat' split
  all_goals simp
@[simp] theorem State.offer_gov (m : Nat) (e : EvEntry) (s : State) : (s.offer m e).gov = s.gov := by
  unfold State.offer; dsimp only; repeat' split
  all_goals simp
@[simp] theorem State.offer_clk (m : Nat) (e : EvEntry) (s : State) : (s.offer m e).clk = s.clk := by
  unfold State.offer; dsimp only; repeat' split
  all_goals simp
@[simp] theorem State.offer_own (m : Nat) (e : EvEntry) (s : State) : (s.offer m e).own = s.own := by
  unfold State.offer; dsimp only; repeat' split
  all_goals simp
@[simp] theorem State.offer_units (m : Nat) (e : EvEntry) (s : State) : (s.offer m e).units = s.units := by
  unfold State.offer; dsimp only; repeat' split
  all_goals simp
@[simp] theorem State.offer_mode (m : Nat) (e : EvEntry) (s : State) : (s.offer m e).mode = s.mode := by
  unfold State.offer; dsimp only; repeat' split
  all_goals simp
@[simp] theorem State.offer_cam (m : Nat) (e : EvEntry) (s : State) : (s.offer m e).cam = s.cam := by
  unfold State.offer; dsimp only; repeat' split
  all_goals simp
@[simp] theorem State.offer_isp (m : Nat) (e : EvEntry) (s : State) : (s.offer m e).isp = s.isp := by
  unfold State.offer; dsimp only; repeat' split
  all_goals simp
@[simp] theorem State.offer_depth (m : Nat) (e : EvEntry) (s : State) : (s.offer m e).depth = s.depth := by
  unfold State.offer; dsimp only; repeat' split
  all_goals simp
@[simp] theorem State.offer_scene (m : Nat) (e : EvEntry) (s : State) : (s.offer m e).scene = s.scene := by
  unfold State.offer; dsimp only; repeat' split
  all_goals simp
@[simp] theorem State.offer_leases (m : Nat) (e : EvEntry) (s : State) : (s.offer m e).leases = s.leases := by
  unfold State.offer; dsimp only; repeat' split
  all_goals simp
@[simp] theorem State.offer_ray (m : Nat) (e : EvEntry) (s : State) : (s.offer m e).ray = s.ray := by
  unfold State.offer; dsimp only; repeat' split
  all_goals simp
@[simp] theorem State.offer_cellar (m : Nat) (e : EvEntry) (s : State) : (s.offer m e).cellar = s.cellar := by
  unfold State.offer; dsimp only; repeat' split
  all_goals simp
@[simp] theorem State.offer_layers (m : Nat) (e : EvEntry) (s : State) : (s.offer m e).layers = s.layers := by
  unfold State.offer; dsimp only; repeat' split
  all_goals simp
@[simp] theorem State.offer_hw (m : Nat) (e : EvEntry) (s : State) : (s.offer m e).hw = s.hw := by
  unfold State.offer; dsimp only; repeat' split
  all_goals simp
@[simp] theorem State.offer_disp (m : Nat) (e : EvEntry) (s : State) : (s.offer m e).disp = s.disp := by
  unfold State.offer; dsimp only; repeat' split
  all_goals simp
@[simp] theorem State.offer_scan (m : Nat) (e : EvEntry) (s : State) : (s.offer m e).scan = s.scan := by
  unfold State.offer; dsimp only; repeat' split
  all_goals simp
@[simp] theorem State.offer_pnl (m : Nat) (e : EvEntry) (s : State) : (s.offer m e).pnl = s.pnl := by
  unfold State.offer; dsimp only; repeat' split
  all_goals simp
@[simp] theorem State.offer_lanes (m : Nat) (e : EvEntry) (s : State) : (s.offer m e).lanes = s.lanes := by
  unfold State.offer; dsimp only; repeat' split
  all_goals simp
@[simp] theorem State.offer_mem (m : Nat) (e : EvEntry) (s : State) : (s.offer m e).mem = s.mem := by
  unfold State.offer; dsimp only; repeat' split
  all_goals simp
@[simp] theorem State.offer_churn (m : Nat) (e : EvEntry) (s : State) : (s.offer m e).churn = s.churn := by
  unfold State.offer; dsimp only; repeat' split
  all_goals simp
@[simp] theorem State.offer_plc (m : Nat) (e : EvEntry) (s : State) : (s.offer m e).plc = s.plc := by
  unfold State.offer; dsimp only; repeat' split
  all_goals simp
@[simp] theorem State.offer_aud (m : Nat) (e : EvEntry) (s : State) : (s.offer m e).aud = s.aud := by
  unfold State.offer; dsimp only; repeat' split
  all_goals simp
@[simp] theorem State.offer_hk (m : Nat) (e : EvEntry) (s : State) : (s.offer m e).hk = s.hk := by
  unfold State.offer; dsimp only; repeat' split
  all_goals simp
@[simp] theorem State.offer_nvm (m : Nat) (e : EvEntry) (s : State) : (s.offer m e).nvm = s.nvm := by
  unfold State.offer; dsimp only; repeat' split
  all_goals simp
@[simp] theorem State.offer_tp (m : Nat) (e : EvEntry) (s : State) : (s.offer m e).tp = s.tp := by
  unfold State.offer; dsimp only; repeat' split
  all_goals simp
@[simp] theorem State.offer_sec (m : Nat) (e : EvEntry) (s : State) : (s.offer m e).sec = s.sec := by
  unfold State.offer; dsimp only; repeat' split
  all_goals simp
@[simp] theorem State.offer_tap (m : Nat) (e : EvEntry) (s : State) : (s.offer m e).tap = s.tap := by
  unfold State.offer; dsimp only; repeat' split
  all_goals simp
@[simp] theorem State.offer_time (m : Nat) (e : EvEntry) (s : State) : (s.offer m e).time = s.time := by
  unfold State.offer; dsimp only; repeat' split
  all_goals simp
@[simp] theorem State.offer_win (m : Nat) (e : EvEntry) (s : State) : (s.offer m e).win = s.win := by
  unfold State.offer; dsimp only; repeat' split
  all_goals simp
@[simp] theorem State.offer_free (m : Nat) (e : EvEntry) (s : State) : (s.offer m e).free = s.free := by
  unfold State.offer; dsimp only; repeat' split
  all_goals simp
@[simp] theorem State.offer_pending (m : Nat) (e : EvEntry) (s : State) : (s.offer m e).pending = s.pending := by
  unfold State.offer; dsimp only; repeat' split
  all_goals simp
@[simp] theorem State.postRings_id (c v : Nat) (p : Bytes) (s : State) : (s.postRings c v p).id = s.id := by
  unfold State.postRings
  refine List.foldlRecOn (motive := fun t : State => t.id = s.id) _ _ rfl fun t ht m _ => ?_
  split <;> simp_all
@[simp] theorem State.postRings_pins (c v : Nat) (p : Bytes) (s : State) : (s.postRings c v p).pins = s.pins := by
  unfold State.postRings
  refine List.foldlRecOn (motive := fun t : State => t.pins = s.pins) _ _ rfl fun t ht m _ => ?_
  split <;> simp_all
@[simp] theorem State.postRings_pwr (c v : Nat) (p : Bytes) (s : State) : (s.postRings c v p).pwr = s.pwr := by
  unfold State.postRings
  refine List.foldlRecOn (motive := fun t : State => t.pwr = s.pwr) _ _ rfl fun t ht m _ => ?_
  split <;> simp_all
@[simp] theorem State.postRings_gov (c v : Nat) (p : Bytes) (s : State) : (s.postRings c v p).gov = s.gov := by
  unfold State.postRings
  refine List.foldlRecOn (motive := fun t : State => t.gov = s.gov) _ _ rfl fun t ht m _ => ?_
  split <;> simp_all
@[simp] theorem State.postRings_clk (c v : Nat) (p : Bytes) (s : State) : (s.postRings c v p).clk = s.clk := by
  unfold State.postRings
  refine List.foldlRecOn (motive := fun t : State => t.clk = s.clk) _ _ rfl fun t ht m _ => ?_
  split <;> simp_all
@[simp] theorem State.postRings_own (c v : Nat) (p : Bytes) (s : State) : (s.postRings c v p).own = s.own := by
  unfold State.postRings
  refine List.foldlRecOn (motive := fun t : State => t.own = s.own) _ _ rfl fun t ht m _ => ?_
  split <;> simp_all
@[simp] theorem State.postRings_units (c v : Nat) (p : Bytes) (s : State) : (s.postRings c v p).units = s.units := by
  unfold State.postRings
  refine List.foldlRecOn (motive := fun t : State => t.units = s.units) _ _ rfl fun t ht m _ => ?_
  split <;> simp_all
@[simp] theorem State.postRings_mode (c v : Nat) (p : Bytes) (s : State) : (s.postRings c v p).mode = s.mode := by
  unfold State.postRings
  refine List.foldlRecOn (motive := fun t : State => t.mode = s.mode) _ _ rfl fun t ht m _ => ?_
  split <;> simp_all
@[simp] theorem State.postRings_cam (c v : Nat) (p : Bytes) (s : State) : (s.postRings c v p).cam = s.cam := by
  unfold State.postRings
  refine List.foldlRecOn (motive := fun t : State => t.cam = s.cam) _ _ rfl fun t ht m _ => ?_
  split <;> simp_all
@[simp] theorem State.postRings_isp (c v : Nat) (p : Bytes) (s : State) : (s.postRings c v p).isp = s.isp := by
  unfold State.postRings
  refine List.foldlRecOn (motive := fun t : State => t.isp = s.isp) _ _ rfl fun t ht m _ => ?_
  split <;> simp_all
@[simp] theorem State.postRings_depth (c v : Nat) (p : Bytes) (s : State) : (s.postRings c v p).depth = s.depth := by
  unfold State.postRings
  refine List.foldlRecOn (motive := fun t : State => t.depth = s.depth) _ _ rfl fun t ht m _ => ?_
  split <;> simp_all
@[simp] theorem State.postRings_scene (c v : Nat) (p : Bytes) (s : State) : (s.postRings c v p).scene = s.scene := by
  unfold State.postRings
  refine List.foldlRecOn (motive := fun t : State => t.scene = s.scene) _ _ rfl fun t ht m _ => ?_
  split <;> simp_all
@[simp] theorem State.postRings_leases (c v : Nat) (p : Bytes) (s : State) : (s.postRings c v p).leases = s.leases := by
  unfold State.postRings
  refine List.foldlRecOn (motive := fun t : State => t.leases = s.leases) _ _ rfl fun t ht m _ => ?_
  split <;> simp_all
@[simp] theorem State.postRings_ray (c v : Nat) (p : Bytes) (s : State) : (s.postRings c v p).ray = s.ray := by
  unfold State.postRings
  refine List.foldlRecOn (motive := fun t : State => t.ray = s.ray) _ _ rfl fun t ht m _ => ?_
  split <;> simp_all
@[simp] theorem State.postRings_cellar (c v : Nat) (p : Bytes) (s : State) : (s.postRings c v p).cellar = s.cellar := by
  unfold State.postRings
  refine List.foldlRecOn (motive := fun t : State => t.cellar = s.cellar) _ _ rfl fun t ht m _ => ?_
  split <;> simp_all
@[simp] theorem State.postRings_layers (c v : Nat) (p : Bytes) (s : State) : (s.postRings c v p).layers = s.layers := by
  unfold State.postRings
  refine List.foldlRecOn (motive := fun t : State => t.layers = s.layers) _ _ rfl fun t ht m _ => ?_
  split <;> simp_all
@[simp] theorem State.postRings_hw (c v : Nat) (p : Bytes) (s : State) : (s.postRings c v p).hw = s.hw := by
  unfold State.postRings
  refine List.foldlRecOn (motive := fun t : State => t.hw = s.hw) _ _ rfl fun t ht m _ => ?_
  split <;> simp_all
@[simp] theorem State.postRings_disp (c v : Nat) (p : Bytes) (s : State) : (s.postRings c v p).disp = s.disp := by
  unfold State.postRings
  refine List.foldlRecOn (motive := fun t : State => t.disp = s.disp) _ _ rfl fun t ht m _ => ?_
  split <;> simp_all
@[simp] theorem State.postRings_scan (c v : Nat) (p : Bytes) (s : State) : (s.postRings c v p).scan = s.scan := by
  unfold State.postRings
  refine List.foldlRecOn (motive := fun t : State => t.scan = s.scan) _ _ rfl fun t ht m _ => ?_
  split <;> simp_all
@[simp] theorem State.postRings_pnl (c v : Nat) (p : Bytes) (s : State) : (s.postRings c v p).pnl = s.pnl := by
  unfold State.postRings
  refine List.foldlRecOn (motive := fun t : State => t.pnl = s.pnl) _ _ rfl fun t ht m _ => ?_
  split <;> simp_all
@[simp] theorem State.postRings_lanes (c v : Nat) (p : Bytes) (s : State) : (s.postRings c v p).lanes = s.lanes := by
  unfold State.postRings
  refine List.foldlRecOn (motive := fun t : State => t.lanes = s.lanes) _ _ rfl fun t ht m _ => ?_
  split <;> simp_all
@[simp] theorem State.postRings_mem (c v : Nat) (p : Bytes) (s : State) : (s.postRings c v p).mem = s.mem := by
  unfold State.postRings
  refine List.foldlRecOn (motive := fun t : State => t.mem = s.mem) _ _ rfl fun t ht m _ => ?_
  split <;> simp_all
@[simp] theorem State.postRings_churn (c v : Nat) (p : Bytes) (s : State) : (s.postRings c v p).churn = s.churn := by
  unfold State.postRings
  refine List.foldlRecOn (motive := fun t : State => t.churn = s.churn) _ _ rfl fun t ht m _ => ?_
  split <;> simp_all
@[simp] theorem State.postRings_plc (c v : Nat) (p : Bytes) (s : State) : (s.postRings c v p).plc = s.plc := by
  unfold State.postRings
  refine List.foldlRecOn (motive := fun t : State => t.plc = s.plc) _ _ rfl fun t ht m _ => ?_
  split <;> simp_all
@[simp] theorem State.postRings_aud (c v : Nat) (p : Bytes) (s : State) : (s.postRings c v p).aud = s.aud := by
  unfold State.postRings
  refine List.foldlRecOn (motive := fun t : State => t.aud = s.aud) _ _ rfl fun t ht m _ => ?_
  split <;> simp_all
@[simp] theorem State.postRings_hk (c v : Nat) (p : Bytes) (s : State) : (s.postRings c v p).hk = s.hk := by
  unfold State.postRings
  refine List.foldlRecOn (motive := fun t : State => t.hk = s.hk) _ _ rfl fun t ht m _ => ?_
  split <;> simp_all
@[simp] theorem State.postRings_nvm (c v : Nat) (p : Bytes) (s : State) : (s.postRings c v p).nvm = s.nvm := by
  unfold State.postRings
  refine List.foldlRecOn (motive := fun t : State => t.nvm = s.nvm) _ _ rfl fun t ht m _ => ?_
  split <;> simp_all
@[simp] theorem State.postRings_tp (c v : Nat) (p : Bytes) (s : State) : (s.postRings c v p).tp = s.tp := by
  unfold State.postRings
  refine List.foldlRecOn (motive := fun t : State => t.tp = s.tp) _ _ rfl fun t ht m _ => ?_
  split <;> simp_all
@[simp] theorem State.postRings_sec (c v : Nat) (p : Bytes) (s : State) : (s.postRings c v p).sec = s.sec := by
  unfold State.postRings
  refine List.foldlRecOn (motive := fun t : State => t.sec = s.sec) _ _ rfl fun t ht m _ => ?_
  split <;> simp_all
@[simp] theorem State.postRings_tap (c v : Nat) (p : Bytes) (s : State) : (s.postRings c v p).tap = s.tap := by
  unfold State.postRings
  refine List.foldlRecOn (motive := fun t : State => t.tap = s.tap) _ _ rfl fun t ht m _ => ?_
  split <;> simp_all
@[simp] theorem State.postRings_time (c v : Nat) (p : Bytes) (s : State) : (s.postRings c v p).time = s.time := by
  unfold State.postRings
  refine List.foldlRecOn (motive := fun t : State => t.time = s.time) _ _ rfl fun t ht m _ => ?_
  split <;> simp_all
@[simp] theorem State.postRings_win (c v : Nat) (p : Bytes) (s : State) : (s.postRings c v p).win = s.win := by
  unfold State.postRings
  refine List.foldlRecOn (motive := fun t : State => t.win = s.win) _ _ rfl fun t ht m _ => ?_
  split <;> simp_all
@[simp] theorem State.postRings_free (c v : Nat) (p : Bytes) (s : State) : (s.postRings c v p).free = s.free := by
  unfold State.postRings
  refine List.foldlRecOn (motive := fun t : State => t.free = s.free) _ _ rfl fun t ht m _ => ?_
  split <;> simp_all
@[simp] theorem State.postRings_pending (c v : Nat) (p : Bytes) (s : State) : (s.postRings c v p).pending = s.pending := by
  unfold State.postRings
  refine List.foldlRecOn (motive := fun t : State => t.pending = s.pending) _ _ rfl fun t ht m _ => ?_
  split <;> simp_all
@[simp] theorem State.post_id (c v : Nat) (p : Bytes) (s : State) : (s.post c v p).id = s.id := by
  simp [State.post]
@[simp] theorem State.post_pins (c v : Nat) (p : Bytes) (s : State) : (s.post c v p).pins = s.pins := by
  simp [State.post]
@[simp] theorem State.post_pwr (c v : Nat) (p : Bytes) (s : State) : (s.post c v p).pwr = s.pwr := by
  simp [State.post]
@[simp] theorem State.post_gov (c v : Nat) (p : Bytes) (s : State) : (s.post c v p).gov = s.gov := by
  simp [State.post]
@[simp] theorem State.post_clk (c v : Nat) (p : Bytes) (s : State) : (s.post c v p).clk = s.clk := by
  simp [State.post]
@[simp] theorem State.post_own (c v : Nat) (p : Bytes) (s : State) : (s.post c v p).own = s.own := by
  simp [State.post]
@[simp] theorem State.post_units (c v : Nat) (p : Bytes) (s : State) : (s.post c v p).units = s.units := by
  simp [State.post]
@[simp] theorem State.post_mode (c v : Nat) (p : Bytes) (s : State) : (s.post c v p).mode = s.mode := by
  simp [State.post]
@[simp] theorem State.post_cam (c v : Nat) (p : Bytes) (s : State) : (s.post c v p).cam = s.cam := by
  simp [State.post]
@[simp] theorem State.post_isp (c v : Nat) (p : Bytes) (s : State) : (s.post c v p).isp = s.isp := by
  simp [State.post]
@[simp] theorem State.post_depth (c v : Nat) (p : Bytes) (s : State) : (s.post c v p).depth = s.depth := by
  simp [State.post]
@[simp] theorem State.post_scene (c v : Nat) (p : Bytes) (s : State) : (s.post c v p).scene = s.scene := by
  simp [State.post]
@[simp] theorem State.post_leases (c v : Nat) (p : Bytes) (s : State) : (s.post c v p).leases = s.leases := by
  simp [State.post]
@[simp] theorem State.post_ray (c v : Nat) (p : Bytes) (s : State) : (s.post c v p).ray = s.ray := by
  simp [State.post]
@[simp] theorem State.post_cellar (c v : Nat) (p : Bytes) (s : State) : (s.post c v p).cellar = s.cellar := by
  simp [State.post]
@[simp] theorem State.post_layers (c v : Nat) (p : Bytes) (s : State) : (s.post c v p).layers = s.layers := by
  simp [State.post]
@[simp] theorem State.post_hw (c v : Nat) (p : Bytes) (s : State) : (s.post c v p).hw = s.hw := by
  simp [State.post]
@[simp] theorem State.post_disp (c v : Nat) (p : Bytes) (s : State) : (s.post c v p).disp = s.disp := by
  simp [State.post]
@[simp] theorem State.post_scan (c v : Nat) (p : Bytes) (s : State) : (s.post c v p).scan = s.scan := by
  simp [State.post]
@[simp] theorem State.post_pnl (c v : Nat) (p : Bytes) (s : State) : (s.post c v p).pnl = s.pnl := by
  simp [State.post]
@[simp] theorem State.post_lanes (c v : Nat) (p : Bytes) (s : State) : (s.post c v p).lanes = s.lanes := by
  simp [State.post]
@[simp] theorem State.post_mem (c v : Nat) (p : Bytes) (s : State) : (s.post c v p).mem = s.mem := by
  simp [State.post]
@[simp] theorem State.post_churn (c v : Nat) (p : Bytes) (s : State) : (s.post c v p).churn = s.churn := by
  simp [State.post]
@[simp] theorem State.post_plc (c v : Nat) (p : Bytes) (s : State) : (s.post c v p).plc = s.plc := by
  simp [State.post]
@[simp] theorem State.post_aud (c v : Nat) (p : Bytes) (s : State) : (s.post c v p).aud = s.aud := by
  simp [State.post]
@[simp] theorem State.post_hk (c v : Nat) (p : Bytes) (s : State) : (s.post c v p).hk = s.hk := by
  simp [State.post]
@[simp] theorem State.post_tp (c v : Nat) (p : Bytes) (s : State) : (s.post c v p).tp = s.tp := by
  simp [State.post]
@[simp] theorem State.post_sec (c v : Nat) (p : Bytes) (s : State) : (s.post c v p).sec = s.sec := by
  simp [State.post]
@[simp] theorem State.post_tap (c v : Nat) (p : Bytes) (s : State) : (s.post c v p).tap = s.tap := by
  simp [State.post]
@[simp] theorem State.post_time (c v : Nat) (p : Bytes) (s : State) : (s.post c v p).time = s.time := by
  simp [State.post]
@[simp] theorem State.post_win (c v : Nat) (p : Bytes) (s : State) : (s.post c v p).win = s.win := by
  simp [State.post]
@[simp] theorem State.post_free (c v : Nat) (p : Bytes) (s : State) : (s.post c v p).free = s.free := by
  simp [State.post]
@[simp] theorem State.post_pending (c v : Nat) (p : Bytes) (s : State) : (s.post c v p).pending = s.pending := by
  simp [State.post]
@[simp] theorem State.perFrame_id (c u : Nat) (p : Bytes) (n : Nat) (s : State) : (s.perFrame c u p n).id = s.id := rfl
@[simp] theorem State.perFrame_pins (c u : Nat) (p : Bytes) (n : Nat) (s : State) : (s.perFrame c u p n).pins = s.pins := rfl
@[simp] theorem State.perFrame_pwr (c u : Nat) (p : Bytes) (n : Nat) (s : State) : (s.perFrame c u p n).pwr = s.pwr := rfl
@[simp] theorem State.perFrame_gov (c u : Nat) (p : Bytes) (n : Nat) (s : State) : (s.perFrame c u p n).gov = s.gov := rfl
@[simp] theorem State.perFrame_clk (c u : Nat) (p : Bytes) (n : Nat) (s : State) : (s.perFrame c u p n).clk = s.clk := rfl
@[simp] theorem State.perFrame_own (c u : Nat) (p : Bytes) (n : Nat) (s : State) : (s.perFrame c u p n).own = s.own := rfl
@[simp] theorem State.perFrame_units (c u : Nat) (p : Bytes) (n : Nat) (s : State) : (s.perFrame c u p n).units = s.units := rfl
@[simp] theorem State.perFrame_mode (c u : Nat) (p : Bytes) (n : Nat) (s : State) : (s.perFrame c u p n).mode = s.mode := rfl
@[simp] theorem State.perFrame_cam (c u : Nat) (p : Bytes) (n : Nat) (s : State) : (s.perFrame c u p n).cam = s.cam := rfl
@[simp] theorem State.perFrame_isp (c u : Nat) (p : Bytes) (n : Nat) (s : State) : (s.perFrame c u p n).isp = s.isp := rfl
@[simp] theorem State.perFrame_depth (c u : Nat) (p : Bytes) (n : Nat) (s : State) : (s.perFrame c u p n).depth = s.depth := rfl
@[simp] theorem State.perFrame_scene (c u : Nat) (p : Bytes) (n : Nat) (s : State) : (s.perFrame c u p n).scene = s.scene := rfl
@[simp] theorem State.perFrame_leases (c u : Nat) (p : Bytes) (n : Nat) (s : State) : (s.perFrame c u p n).leases = s.leases := rfl
@[simp] theorem State.perFrame_ray (c u : Nat) (p : Bytes) (n : Nat) (s : State) : (s.perFrame c u p n).ray = s.ray := rfl
@[simp] theorem State.perFrame_cellar (c u : Nat) (p : Bytes) (n : Nat) (s : State) : (s.perFrame c u p n).cellar = s.cellar := rfl
@[simp] theorem State.perFrame_layers (c u : Nat) (p : Bytes) (n : Nat) (s : State) : (s.perFrame c u p n).layers = s.layers := rfl
@[simp] theorem State.perFrame_hw (c u : Nat) (p : Bytes) (n : Nat) (s : State) : (s.perFrame c u p n).hw = s.hw := rfl
@[simp] theorem State.perFrame_disp (c u : Nat) (p : Bytes) (n : Nat) (s : State) : (s.perFrame c u p n).disp = s.disp := rfl
@[simp] theorem State.perFrame_scan (c u : Nat) (p : Bytes) (n : Nat) (s : State) : (s.perFrame c u p n).scan = s.scan := rfl
@[simp] theorem State.perFrame_pnl (c u : Nat) (p : Bytes) (n : Nat) (s : State) : (s.perFrame c u p n).pnl = s.pnl := rfl
@[simp] theorem State.perFrame_lanes (c u : Nat) (p : Bytes) (n : Nat) (s : State) : (s.perFrame c u p n).lanes = s.lanes := rfl
@[simp] theorem State.perFrame_mem (c u : Nat) (p : Bytes) (n : Nat) (s : State) : (s.perFrame c u p n).mem = s.mem := rfl
@[simp] theorem State.perFrame_churn (c u : Nat) (p : Bytes) (n : Nat) (s : State) : (s.perFrame c u p n).churn = s.churn := rfl
@[simp] theorem State.perFrame_plc (c u : Nat) (p : Bytes) (n : Nat) (s : State) : (s.perFrame c u p n).plc = s.plc := rfl
@[simp] theorem State.perFrame_aud (c u : Nat) (p : Bytes) (n : Nat) (s : State) : (s.perFrame c u p n).aud = s.aud := rfl
@[simp] theorem State.perFrame_hk (c u : Nat) (p : Bytes) (n : Nat) (s : State) : (s.perFrame c u p n).hk = s.hk := rfl
@[simp] theorem State.perFrame_nvm (c u : Nat) (p : Bytes) (n : Nat) (s : State) : (s.perFrame c u p n).nvm = s.nvm := rfl
@[simp] theorem State.perFrame_tp (c u : Nat) (p : Bytes) (n : Nat) (s : State) : (s.perFrame c u p n).tp = s.tp := rfl
@[simp] theorem State.perFrame_sec (c u : Nat) (p : Bytes) (n : Nat) (s : State) : (s.perFrame c u p n).sec = s.sec := rfl
@[simp] theorem State.perFrame_tap (c u : Nat) (p : Bytes) (n : Nat) (s : State) : (s.perFrame c u p n).tap = s.tap := rfl
@[simp] theorem State.perFrame_time (c u : Nat) (p : Bytes) (n : Nat) (s : State) : (s.perFrame c u p n).time = s.time := rfl
@[simp] theorem State.perFrame_win (c u : Nat) (p : Bytes) (n : Nat) (s : State) : (s.perFrame c u p n).win = s.win := rfl
@[simp] theorem State.perFrame_out (c u : Nat) (p : Bytes) (n : Nat) (s : State) : (s.perFrame c u p n).out = s.out := rfl
@[simp] theorem State.perFrame_free (c u : Nat) (p : Bytes) (n : Nat) (s : State) : (s.perFrame c u p n).free = s.free := rfl
@[simp] theorem State.perFrame_pending (c u : Nat) (p : Bytes) (n : Nat) (s : State) : (s.perFrame c u p n).pending = s.pending := rfl
@[simp] theorem State.settle_id (s : State) : (s.settle).id = s.id := by
  unfold State.settle; split <;> rfl
@[simp] theorem State.settle_pwr (s : State) : (s.settle).pwr = s.pwr := by
  unfold State.settle; split <;> rfl
@[simp] theorem State.settle_gov (s : State) : (s.settle).gov = s.gov := by
  unfold State.settle; split <;> rfl
@[simp] theorem State.settle_clk (s : State) : (s.settle).clk = s.clk := by
  unfold State.settle; split <;> rfl
@[simp] theorem State.settle_own (s : State) : (s.settle).own = s.own := by
  unfold State.settle; split <;> rfl
@[simp] theorem State.settle_ctl (s : State) : (s.settle).ctl = s.ctl := by
  unfold State.settle; split <;> rfl
@[simp] theorem State.settle_units (s : State) : (s.settle).units = s.units := by
  unfold State.settle; split <;> rfl
@[simp] theorem State.settle_mode (s : State) : (s.settle).mode = s.mode := by
  unfold State.settle; split <;> rfl
@[simp] theorem State.settle_cam (s : State) : (s.settle).cam = s.cam := by
  unfold State.settle; split <;> rfl
@[simp] theorem State.settle_isp (s : State) : (s.settle).isp = s.isp := by
  unfold State.settle; split <;> rfl
@[simp] theorem State.settle_depth (s : State) : (s.settle).depth = s.depth := by
  unfold State.settle; split <;> rfl
@[simp] theorem State.settle_scene (s : State) : (s.settle).scene = s.scene := by
  unfold State.settle; split <;> rfl
@[simp] theorem State.settle_leases (s : State) : (s.settle).leases = s.leases := by
  unfold State.settle; split <;> rfl
@[simp] theorem State.settle_ray (s : State) : (s.settle).ray = s.ray := by
  unfold State.settle; split <;> rfl
@[simp] theorem State.settle_cellar (s : State) : (s.settle).cellar = s.cellar := by
  unfold State.settle; split <;> rfl
@[simp] theorem State.settle_layers (s : State) : (s.settle).layers = s.layers := by
  unfold State.settle; split <;> rfl
@[simp] theorem State.settle_hw (s : State) : (s.settle).hw = s.hw := by
  unfold State.settle; split <;> rfl
@[simp] theorem State.settle_disp (s : State) : (s.settle).disp = s.disp := by
  unfold State.settle; split <;> rfl
@[simp] theorem State.settle_scan (s : State) : (s.settle).scan = s.scan := by
  unfold State.settle; split <;> rfl
@[simp] theorem State.settle_pnl (s : State) : (s.settle).pnl = s.pnl := by
  unfold State.settle; split <;> rfl
@[simp] theorem State.settle_lanes (s : State) : (s.settle).lanes = s.lanes := by
  unfold State.settle; split <;> rfl
@[simp] theorem State.settle_mem (s : State) : (s.settle).mem = s.mem := by
  unfold State.settle; split <;> rfl
@[simp] theorem State.settle_churn (s : State) : (s.settle).churn = s.churn := by
  unfold State.settle; split <;> rfl
@[simp] theorem State.settle_plc (s : State) : (s.settle).plc = s.plc := by
  unfold State.settle; split <;> rfl
@[simp] theorem State.settle_aud (s : State) : (s.settle).aud = s.aud := by
  unfold State.settle; split <;> rfl
@[simp] theorem State.settle_hk (s : State) : (s.settle).hk = s.hk := by
  unfold State.settle; split <;> rfl
@[simp] theorem State.settle_nvm (s : State) : (s.settle).nvm = s.nvm := by
  unfold State.settle; split <;> rfl
@[simp] theorem State.settle_tp (s : State) : (s.settle).tp = s.tp := by
  unfold State.settle; split <;> rfl
@[simp] theorem State.settle_sec (s : State) : (s.settle).sec = s.sec := by
  unfold State.settle; split <;> rfl
@[simp] theorem State.settle_tap (s : State) : (s.settle).tap = s.tap := by
  unfold State.settle; split <;> rfl
@[simp] theorem State.settle_time (s : State) : (s.settle).time = s.time := by
  unfold State.settle; split <;> rfl
@[simp] theorem State.settle_win (s : State) : (s.settle).win = s.win := by
  unfold State.settle; split <;> rfl
@[simp] theorem State.settle_free (s : State) : (s.settle).free = s.free := by
  unfold State.settle; split <;> rfl
@[simp] theorem State.settle_pending (s : State) : (s.settle).pending = s.pending := by
  unfold State.settle; split <;> rfl
@[simp] theorem State.setUnit_id (i : Nat) (f : UnitRec → UnitRec) (s : State) : (s.setUnit i f).id = s.id := by
  unfold State.setUnit; dsimp only; split <;> simp
@[simp] theorem State.setUnit_pins (i : Nat) (f : UnitRec → UnitRec) (s : State) : (s.setUnit i f).pins = s.pins := by
  unfold State.setUnit; dsimp only; split <;> simp
@[simp] theorem State.setUnit_pwr (i : Nat) (f : UnitRec → UnitRec) (s : State) : (s.setUnit i f).pwr = s.pwr := by
  unfold State.setUnit; dsimp only; split <;> simp
@[simp] theorem State.setUnit_gov (i : Nat) (f : UnitRec → UnitRec) (s : State) : (s.setUnit i f).gov = s.gov := by
  unfold State.setUnit; dsimp only; split <;> simp
@[simp] theorem State.setUnit_clk (i : Nat) (f : UnitRec → UnitRec) (s : State) : (s.setUnit i f).clk = s.clk := by
  unfold State.setUnit; dsimp only; split <;> simp
@[simp] theorem State.setUnit_own (i : Nat) (f : UnitRec → UnitRec) (s : State) : (s.setUnit i f).own = s.own := by
  unfold State.setUnit; dsimp only; split <;> simp
@[simp] theorem State.setUnit_mode (i : Nat) (f : UnitRec → UnitRec) (s : State) : (s.setUnit i f).mode = s.mode := by
  unfold State.setUnit; dsimp only; split <;> simp
@[simp] theorem State.setUnit_cam (i : Nat) (f : UnitRec → UnitRec) (s : State) : (s.setUnit i f).cam = s.cam := by
  unfold State.setUnit; dsimp only; split <;> simp
@[simp] theorem State.setUnit_isp (i : Nat) (f : UnitRec → UnitRec) (s : State) : (s.setUnit i f).isp = s.isp := by
  unfold State.setUnit; dsimp only; split <;> simp
@[simp] theorem State.setUnit_depth (i : Nat) (f : UnitRec → UnitRec) (s : State) : (s.setUnit i f).depth = s.depth := by
  unfold State.setUnit; dsimp only; split <;> simp
@[simp] theorem State.setUnit_scene (i : Nat) (f : UnitRec → UnitRec) (s : State) : (s.setUnit i f).scene = s.scene := by
  unfold State.setUnit; dsimp only; split <;> simp
@[simp] theorem State.setUnit_leases (i : Nat) (f : UnitRec → UnitRec) (s : State) : (s.setUnit i f).leases = s.leases := by
  unfold State.setUnit; dsimp only; split <;> simp
@[simp] theorem State.setUnit_ray (i : Nat) (f : UnitRec → UnitRec) (s : State) : (s.setUnit i f).ray = s.ray := by
  unfold State.setUnit; dsimp only; split <;> simp
@[simp] theorem State.setUnit_cellar (i : Nat) (f : UnitRec → UnitRec) (s : State) : (s.setUnit i f).cellar = s.cellar := by
  unfold State.setUnit; dsimp only; split <;> simp
@[simp] theorem State.setUnit_layers (i : Nat) (f : UnitRec → UnitRec) (s : State) : (s.setUnit i f).layers = s.layers := by
  unfold State.setUnit; dsimp only; split <;> simp
@[simp] theorem State.setUnit_hw (i : Nat) (f : UnitRec → UnitRec) (s : State) : (s.setUnit i f).hw = s.hw := by
  unfold State.setUnit; dsimp only; split <;> simp
@[simp] theorem State.setUnit_disp (i : Nat) (f : UnitRec → UnitRec) (s : State) : (s.setUnit i f).disp = s.disp := by
  unfold State.setUnit; dsimp only; split <;> simp
@[simp] theorem State.setUnit_scan (i : Nat) (f : UnitRec → UnitRec) (s : State) : (s.setUnit i f).scan = s.scan := by
  unfold State.setUnit; dsimp only; split <;> simp
@[simp] theorem State.setUnit_pnl (i : Nat) (f : UnitRec → UnitRec) (s : State) : (s.setUnit i f).pnl = s.pnl := by
  unfold State.setUnit; dsimp only; split <;> simp
@[simp] theorem State.setUnit_lanes (i : Nat) (f : UnitRec → UnitRec) (s : State) : (s.setUnit i f).lanes = s.lanes := by
  unfold State.setUnit; dsimp only; split <;> simp
@[simp] theorem State.setUnit_mem (i : Nat) (f : UnitRec → UnitRec) (s : State) : (s.setUnit i f).mem = s.mem := by
  unfold State.setUnit; dsimp only; split <;> simp
@[simp] theorem State.setUnit_churn (i : Nat) (f : UnitRec → UnitRec) (s : State) : (s.setUnit i f).churn = s.churn := by
  unfold State.setUnit; dsimp only; split <;> simp
@[simp] theorem State.setUnit_plc (i : Nat) (f : UnitRec → UnitRec) (s : State) : (s.setUnit i f).plc = s.plc := by
  unfold State.setUnit; dsimp only; split <;> simp
@[simp] theorem State.setUnit_aud (i : Nat) (f : UnitRec → UnitRec) (s : State) : (s.setUnit i f).aud = s.aud := by
  unfold State.setUnit; dsimp only; split <;> simp
@[simp] theorem State.setUnit_hk (i : Nat) (f : UnitRec → UnitRec) (s : State) : (s.setUnit i f).hk = s.hk := by
  unfold State.setUnit; dsimp only; split <;> simp
@[simp] theorem State.setUnit_nvm (i : Nat) (f : UnitRec → UnitRec) (s : State) : (s.setUnit i f).nvm = s.nvm := by
  unfold State.setUnit; dsimp only; split <;> simp
@[simp] theorem State.setUnit_tp (i : Nat) (f : UnitRec → UnitRec) (s : State) : (s.setUnit i f).tp = s.tp := by
  unfold State.setUnit; dsimp only; split <;> simp
@[simp] theorem State.setUnit_sec (i : Nat) (f : UnitRec → UnitRec) (s : State) : (s.setUnit i f).sec = s.sec := by
  unfold State.setUnit; dsimp only; split <;> simp
@[simp] theorem State.setUnit_tap (i : Nat) (f : UnitRec → UnitRec) (s : State) : (s.setUnit i f).tap = s.tap := by
  unfold State.setUnit; dsimp only; split <;> simp
@[simp] theorem State.setUnit_time (i : Nat) (f : UnitRec → UnitRec) (s : State) : (s.setUnit i f).time = s.time := by
  unfold State.setUnit; dsimp only; split <;> simp
@[simp] theorem State.setUnit_win (i : Nat) (f : UnitRec → UnitRec) (s : State) : (s.setUnit i f).win = s.win := by
  unfold State.setUnit; dsimp only; split <;> simp
@[simp] theorem State.setUnit_free (i : Nat) (f : UnitRec → UnitRec) (s : State) : (s.setUnit i f).free = s.free := by
  unfold State.setUnit; dsimp only; split <;> simp
@[simp] theorem State.setUnit_pending (i : Nat) (f : UnitRec → UnitRec) (s : State) : (s.setUnit i f).pending = s.pending := by
  unfold State.setUnit; dsimp only; split <;> simp
@[simp] theorem State.unitState_id (i n : Nat) (s : State) : (s.unitState i n).id = s.id := by
  simp [State.unitState]
@[simp] theorem State.unitState_pins (i n : Nat) (s : State) : (s.unitState i n).pins = s.pins := by
  simp [State.unitState]
@[simp] theorem State.unitState_pwr (i n : Nat) (s : State) : (s.unitState i n).pwr = s.pwr := by
  simp [State.unitState]
@[simp] theorem State.unitState_gov (i n : Nat) (s : State) : (s.unitState i n).gov = s.gov := by
  simp [State.unitState]
@[simp] theorem State.unitState_clk (i n : Nat) (s : State) : (s.unitState i n).clk = s.clk := by
  simp [State.unitState]
@[simp] theorem State.unitState_own (i n : Nat) (s : State) : (s.unitState i n).own = s.own := by
  simp [State.unitState]
@[simp] theorem State.unitState_mode (i n : Nat) (s : State) : (s.unitState i n).mode = s.mode := by
  simp [State.unitState]
@[simp] theorem State.unitState_cam (i n : Nat) (s : State) : (s.unitState i n).cam = s.cam := by
  simp [State.unitState]
@[simp] theorem State.unitState_isp (i n : Nat) (s : State) : (s.unitState i n).isp = s.isp := by
  simp [State.unitState]
@[simp] theorem State.unitState_depth (i n : Nat) (s : State) : (s.unitState i n).depth = s.depth := by
  simp [State.unitState]
@[simp] theorem State.unitState_scene (i n : Nat) (s : State) : (s.unitState i n).scene = s.scene := by
  simp [State.unitState]
@[simp] theorem State.unitState_leases (i n : Nat) (s : State) : (s.unitState i n).leases = s.leases := by
  simp [State.unitState]
@[simp] theorem State.unitState_ray (i n : Nat) (s : State) : (s.unitState i n).ray = s.ray := by
  simp [State.unitState]
@[simp] theorem State.unitState_cellar (i n : Nat) (s : State) : (s.unitState i n).cellar = s.cellar := by
  simp [State.unitState]
@[simp] theorem State.unitState_layers (i n : Nat) (s : State) : (s.unitState i n).layers = s.layers := by
  simp [State.unitState]
@[simp] theorem State.unitState_hw (i n : Nat) (s : State) : (s.unitState i n).hw = s.hw := by
  simp [State.unitState]
@[simp] theorem State.unitState_disp (i n : Nat) (s : State) : (s.unitState i n).disp = s.disp := by
  simp [State.unitState]
@[simp] theorem State.unitState_scan (i n : Nat) (s : State) : (s.unitState i n).scan = s.scan := by
  simp [State.unitState]
@[simp] theorem State.unitState_pnl (i n : Nat) (s : State) : (s.unitState i n).pnl = s.pnl := by
  simp [State.unitState]
@[simp] theorem State.unitState_lanes (i n : Nat) (s : State) : (s.unitState i n).lanes = s.lanes := by
  simp [State.unitState]
@[simp] theorem State.unitState_mem (i n : Nat) (s : State) : (s.unitState i n).mem = s.mem := by
  simp [State.unitState]
@[simp] theorem State.unitState_churn (i n : Nat) (s : State) : (s.unitState i n).churn = s.churn := by
  simp [State.unitState]
@[simp] theorem State.unitState_plc (i n : Nat) (s : State) : (s.unitState i n).plc = s.plc := by
  simp [State.unitState]
@[simp] theorem State.unitState_aud (i n : Nat) (s : State) : (s.unitState i n).aud = s.aud := by
  simp [State.unitState]
@[simp] theorem State.unitState_hk (i n : Nat) (s : State) : (s.unitState i n).hk = s.hk := by
  simp [State.unitState]
@[simp] theorem State.unitState_nvm (i n : Nat) (s : State) : (s.unitState i n).nvm = s.nvm := by
  simp [State.unitState]
@[simp] theorem State.unitState_tp (i n : Nat) (s : State) : (s.unitState i n).tp = s.tp := by
  simp [State.unitState]
@[simp] theorem State.unitState_sec (i n : Nat) (s : State) : (s.unitState i n).sec = s.sec := by
  simp [State.unitState]
@[simp] theorem State.unitState_tap (i n : Nat) (s : State) : (s.unitState i n).tap = s.tap := by
  simp [State.unitState]
@[simp] theorem State.unitState_time (i n : Nat) (s : State) : (s.unitState i n).time = s.time := by
  simp [State.unitState]
@[simp] theorem State.unitState_win (i n : Nat) (s : State) : (s.unitState i n).win = s.win := by
  simp [State.unitState]
@[simp] theorem State.unitState_free (i n : Nat) (s : State) : (s.unitState i n).free = s.free := by
  simp [State.unitState]
@[simp] theorem State.unitState_pending (i n : Nat) (s : State) : (s.unitState i n).pending = s.pending := by
  simp [State.unitState]
@[simp] theorem State.answer_id (m c g u i : Nat) (d : Bytes) (s : State) : (s.answer m c g u i d).id = s.id := by
  unfold State.answer; dsimp only; split <;> simp
@[simp] theorem State.answer_pins (m c g u i : Nat) (d : Bytes) (s : State) : (s.answer m c g u i d).pins = s.pins := by
  unfold State.answer; dsimp only; split <;> simp
@[simp] theorem State.answer_pwr (m c g u i : Nat) (d : Bytes) (s : State) : (s.answer m c g u i d).pwr = s.pwr := by
  unfold State.answer; dsimp only; split <;> simp
@[simp] theorem State.answer_gov (m c g u i : Nat) (d : Bytes) (s : State) : (s.answer m c g u i d).gov = s.gov := by
  unfold State.answer; dsimp only; split <;> simp
@[simp] theorem State.answer_clk (m c g u i : Nat) (d : Bytes) (s : State) : (s.answer m c g u i d).clk = s.clk := by
  unfold State.answer; dsimp only; split <;> simp
@[simp] theorem State.answer_own (m c g u i : Nat) (d : Bytes) (s : State) : (s.answer m c g u i d).own = s.own := by
  unfold State.answer; dsimp only; split <;> simp
@[simp] theorem State.answer_units (m c g u i : Nat) (d : Bytes) (s : State) : (s.answer m c g u i d).units = s.units := by
  unfold State.answer; dsimp only; split <;> simp
@[simp] theorem State.answer_mode (m c g u i : Nat) (d : Bytes) (s : State) : (s.answer m c g u i d).mode = s.mode := by
  unfold State.answer; dsimp only; split <;> simp
@[simp] theorem State.answer_cam (m c g u i : Nat) (d : Bytes) (s : State) : (s.answer m c g u i d).cam = s.cam := by
  unfold State.answer; dsimp only; split <;> simp
@[simp] theorem State.answer_isp (m c g u i : Nat) (d : Bytes) (s : State) : (s.answer m c g u i d).isp = s.isp := by
  unfold State.answer; dsimp only; split <;> simp
@[simp] theorem State.answer_depth (m c g u i : Nat) (d : Bytes) (s : State) : (s.answer m c g u i d).depth = s.depth := by
  unfold State.answer; dsimp only; split <;> simp
@[simp] theorem State.answer_scene (m c g u i : Nat) (d : Bytes) (s : State) : (s.answer m c g u i d).scene = s.scene := by
  unfold State.answer; dsimp only; split <;> simp
@[simp] theorem State.answer_leases (m c g u i : Nat) (d : Bytes) (s : State) : (s.answer m c g u i d).leases = s.leases := by
  unfold State.answer; dsimp only; split <;> simp
@[simp] theorem State.answer_ray (m c g u i : Nat) (d : Bytes) (s : State) : (s.answer m c g u i d).ray = s.ray := by
  unfold State.answer; dsimp only; split <;> simp
@[simp] theorem State.answer_cellar (m c g u i : Nat) (d : Bytes) (s : State) : (s.answer m c g u i d).cellar = s.cellar := by
  unfold State.answer; dsimp only; split <;> simp
@[simp] theorem State.answer_layers (m c g u i : Nat) (d : Bytes) (s : State) : (s.answer m c g u i d).layers = s.layers := by
  unfold State.answer; dsimp only; split <;> simp
@[simp] theorem State.answer_hw (m c g u i : Nat) (d : Bytes) (s : State) : (s.answer m c g u i d).hw = s.hw := by
  unfold State.answer; dsimp only; split <;> simp
@[simp] theorem State.answer_disp (m c g u i : Nat) (d : Bytes) (s : State) : (s.answer m c g u i d).disp = s.disp := by
  unfold State.answer; dsimp only; split <;> simp
@[simp] theorem State.answer_scan (m c g u i : Nat) (d : Bytes) (s : State) : (s.answer m c g u i d).scan = s.scan := by
  unfold State.answer; dsimp only; split <;> simp
@[simp] theorem State.answer_pnl (m c g u i : Nat) (d : Bytes) (s : State) : (s.answer m c g u i d).pnl = s.pnl := by
  unfold State.answer; dsimp only; split <;> simp
@[simp] theorem State.answer_lanes (m c g u i : Nat) (d : Bytes) (s : State) : (s.answer m c g u i d).lanes = s.lanes := by
  unfold State.answer; dsimp only; split <;> simp
@[simp] theorem State.answer_mem (m c g u i : Nat) (d : Bytes) (s : State) : (s.answer m c g u i d).mem = s.mem := by
  unfold State.answer; dsimp only; split <;> simp
@[simp] theorem State.answer_churn (m c g u i : Nat) (d : Bytes) (s : State) : (s.answer m c g u i d).churn = s.churn := by
  unfold State.answer; dsimp only; split <;> simp
@[simp] theorem State.answer_plc (m c g u i : Nat) (d : Bytes) (s : State) : (s.answer m c g u i d).plc = s.plc := by
  unfold State.answer; dsimp only; split <;> simp
@[simp] theorem State.answer_aud (m c g u i : Nat) (d : Bytes) (s : State) : (s.answer m c g u i d).aud = s.aud := by
  unfold State.answer; dsimp only; split <;> simp
@[simp] theorem State.answer_hk (m c g u i : Nat) (d : Bytes) (s : State) : (s.answer m c g u i d).hk = s.hk := by
  unfold State.answer; dsimp only; split <;> simp
@[simp] theorem State.answer_nvm (m c g u i : Nat) (d : Bytes) (s : State) : (s.answer m c g u i d).nvm = s.nvm := by
  unfold State.answer; dsimp only; split <;> simp
@[simp] theorem State.answer_tp (m c g u i : Nat) (d : Bytes) (s : State) : (s.answer m c g u i d).tp = s.tp := by
  unfold State.answer; dsimp only; split <;> simp
@[simp] theorem State.answer_sec (m c g u i : Nat) (d : Bytes) (s : State) : (s.answer m c g u i d).sec = s.sec := by
  unfold State.answer; dsimp only; split <;> simp
@[simp] theorem State.answer_tap (m c g u i : Nat) (d : Bytes) (s : State) : (s.answer m c g u i d).tap = s.tap := by
  unfold State.answer; dsimp only; split <;> simp
@[simp] theorem State.answer_time (m c g u i : Nat) (d : Bytes) (s : State) : (s.answer m c g u i d).time = s.time := by
  unfold State.answer; dsimp only; split <;> simp
@[simp] theorem State.answer_free (m c g u i : Nat) (d : Bytes) (s : State) : (s.answer m c g u i d).free = s.free := by
  unfold State.answer; dsimp only; split <;> simp
@[simp] theorem State.answer_pending (m c g u i : Nat) (d : Bytes) (s : State) : (s.answer m c g u i d).pending = s.pending := by
  unfold State.answer; dsimp only; split <;> simp
@[simp] theorem State.complete_id (o : PendingOp) (u : Nat) (d : Bytes) (s : State) : (s.complete o u d).id = s.id := by
  simp [State.complete]
@[simp] theorem State.complete_pins (o : PendingOp) (u : Nat) (d : Bytes) (s : State) : (s.complete o u d).pins = s.pins := by
  simp [State.complete]
@[simp] theorem State.complete_pwr (o : PendingOp) (u : Nat) (d : Bytes) (s : State) : (s.complete o u d).pwr = s.pwr := by
  simp [State.complete]
@[simp] theorem State.complete_gov (o : PendingOp) (u : Nat) (d : Bytes) (s : State) : (s.complete o u d).gov = s.gov := by
  simp [State.complete]
@[simp] theorem State.complete_clk (o : PendingOp) (u : Nat) (d : Bytes) (s : State) : (s.complete o u d).clk = s.clk := by
  simp [State.complete]
@[simp] theorem State.complete_own (o : PendingOp) (u : Nat) (d : Bytes) (s : State) : (s.complete o u d).own = s.own := by
  simp [State.complete]
@[simp] theorem State.complete_units (o : PendingOp) (u : Nat) (d : Bytes) (s : State) : (s.complete o u d).units = s.units := by
  simp [State.complete]
@[simp] theorem State.complete_mode (o : PendingOp) (u : Nat) (d : Bytes) (s : State) : (s.complete o u d).mode = s.mode := by
  simp [State.complete]
@[simp] theorem State.complete_cam (o : PendingOp) (u : Nat) (d : Bytes) (s : State) : (s.complete o u d).cam = s.cam := by
  simp [State.complete]
@[simp] theorem State.complete_isp (o : PendingOp) (u : Nat) (d : Bytes) (s : State) : (s.complete o u d).isp = s.isp := by
  simp [State.complete]
@[simp] theorem State.complete_depth (o : PendingOp) (u : Nat) (d : Bytes) (s : State) : (s.complete o u d).depth = s.depth := by
  simp [State.complete]
@[simp] theorem State.complete_scene (o : PendingOp) (u : Nat) (d : Bytes) (s : State) : (s.complete o u d).scene = s.scene := by
  simp [State.complete]
@[simp] theorem State.complete_leases (o : PendingOp) (u : Nat) (d : Bytes) (s : State) : (s.complete o u d).leases = s.leases := by
  simp [State.complete]
@[simp] theorem State.complete_ray (o : PendingOp) (u : Nat) (d : Bytes) (s : State) : (s.complete o u d).ray = s.ray := by
  simp [State.complete]
@[simp] theorem State.complete_cellar (o : PendingOp) (u : Nat) (d : Bytes) (s : State) : (s.complete o u d).cellar = s.cellar := by
  simp [State.complete]
@[simp] theorem State.complete_layers (o : PendingOp) (u : Nat) (d : Bytes) (s : State) : (s.complete o u d).layers = s.layers := by
  simp [State.complete]
@[simp] theorem State.complete_hw (o : PendingOp) (u : Nat) (d : Bytes) (s : State) : (s.complete o u d).hw = s.hw := by
  simp [State.complete]
@[simp] theorem State.complete_disp (o : PendingOp) (u : Nat) (d : Bytes) (s : State) : (s.complete o u d).disp = s.disp := by
  simp [State.complete]
@[simp] theorem State.complete_scan (o : PendingOp) (u : Nat) (d : Bytes) (s : State) : (s.complete o u d).scan = s.scan := by
  simp [State.complete]
@[simp] theorem State.complete_pnl (o : PendingOp) (u : Nat) (d : Bytes) (s : State) : (s.complete o u d).pnl = s.pnl := by
  simp [State.complete]
@[simp] theorem State.complete_lanes (o : PendingOp) (u : Nat) (d : Bytes) (s : State) : (s.complete o u d).lanes = s.lanes := by
  simp [State.complete]
@[simp] theorem State.complete_mem (o : PendingOp) (u : Nat) (d : Bytes) (s : State) : (s.complete o u d).mem = s.mem := by
  simp [State.complete]
@[simp] theorem State.complete_churn (o : PendingOp) (u : Nat) (d : Bytes) (s : State) : (s.complete o u d).churn = s.churn := by
  simp [State.complete]
@[simp] theorem State.complete_plc (o : PendingOp) (u : Nat) (d : Bytes) (s : State) : (s.complete o u d).plc = s.plc := by
  simp [State.complete]
@[simp] theorem State.complete_aud (o : PendingOp) (u : Nat) (d : Bytes) (s : State) : (s.complete o u d).aud = s.aud := by
  simp [State.complete]
@[simp] theorem State.complete_hk (o : PendingOp) (u : Nat) (d : Bytes) (s : State) : (s.complete o u d).hk = s.hk := by
  simp [State.complete]
@[simp] theorem State.complete_tp (o : PendingOp) (u : Nat) (d : Bytes) (s : State) : (s.complete o u d).tp = s.tp := by
  simp [State.complete]
@[simp] theorem State.complete_sec (o : PendingOp) (u : Nat) (d : Bytes) (s : State) : (s.complete o u d).sec = s.sec := by
  simp [State.complete]
@[simp] theorem State.complete_tap (o : PendingOp) (u : Nat) (d : Bytes) (s : State) : (s.complete o u d).tap = s.tap := by
  simp [State.complete]
@[simp] theorem State.complete_time (o : PendingOp) (u : Nat) (d : Bytes) (s : State) : (s.complete o u d).time = s.time := by
  simp [State.complete]
@[simp] theorem State.complete_win (o : PendingOp) (u : Nat) (d : Bytes) (s : State) : (s.complete o u d).win = s.win := by
  simp [State.complete]
@[simp] theorem State.complete_free (o : PendingOp) (u : Nat) (d : Bytes) (s : State) : (s.complete o u d).free = s.free := by
  simp [State.complete]
@[simp] theorem State.complete_pending (o : PendingOp) (u : Nat) (d : Bytes) (s : State) : (s.complete o u d).pending = s.pending := by
  simp [State.complete]

end Sys2Proof.Machine
end

