-- ==== Sys2Proof/Laws/Exec.lean ====
section
/-! SUPPORT. Every command ends in a next state that the hardware condition on SAFE_OK has passed over. -/

namespace Sys2Proof.Machine

/-- An access of a master is done when what it does with its port live is done. -/
theorem byPort_done {m : Nat} {f : State → Result} {s : State} (h : ∃ t, f s = done t) : ∃ t, s.byPort m f = done t := by
  unfold State.byPort
  split
  · exact h
  · exact ⟨_, rfl⟩

theorem execEvrConsumer_done (m : Master) (r : Nat) (v : W32) (s : State) : ∃ t, execEvrConsumer m r v s = done t := by
  refine byPort_done ?_
  dsimp only
  split
  · exact ⟨_, rfl⟩
  · split <;> exact ⟨_, rfl⟩

theorem execEvrLostRead_done (m : Master) (r : Nat) (s : State) : ∃ t, execEvrLostRead m r s = done t := by
  refine byPort_done ?_
  split <;> exact ⟨_, rfl⟩

theorem execMbDoorbell_done (m : Master) (b : Nat) (v : W32) (s : State) : ∃ t, execMbDoorbell m b v s = done t := by
  refine byPort_done ?_
  dsimp only
  split
  · exact ⟨_, rfl⟩
  · split <;> exact ⟨_, rfl⟩

theorem execSvcPresentChange_done (l : Bool) (s : State) : ∃ t, execSvcPresentChange l s = done t := by
  unfold execSvcPresentChange
  split
  · exact ⟨_, rfl⟩
  · dsimp only
    split <;> exact ⟨_, rfl⟩

theorem execPwrOkRise_done (l : Bool) (s : State) : ∃ t, execPwrOkRise l s = done t := by
  unfold execPwrOkRise
  split <;> exact ⟨_, rfl⟩

/-- What a step does outside its command's own effect: it settles SAFE_OK (R266), and it neither faults nor refuses. -/
theorem exec_done (i : Instr) (s : State) : ∃ t, exec i s = done t := by
  cases i <;> first
    | exact ⟨_, rfl⟩
    | (simp only [exec, execDispCommit, execFlipProducer, execChurnProducer, execChurnAbortWrite, execHwPortData, execHwCommit,
        execHwRefresh, execHwFrameRead, execAudioPcmProducer, execSceneProducer, execOwnClaim, execOwnHeartbeat,
        execOwnHandoverToken, execOwnHandover, execOwnRelease]
       exact byPort_done ⟨_, rfl⟩)
    | exact execEvrConsumer_done _ _ _ _
    | exact execEvrLostRead_done _ _ _
    | exact execMbDoorbell_done _ _ _ _
    | exact execSvcPresentChange_done _ _
    | exact execPwrOkRise_done _ _

theorem done_next {s t : State} : done s = .next t ↔ s.settle = t := by simp [done]

/-- The conditions of R266 do not look at the pins or at what the block has driven out. -/
theorem settle_safeConds (s : State) : s.settle.safeConds = s.safeConds := by
  simp [State.safeConds, State.safeMode, State.ageOk]

/-- After the settling, SAFE_OK high means that the conditions hold. -/
theorem settle_safeOk {s : State} (h : s.settle.pins.safeOk = true) : s.safeConds = true := by
  unfold State.settle at h
  split at h
  · simp [State.emit, State.modPins, State.modOut] at h
  · simp_all

end Sys2Proof.Machine
end

