-- ==== Sys2Proof/Laws/Mailbox.lean ====
section
/-! SUPPORT. How a mailbox command is taken and answered, once for every command: a command that is served and passes the
checks of R94 runs its body, and the body's reply decides the state it ends in. -/

namespace Sys2Proof.Machine

@[simp] theorem ctx_m (c : Cmd) (m : Nat) (b : Bytes) : (c.ctx m b).m = m := rfl
@[simp] theorem ctx_code (c : Cmd) (m : Nat) (b : Bytes) : (c.ctx m b).code = c.code := rfl
@[simp] theorem ctx_tag (c : Cmd) (m : Master) (s : State) : (c.ctx m.code (s.frontSlot m.code)).tag = s.tagOf m := rfl
@[simp] theorem ctx_args (c : Cmd) (m : Master) (s : State) : (c.ctx m.code (s.frontSlot m.code)).args = s.argsOf m := rfl
@[simp] theorem ctx_u8 (c : Cmd) (m : Master) (s : State) (o : Nat) : (c.ctx m.code (s.frontSlot m.code)).u8 o = byteAt (s.argsOf m) o := rfl
@[simp] theorem ctx_u16 (c : Cmd) (m : Master) (s : State) (o : Nat) : (c.ctx m.code (s.frontSlot m.code)).u16 o = u16At (s.argsOf m) o := rfl
@[simp] theorem ctx_u32 (c : Cmd) (m : Master) (s : State) (o : Nat) : (c.ctx m.code (s.frontSlot m.code)).u32 o = u32At (s.argsOf m) o := rfl
@[simp] theorem ctx_a40 (c : Cmd) (m : Master) (s : State) (o : Nat) : (c.ctx m.code (s.frontSlot m.code)).a40 o = a40At (s.argsOf m) o := rfl
@[simp] theorem ctx_s16 (c : Cmd) (m : Master) (s : State) (o : Nat) : (c.ctx m.code (s.frontSlot m.code)).s16 o = s16At (s.argsOf m) o := rfl
theorem ctx_base {c : Cmd} {s : State} {m : Master} (h : c.bulk.isSome = true) : (c.ctx m.code (s.frontSlot m.code)).base = s.bulkAt m := by
  simp only [Cmd.ctx, h, if_true]; rfl
theorem ctx_size {c : Cmd} {s : State} {m : Master} (h : c.bulk.isSome = true) : (c.ctx m.code (s.frontSlot m.code)).size = s.bulkLen m := by
  simp only [Cmd.ctx, h, if_true]; rfl
theorem ctx_bulk {c : Cmd} {s t : State} {m : Master} (h : c.bulk.isSome = true) :
    (c.ctx m.code (s.frontSlot m.code)).bulkBytes t = t.devRead (s.bulkAt m) (s.bulkLen m) := by
  simp [Ctx.bulkBytes, ctx_base h, ctx_size h]

/-- A command that is not served, or not at the front of its mailbox, changes nothing. -/
theorem runCmd_not_served {c : Cmd} {present pre body} {m : Master} {s : State}
    (h : (s.serves m.code c.code && s.front m.code c.code) = false) : runCmd c present pre body m s = s := by
  simp [runCmd, h]

theorem classOk_dequeue (s : State) (k c m : Nat) : (s.dequeue k).classOk c m = s.classOk c m := by
  simp [State.classOk, State.isOwner]

/-- The checks of R94 pass. -/
theorem refusal_none {c : Cmd} {present pre} {m : Master} {s : State} (h : Accepts s m c)
    (hp : present (c.ctx m.code (s.frontSlot m.code)) (s.taken m) = none)
    (hq : pre (c.ctx m.code (s.frontSlot m.code)) (s.taken m) = none) :
    (s.dequeue m.code).refusal c present pre (c.ctx m.code (s.frontSlot m.code)) (s.frontSlot m.code) = none := by
  obtain ⟨-, -, hc, ha⟩ := h
  simp only [State.taken] at hp hq
  simp [State.refusal, classOk_dequeue, hc, hp, hq, ha]

/-- A unit that is there is not absent. -/
theorem absentIn_none {o base hi : Nat} {has : State → Nat → Bool} {c : Cmd} {m : Master} {s t : State}
    (h : has t (byteAt (s.argsOf m) o) = true) : absentIn o base hi has (c.ctx m.code (s.frontSlot m.code)) t = none := by
  simp [absentIn, h]

/-- A command without a bulk buffer runs its body on the state after its dequeue. -/
theorem runCmd_body {c : Cmd} {present pre body} {m : Master} {s : State} (h : Accepts s m c) (hb : c.bulk = none)
    (hp : present (c.ctx m.code (s.frontSlot m.code)) (s.taken m) = none)
    (hq : pre (c.ctx m.code (s.frontSlot m.code)) (s.taken m) = none) :
    runCmd c present pre body m s =
      State.reply (c.ctx m.code (s.frontSlot m.code)) (s.taken m) (body (c.ctx m.code (s.frontSlot m.code)) (s.taken m)) := by
  have hr := refusal_none h hp hq
  obtain ⟨hs, hf, -, -⟩ := h
  simp [runCmd, hs, hf, hr, State.refusalBulk, hb, State.taken]

/-- A command with a bulk buffer runs its body with the buffer held. -/
theorem runCmd_body_bulk {c : Cmd} {present pre body} {m : Master} {s : State} (h : Accepts s m c) (hf' : BulkFits s m c)
    (hb : c.bulk.isSome = true)
    (hp : present (c.ctx m.code (s.frontSlot m.code)) (s.taken m) = none)
    (hq : pre (c.ctx m.code (s.frontSlot m.code)) (s.taken m) = none) :
    runCmd c present pre body m s =
      State.reply (c.ctx m.code (s.frontSlot m.code)) (s.takenBulk m) (body (c.ctx m.code (s.frontSlot m.code)) (s.takenBulk m)) := by
  have hr := refusal_none h hp hq
  obtain ⟨hs, hf, -, -⟩ := h
  obtain ⟨h1, h2, h3⟩ := hf'
  have e1 : (s.dequeue m.code).inMemory = s.inMemory := rfl
  have e2 : (s.dequeue m.code).poisoned = s.poisoned := rfl
  have e3 : (s.dequeue m.code).ctl.bulkHolds = s.ctl.bulkHolds := rfl
  have hbase : (c.ctx m.code (s.frontSlot m.code)).base = s.bulkAt m := by simp [Cmd.ctx, hb, State.bulkAt, State.argsOf]
  have hsize : (c.ctx m.code (s.frontSlot m.code)).size = s.bulkLen m := by simp [Cmd.ctx, hb, State.bulkLen, State.argsOf]
  have hk : (s.dequeue m.code).refusalBulk c (c.ctx m.code (s.frontSlot m.code)) = none := by
    simp only [State.refusalBulk, hbase, hsize, e1, e2, e3, h1]
    by_cases h0 : c.bulk = some 0
    · simp [h0, h3 h0, h2]
    · simp [h0, h2]
  simp [runCmd, hs, hf, hr, hk, hb, State.takenBulk, hbase, hsize]

/-- A body that answers ST_OK. -/
theorem exec_ok {c : Cmd} {present pre body} {m : Master} {s t : State} {d : Bytes} (h : Accepts s m c) (hb : c.bulk = none)
    (hp : present (c.ctx m.code (s.frontSlot m.code)) (s.taken m) = none)
    (hq : pre (c.ctx m.code (s.frontSlot m.code)) (s.taken m) = none)
    (hr : body (c.ctx m.code (s.frontSlot m.code)) (s.taken m) = (t, .ok d)) :
    done (runCmd c present pre body m s) = .next (okAfter s m c.code d t) := by
  rw [runCmd_body h hb hp hq, hr]
  rfl

theorem exec_ok_bulk {c : Cmd} {present pre body} {m : Master} {s t : State} {d : Bytes} (h : Accepts s m c) (hf : BulkFits s m c)
    (hb : c.bulk.isSome = true)
    (hp : present (c.ctx m.code (s.frontSlot m.code)) (s.taken m) = none)
    (hq : pre (c.ctx m.code (s.frontSlot m.code)) (s.taken m) = none)
    (hr : body (c.ctx m.code (s.frontSlot m.code)) (s.takenBulk m) = (t, .ok d)) :
    done (runCmd c present pre body m s) = .next (okAfter s m c.code d t) := by
  rw [runCmd_body_bulk h hf hb hp hq, hr]
  rfl

/-- A body that refuses: nothing of it stays (R93). -/
theorem exec_err {c : Cmd} {present pre body} {m : Master} {s t : State} {st o r u : Nat} (h : Accepts s m c) (hb : c.bulk = none)
    (hp : present (c.ctx m.code (s.frontSlot m.code)) (s.taken m) = none)
    (hq : pre (c.ctx m.code (s.frontSlot m.code)) (s.taken m) = none)
    (hr : body (c.ctx m.code (s.frontSlot m.code)) (s.taken m) = (t, .err st o r u)) :
    done (runCmd c present pre body m s) = .next (errAfter s m c.code st o r u) := by
  rw [runCmd_body h hb hp hq, hr]
  rfl

theorem pendingCount_taken (s : State) (m : Master) : (s.taken m).pendingCount m.code = s.pendingCount m.code := by
  simp only [State.pendingCount, State.taken, State.dequeue, State.modBox, State.modCtl, State.box]
  congr 1
  rw [List.getD_eq_getElem?_getD, List.getD_eq_getElem?_getD, List.getElem?_modify]
  cases h : s.ctl.boxes[m.code]? <;> simp

theorem newPid_taken (s : State) (m : Master) : (s.taken m).newPid m = s.newPid m := by
  simp only [State.newPid, State.taken, State.dequeue, State.modBox, State.modCtl, State.box]
  congr 1
  rw [List.getD_eq_getElem?_getD, List.getD_eq_getElem?_getD, List.getElem?_modify]
  cases h : s.ctl.boxes[m.code]? <;> simp

/-- A body that starts an operation (R81: fewer than 16 of the master are pending). -/
theorem exec_pend {c : Cmd} {present pre body} {m : Master} {s t : State} {l a : Nat} (h : Accepts s m c) (hb : c.bulk = none)
    (hn : s.pendingCount m.code < 16)
    (hp : present (c.ctx m.code (s.frontSlot m.code)) (s.taken m) = none)
    (hq : pre (c.ctx m.code (s.frontSlot m.code)) (s.taken m) = none)
    (hr : body (c.ctx m.code (s.frontSlot m.code)) (s.taken m) = (t, .pend l a)) :
    done (runCmd c present pre body m s) = .next (pendAfter s m c.code l a t) := by
  have hn' : ¬ 16 ≤ (s.taken m).pendingCount m.code := by
    rw [pendingCount_taken]
    omega
  have hid := newPid_taken s m
  simp only [State.newPid] at hid
  rw [runCmd_body h hb hp hq, hr]
  simp only [State.reply, ctx_m, hn', if_false, hid]
  rfl

theorem exec_pend_bulk {c : Cmd} {present pre body} {m : Master} {s t : State} {l a : Nat} (h : Accepts s m c) (hf : BulkFits s m c)
    (hb : c.bulk.isSome = true) (hn : s.pendingCount m.code < 16)
    (hp : present (c.ctx m.code (s.frontSlot m.code)) (s.taken m) = none)
    (hq : pre (c.ctx m.code (s.frontSlot m.code)) (s.taken m) = none)
    (hr : body (c.ctx m.code (s.frontSlot m.code)) (s.takenBulk m) = (t, .pend l a)) :
    done (runCmd c present pre body m s) = .next (pendAfter s m c.code l a t) := by
  have hn' : ¬ 16 ≤ (s.takenBulk m).pendingCount m.code := by
    have : (s.takenBulk m).pendingCount m.code = (s.taken m).pendingCount m.code := rfl
    rw [this, pendingCount_taken]
    omega
  have hid : nextPid (List.map (·.id) (List.filter (fun p => p.master == m.code) (s.takenBulk m).ctl.pendingOps)) ((s.takenBulk m).box m.code).nextId 17 = s.newPid m :=
    newPid_taken s m
  rw [runCmd_body_bulk h hf hb hp hq, hr]
  simp only [State.reply, ctx_m, hn', if_false, hid]
  rfl

/-- A body whose answer waits for the hardware. -/
theorem exec_wait {c : Cmd} {present pre body} {m : Master} {s t : State} {l : Nat} (h : Accepts s m c) (hb : c.bulk = none)
    (hp : present (c.ctx m.code (s.frontSlot m.code)) (s.taken m) = none)
    (hq : pre (c.ctx m.code (s.frontSlot m.code)) (s.taken m) = none)
    (hr : body (c.ctx m.code (s.frontSlot m.code)) (s.taken m) = (t, .wait l)) :
    done (runCmd c present pre body m s) = .next (waitAfter s m c.code l t) := by
  rw [runCmd_body h hb hp hq, hr]
  rfl

end Sys2Proof.Machine
end

