-- ==== Sys2Proof/Laws/Memory.lean ====
section
/-! SUPPORT. The memories keep their canonical form under every memory operation, a write is read back, and every other
byte stays. -/

namespace Sys2Proof.Machine

@[simp] theorem memGet_nil (a : Nat) : memGet [] a = 0 := rfl

theorem Memory.wf_nil : Memory.wf [] := ⟨List.Pairwise.nil, fun _ h => by simp at h⟩

theorem Memory.wf_cons {c : Host.Cell} {m : Memory} : Memory.wf (c :: m) ↔ (∀ d ∈ m, c.1 < d.1) ∧ c.2 ≠ 0 ∧ Memory.wf m := by
  simp only [Memory.wf, List.pairwise_cons, List.mem_cons, forall_eq_or_imp]
  tauto

/-- A byte below every listed address reads 0. -/
theorem memGet_below {m : Memory} {a : Nat} (h : ∀ d ∈ m, a < d.1) : memGet m a = 0 := by
  cases m with
  | nil => rfl
  | cons c t => simp [memGet, h c (by simp)]

/-- The addresses listed after a write: the old ones and the written one. -/
theorem mem_memSet {m : Memory} {a : Nat} {v : W8} {d : Host.Cell} (h : d ∈ memSet m a v) : d ∈ m ∨ d = (a, v) := by
  induction m with
  | nil =>
    unfold memSet at h
    split at h <;> simp_all
  | cons c t ih =>
    simp only [memSet] at h
    split at h
    · split at h
      · exact .inl h
      · simp only [List.mem_cons] at h ⊢
        tauto
    · split at h
      · split at h
        · exact .inl (by simp [h])
        · simp only [List.mem_cons] at h ⊢
          tauto
      · simp only [List.mem_cons] at h ⊢
        rcases h with h | h
        · exact .inl (.inl h)
        · have := ih h
          tauto

/-- A write of one byte keeps the canonical form. -/
theorem memSet_wf {m : Memory} (h : m.wf) (a : Nat) (v : W8) : (memSet m a v).wf := by
  induction m with
  | nil =>
    unfold memSet
    split
    · exact Memory.wf_nil
    · exact Memory.wf_cons.2 ⟨by simp, by assumption, Memory.wf_nil⟩
  | cons c t ih =>
    obtain ⟨hlt, hne, ht⟩ := Memory.wf_cons.1 h
    simp only [memSet]
    split
    · split
      · exact h
      · refine Memory.wf_cons.2 ⟨?_, by assumption, h⟩
        intro d hd
        simp only [List.mem_cons] at hd
        rcases hd with rfl | hd
        · assumption
        · exact Nat.lt_trans (by assumption) (hlt d hd)
    · split
      · split
        · exact ht
        · refine Memory.wf_cons.2 ⟨?_, by assumption, ht⟩
          intro d hd
          have := hlt d hd
          simp_all
      · refine Memory.wf_cons.2 ⟨?_, hne, ih ht⟩
        intro d hd
        rcases mem_memSet hd with hd | rfl
        · exact hlt d hd
        · simp only
          omega

/-- A byte written reads back, and every other byte reads as before. -/
theorem memGet_memSet {m : Memory} (h : m.wf) (a : Nat) (v : W8) (b : Nat) :
    memGet (memSet m a v) b = if b = a then v else memGet m b := by
  induction m with
  | nil =>
    unfold memSet
    split
    · simp_all
    · simp only [memGet]
      split <;> split <;> simp_all
  | cons c t ih =>
    obtain ⟨hlt, hne, ht⟩ := Memory.wf_cons.1 h
    have hb := @memGet_below t
    obtain ⟨c, w⟩ := c
    simp only at hlt
    simp only [memSet]
    split
    · rename_i hac
      split
      · rename_i hv
        split
        · rename_i hba
          simp [memGet, hba, hac, hv]
        · rfl
      · simp only [memGet]
        split
        · have : ¬ b = a := by omega
          simp [this]
          intro hcb
          have : b < c := by omega
          omega
        · split <;> simp_all
    · split
      · rename_i hac
        subst hac
        split
        · rename_i hv
          simp only [memGet]
          by_cases hba : b = a
          · subst hba
            simp [hv, hb hlt]
          · simp only [hba, if_false]
            split
            · exact hb fun d hd => Nat.lt_trans (by assumption) (hlt d hd)
            · rfl
        · simp only [memGet]
          by_cases hba : b = a <;> simp [hba]
      · simp only [memGet]
        rw [ih ht]
        by_cases hba : b = a
        · subst hba
          have h1 : ¬ b < c := by omega
          have h2 : ¬ b = c := by omega
          simp [h1, h2]
        · simp [hba]

/-- A write of several bytes keeps the canonical form. -/
theorem memWrite_wf {m : Memory} (h : m.wf) (a : Nat) (d : Bytes) : (memWrite m a d).wf := by
  induction d generalizing m a with
  | nil => exact h
  | cons v t ih => exact ih (memSet_wf h a v) (a + 1)

/-- A byte after a write of several: the byte written to it, or the one before. -/
theorem memGet_memWrite {m : Memory} (h : m.wf) (a : Nat) (d : Bytes) (b : Nat) :
    memGet (memWrite m a d) b = if a ≤ b ∧ b < a + d.length then d.getD (b - a) 0 else memGet m b := by
  induction d generalizing m a with
  | nil =>
    simp only [memWrite, List.length_nil, Nat.add_zero]
    rw [if_neg (by omega)]
  | cons v t ih =>
    simp only [memWrite, List.length_cons]
    rw [ih (memSet_wf h a v) (a + 1), memGet_memSet h]
    by_cases hab : b = a
    · subst hab
      simp
    · by_cases hin : a ≤ b ∧ b < a + (t.length + 1)
      · have h1 : a + 1 ≤ b ∧ b < a + 1 + t.length := by omega
        have h2 : b - a = b - (a + 1) + 1 := by omega
        rw [if_pos h1, if_pos hin, h2]
        simp
      · have h1 : ¬ (a + 1 ≤ b ∧ b < a + 1 + t.length) := by omega
        rw [if_neg h1, if_neg hin, if_neg hab]

/-- Clearing a range keeps the canonical form. -/
theorem memClear_wf {m : Memory} (h : m.wf) (lo hi : Nat) : (memClear m lo hi).wf :=
  ⟨h.1.filter _, fun c hc => h.2 c (List.mem_filter.1 hc).1⟩

@[simp] theorem memRead_length (m : Memory) (a n : Nat) : (memRead m a n).length = n := by
  induction n generalizing a with
  | zero => rfl
  | succ n ih => simp [memRead, ih]

theorem memRead_getD (m : Memory) (a n i : Nat) (h : i < n) : (memRead m a n).getD i 0 = memGet m (a + i) := by
  induction n generalizing a i with
  | zero => omega
  | succ n ih =>
    cases i with
    | zero => simp [memRead]
    | succ i =>
      simp only [memRead, List.getD_cons_succ]
      rw [ih (a + 1) i (by omega)]
      congr 1
      omega

/-- What was written is read back. -/
theorem memRead_memWrite {m : Memory} (h : m.wf) (a : Nat) (d : Bytes) : memRead (memWrite m a d) a d.length = d := by
  apply List.ext_getElem (by simp)
  intro i h1 h2
  have := memRead_getD (memWrite m a d) a d.length i h2
  rw [memGet_memWrite h, if_pos (by omega)] at this
  simpa [List.getD_eq_getElem?_getD, h1, h2] using this

end Sys2Proof.Machine
end

