-- ==== Sys2Proof/Laws/Operations.lean ====
section
/-! SUPPORT. What the operations on memory, records, power domains and Churn leave unchanged: one lemma per operation and
untouched part of State. -/

namespace Sys2Proof.Machine

theorem State.when_id (b : Bool) (g : State → State) (s : State) (h : (g s).id = s.id) : (s.when b g).id = s.id := by
  unfold State.when; split
  · exact h
  · rfl
theorem State.when_pins (b : Bool) (g : State → State) (s : State) (h : (g s).pins = s.pins) : (s.when b g).pins = s.pins := by
  unfold State.when; split
  · exact h
  · rfl
theorem State.when_pwr (b : Bool) (g : State → State) (s : State) (h : (g s).pwr = s.pwr) : (s.when b g).pwr = s.pwr := by
  unfold State.when; split
  · exact h
  · rfl
theorem State.when_gov (b : Bool) (g : State → State) (s : State) (h : (g s).gov = s.gov) : (s.when b g).gov = s.gov := by
  unfold State.when; split
  · exact h
  · rfl
theorem State.when_clk (b : Bool) (g : State → State) (s : State) (h : (g s).clk = s.clk) : (s.when b g).clk = s.clk := by
  unfold State.when; split
  · exact h
  · rfl
theorem State.when_own (b : Bool) (g : State → State) (s : State) (h : (g s).own = s.own) : (s.when b g).own = s.own := by
  unfold State.when; split
  · exact h
  · rfl
theorem State.when_ctl (b : Bool) (g : State → State) (s : State) (h : (g s).ctl = s.ctl) : (s.when b g).ctl = s.ctl := by
  unfold State.when; split
  · exact h
  · rfl
theorem State.when_units (b : Bool) (g : State → State) (s : State) (h : (g s).units = s.units) : (s.when b g).units = s.units := by
  unfold State.when; split
  · exact h
  · rfl
theorem State.when_mode (b : Bool) (g : State → State) (s : State) (h : (g s).mode = s.mode) : (s.when b g).mode = s.mode := by
  unfold State.when; split
  · exact h
  · rfl
theorem State.when_cam (b : Bool) (g : State → State) (s : State) (h : (g s).cam = s.cam) : (s.when b g).cam = s.cam := by
  unfold State.when; split
  · exact h
  · rfl
theorem State.when_isp (b : Bool) (g : State → State) (s : State) (h : (g s).isp = s.isp) : (s.when b g).isp = s.isp := by
  unfold State.when; split
  · exact h
  · rfl
theorem State.when_depth (b : Bool) (g : State → State) (s : State) (h : (g s).depth = s.depth) : (s.when b g).depth = s.depth := by
  unfold State.when; split
  · exact h
  · rfl
theorem State.when_scene (b : Bool) (g : State → State) (s : State) (h : (g s).scene = s.scene) : (s.when b g).scene = s.scene := by
  unfold State.when; split
  · exact h
  · rfl
theorem State.when_leases (b : Bool) (g : State → State) (s : State) (h : (g s).leases = s.leases) : (s.when b g).leases = s.leases := by
  unfold State.when; split
  · exact h
  · rfl
theorem State.when_ray (b : Bool) (g : State → State) (s : State) (h : (g s).ray = s.ray) : (s.when b g).ray = s.ray := by
  unfold State.when; split
  · exact h
  · rfl
theorem State.when_cellar (b : Bool) (g : State → State) (s : State) (h : (g s).cellar = s.cellar) : (s.when b g).cellar = s.cellar := by
  unfold State.when; split
  · exact h
  · rfl
theorem State.when_layers (b : Bool) (g : State → State) (s : State) (h : (g s).layers = s.layers) : (s.when b g).layers = s.layers := by
  unfold State.when; split
  · exact h
  · rfl
theorem State.when_hw (b : Bool) (g : State → State) (s : State) (h : (g s).hw = s.hw) : (s.when b g).hw = s.hw := by
  unfold State.when; split
  · exact h
  · rfl
theorem State.when_disp (b : Bool) (g : State → State) (s : State) (h : (g s).disp = s.disp) : (s.when b g).disp = s.disp := by
  unfold State.when; split
  · exact h
  · rfl
theorem State.when_scan (b : Bool) (g : State → State) (s : State) (h : (g s).scan = s.scan) : (s.when b g).scan = s.scan := by
  unfold State.when; split
  · exact h
  · rfl
theorem State.when_pnl (b : Bool) (g : State → State) (s : State) (h : (g s).pnl = s.pnl) : (s.when b g).pnl = s.pnl := by
  unfold State.when; split
  · exact h
  · rfl
theorem State.when_lanes (b : Bool) (g : State → State) (s : State) (h : (g s).lanes = s.lanes) : (s.when b g).lanes = s.lanes := by
  unfold State.when; split
  · exact h
  · rfl
theorem State.when_mem (b : Bool) (g : State → State) (s : State) (h : (g s).mem = s.mem) : (s.when b g).mem = s.mem := by
  unfold State.when; split
  · exact h
  · rfl
theorem State.when_churn (b : Bool) (g : State → State) (s : State) (h : (g s).churn = s.churn) : (s.when b g).churn = s.churn := by
  unfold State.when; split
  · exact h
  · rfl
theorem State.when_plc (b : Bool) (g : State → State) (s : State) (h : (g s).plc = s.plc) : (s.when b g).plc = s.plc := by
  unfold State.when; split
  · exact h
  · rfl
theorem State.when_aud (b : Bool) (g : State → State) (s : State) (h : (g s).aud = s.aud) : (s.when b g).aud = s.aud := by
  unfold State.when; split
  · exact h
  · rfl
theorem State.when_hk (b : Bool) (g : State → State) (s : State) (h : (g s).hk = s.hk) : (s.when b g).hk = s.hk := by
  unfold State.when; split
  · exact h
  · rfl
theorem State.when_nvm (b : Bool) (g : State → State) (s : State) (h : (g s).nvm = s.nvm) : (s.when b g).nvm = s.nvm := by
  unfold State.when; split
  · exact h
  · rfl
theorem State.when_tp (b : Bool) (g : State → State) (s : State) (h : (g s).tp = s.tp) : (s.when b g).tp = s.tp := by
  unfold State.when; split
  · exact h
  · rfl
theorem State.when_sec (b : Bool) (g : State → State) (s : State) (h : (g s).sec = s.sec) : (s.when b g).sec = s.sec := by
  unfold State.when; split
  · exact h
  · rfl
theorem State.when_tap (b : Bool) (g : State → State) (s : State) (h : (g s).tap = s.tap) : (s.when b g).tap = s.tap := by
  unfold State.when; split
  · exact h
  · rfl
theorem State.when_time (b : Bool) (g : State → State) (s : State) (h : (g s).time = s.time) : (s.when b g).time = s.time := by
  unfold State.when; split
  · exact h
  · rfl
theorem State.when_win (b : Bool) (g : State → State) (s : State) (h : (g s).win = s.win) : (s.when b g).win = s.win := by
  unfold State.when; split
  · exact h
  · rfl
theorem State.when_out (b : Bool) (g : State → State) (s : State) (h : (g s).out = s.out) : (s.when b g).out = s.out := by
  unfold State.when; split
  · exact h
  · rfl
theorem State.when_free (b : Bool) (g : State → State) (s : State) (h : (g s).free = s.free) : (s.when b g).free = s.free := by
  unfold State.when; split
  · exact h
  · rfl
theorem State.when_pending (b : Bool) (g : State → State) (s : State) (h : (g s).pending = s.pending) : (s.when b g).pending = s.pending := by
  unfold State.when; split
  · exact h
  · rfl
@[simp] theorem State.completeAll_id (c u : Nat) (d : Bytes) (s : State) : (s.completeAll c u d).id = s.id := by
  unfold State.completeAll
  refine List.foldlRecOn (motive := fun t : State => t.id = s.id) _ _ (by simp) fun t ht m _ => ?_
  simp_all
@[simp] theorem State.completeAll_pins (c u : Nat) (d : Bytes) (s : State) : (s.completeAll c u d).pins = s.pins := by
  unfold State.completeAll
  refine List.foldlRecOn (motive := fun t : State => t.pins = s.pins) _ _ (by simp) fun t ht m _ => ?_
  simp_all
@[simp] theorem State.completeAll_pwr (c u : Nat) (d : Bytes) (s : State) : (s.completeAll c u d).pwr = s.pwr := by
  unfold State.completeAll
  refine List.foldlRecOn (motive := fun t : State => t.pwr = s.pwr) _ _ (by simp) fun t ht m _ => ?_
  simp_all
@[simp] theorem State.completeAll_gov (c u : Nat) (d : Bytes) (s : State) : (s.completeAll c u d).gov = s.gov := by
  unfold State.completeAll
  refine List.foldlRecOn (motive := fun t : State => t.gov = s.gov) _ _ (by simp) fun t ht m _ => ?_
  simp_all
@[simp] theorem State.completeAll_clk (c u : Nat) (d : Bytes) (s : State) : (s.completeAll c u d).clk = s.clk := by
  unfold State.completeAll
  refine List.foldlRecOn (motive := fun t : State => t.clk = s.clk) _ _ (by simp) fun t ht m _ => ?_
  simp_all
@[simp] theorem State.completeAll_own (c u : Nat) (d : Bytes) (s : State) : (s.completeAll c u d).own = s.own := by
  unfold State.completeAll
  refine List.foldlRecOn (motive := fun t : State => t.own = s.own) _ _ (by simp) fun t ht m _ => ?_
  simp_all
@[simp] theorem State.completeAll_units (c u : Nat) (d : Bytes) (s : State) : (s.completeAll c u d).units = s.units := by
  unfold State.completeAll
  refine List.foldlRecOn (motive := fun t : State => t.units = s.units) _ _ (by simp) fun t ht m _ => ?_
  simp_all
@[simp] theorem State.completeAll_mode (c u : Nat) (d : Bytes) (s : State) : (s.completeAll c u d).mode = s.mode := by
  unfold State.completeAll
  refine List.foldlRecOn (motive := fun t : State => t.mode = s.mode) _ _ (by simp) fun t ht m _ => ?_
  simp_all
@[simp] theorem State.completeAll_cam (c u : Nat) (d : Bytes) (s : State) : (s.completeAll c u d).cam = s.cam := by
  unfold State.completeAll
  refine List.foldlRecOn (motive := fun t : State => t.cam = s.cam) _ _ (by simp) fun t ht m _ => ?_
  simp_all
@[simp] theorem State.completeAll_isp (c u : Nat) (d : Bytes) (s : State) : (s.completeAll c u d).isp = s.isp := by
  unfold State.completeAll
  refine List.foldlRecOn (motive := fun t : State => t.isp = s.isp) _ _ (by simp) fun t ht m _ => ?_
  simp_all
@[simp] theorem State.completeAll_depth (c u : Nat) (d : Bytes) (s : State) : (s.completeAll c u d).depth = s.depth := by
  unfold State.completeAll
  refine List.foldlRecOn (motive := fun t : State => t.depth = s.depth) _ _ (by simp) fun t ht m _ => ?_
  simp_all
@[simp] theorem State.completeAll_scene (c u : Nat) (d : Bytes) (s : State) : (s.completeAll c u d).scene = s.scene := by
  unfold State.completeAll
  refine List.foldlRecOn (motive := fun t : State => t.scene = s.scene) _ _ (by simp) fun t ht m _ => ?_
  simp_all
@[simp] theorem State.completeAll_leases (c u : Nat) (d : Bytes) (s : State) : (s.completeAll c u d).leases = s.leases := by
  unfold State.completeAll
  refine List.foldlRecOn (motive := fun t : State => t.leases = s.leases) _ _ (by simp) fun t ht m _ => ?_
  simp_all
@[simp] theorem State.completeAll_ray (c u : Nat) (d : Bytes) (s : State) : (s.completeAll c u d).ray = s.ray := by
  unfold State.completeAll
  refine List.foldlRecOn (motive := fun t : State => t.ray = s.ray) _ _ (by simp) fun t ht m _ => ?_
  simp_all
@[simp] theorem State.completeAll_cellar (c u : Nat) (d : Bytes) (s : State) : (s.completeAll c u d).cellar = s.cellar := by
  unfold State.completeAll
  refine List.foldlRecOn (motive := fun t : State => t.cellar = s.cellar) _ _ (by simp) fun t ht m _ => ?_
  simp_all
@[simp] theorem State.completeAll_layers (c u : Nat) (d : Bytes) (s : State) : (s.completeAll c u d).layers = s.layers := by
  unfold State.completeAll
  refine List.foldlRecOn (motive := fun t : State => t.layers = s.layers) _ _ (by simp) fun t ht m _ => ?_
  simp_all
@[simp] theorem State.completeAll_hw (c u : Nat) (d : Bytes) (s : State) : (s.completeAll c u d).hw = s.hw := by
  unfold State.completeAll
  refine List.foldlRecOn (motive := fun t : State => t.hw = s.hw) _ _ (by simp) fun t ht m _ => ?_
  simp_all
@[simp] theorem State.completeAll_disp (c u : Nat) (d : Bytes) (s : State) : (s.completeAll c u d).disp = s.disp := by
  unfold State.completeAll
  refine List.foldlRecOn (motive := fun t : State => t.disp = s.disp) _ _ (by simp) fun t ht m _ => ?_
  simp_all
@[simp] theorem State.completeAll_scan (c u : Nat) (d : Bytes) (s : State) : (s.completeAll c u d).scan = s.scan := by
  unfold State.completeAll
  refine List.foldlRecOn (motive := fun t : State => t.scan = s.scan) _ _ (by simp) fun t ht m _ => ?_
  simp_all
@[simp] theorem State.completeAll_pnl (c u : Nat) (d : Bytes) (s : State) : (s.completeAll c u d).pnl = s.pnl := by
  unfold State.completeAll
  refine List.foldlRecOn (motive := fun t : State => t.pnl = s.pnl) _ _ (by simp) fun t ht m _ => ?_
  simp_all
@[simp] theorem State.completeAll_lanes (c u : Nat) (d : Bytes) (s : State) : (s.completeAll c u d).lanes = s.lanes := by
  unfold State.completeAll
  refine List.foldlRecOn (motive := fun t : State => t.lanes = s.lanes) _ _ (by simp) fun t ht m _ => ?_
  simp_all
@[simp] theorem State.completeAll_mem (c u : Nat) (d : Bytes) (s : State) : (s.completeAll c u d).mem = s.mem := by
  unfold State.completeAll
  refine List.foldlRecOn (motive := fun t : State => t.mem = s.mem) _ _ (by simp) fun t ht m _ => ?_
  simp_all
@[simp] theorem State.completeAll_churn (c u : Nat) (d : Bytes) (s : State) : (s.completeAll c u d).churn = s.churn := by
  unfold State.completeAll
  refine List.foldlRecOn (motive := fun t : State => t.churn = s.churn) _ _ (by simp) fun t ht m _ => ?_
  simp_all
@[simp] theorem State.completeAll_plc (c u : Nat) (d : Bytes) (s : State) : (s.completeAll c u d).plc = s.plc := by
  unfold State.completeAll
  refine List.foldlRecOn (motive := fun t : State => t.plc = s.plc) _ _ (by simp) fun t ht m _ => ?_
  simp_all
@[simp] theorem State.completeAll_aud (c u : Nat) (d : Bytes) (s : State) : (s.completeAll c u d).aud = s.aud := by
  unfold State.completeAll
  refine List.foldlRecOn (motive := fun t : State => t.aud = s.aud) _ _ (by simp) fun t ht m _ => ?_
  simp_all
@[simp] theorem State.completeAll_hk (c u : Nat) (d : Bytes) (s : State) : (s.completeAll c u d).hk = s.hk := by
  unfold State.completeAll
  refine List.foldlRecOn (motive := fun t : State => t.hk = s.hk) _ _ (by simp) fun t ht m _ => ?_
  simp_all
@[simp] theorem State.completeAll_tp (c u : Nat) (d : Bytes) (s : State) : (s.completeAll c u d).tp = s.tp := by
  unfold State.completeAll
  refine List.foldlRecOn (motive := fun t : State => t.tp = s.tp) _ _ (by simp) fun t ht m _ => ?_
  simp_all
@[simp] theorem State.completeAll_sec (c u : Nat) (d : Bytes) (s : State) : (s.completeAll c u d).sec = s.sec := by
  unfold State.completeAll
  refine List.foldlRecOn (motive := fun t : State => t.sec = s.sec) _ _ (by simp) fun t ht m _ => ?_
  simp_all
@[simp] theorem State.completeAll_tap (c u : Nat) (d : Bytes) (s : State) : (s.completeAll c u d).tap = s.tap := by
  unfold State.completeAll
  refine List.foldlRecOn (motive := fun t : State => t.tap = s.tap) _ _ (by simp) fun t ht m _ => ?_
  simp_all
@[simp] theorem State.completeAll_time (c u : Nat) (d : Bytes) (s : State) : (s.completeAll c u d).time = s.time := by
  unfold State.completeAll
  refine List.foldlRecOn (motive := fun t : State => t.time = s.time) _ _ (by simp) fun t ht m _ => ?_
  simp_all
@[simp] theorem State.completeAll_win (c u : Nat) (d : Bytes) (s : State) : (s.completeAll c u d).win = s.win := by
  unfold State.completeAll
  refine List.foldlRecOn (motive := fun t : State => t.win = s.win) _ _ (by simp) fun t ht m _ => ?_
  simp_all
@[simp] theorem State.completeAll_free (c u : Nat) (d : Bytes) (s : State) : (s.completeAll c u d).free = s.free := by
  unfold State.completeAll
  refine List.foldlRecOn (motive := fun t : State => t.free = s.free) _ _ (by simp) fun t ht m _ => ?_
  simp_all
@[simp] theorem State.completeAll_pending (c u : Nat) (d : Bytes) (s : State) : (s.completeAll c u d).pending = s.pending := by
  unfold State.completeAll
  refine List.foldlRecOn (motive := fun t : State => t.pending = s.pending) _ _ (by simp) fun t ht m _ => ?_
  simp_all
@[simp] theorem State.modDom_id (d : Nat) (g : Domain → Domain) (s : State) : (s.modDom d g).id = s.id := rfl
@[simp] theorem State.modDom_pins (d : Nat) (g : Domain → Domain) (s : State) : (s.modDom d g).pins = s.pins := rfl
@[simp] theorem State.modDom_gov (d : Nat) (g : Domain → Domain) (s : State) : (s.modDom d g).gov = s.gov := rfl
@[simp] theorem State.modDom_clk (d : Nat) (g : Domain → Domain) (s : State) : (s.modDom d g).clk = s.clk := rfl
@[simp] theorem State.modDom_own (d : Nat) (g : Domain → Domain) (s : State) : (s.modDom d g).own = s.own := rfl
@[simp] theorem State.modDom_ctl (d : Nat) (g : Domain → Domain) (s : State) : (s.modDom d g).ctl = s.ctl := rfl
@[simp] theorem State.modDom_units (d : Nat) (g : Domain → Domain) (s : State) : (s.modDom d g).units = s.units := rfl
@[simp] theorem State.modDom_mode (d : Nat) (g : Domain → Domain) (s : State) : (s.modDom d g).mode = s.mode := rfl
@[simp] theorem State.modDom_cam (d : Nat) (g : Domain → Domain) (s : State) : (s.modDom d g).cam = s.cam := rfl
@[simp] theorem State.modDom_isp (d : Nat) (g : Domain → Domain) (s : State) : (s.modDom d g).isp = s.isp := rfl
@[simp] theorem State.modDom_depth (d : Nat) (g : Domain → Domain) (s : State) : (s.modDom d g).depth = s.depth := rfl
@[simp] theorem State.modDom_scene (d : Nat) (g : Domain → Domain) (s : State) : (s.modDom d g).scene = s.scene := rfl
@[simp] theorem State.modDom_leases (d : Nat) (g : Domain → Domain) (s : State) : (s.modDom d g).leases = s.leases := rfl
@[simp] theorem State.modDom_ray (d : Nat) (g : Domain → Domain) (s : State) : (s.modDom d g).ray = s.ray := rfl
@[simp] theorem State.modDom_cellar (d : Nat) (g : Domain → Domain) (s : State) : (s.modDom d g).cellar = s.cellar := rfl
@[simp] theorem State.modDom_layers (d : Nat) (g : Domain → Domain) (s : State) : (s.modDom d g).layers = s.layers := rfl
@[simp] theorem State.modDom_hw (d : Nat) (g : Domain → Domain) (s : State) : (s.modDom d g).hw = s.hw := rfl
@[simp] theorem State.modDom_disp (d : Nat) (g : Domain → Domain) (s : State) : (s.modDom d g).disp = s.disp := rfl
@[simp] theorem State.modDom_scan (d : Nat) (g : Domain → Domain) (s : State) : (s.modDom d g).scan = s.scan := rfl
@[simp] theorem State.modDom_pnl (d : Nat) (g : Domain → Domain) (s : State) : (s.modDom d g).pnl = s.pnl := rfl
@[simp] theorem State.modDom_lanes (d : Nat) (g : Domain → Domain) (s : State) : (s.modDom d g).lanes = s.lanes := rfl
@[simp] theorem State.modDom_mem (d : Nat) (g : Domain → Domain) (s : State) : (s.modDom d g).mem = s.mem := rfl
@[simp] theorem State.modDom_churn (d : Nat) (g : Domain → Domain) (s : State) : (s.modDom d g).churn = s.churn := rfl
@[simp] theorem State.modDom_plc (d : Nat) (g : Domain → Domain) (s : State) : (s.modDom d g).plc = s.plc := rfl
@[simp] theorem State.modDom_aud (d : Nat) (g : Domain → Domain) (s : State) : (s.modDom d g).aud = s.aud := rfl
@[simp] theorem State.modDom_hk (d : Nat) (g : Domain → Domain) (s : State) : (s.modDom d g).hk = s.hk := rfl
@[simp] theorem State.modDom_nvm (d : Nat) (g : Domain → Domain) (s : State) : (s.modDom d g).nvm = s.nvm := rfl
@[simp] theorem State.modDom_tp (d : Nat) (g : Domain → Domain) (s : State) : (s.modDom d g).tp = s.tp := rfl
@[simp] theorem State.modDom_sec (d : Nat) (g : Domain → Domain) (s : State) : (s.modDom d g).sec = s.sec := rfl
@[simp] theorem State.modDom_tap (d : Nat) (g : Domain → Domain) (s : State) : (s.modDom d g).tap = s.tap := rfl
@[simp] theorem State.modDom_time (d : Nat) (g : Domain → Domain) (s : State) : (s.modDom d g).time = s.time := rfl
@[simp] theorem State.modDom_win (d : Nat) (g : Domain → Domain) (s : State) : (s.modDom d g).win = s.win := rfl
@[simp] theorem State.modDom_out (d : Nat) (g : Domain → Domain) (s : State) : (s.modDom d g).out = s.out := rfl
@[simp] theorem State.modDom_free (d : Nat) (g : Domain → Domain) (s : State) : (s.modDom d g).free = s.free := rfl
@[simp] theorem State.modDom_pending (d : Nat) (g : Domain → Domain) (s : State) : (s.modDom d g).pending = s.pending := rfl
@[simp] theorem State.modChan_id (n : Nat) (g : MemCh → MemCh) (s : State) : (s.modChan n g).id = s.id := rfl
@[simp] theorem State.modChan_pins (n : Nat) (g : MemCh → MemCh) (s : State) : (s.modChan n g).pins = s.pins := rfl
@[simp] theorem State.modChan_pwr (n : Nat) (g : MemCh → MemCh) (s : State) : (s.modChan n g).pwr = s.pwr := rfl
@[simp] theorem State.modChan_gov (n : Nat) (g : MemCh → MemCh) (s : State) : (s.modChan n g).gov = s.gov := rfl
@[simp] theorem State.modChan_clk (n : Nat) (g : MemCh → MemCh) (s : State) : (s.modChan n g).clk = s.clk := rfl
@[simp] theorem State.modChan_own (n : Nat) (g : MemCh → MemCh) (s : State) : (s.modChan n g).own = s.own := rfl
@[simp] theorem State.modChan_ctl (n : Nat) (g : MemCh → MemCh) (s : State) : (s.modChan n g).ctl = s.ctl := rfl
@[simp] theorem State.modChan_units (n : Nat) (g : MemCh → MemCh) (s : State) : (s.modChan n g).units = s.units := rfl
@[simp] theorem State.modChan_mode (n : Nat) (g : MemCh → MemCh) (s : State) : (s.modChan n g).mode = s.mode := rfl
@[simp] theorem State.modChan_cam (n : Nat) (g : MemCh → MemCh) (s : State) : (s.modChan n g).cam = s.cam := rfl
@[simp] theorem State.modChan_isp (n : Nat) (g : MemCh → MemCh) (s : State) : (s.modChan n g).isp = s.isp := rfl
@[simp] theorem State.modChan_depth (n : Nat) (g : MemCh → MemCh) (s : State) : (s.modChan n g).depth = s.depth := rfl
@[simp] theorem State.modChan_scene (n : Nat) (g : MemCh → MemCh) (s : State) : (s.modChan n g).scene = s.scene := rfl
@[simp] theorem State.modChan_leases (n : Nat) (g : MemCh → MemCh) (s : State) : (s.modChan n g).leases = s.leases := rfl
@[simp] theorem State.modChan_ray (n : Nat) (g : MemCh → MemCh) (s : State) : (s.modChan n g).ray = s.ray := rfl
@[simp] theorem State.modChan_cellar (n : Nat) (g : MemCh → MemCh) (s : State) : (s.modChan n g).cellar = s.cellar := rfl
@[simp] theorem State.modChan_layers (n : Nat) (g : MemCh → MemCh) (s : State) : (s.modChan n g).layers = s.layers := rfl
@[simp] theorem State.modChan_hw (n : Nat) (g : MemCh → MemCh) (s : State) : (s.modChan n g).hw = s.hw := rfl
@[simp] theorem State.modChan_disp (n : Nat) (g : MemCh → MemCh) (s : State) : (s.modChan n g).disp = s.disp := rfl
@[simp] theorem State.modChan_scan (n : Nat) (g : MemCh → MemCh) (s : State) : (s.modChan n g).scan = s.scan := rfl
@[simp] theorem State.modChan_pnl (n : Nat) (g : MemCh → MemCh) (s : State) : (s.modChan n g).pnl = s.pnl := rfl
@[simp] theorem State.modChan_lanes (n : Nat) (g : MemCh → MemCh) (s : State) : (s.modChan n g).lanes = s.lanes := rfl
@[simp] theorem State.modChan_churn (n : Nat) (g : MemCh → MemCh) (s : State) : (s.modChan n g).churn = s.churn := rfl
@[simp] theorem State.modChan_plc (n : Nat) (g : MemCh → MemCh) (s : State) : (s.modChan n g).plc = s.plc := rfl
@[simp] theorem State.modChan_aud (n : Nat) (g : MemCh → MemCh) (s : State) : (s.modChan n g).aud = s.aud := rfl
@[simp] theorem State.modChan_hk (n : Nat) (g : MemCh → MemCh) (s : State) : (s.modChan n g).hk = s.hk := rfl
@[simp] theorem State.modChan_nvm (n : Nat) (g : MemCh → MemCh) (s : State) : (s.modChan n g).nvm = s.nvm := rfl
@[simp] theorem State.modChan_tp (n : Nat) (g : MemCh → MemCh) (s : State) : (s.modChan n g).tp = s.tp := rfl
@[simp] theorem State.modChan_sec (n : Nat) (g : MemCh → MemCh) (s : State) : (s.modChan n g).sec = s.sec := rfl
@[simp] theorem State.modChan_tap (n : Nat) (g : MemCh → MemCh) (s : State) : (s.modChan n g).tap = s.tap := rfl
@[simp] theorem State.modChan_time (n : Nat) (g : MemCh → MemCh) (s : State) : (s.modChan n g).time = s.time := rfl
@[simp] theorem State.modChan_win (n : Nat) (g : MemCh → MemCh) (s : State) : (s.modChan n g).win = s.win := rfl
@[simp] theorem State.modChan_out (n : Nat) (g : MemCh → MemCh) (s : State) : (s.modChan n g).out = s.out := rfl
@[simp] theorem State.modChan_free (n : Nat) (g : MemCh → MemCh) (s : State) : (s.modChan n g).free = s.free := rfl
@[simp] theorem State.modChan_pending (n : Nat) (g : MemCh → MemCh) (s : State) : (s.modChan n g).pending = s.pending := rfl
@[simp] theorem State.modChq_id (q : Nat) (g : ChurnQ → ChurnQ) (s : State) : (s.modChq q g).id = s.id := rfl
@[simp] theorem State.modChq_pins (q : Nat) (g : ChurnQ → ChurnQ) (s : State) : (s.modChq q g).pins = s.pins := rfl
@[simp] theorem State.modChq_pwr (q : Nat) (g : ChurnQ → ChurnQ) (s : State) : (s.modChq q g).pwr = s.pwr := rfl
@[simp] theorem State.modChq_gov (q : Nat) (g : ChurnQ → ChurnQ) (s : State) : (s.modChq q g).gov = s.gov := rfl
@[simp] theorem State.modChq_clk (q : Nat) (g : ChurnQ → ChurnQ) (s : State) : (s.modChq q g).clk = s.clk := rfl
@[simp] theorem State.modChq_own (q : Nat) (g : ChurnQ → ChurnQ) (s : State) : (s.modChq q g).own = s.own := rfl
@[simp] theorem State.modChq_ctl (q : Nat) (g : ChurnQ → ChurnQ) (s : State) : (s.modChq q g).ctl = s.ctl := rfl
@[simp] theorem State.modChq_units (q : Nat) (g : ChurnQ → ChurnQ) (s : State) : (s.modChq q g).units = s.units := rfl
@[simp] theorem State.modChq_mode (q : Nat) (g : ChurnQ → ChurnQ) (s : State) : (s.modChq q g).mode = s.mode := rfl
@[simp] theorem State.modChq_cam (q : Nat) (g : ChurnQ → ChurnQ) (s : State) : (s.modChq q g).cam = s.cam := rfl
@[simp] theorem State.modChq_isp (q : Nat) (g : ChurnQ → ChurnQ) (s : State) : (s.modChq q g).isp = s.isp := rfl
@[simp] theorem State.modChq_depth (q : Nat) (g : ChurnQ → ChurnQ) (s : State) : (s.modChq q g).depth = s.depth := rfl
@[simp] theorem State.modChq_scene (q : Nat) (g : ChurnQ → ChurnQ) (s : State) : (s.modChq q g).scene = s.scene := rfl
@[simp] theorem State.modChq_leases (q : Nat) (g : ChurnQ → ChurnQ) (s : State) : (s.modChq q g).leases = s.leases := rfl
@[simp] theorem State.modChq_ray (q : Nat) (g : ChurnQ → ChurnQ) (s : State) : (s.modChq q g).ray = s.ray := rfl
@[simp] theorem State.modChq_cellar (q : Nat) (g : ChurnQ → ChurnQ) (s : State) : (s.modChq q g).cellar = s.cellar := rfl
@[simp] theorem State.modChq_layers (q : Nat) (g : ChurnQ → ChurnQ) (s : State) : (s.modChq q g).layers = s.layers := rfl
@[simp] theorem State.modChq_hw (q : Nat) (g : ChurnQ → ChurnQ) (s : State) : (s.modChq q g).hw = s.hw := rfl
@[simp] theorem State.modChq_disp (q : Nat) (g : ChurnQ → ChurnQ) (s : State) : (s.modChq q g).disp = s.disp := rfl
@[simp] theorem State.modChq_scan (q : Nat) (g : ChurnQ → ChurnQ) (s : State) : (s.modChq q g).scan = s.scan := rfl
@[simp] theorem State.modChq_pnl (q : Nat) (g : ChurnQ → ChurnQ) (s : State) : (s.modChq q g).pnl = s.pnl := rfl
@[simp] theorem State.modChq_lanes (q : Nat) (g : ChurnQ → ChurnQ) (s : State) : (s.modChq q g).lanes = s.lanes := rfl
@[simp] theorem State.modChq_mem (q : Nat) (g : ChurnQ → ChurnQ) (s : State) : (s.modChq q g).mem = s.mem := rfl
@[simp] theorem State.modChq_plc (q : Nat) (g : ChurnQ → ChurnQ) (s : State) : (s.modChq q g).plc = s.plc := rfl
@[simp] theorem State.modChq_aud (q : Nat) (g : ChurnQ → ChurnQ) (s : State) : (s.modChq q g).aud = s.aud := rfl
@[simp] theorem State.modChq_hk (q : Nat) (g : ChurnQ → ChurnQ) (s : State) : (s.modChq q g).hk = s.hk := rfl
@[simp] theorem State.modChq_nvm (q : Nat) (g : ChurnQ → ChurnQ) (s : State) : (s.modChq q g).nvm = s.nvm := rfl
@[simp] theorem State.modChq_tp (q : Nat) (g : ChurnQ → ChurnQ) (s : State) : (s.modChq q g).tp = s.tp := rfl
@[simp] theorem State.modChq_sec (q : Nat) (g : ChurnQ → ChurnQ) (s : State) : (s.modChq q g).sec = s.sec := rfl
@[simp] theorem State.modChq_tap (q : Nat) (g : ChurnQ → ChurnQ) (s : State) : (s.modChq q g).tap = s.tap := rfl
@[simp] theorem State.modChq_time (q : Nat) (g : ChurnQ → ChurnQ) (s : State) : (s.modChq q g).time = s.time := rfl
@[simp] theorem State.modChq_win (q : Nat) (g : ChurnQ → ChurnQ) (s : State) : (s.modChq q g).win = s.win := rfl
@[simp] theorem State.modChq_out (q : Nat) (g : ChurnQ → ChurnQ) (s : State) : (s.modChq q g).out = s.out := rfl
@[simp] theorem State.modChq_free (q : Nat) (g : ChurnQ → ChurnQ) (s : State) : (s.modChq q g).free = s.free := rfl
@[simp] theorem State.modChq_pending (q : Nat) (g : ChurnQ → ChurnQ) (s : State) : (s.modChq q g).pending = s.pending := rfl
@[simp] theorem State.modRun_id (g : ChurnRun → ChurnRun) (s : State) : (s.modRun g).id = s.id := rfl
@[simp] theorem State.modRun_pins (g : ChurnRun → ChurnRun) (s : State) : (s.modRun g).pins = s.pins := rfl
@[simp] theorem State.modRun_pwr (g : ChurnRun → ChurnRun) (s : State) : (s.modRun g).pwr = s.pwr := rfl
@[simp] theorem State.modRun_gov (g : ChurnRun → ChurnRun) (s : State) : (s.modRun g).gov = s.gov := rfl
@[simp] theorem State.modRun_clk (g : ChurnRun → ChurnRun) (s : State) : (s.modRun g).clk = s.clk := rfl
@[simp] theorem State.modRun_own (g : ChurnRun → ChurnRun) (s : State) : (s.modRun g).own = s.own := rfl
@[simp] theorem State.modRun_ctl (g : ChurnRun → ChurnRun) (s : State) : (s.modRun g).ctl = s.ctl := rfl
@[simp] theorem State.modRun_units (g : ChurnRun → ChurnRun) (s : State) : (s.modRun g).units = s.units := rfl
@[simp] theorem State.modRun_mode (g : ChurnRun → ChurnRun) (s : State) : (s.modRun g).mode = s.mode := rfl
@[simp] theorem State.modRun_cam (g : ChurnRun → ChurnRun) (s : State) : (s.modRun g).cam = s.cam := rfl
@[simp] theorem State.modRun_isp (g : ChurnRun → ChurnRun) (s : State) : (s.modRun g).isp = s.isp := rfl
@[simp] theorem State.modRun_depth (g : ChurnRun → ChurnRun) (s : State) : (s.modRun g).depth = s.depth := rfl
@[simp] theorem State.modRun_scene (g : ChurnRun → ChurnRun) (s : State) : (s.modRun g).scene = s.scene := rfl
@[simp] theorem State.modRun_leases (g : ChurnRun → ChurnRun) (s : State) : (s.modRun g).leases = s.leases := rfl
@[simp] theorem State.modRun_ray (g : ChurnRun → ChurnRun) (s : State) : (s.modRun g).ray = s.ray := rfl
@[simp] theorem State.modRun_cellar (g : ChurnRun → ChurnRun) (s : State) : (s.modRun g).cellar = s.cellar := rfl
@[simp] theorem State.modRun_layers (g : ChurnRun → ChurnRun) (s : State) : (s.modRun g).layers = s.layers := rfl
@[simp] theorem State.modRun_hw (g : ChurnRun → ChurnRun) (s : State) : (s.modRun g).hw = s.hw := rfl
@[simp] theorem State.modRun_disp (g : ChurnRun → ChurnRun) (s : State) : (s.modRun g).disp = s.disp := rfl
@[simp] theorem State.modRun_scan (g : ChurnRun → ChurnRun) (s : State) : (s.modRun g).scan = s.scan := rfl
@[simp] theorem State.modRun_pnl (g : ChurnRun → ChurnRun) (s : State) : (s.modRun g).pnl = s.pnl := rfl
@[simp] theorem State.modRun_lanes (g : ChurnRun → ChurnRun) (s : State) : (s.modRun g).lanes = s.lanes := rfl
@[simp] theorem State.modRun_mem (g : ChurnRun → ChurnRun) (s : State) : (s.modRun g).mem = s.mem := rfl
@[simp] theorem State.modRun_plc (g : ChurnRun → ChurnRun) (s : State) : (s.modRun g).plc = s.plc := rfl
@[simp] theorem State.modRun_aud (g : ChurnRun → ChurnRun) (s : State) : (s.modRun g).aud = s.aud := rfl
@[simp] theorem State.modRun_hk (g : ChurnRun → ChurnRun) (s : State) : (s.modRun g).hk = s.hk := rfl
@[simp] theorem State.modRun_nvm (g : ChurnRun → ChurnRun) (s : State) : (s.modRun g).nvm = s.nvm := rfl
@[simp] theorem State.modRun_tp (g : ChurnRun → ChurnRun) (s : State) : (s.modRun g).tp = s.tp := rfl
@[simp] theorem State.modRun_sec (g : ChurnRun → ChurnRun) (s : State) : (s.modRun g).sec = s.sec := rfl
@[simp] theorem State.modRun_tap (g : ChurnRun → ChurnRun) (s : State) : (s.modRun g).tap = s.tap := rfl
@[simp] theorem State.modRun_time (g : ChurnRun → ChurnRun) (s : State) : (s.modRun g).time = s.time := rfl
@[simp] theorem State.modRun_win (g : ChurnRun → ChurnRun) (s : State) : (s.modRun g).win = s.win := rfl
@[simp] theorem State.modRun_out (g : ChurnRun → ChurnRun) (s : State) : (s.modRun g).out = s.out := rfl
@[simp] theorem State.modRun_free (g : ChurnRun → ChurnRun) (s : State) : (s.modRun g).free = s.free := rfl
@[simp] theorem State.modRun_pending (g : ChurnRun → ChurnRun) (s : State) : (s.modRun g).pending = s.pending := rfl
@[simp] theorem State.timeTo_id (n : Nat) (s : State) : (s.timeTo n).id = s.id := rfl
@[simp] theorem State.timeTo_pins (n : Nat) (s : State) : (s.timeTo n).pins = s.pins := rfl
@[simp] theorem State.timeTo_pwr (n : Nat) (s : State) : (s.timeTo n).pwr = s.pwr := rfl
@[simp] theorem State.timeTo_gov (n : Nat) (s : State) : (s.timeTo n).gov = s.gov := rfl
@[simp] theorem State.timeTo_clk (n : Nat) (s : State) : (s.timeTo n).clk = s.clk := rfl
@[simp] theorem State.timeTo_own (n : Nat) (s : State) : (s.timeTo n).own = s.own := rfl
@[simp] theorem State.timeTo_ctl (n : Nat) (s : State) : (s.timeTo n).ctl = s.ctl := rfl
@[simp] theorem State.timeTo_units (n : Nat) (s : State) : (s.timeTo n).units = s.units := rfl
@[simp] theorem State.timeTo_mode (n : Nat) (s : State) : (s.timeTo n).mode = s.mode := rfl
@[simp] theorem State.timeTo_cam (n : Nat) (s : State) : (s.timeTo n).cam = s.cam := rfl
@[simp] theorem State.timeTo_isp (n : Nat) (s : State) : (s.timeTo n).isp = s.isp := rfl
@[simp] theorem State.timeTo_depth (n : Nat) (s : State) : (s.timeTo n).depth = s.depth := rfl
@[simp] theorem State.timeTo_scene (n : Nat) (s : State) : (s.timeTo n).scene = s.scene := rfl
@[simp] theorem State.timeTo_leases (n : Nat) (s : State) : (s.timeTo n).leases = s.leases := rfl
@[simp] theorem State.timeTo_ray (n : Nat) (s : State) : (s.timeTo n).ray = s.ray := rfl
@[simp] theorem State.timeTo_cellar (n : Nat) (s : State) : (s.timeTo n).cellar = s.cellar := rfl
@[simp] theorem State.timeTo_layers (n : Nat) (s : State) : (s.timeTo n).layers = s.layers := rfl
@[simp] theorem State.timeTo_hw (n : Nat) (s : State) : (s.timeTo n).hw = s.hw := rfl
@[simp] theorem State.timeTo_disp (n : Nat) (s : State) : (s.timeTo n).disp = s.disp := rfl
@[simp] theorem State.timeTo_scan (n : Nat) (s : State) : (s.timeTo n).scan = s.scan := rfl
@[simp] theorem State.timeTo_pnl (n : Nat) (s : State) : (s.timeTo n).pnl = s.pnl := rfl
@[simp] theorem State.timeTo_lanes (n : Nat) (s : State) : (s.timeTo n).lanes = s.lanes := rfl
@[simp] theorem State.timeTo_mem (n : Nat) (s : State) : (s.timeTo n).mem = s.mem := rfl
@[simp] theorem State.timeTo_churn (n : Nat) (s : State) : (s.timeTo n).churn = s.churn := rfl
@[simp] theorem State.timeTo_plc (n : Nat) (s : State) : (s.timeTo n).plc = s.plc := rfl
@[simp] theorem State.timeTo_aud (n : Nat) (s : State) : (s.timeTo n).aud = s.aud := rfl
@[simp] theorem State.timeTo_hk (n : Nat) (s : State) : (s.timeTo n).hk = s.hk := rfl
@[simp] theorem State.timeTo_nvm (n : Nat) (s : State) : (s.timeTo n).nvm = s.nvm := rfl
@[simp] theorem State.timeTo_tp (n : Nat) (s : State) : (s.timeTo n).tp = s.tp := rfl
@[simp] theorem State.timeTo_sec (n : Nat) (s : State) : (s.timeTo n).sec = s.sec := rfl
@[simp] theorem State.timeTo_tap (n : Nat) (s : State) : (s.timeTo n).tap = s.tap := rfl
@[simp] theorem State.timeTo_win (n : Nat) (s : State) : (s.timeTo n).win = s.win := rfl
@[simp] theorem State.timeTo_out (n : Nat) (s : State) : (s.timeTo n).out = s.out := rfl
@[simp] theorem State.timeTo_free (n : Nat) (s : State) : (s.timeTo n).free = s.free := rfl
@[simp] theorem State.timeTo_pending (n : Nat) (s : State) : (s.timeTo n).pending = s.pending := rfl
@[simp] theorem State.devSet_id (a : Nat) (v : W8) (s : State) : (s.devSet a v).id = s.id := by
  unfold State.devSet; (try dsimp only); repeat' split
  all_goals simp
@[simp] theorem State.devSet_pins (a : Nat) (v : W8) (s : State) : (s.devSet a v).pins = s.pins := by
  unfold State.devSet; (try dsimp only); repeat' split
  all_goals simp
@[simp] theorem State.devSet_pwr (a : Nat) (v : W8) (s : State) : (s.devSet a v).pwr = s.pwr := by
  unfold State.devSet; (try dsimp only); repeat' split
  all_goals simp
@[simp] theorem State.devSet_gov (a : Nat) (v : W8) (s : State) : (s.devSet a v).gov = s.gov := by
  unfold State.devSet; (try dsimp only); repeat' split
  all_goals simp
@[simp] theorem State.devSet_clk (a : Nat) (v : W8) (s : State) : (s.devSet a v).clk = s.clk := by
  unfold State.devSet; (try dsimp only); repeat' split
  all_goals simp
@[simp] theorem State.devSet_own (a : Nat) (v : W8) (s : State) : (s.devSet a v).own = s.own := by
  unfold State.devSet; (try dsimp only); repeat' split
  all_goals simp
@[simp] theorem State.devSet_ctl (a : Nat) (v : W8) (s : State) : (s.devSet a v).ctl = s.ctl := by
  unfold State.devSet; (try dsimp only); repeat' split
  all_goals simp
@[simp] theorem State.devSet_units (a : Nat) (v : W8) (s : State) : (s.devSet a v).units = s.units := by
  unfold State.devSet; (try dsimp only); repeat' split
  all_goals simp
@[simp] theorem State.devSet_mode (a : Nat) (v : W8) (s : State) : (s.devSet a v).mode = s.mode := by
  unfold State.devSet; (try dsimp only); repeat' split
  all_goals simp
@[simp] theorem State.devSet_cam (a : Nat) (v : W8) (s : State) : (s.devSet a v).cam = s.cam := by
  unfold State.devSet; (try dsimp only); repeat' split
  all_goals simp
@[simp] theorem State.devSet_isp (a : Nat) (v : W8) (s : State) : (s.devSet a v).isp = s.isp := by
  unfold State.devSet; (try dsimp only); repeat' split
  all_goals simp
@[simp] theorem State.devSet_depth (a : Nat) (v : W8) (s : State) : (s.devSet a v).depth = s.depth := by
  unfold State.devSet; (try dsimp only); repeat' split
  all_goals simp
@[simp] theorem State.devSet_scene (a : Nat) (v : W8) (s : State) : (s.devSet a v).scene = s.scene := by
  unfold State.devSet; (try dsimp only); repeat' split
  all_goals simp
@[simp] theorem State.devSet_leases (a : Nat) (v : W8) (s : State) : (s.devSet a v).leases = s.leases := by
  unfold State.devSet; (try dsimp only); repeat' split
  all_goals simp
@[simp] theorem State.devSet_ray (a : Nat) (v : W8) (s : State) : (s.devSet a v).ray = s.ray := by
  unfold State.devSet; (try dsimp only); repeat' split
  all_goals simp
@[simp] theorem State.devSet_layers (a : Nat) (v : W8) (s : State) : (s.devSet a v).layers = s.layers := by
  unfold State.devSet; (try dsimp only); repeat' split
  all_goals simp
@[simp] theorem State.devSet_hw (a : Nat) (v : W8) (s : State) : (s.devSet a v).hw = s.hw := by
  unfold State.devSet; (try dsimp only); repeat' split
  all_goals simp
@[simp] theorem State.devSet_disp (a : Nat) (v : W8) (s : State) : (s.devSet a v).disp = s.disp := by
  unfold State.devSet; (try dsimp only); repeat' split
  all_goals simp
@[simp] theorem State.devSet_scan (a : Nat) (v : W8) (s : State) : (s.devSet a v).scan = s.scan := by
  unfold State.devSet; (try dsimp only); repeat' split
  all_goals simp
@[simp] theorem State.devSet_pnl (a : Nat) (v : W8) (s : State) : (s.devSet a v).pnl = s.pnl := by
  unfold State.devSet; (try dsimp only); repeat' split
  all_goals simp
@[simp] theorem State.devSet_lanes (a : Nat) (v : W8) (s : State) : (s.devSet a v).lanes = s.lanes := by
  unfold State.devSet; (try dsimp only); repeat' split
  all_goals simp
@[simp] theorem State.devSet_churn (a : Nat) (v : W8) (s : State) : (s.devSet a v).churn = s.churn := by
  unfold State.devSet; (try dsimp only); repeat' split
  all_goals simp
@[simp] theorem State.devSet_plc (a : Nat) (v : W8) (s : State) : (s.devSet a v).plc = s.plc := by
  unfold State.devSet; (try dsimp only); repeat' split
  all_goals simp
@[simp] theorem State.devSet_aud (a : Nat) (v : W8) (s : State) : (s.devSet a v).aud = s.aud := by
  unfold State.devSet; (try dsimp only); repeat' split
  all_goals simp
@[simp] theorem State.devSet_hk (a : Nat) (v : W8) (s : State) : (s.devSet a v).hk = s.hk := by
  unfold State.devSet; (try dsimp only); repeat' split
  all_goals simp
@[simp] theorem State.devSet_nvm (a : Nat) (v : W8) (s : State) : (s.devSet a v).nvm = s.nvm := by
  unfold State.devSet; (try dsimp only); repeat' split
  all_goals simp
@[simp] theorem State.devSet_tp (a : Nat) (v : W8) (s : State) : (s.devSet a v).tp = s.tp := by
  unfold State.devSet; (try dsimp only); repeat' split
  all_goals simp
@[simp] theorem State.devSet_sec (a : Nat) (v : W8) (s : State) : (s.devSet a v).sec = s.sec := by
  unfold State.devSet; (try dsimp only); repeat' split
  all_goals simp
@[simp] theorem State.devSet_tap (a : Nat) (v : W8) (s : State) : (s.devSet a v).tap = s.tap := by
  unfold State.devSet; (try dsimp only); repeat' split
  all_goals simp
@[simp] theorem State.devSet_time (a : Nat) (v : W8) (s : State) : (s.devSet a v).time = s.time := by
  unfold State.devSet; (try dsimp only); repeat' split
  all_goals simp
@[simp] theorem State.devSet_win (a : Nat) (v : W8) (s : State) : (s.devSet a v).win = s.win := by
  unfold State.devSet; (try dsimp only); repeat' split
  all_goals simp
@[simp] theorem State.devSet_out (a : Nat) (v : W8) (s : State) : (s.devSet a v).out = s.out := by
  unfold State.devSet; (try dsimp only); repeat' split
  all_goals simp
@[simp] theorem State.devSet_free (a : Nat) (v : W8) (s : State) : (s.devSet a v).free = s.free := by
  unfold State.devSet; (try dsimp only); repeat' split
  all_goals simp
@[simp] theorem State.devSet_pending (a : Nat) (v : W8) (s : State) : (s.devSet a v).pending = s.pending := by
  unfold State.devSet; (try dsimp only); repeat' split
  all_goals simp
@[simp] theorem State.healBurst_id (a : Nat) (s : State) : (s.healBurst a).id = s.id := by
  unfold State.healBurst; (try dsimp only); repeat' split
  all_goals simp
@[simp] theorem State.healBurst_pins (a : Nat) (s : State) : (s.healBurst a).pins = s.pins := by
  unfold State.healBurst; (try dsimp only); repeat' split
  all_goals simp
@[simp] theorem State.healBurst_pwr (a : Nat) (s : State) : (s.healBurst a).pwr = s.pwr := by
  unfold State.healBurst; (try dsimp only); repeat' split
  all_goals simp
@[simp] theorem State.healBurst_gov (a : Nat) (s : State) : (s.healBurst a).gov = s.gov := by
  unfold State.healBurst; (try dsimp only); repeat' split
  all_goals simp
@[simp] theorem State.healBurst_clk (a : Nat) (s : State) : (s.healBurst a).clk = s.clk := by
  unfold State.healBurst; (try dsimp only); repeat' split
  all_goals simp
@[simp] theorem State.healBurst_own (a : Nat) (s : State) : (s.healBurst a).own = s.own := by
  unfold State.healBurst; (try dsimp only); repeat' split
  all_goals simp
@[simp] theorem State.healBurst_ctl (a : Nat) (s : State) : (s.healBurst a).ctl = s.ctl := by
  unfold State.healBurst; (try dsimp only); repeat' split
  all_goals simp
@[simp] theorem State.healBurst_units (a : Nat) (s : State) : (s.healBurst a).units = s.units := by
  unfold State.healBurst; (try dsimp only); repeat' split
  all_goals simp
@[simp] theorem State.healBurst_mode (a : Nat) (s : State) : (s.healBurst a).mode = s.mode := by
  unfold State.healBurst; (try dsimp only); repeat' split
  all_goals simp
@[simp] theorem State.healBurst_cam (a : Nat) (s : State) : (s.healBurst a).cam = s.cam := by
  unfold State.healBurst; (try dsimp only); repeat' split
  all_goals simp
@[simp] theorem State.healBurst_isp (a : Nat) (s : State) : (s.healBurst a).isp = s.isp := by
  unfold State.healBurst; (try dsimp only); repeat' split
  all_goals simp
@[simp] theorem State.healBurst_depth (a : Nat) (s : State) : (s.healBurst a).depth = s.depth := by
  unfold State.healBurst; (try dsimp only); repeat' split
  all_goals simp
@[simp] theorem State.healBurst_scene (a : Nat) (s : State) : (s.healBurst a).scene = s.scene := by
  unfold State.healBurst; (try dsimp only); repeat' split
  all_goals simp
@[simp] theorem State.healBurst_leases (a : Nat) (s : State) : (s.healBurst a).leases = s.leases := by
  unfold State.healBurst; (try dsimp only); repeat' split
  all_goals simp
@[simp] theorem State.healBurst_ray (a : Nat) (s : State) : (s.healBurst a).ray = s.ray := by
  unfold State.healBurst; (try dsimp only); repeat' split
  all_goals simp
@[simp] theorem State.healBurst_cellar (a : Nat) (s : State) : (s.healBurst a).cellar = s.cellar := by
  unfold State.healBurst; (try dsimp only); repeat' split
  all_goals simp
@[simp] theorem State.healBurst_layers (a : Nat) (s : State) : (s.healBurst a).layers = s.layers := by
  unfold State.healBurst; (try dsimp only); repeat' split
  all_goals simp
@[simp] theorem State.healBurst_hw (a : Nat) (s : State) : (s.healBurst a).hw = s.hw := by
  unfold State.healBurst; (try dsimp only); repeat' split
  all_goals simp
@[simp] theorem State.healBurst_disp (a : Nat) (s : State) : (s.healBurst a).disp = s.disp := by
  unfold State.healBurst; (try dsimp only); repeat' split
  all_goals simp
@[simp] theorem State.healBurst_scan (a : Nat) (s : State) : (s.healBurst a).scan = s.scan := by
  unfold State.healBurst; (try dsimp only); repeat' split
  all_goals simp
@[simp] theorem State.healBurst_pnl (a : Nat) (s : State) : (s.healBurst a).pnl = s.pnl := by
  unfold State.healBurst; (try dsimp only); repeat' split
  all_goals simp
@[simp] theorem State.healBurst_lanes (a : Nat) (s : State) : (s.healBurst a).lanes = s.lanes := by
  unfold State.healBurst; (try dsimp only); repeat' split
  all_goals simp
@[simp] theorem State.healBurst_churn (a : Nat) (s : State) : (s.healBurst a).churn = s.churn := by
  unfold State.healBurst; (try dsimp only); repeat' split
  all_goals simp
@[simp] theorem State.healBurst_plc (a : Nat) (s : State) : (s.healBurst a).plc = s.plc := by
  unfold State.healBurst; (try dsimp only); repeat' split
  all_goals simp
@[simp] theorem State.healBurst_aud (a : Nat) (s : State) : (s.healBurst a).aud = s.aud := by
  unfold State.healBurst; (try dsimp only); repeat' split
  all_goals simp
@[simp] theorem State.healBurst_hk (a : Nat) (s : State) : (s.healBurst a).hk = s.hk := by
  unfold State.healBurst; (try dsimp only); repeat' split
  all_goals simp
@[simp] theorem State.healBurst_nvm (a : Nat) (s : State) : (s.healBurst a).nvm = s.nvm := by
  unfold State.healBurst; (try dsimp only); repeat' split
  all_goals simp
@[simp] theorem State.healBurst_tp (a : Nat) (s : State) : (s.healBurst a).tp = s.tp := by
  unfold State.healBurst; (try dsimp only); repeat' split
  all_goals simp
@[simp] theorem State.healBurst_sec (a : Nat) (s : State) : (s.healBurst a).sec = s.sec := by
  unfold State.healBurst; (try dsimp only); repeat' split
  all_goals simp
@[simp] theorem State.healBurst_tap (a : Nat) (s : State) : (s.healBurst a).tap = s.tap := by
  unfold State.healBurst; (try dsimp only); repeat' split
  all_goals simp
@[simp] theorem State.healBurst_time (a : Nat) (s : State) : (s.healBurst a).time = s.time := by
  unfold State.healBurst; (try dsimp only); repeat' split
  all_goals simp
@[simp] theorem State.healBurst_win (a : Nat) (s : State) : (s.healBurst a).win = s.win := by
  unfold State.healBurst; (try dsimp only); repeat' split
  all_goals simp
@[simp] theorem State.healBurst_out (a : Nat) (s : State) : (s.healBurst a).out = s.out := by
  unfold State.healBurst; (try dsimp only); repeat' split
  all_goals simp
@[simp] theorem State.healBurst_free (a : Nat) (s : State) : (s.healBurst a).free = s.free := by
  unfold State.healBurst; (try dsimp only); repeat' split
  all_goals simp
@[simp] theorem State.healBurst_pending (a : Nat) (s : State) : (s.healBurst a).pending = s.pending := by
  unfold State.healBurst; (try dsimp only); repeat' split
  all_goals simp
@[simp] theorem State.devSets_id (a : Nat) (d : Bytes) (s : State) : (s.devSets a d).id = s.id := by
  induction d generalizing a s with
  | nil => rfl
  | cons v t ih => simp [State.devSets, ih]
@[simp] theorem State.devSets_pins (a : Nat) (d : Bytes) (s : State) : (s.devSets a d).pins = s.pins := by
  induction d generalizing a s with
  | nil => rfl
  | cons v t ih => simp [State.devSets, ih]
@[simp] theorem State.devSets_pwr (a : Nat) (d : Bytes) (s : State) : (s.devSets a d).pwr = s.pwr := by
  induction d generalizing a s with
  | nil => rfl
  | cons v t ih => simp [State.devSets, ih]
@[simp] theorem State.devSets_gov (a : Nat) (d : Bytes) (s : State) : (s.devSets a d).gov = s.gov := by
  induction d generalizing a s with
  | nil => rfl
  | cons v t ih => simp [State.devSets, ih]
@[simp] theorem State.devSets_clk (a : Nat) (d : Bytes) (s : State) : (s.devSets a d).clk = s.clk := by
  induction d generalizing a s with
  | nil => rfl
  | cons v t ih => simp [State.devSets, ih]
@[simp] theorem State.devSets_own (a : Nat) (d : Bytes) (s : State) : (s.devSets a d).own = s.own := by
  induction d generalizing a s with
  | nil => rfl
  | cons v t ih => simp [State.devSets, ih]
@[simp] theorem State.devSets_ctl (a : Nat) (d : Bytes) (s : State) : (s.devSets a d).ctl = s.ctl := by
  induction d generalizing a s with
  | nil => rfl
  | cons v t ih => simp [State.devSets, ih]
@[simp] theorem State.devSets_units (a : Nat) (d : Bytes) (s : State) : (s.devSets a d).units = s.units := by
  induction d generalizing a s with
  | nil => rfl
  | cons v t ih => simp [State.devSets, ih]
@[simp] theorem State.devSets_mode (a : Nat) (d : Bytes) (s : State) : (s.devSets a d).mode = s.mode := by
  induction d generalizing a s with
  | nil => rfl
  | cons v t ih => simp [State.devSets, ih]
@[simp] theorem State.devSets_cam (a : Nat) (d : Bytes) (s : State) : (s.devSets a d).cam = s.cam := by
  induction d generalizing a s with
  | nil => rfl
  | cons v t ih => simp [State.devSets, ih]
@[simp] theorem State.devSets_isp (a : Nat) (d : Bytes) (s : State) : (s.devSets a d).isp = s.isp := by
  induction d generalizing a s with
  | nil => rfl
  | cons v t ih => simp [State.devSets, ih]
@[simp] theorem State.devSets_depth (a : Nat) (d : Bytes) (s : State) : (s.devSets a d).depth = s.depth := by
  induction d generalizing a s with
  | nil => rfl
  | cons v t ih => simp [State.devSets, ih]
@[simp] theorem State.devSets_scene (a : Nat) (d : Bytes) (s : State) : (s.devSets a d).scene = s.scene := by
  induction d generalizing a s with
  | nil => rfl
  | cons v t ih => simp [State.devSets, ih]
@[simp] theorem State.devSets_leases (a : Nat) (d : Bytes) (s : State) : (s.devSets a d).leases = s.leases := by
  induction d generalizing a s with
  | nil => rfl
  | cons v t ih => simp [State.devSets, ih]
@[simp] theorem State.devSets_ray (a : Nat) (d : Bytes) (s : State) : (s.devSets a d).ray = s.ray := by
  induction d generalizing a s with
  | nil => rfl
  | cons v t ih => simp [State.devSets, ih]
@[simp] theorem State.devSets_layers (a : Nat) (d : Bytes) (s : State) : (s.devSets a d).layers = s.layers := by
  induction d generalizing a s with
  | nil => rfl
  | cons v t ih => simp [State.devSets, ih]
@[simp] theorem State.devSets_hw (a : Nat) (d : Bytes) (s : State) : (s.devSets a d).hw = s.hw := by
  induction d generalizing a s with
  | nil => rfl
  | cons v t ih => simp [State.devSets, ih]
@[simp] theorem State.devSets_disp (a : Nat) (d : Bytes) (s : State) : (s.devSets a d).disp = s.disp := by
  induction d generalizing a s with
  | nil => rfl
  | cons v t ih => simp [State.devSets, ih]
@[simp] theorem State.devSets_scan (a : Nat) (d : Bytes) (s : State) : (s.devSets a d).scan = s.scan := by
  induction d generalizing a s with
  | nil => rfl
  | cons v t ih => simp [State.devSets, ih]
@[simp] theorem State.devSets_pnl (a : Nat) (d : Bytes) (s : State) : (s.devSets a d).pnl = s.pnl := by
  induction d generalizing a s with
  | nil => rfl
  | cons v t ih => simp [State.devSets, ih]
@[simp] theorem State.devSets_lanes (a : Nat) (d : Bytes) (s : State) : (s.devSets a d).lanes = s.lanes := by
  induction d generalizing a s with
  | nil => rfl
  | cons v t ih => simp [State.devSets, ih]
@[simp] theorem State.devSets_churn (a : Nat) (d : Bytes) (s : State) : (s.devSets a d).churn = s.churn := by
  induction d generalizing a s with
  | nil => rfl
  | cons v t ih => simp [State.devSets, ih]
@[simp] theorem State.devSets_plc (a : Nat) (d : Bytes) (s : State) : (s.devSets a d).plc = s.plc := by
  induction d generalizing a s with
  | nil => rfl
  | cons v t ih => simp [State.devSets, ih]
@[simp] theorem State.devSets_aud (a : Nat) (d : Bytes) (s : State) : (s.devSets a d).aud = s.aud := by
  induction d generalizing a s with
  | nil => rfl
  | cons v t ih => simp [State.devSets, ih]
@[simp] theorem State.devSets_hk (a : Nat) (d : Bytes) (s : State) : (s.devSets a d).hk = s.hk := by
  induction d generalizing a s with
  | nil => rfl
  | cons v t ih => simp [State.devSets, ih]
@[simp] theorem State.devSets_nvm (a : Nat) (d : Bytes) (s : State) : (s.devSets a d).nvm = s.nvm := by
  induction d generalizing a s with
  | nil => rfl
  | cons v t ih => simp [State.devSets, ih]
@[simp] theorem State.devSets_tp (a : Nat) (d : Bytes) (s : State) : (s.devSets a d).tp = s.tp := by
  induction d generalizing a s with
  | nil => rfl
  | cons v t ih => simp [State.devSets, ih]
@[simp] theorem State.devSets_sec (a : Nat) (d : Bytes) (s : State) : (s.devSets a d).sec = s.sec := by
  induction d generalizing a s with
  | nil => rfl
  | cons v t ih => simp [State.devSets, ih]
@[simp] theorem State.devSets_tap (a : Nat) (d : Bytes) (s : State) : (s.devSets a d).tap = s.tap := by
  induction d generalizing a s with
  | nil => rfl
  | cons v t ih => simp [State.devSets, ih]
@[simp] theorem State.devSets_time (a : Nat) (d : Bytes) (s : State) : (s.devSets a d).time = s.time := by
  induction d generalizing a s with
  | nil => rfl
  | cons v t ih => simp [State.devSets, ih]
@[simp] theorem State.devSets_win (a : Nat) (d : Bytes) (s : State) : (s.devSets a d).win = s.win := by
  induction d generalizing a s with
  | nil => rfl
  | cons v t ih => simp [State.devSets, ih]
@[simp] theorem State.devSets_out (a : Nat) (d : Bytes) (s : State) : (s.devSets a d).out = s.out := by
  induction d generalizing a s with
  | nil => rfl
  | cons v t ih => simp [State.devSets, ih]
@[simp] theorem State.devSets_free (a : Nat) (d : Bytes) (s : State) : (s.devSets a d).free = s.free := by
  induction d generalizing a s with
  | nil => rfl
  | cons v t ih => simp [State.devSets, ih]
@[simp] theorem State.devSets_pending (a : Nat) (d : Bytes) (s : State) : (s.devSets a d).pending = s.pending := by
  induction d generalizing a s with
  | nil => rfl
  | cons v t ih => simp [State.devSets, ih]
@[simp] theorem State.devWrite_id (a : Nat) (d : Bytes) (s : State) : (s.devWrite a d).id = s.id := by
  unfold State.devWrite
  dsimp only
  refine List.foldlRecOn (motive := fun t : State => t.id = s.id) _ _ (by simp) fun t ht m _ => ?_
  simp_all
@[simp] theorem State.devWrite_pins (a : Nat) (d : Bytes) (s : State) : (s.devWrite a d).pins = s.pins := by
  unfold State.devWrite
  dsimp only
  refine List.foldlRecOn (motive := fun t : State => t.pins = s.pins) _ _ (by simp) fun t ht m _ => ?_
  simp_all
@[simp] theorem State.devWrite_pwr (a : Nat) (d : Bytes) (s : State) : (s.devWrite a d).pwr = s.pwr := by
  unfold State.devWrite
  dsimp only
  refine List.foldlRecOn (motive := fun t : State => t.pwr = s.pwr) _ _ (by simp) fun t ht m _ => ?_
  simp_all
@[simp] theorem State.devWrite_gov (a : Nat) (d : Bytes) (s : State) : (s.devWrite a d).gov = s.gov := by
  unfold State.devWrite
  dsimp only
  refine List.foldlRecOn (motive := fun t : State => t.gov = s.gov) _ _ (by simp) fun t ht m _ => ?_
  simp_all
@[simp] theorem State.devWrite_clk (a : Nat) (d : Bytes) (s : State) : (s.devWrite a d).clk = s.clk := by
  unfold State.devWrite
  dsimp only
  refine List.foldlRecOn (motive := fun t : State => t.clk = s.clk) _ _ (by simp) fun t ht m _ => ?_
  simp_all
@[simp] theorem State.devWrite_own (a : Nat) (d : Bytes) (s : State) : (s.devWrite a d).own = s.own := by
  unfold State.devWrite
  dsimp only
  refine List.foldlRecOn (motive := fun t : State => t.own = s.own) _ _ (by simp) fun t ht m _ => ?_
  simp_all
@[simp] theorem State.devWrite_ctl (a : Nat) (d : Bytes) (s : State) : (s.devWrite a d).ctl = s.ctl := by
  unfold State.devWrite
  dsimp only
  refine List.foldlRecOn (motive := fun t : State => t.ctl = s.ctl) _ _ (by simp) fun t ht m _ => ?_
  simp_all
@[simp] theorem State.devWrite_units (a : Nat) (d : Bytes) (s : State) : (s.devWrite a d).units = s.units := by
  unfold State.devWrite
  dsimp only
  refine List.foldlRecOn (motive := fun t : State => t.units = s.units) _ _ (by simp) fun t ht m _ => ?_
  simp_all
@[simp] theorem State.devWrite_mode (a : Nat) (d : Bytes) (s : State) : (s.devWrite a d).mode = s.mode := by
  unfold State.devWrite
  dsimp only
  refine List.foldlRecOn (motive := fun t : State => t.mode = s.mode) _ _ (by simp) fun t ht m _ => ?_
  simp_all
@[simp] theorem State.devWrite_cam (a : Nat) (d : Bytes) (s : State) : (s.devWrite a d).cam = s.cam := by
  unfold State.devWrite
  dsimp only
  refine List.foldlRecOn (motive := fun t : State => t.cam = s.cam) _ _ (by simp) fun t ht m _ => ?_
  simp_all
@[simp] theorem State.devWrite_isp (a : Nat) (d : Bytes) (s : State) : (s.devWrite a d).isp = s.isp := by
  unfold State.devWrite
  dsimp only
  refine List.foldlRecOn (motive := fun t : State => t.isp = s.isp) _ _ (by simp) fun t ht m _ => ?_
  simp_all
@[simp] theorem State.devWrite_depth (a : Nat) (d : Bytes) (s : State) : (s.devWrite a d).depth = s.depth := by
  unfold State.devWrite
  dsimp only
  refine List.foldlRecOn (motive := fun t : State => t.depth = s.depth) _ _ (by simp) fun t ht m _ => ?_
  simp_all
@[simp] theorem State.devWrite_scene (a : Nat) (d : Bytes) (s : State) : (s.devWrite a d).scene = s.scene := by
  unfold State.devWrite
  dsimp only
  refine List.foldlRecOn (motive := fun t : State => t.scene = s.scene) _ _ (by simp) fun t ht m _ => ?_
  simp_all
@[simp] theorem State.devWrite_leases (a : Nat) (d : Bytes) (s : State) : (s.devWrite a d).leases = s.leases := by
  unfold State.devWrite
  dsimp only
  refine List.foldlRecOn (motive := fun t : State => t.leases = s.leases) _ _ (by simp) fun t ht m _ => ?_
  simp_all
@[simp] theorem State.devWrite_ray (a : Nat) (d : Bytes) (s : State) : (s.devWrite a d).ray = s.ray := by
  unfold State.devWrite
  dsimp only
  refine List.foldlRecOn (motive := fun t : State => t.ray = s.ray) _ _ (by simp) fun t ht m _ => ?_
  simp_all
@[simp] theorem State.devWrite_layers (a : Nat) (d : Bytes) (s : State) : (s.devWrite a d).layers = s.layers := by
  unfold State.devWrite
  dsimp only
  refine List.foldlRecOn (motive := fun t : State => t.layers = s.layers) _ _ (by simp) fun t ht m _ => ?_
  simp_all
@[simp] theorem State.devWrite_hw (a : Nat) (d : Bytes) (s : State) : (s.devWrite a d).hw = s.hw := by
  unfold State.devWrite
  dsimp only
  refine List.foldlRecOn (motive := fun t : State => t.hw = s.hw) _ _ (by simp) fun t ht m _ => ?_
  simp_all
@[simp] theorem State.devWrite_disp (a : Nat) (d : Bytes) (s : State) : (s.devWrite a d).disp = s.disp := by
  unfold State.devWrite
  dsimp only
  refine List.foldlRecOn (motive := fun t : State => t.disp = s.disp) _ _ (by simp) fun t ht m _ => ?_
  simp_all
@[simp] theorem State.devWrite_scan (a : Nat) (d : Bytes) (s : State) : (s.devWrite a d).scan = s.scan := by
  unfold State.devWrite
  dsimp only
  refine List.foldlRecOn (motive := fun t : State => t.scan = s.scan) _ _ (by simp) fun t ht m _ => ?_
  simp_all
@[simp] theorem State.devWrite_pnl (a : Nat) (d : Bytes) (s : State) : (s.devWrite a d).pnl = s.pnl := by
  unfold State.devWrite
  dsimp only
  refine List.foldlRecOn (motive := fun t : State => t.pnl = s.pnl) _ _ (by simp) fun t ht m _ => ?_
  simp_all
@[simp] theorem State.devWrite_lanes (a : Nat) (d : Bytes) (s : State) : (s.devWrite a d).lanes = s.lanes := by
  unfold State.devWrite
  dsimp only
  refine List.foldlRecOn (motive := fun t : State => t.lanes = s.lanes) _ _ (by simp) fun t ht m _ => ?_
  simp_all
@[simp] theorem State.devWrite_churn (a : Nat) (d : Bytes) (s : State) : (s.devWrite a d).churn = s.churn := by
  unfold State.devWrite
  dsimp only
  refine List.foldlRecOn (motive := fun t : State => t.churn = s.churn) _ _ (by simp) fun t ht m _ => ?_
  simp_all
@[simp] theorem State.devWrite_plc (a : Nat) (d : Bytes) (s : State) : (s.devWrite a d).plc = s.plc := by
  unfold State.devWrite
  dsimp only
  refine List.foldlRecOn (motive := fun t : State => t.plc = s.plc) _ _ (by simp) fun t ht m _ => ?_
  simp_all
@[simp] theorem State.devWrite_aud (a : Nat) (d : Bytes) (s : State) : (s.devWrite a d).aud = s.aud := by
  unfold State.devWrite
  dsimp only
  refine List.foldlRecOn (motive := fun t : State => t.aud = s.aud) _ _ (by simp) fun t ht m _ => ?_
  simp_all
@[simp] theorem State.devWrite_hk (a : Nat) (d : Bytes) (s : State) : (s.devWrite a d).hk = s.hk := by
  unfold State.devWrite
  dsimp only
  refine List.foldlRecOn (motive := fun t : State => t.hk = s.hk) _ _ (by simp) fun t ht m _ => ?_
  simp_all
@[simp] theorem State.devWrite_nvm (a : Nat) (d : Bytes) (s : State) : (s.devWrite a d).nvm = s.nvm := by
  unfold State.devWrite
  dsimp only
  refine List.foldlRecOn (motive := fun t : State => t.nvm = s.nvm) _ _ (by simp) fun t ht m _ => ?_
  simp_all
@[simp] theorem State.devWrite_tp (a : Nat) (d : Bytes) (s : State) : (s.devWrite a d).tp = s.tp := by
  unfold State.devWrite
  dsimp only
  refine List.foldlRecOn (motive := fun t : State => t.tp = s.tp) _ _ (by simp) fun t ht m _ => ?_
  simp_all
@[simp] theorem State.devWrite_sec (a : Nat) (d : Bytes) (s : State) : (s.devWrite a d).sec = s.sec := by
  unfold State.devWrite
  dsimp only
  refine List.foldlRecOn (motive := fun t : State => t.sec = s.sec) _ _ (by simp) fun t ht m _ => ?_
  simp_all
@[simp] theorem State.devWrite_tap (a : Nat) (d : Bytes) (s : State) : (s.devWrite a d).tap = s.tap := by
  unfold State.devWrite
  dsimp only
  refine List.foldlRecOn (motive := fun t : State => t.tap = s.tap) _ _ (by simp) fun t ht m _ => ?_
  simp_all
@[simp] theorem State.devWrite_time (a : Nat) (d : Bytes) (s : State) : (s.devWrite a d).time = s.time := by
  unfold State.devWrite
  dsimp only
  refine List.foldlRecOn (motive := fun t : State => t.time = s.time) _ _ (by simp) fun t ht m _ => ?_
  simp_all
@[simp] theorem State.devWrite_win (a : Nat) (d : Bytes) (s : State) : (s.devWrite a d).win = s.win := by
  unfold State.devWrite
  dsimp only
  refine List.foldlRecOn (motive := fun t : State => t.win = s.win) _ _ (by simp) fun t ht m _ => ?_
  simp_all
@[simp] theorem State.devWrite_out (a : Nat) (d : Bytes) (s : State) : (s.devWrite a d).out = s.out := by
  unfold State.devWrite
  dsimp only
  refine List.foldlRecOn (motive := fun t : State => t.out = s.out) _ _ (by simp) fun t ht m _ => ?_
  simp_all
@[simp] theorem State.devWrite_free (a : Nat) (d : Bytes) (s : State) : (s.devWrite a d).free = s.free := by
  unfold State.devWrite
  dsimp only
  refine List.foldlRecOn (motive := fun t : State => t.free = s.free) _ _ (by simp) fun t ht m _ => ?_
  simp_all
@[simp] theorem State.devWrite_pending (a : Nat) (d : Bytes) (s : State) : (s.devWrite a d).pending = s.pending := by
  unfold State.devWrite
  dsimp only
  refine List.foldlRecOn (motive := fun t : State => t.pending = s.pending) _ _ (by simp) fun t ht m _ => ?_
  simp_all
@[simp] theorem State.setRecord_id (r : NvmRec) (s : State) : (s.setRecord r).id = s.id := by
  unfold State.setRecord; (try dsimp only); repeat' split
  all_goals simp
@[simp] theorem State.setRecord_pins (r : NvmRec) (s : State) : (s.setRecord r).pins = s.pins := by
  unfold State.setRecord; (try dsimp only); repeat' split
  all_goals simp
@[simp] theorem State.setRecord_pwr (r : NvmRec) (s : State) : (s.setRecord r).pwr = s.pwr := by
  unfold State.setRecord; (try dsimp only); repeat' split
  all_goals simp
@[simp] theorem State.setRecord_gov (r : NvmRec) (s : State) : (s.setRecord r).gov = s.gov := by
  unfold State.setRecord; (try dsimp only); repeat' split
  all_goals simp
@[simp] theorem State.setRecord_clk (r : NvmRec) (s : State) : (s.setRecord r).clk = s.clk := by
  unfold State.setRecord; (try dsimp only); repeat' split
  all_goals simp
@[simp] theorem State.setRecord_own (r : NvmRec) (s : State) : (s.setRecord r).own = s.own := by
  unfold State.setRecord; (try dsimp only); repeat' split
  all_goals simp
@[simp] theorem State.setRecord_ctl (r : NvmRec) (s : State) : (s.setRecord r).ctl = s.ctl := by
  unfold State.setRecord; (try dsimp only); repeat' split
  all_goals simp
@[simp] theorem State.setRecord_units (r : NvmRec) (s : State) : (s.setRecord r).units = s.units := by
  unfold State.setRecord; (try dsimp only); repeat' split
  all_goals simp
@[simp] theorem State.setRecord_mode (r : NvmRec) (s : State) : (s.setRecord r).mode = s.mode := by
  unfold State.setRecord; (try dsimp only); repeat' split
  all_goals simp
@[simp] theorem State.setRecord_cam (r : NvmRec) (s : State) : (s.setRecord r).cam = s.cam := by
  unfold State.setRecord; (try dsimp only); repeat' split
  all_goals simp
@[simp] theorem State.setRecord_isp (r : NvmRec) (s : State) : (s.setRecord r).isp = s.isp := by
  unfold State.setRecord; (try dsimp only); repeat' split
  all_goals simp
@[simp] theorem State.setRecord_depth (r : NvmRec) (s : State) : (s.setRecord r).depth = s.depth := by
  unfold State.setRecord; (try dsimp only); repeat' split
  all_goals simp
@[simp] theorem State.setRecord_scene (r : NvmRec) (s : State) : (s.setRecord r).scene = s.scene := by
  unfold State.setRecord; (try dsimp only); repeat' split
  all_goals simp
@[simp] theorem State.setRecord_leases (r : NvmRec) (s : State) : (s.setRecord r).leases = s.leases := by
  unfold State.setRecord; (try dsimp only); repeat' split
  all_goals simp
@[simp] theorem State.setRecord_ray (r : NvmRec) (s : State) : (s.setRecord r).ray = s.ray := by
  unfold State.setRecord; (try dsimp only); repeat' split
  all_goals simp
@[simp] theorem State.setRecord_cellar (r : NvmRec) (s : State) : (s.setRecord r).cellar = s.cellar := by
  unfold State.setRecord; (try dsimp only); repeat' split
  all_goals simp
@[simp] theorem State.setRecord_layers (r : NvmRec) (s : State) : (s.setRecord r).layers = s.layers := by
  unfold State.setRecord; (try dsimp only); repeat' split
  all_goals simp
@[simp] theorem State.setRecord_hw (r : NvmRec) (s : State) : (s.setRecord r).hw = s.hw := by
  unfold State.setRecord; (try dsimp only); repeat' split
  all_goals simp
@[simp] theorem State.setRecord_disp (r : NvmRec) (s : State) : (s.setRecord r).disp = s.disp := by
  unfold State.setRecord; (try dsimp only); repeat' split
  all_goals simp
@[simp] theorem State.setRecord_scan (r : NvmRec) (s : State) : (s.setRecord r).scan = s.scan := by
  unfold State.setRecord; (try dsimp only); repeat' split
  all_goals simp
@[simp] theorem State.setRecord_pnl (r : NvmRec) (s : State) : (s.setRecord r).pnl = s.pnl := by
  unfold State.setRecord; (try dsimp only); repeat' split
  all_goals simp
@[simp] theorem State.setRecord_lanes (r : NvmRec) (s : State) : (s.setRecord r).lanes = s.lanes := by
  unfold State.setRecord; (try dsimp only); repeat' split
  all_goals simp
@[simp] theorem State.setRecord_mem (r : NvmRec) (s : State) : (s.setRecord r).mem = s.mem := by
  unfold State.setRecord; (try dsimp only); repeat' split
  all_goals simp
@[simp] theorem State.setRecord_churn (r : NvmRec) (s : State) : (s.setRecord r).churn = s.churn := by
  unfold State.setRecord; (try dsimp only); repeat' split
  all_goals simp
@[simp] theorem State.setRecord_plc (r : NvmRec) (s : State) : (s.setRecord r).plc = s.plc := by
  unfold State.setRecord; (try dsimp only); repeat' split
  all_goals simp
@[simp] theorem State.setRecord_aud (r : NvmRec) (s : State) : (s.setRecord r).aud = s.aud := by
  unfold State.setRecord; (try dsimp only); repeat' split
  all_goals simp
@[simp] theorem State.setRecord_hk (r : NvmRec) (s : State) : (s.setRecord r).hk = s.hk := by
  unfold State.setRecord; (try dsimp only); repeat' split
  all_goals simp
@[simp] theorem State.setRecord_tp (r : NvmRec) (s : State) : (s.setRecord r).tp = s.tp := by
  unfold State.setRecord; (try dsimp only); repeat' split
  all_goals simp
@[simp] theorem State.setRecord_sec (r : NvmRec) (s : State) : (s.setRecord r).sec = s.sec := by
  unfold State.setRecord; (try dsimp only); repeat' split
  all_goals simp
@[simp] theorem State.setRecord_tap (r : NvmRec) (s : State) : (s.setRecord r).tap = s.tap := by
  unfold State.setRecord; (try dsimp only); repeat' split
  all_goals simp
@[simp] theorem State.setRecord_time (r : NvmRec) (s : State) : (s.setRecord r).time = s.time := by
  unfold State.setRecord; (try dsimp only); repeat' split
  all_goals simp
@[simp] theorem State.setRecord_win (r : NvmRec) (s : State) : (s.setRecord r).win = s.win := by
  unfold State.setRecord; (try dsimp only); repeat' split
  all_goals simp
@[simp] theorem State.setRecord_out (r : NvmRec) (s : State) : (s.setRecord r).out = s.out := by
  unfold State.setRecord; (try dsimp only); repeat' split
  all_goals simp
@[simp] theorem State.setRecord_free (r : NvmRec) (s : State) : (s.setRecord r).free = s.free := by
  unfold State.setRecord; (try dsimp only); repeat' split
  all_goals simp
@[simp] theorem State.setRecord_pending (r : NvmRec) (s : State) : (s.setRecord r).pending = s.pending := by
  unfold State.setRecord; (try dsimp only); repeat' split
  all_goals simp
@[simp] theorem State.writeRecord_id (i : Nat) (d : Bytes) (s : State) : (s.writeRecord i d).id = s.id := by
  unfold State.writeRecord; (try dsimp only); repeat' split
  all_goals simp
@[simp] theorem State.writeRecord_pins (i : Nat) (d : Bytes) (s : State) : (s.writeRecord i d).pins = s.pins := by
  unfold State.writeRecord; (try dsimp only); repeat' split
  all_goals simp
@[simp] theorem State.writeRecord_pwr (i : Nat) (d : Bytes) (s : State) : (s.writeRecord i d).pwr = s.pwr := by
  unfold State.writeRecord; (try dsimp only); repeat' split
  all_goals simp
@[simp] theorem State.writeRecord_gov (i : Nat) (d : Bytes) (s : State) : (s.writeRecord i d).gov = s.gov := by
  unfold State.writeRecord; (try dsimp only); repeat' split
  all_goals simp
@[simp] theorem State.writeRecord_clk (i : Nat) (d : Bytes) (s : State) : (s.writeRecord i d).clk = s.clk := by
  unfold State.writeRecord; (try dsimp only); repeat' split
  all_goals simp
@[simp] theorem State.writeRecord_own (i : Nat) (d : Bytes) (s : State) : (s.writeRecord i d).own = s.own := by
  unfold State.writeRecord; (try dsimp only); repeat' split
  all_goals simp
@[simp] theorem State.writeRecord_ctl (i : Nat) (d : Bytes) (s : State) : (s.writeRecord i d).ctl = s.ctl := by
  unfold State.writeRecord; (try dsimp only); repeat' split
  all_goals simp
@[simp] theorem State.writeRecord_units (i : Nat) (d : Bytes) (s : State) : (s.writeRecord i d).units = s.units := by
  unfold State.writeRecord; (try dsimp only); repeat' split
  all_goals simp
@[simp] theorem State.writeRecord_mode (i : Nat) (d : Bytes) (s : State) : (s.writeRecord i d).mode = s.mode := by
  unfold State.writeRecord; (try dsimp only); repeat' split
  all_goals simp
@[simp] theorem State.writeRecord_cam (i : Nat) (d : Bytes) (s : State) : (s.writeRecord i d).cam = s.cam := by
  unfold State.writeRecord; (try dsimp only); repeat' split
  all_goals simp
@[simp] theorem State.writeRecord_isp (i : Nat) (d : Bytes) (s : State) : (s.writeRecord i d).isp = s.isp := by
  unfold State.writeRecord; (try dsimp only); repeat' split
  all_goals simp
@[simp] theorem State.writeRecord_depth (i : Nat) (d : Bytes) (s : State) : (s.writeRecord i d).depth = s.depth := by
  unfold State.writeRecord; (try dsimp only); repeat' split
  all_goals simp
@[simp] theorem State.writeRecord_scene (i : Nat) (d : Bytes) (s : State) : (s.writeRecord i d).scene = s.scene := by
  unfold State.writeRecord; (try dsimp only); repeat' split
  all_goals simp
@[simp] theorem State.writeRecord_leases (i : Nat) (d : Bytes) (s : State) : (s.writeRecord i d).leases = s.leases := by
  unfold State.writeRecord; (try dsimp only); repeat' split
  all_goals simp
@[simp] theorem State.writeRecord_ray (i : Nat) (d : Bytes) (s : State) : (s.writeRecord i d).ray = s.ray := by
  unfold State.writeRecord; (try dsimp only); repeat' split
  all_goals simp
@[simp] theorem State.writeRecord_cellar (i : Nat) (d : Bytes) (s : State) : (s.writeRecord i d).cellar = s.cellar := by
  unfold State.writeRecord; (try dsimp only); repeat' split
  all_goals simp
@[simp] theorem State.writeRecord_layers (i : Nat) (d : Bytes) (s : State) : (s.writeRecord i d).layers = s.layers := by
  unfold State.writeRecord; (try dsimp only); repeat' split
  all_goals simp
@[simp] theorem State.writeRecord_hw (i : Nat) (d : Bytes) (s : State) : (s.writeRecord i d).hw = s.hw := by
  unfold State.writeRecord; (try dsimp only); repeat' split
  all_goals simp
@[simp] theorem State.writeRecord_disp (i : Nat) (d : Bytes) (s : State) : (s.writeRecord i d).disp = s.disp := by
  unfold State.writeRecord; (try dsimp only); repeat' split
  all_goals simp
@[simp] theorem State.writeRecord_scan (i : Nat) (d : Bytes) (s : State) : (s.writeRecord i d).scan = s.scan := by
  unfold State.writeRecord; (try dsimp only); repeat' split
  all_goals simp
@[simp] theorem State.writeRecord_pnl (i : Nat) (d : Bytes) (s : State) : (s.writeRecord i d).pnl = s.pnl := by
  unfold State.writeRecord; (try dsimp only); repeat' split
  all_goals simp
@[simp] theorem State.writeRecord_lanes (i : Nat) (d : Bytes) (s : State) : (s.writeRecord i d).lanes = s.lanes := by
  unfold State.writeRecord; (try dsimp only); repeat' split
  all_goals simp
@[simp] theorem State.writeRecord_mem (i : Nat) (d : Bytes) (s : State) : (s.writeRecord i d).mem = s.mem := by
  unfold State.writeRecord; (try dsimp only); repeat' split
  all_goals simp
@[simp] theorem State.writeRecord_churn (i : Nat) (d : Bytes) (s : State) : (s.writeRecord i d).churn = s.churn := by
  unfold State.writeRecord; (try dsimp only); repeat' split
  all_goals simp
@[simp] theorem State.writeRecord_plc (i : Nat) (d : Bytes) (s : State) : (s.writeRecord i d).plc = s.plc := by
  unfold State.writeRecord; (try dsimp only); repeat' split
  all_goals simp
@[simp] theorem State.writeRecord_aud (i : Nat) (d : Bytes) (s : State) : (s.writeRecord i d).aud = s.aud := by
  unfold State.writeRecord; (try dsimp only); repeat' split
  all_goals simp
@[simp] theorem State.writeRecord_hk (i : Nat) (d : Bytes) (s : State) : (s.writeRecord i d).hk = s.hk := by
  unfold State.writeRecord; (try dsimp only); repeat' split
  all_goals simp
@[simp] theorem State.writeRecord_tp (i : Nat) (d : Bytes) (s : State) : (s.writeRecord i d).tp = s.tp := by
  unfold State.writeRecord; (try dsimp only); repeat' split
  all_goals simp
@[simp] theorem State.writeRecord_sec (i : Nat) (d : Bytes) (s : State) : (s.writeRecord i d).sec = s.sec := by
  unfold State.writeRecord; (try dsimp only); repeat' split
  all_goals simp
@[simp] theorem State.writeRecord_tap (i : Nat) (d : Bytes) (s : State) : (s.writeRecord i d).tap = s.tap := by
  unfold State.writeRecord; (try dsimp only); repeat' split
  all_goals simp
@[simp] theorem State.writeRecord_time (i : Nat) (d : Bytes) (s : State) : (s.writeRecord i d).time = s.time := by
  unfold State.writeRecord; (try dsimp only); repeat' split
  all_goals simp
@[simp] theorem State.writeRecord_win (i : Nat) (d : Bytes) (s : State) : (s.writeRecord i d).win = s.win := by
  unfold State.writeRecord; (try dsimp only); repeat' split
  all_goals simp
@[simp] theorem State.writeRecord_out (i : Nat) (d : Bytes) (s : State) : (s.writeRecord i d).out = s.out := by
  unfold State.writeRecord; (try dsimp only); repeat' split
  all_goals simp
@[simp] theorem State.writeRecord_free (i : Nat) (d : Bytes) (s : State) : (s.writeRecord i d).free = s.free := by
  unfold State.writeRecord; (try dsimp only); repeat' split
  all_goals simp
@[simp] theorem State.writeRecord_pending (i : Nat) (d : Bytes) (s : State) : (s.writeRecord i d).pending = s.pending := by
  unfold State.writeRecord; (try dsimp only); repeat' split
  all_goals simp
@[simp] theorem State.deferRecord_id (i : Nat) (d : Bytes) (s : State) : (s.deferRecord i d).id = s.id := by
  unfold State.deferRecord; (try dsimp only); repeat' split
  all_goals simp
@[simp] theorem State.deferRecord_pins (i : Nat) (d : Bytes) (s : State) : (s.deferRecord i d).pins = s.pins := by
  unfold State.deferRecord; (try dsimp only); repeat' split
  all_goals simp
@[simp] theorem State.deferRecord_pwr (i : Nat) (d : Bytes) (s : State) : (s.deferRecord i d).pwr = s.pwr := by
  unfold State.deferRecord; (try dsimp only); repeat' split
  all_goals simp
@[simp] theorem State.deferRecord_gov (i : Nat) (d : Bytes) (s : State) : (s.deferRecord i d).gov = s.gov := by
  unfold State.deferRecord; (try dsimp only); repeat' split
  all_goals simp
@[simp] theorem State.deferRecord_clk (i : Nat) (d : Bytes) (s : State) : (s.deferRecord i d).clk = s.clk := by
  unfold State.deferRecord; (try dsimp only); repeat' split
  all_goals simp
@[simp] theorem State.deferRecord_own (i : Nat) (d : Bytes) (s : State) : (s.deferRecord i d).own = s.own := by
  unfold State.deferRecord; (try dsimp only); repeat' split
  all_goals simp
@[simp] theorem State.deferRecord_ctl (i : Nat) (d : Bytes) (s : State) : (s.deferRecord i d).ctl = s.ctl := by
  unfold State.deferRecord; (try dsimp only); repeat' split
  all_goals simp
@[simp] theorem State.deferRecord_units (i : Nat) (d : Bytes) (s : State) : (s.deferRecord i d).units = s.units := by
  unfold State.deferRecord; (try dsimp only); repeat' split
  all_goals simp
@[simp] theorem State.deferRecord_mode (i : Nat) (d : Bytes) (s : State) : (s.deferRecord i d).mode = s.mode := by
  unfold State.deferRecord; (try dsimp only); repeat' split
  all_goals simp
@[simp] theorem State.deferRecord_cam (i : Nat) (d : Bytes) (s : State) : (s.deferRecord i d).cam = s.cam := by
  unfold State.deferRecord; (try dsimp only); repeat' split
  all_goals simp
@[simp] theorem State.deferRecord_isp (i : Nat) (d : Bytes) (s : State) : (s.deferRecord i d).isp = s.isp := by
  unfold State.deferRecord; (try dsimp only); repeat' split
  all_goals simp
@[simp] theorem State.deferRecord_depth (i : Nat) (d : Bytes) (s : State) : (s.deferRecord i d).depth = s.depth := by
  unfold State.deferRecord; (try dsimp only); repeat' split
  all_goals simp
@[simp] theorem State.deferRecord_scene (i : Nat) (d : Bytes) (s : State) : (s.deferRecord i d).scene = s.scene := by
  unfold State.deferRecord; (try dsimp only); repeat' split
  all_goals simp
@[simp] theorem State.deferRecord_leases (i : Nat) (d : Bytes) (s : State) : (s.deferRecord i d).leases = s.leases := by
  unfold State.deferRecord; (try dsimp only); repeat' split
  all_goals simp
@[simp] theorem State.deferRecord_ray (i : Nat) (d : Bytes) (s : State) : (s.deferRecord i d).ray = s.ray := by
  unfold State.deferRecord; (try dsimp only); repeat' split
  all_goals simp
@[simp] theorem State.deferRecord_cellar (i : Nat) (d : Bytes) (s : State) : (s.deferRecord i d).cellar = s.cellar := by
  unfold State.deferRecord; (try dsimp only); repeat' split
  all_goals simp
@[simp] theorem State.deferRecord_layers (i : Nat) (d : Bytes) (s : State) : (s.deferRecord i d).layers = s.layers := by
  unfold State.deferRecord; (try dsimp only); repeat' split
  all_goals simp
@[simp] theorem State.deferRecord_hw (i : Nat) (d : Bytes) (s : State) : (s.deferRecord i d).hw = s.hw := by
  unfold State.deferRecord; (try dsimp only); repeat' split
  all_goals simp
@[simp] theorem State.deferRecord_disp (i : Nat) (d : Bytes) (s : State) : (s.deferRecord i d).disp = s.disp := by
  unfold State.deferRecord; (try dsimp only); repeat' split
  all_goals simp
@[simp] theorem State.deferRecord_scan (i : Nat) (d : Bytes) (s : State) : (s.deferRecord i d).scan = s.scan := by
  unfold State.deferRecord; (try dsimp only); repeat' split
  all_goals simp
@[simp] theorem State.deferRecord_pnl (i : Nat) (d : Bytes) (s : State) : (s.deferRecord i d).pnl = s.pnl := by
  unfold State.deferRecord; (try dsimp only); repeat' split
  all_goals simp
@[simp] theorem State.deferRecord_lanes (i : Nat) (d : Bytes) (s : State) : (s.deferRecord i d).lanes = s.lanes := by
  unfold State.deferRecord; (try dsimp only); repeat' split
  all_goals simp
@[simp] theorem State.deferRecord_mem (i : Nat) (d : Bytes) (s : State) : (s.deferRecord i d).mem = s.mem := by
  unfold State.deferRecord; (try dsimp only); repeat' split
  all_goals simp
@[simp] theorem State.deferRecord_churn (i : Nat) (d : Bytes) (s : State) : (s.deferRecord i d).churn = s.churn := by
  unfold State.deferRecord; (try dsimp only); repeat' split
  all_goals simp
@[simp] theorem State.deferRecord_plc (i : Nat) (d : Bytes) (s : State) : (s.deferRecord i d).plc = s.plc := by
  unfold State.deferRecord; (try dsimp only); repeat' split
  all_goals simp
@[simp] theorem State.deferRecord_aud (i : Nat) (d : Bytes) (s : State) : (s.deferRecord i d).aud = s.aud := by
  unfold State.deferRecord; (try dsimp only); repeat' split
  all_goals simp
@[simp] theorem State.deferRecord_hk (i : Nat) (d : Bytes) (s : State) : (s.deferRecord i d).hk = s.hk := by
  unfold State.deferRecord; (try dsimp only); repeat' split
  all_goals simp
@[simp] theorem State.deferRecord_tp (i : Nat) (d : Bytes) (s : State) : (s.deferRecord i d).tp = s.tp := by
  unfold State.deferRecord; (try dsimp only); repeat' split
  all_goals simp
@[simp] theorem State.deferRecord_sec (i : Nat) (d : Bytes) (s : State) : (s.deferRecord i d).sec = s.sec := by
  unfold State.deferRecord; (try dsimp only); repeat' split
  all_goals simp
@[simp] theorem State.deferRecord_tap (i : Nat) (d : Bytes) (s : State) : (s.deferRecord i d).tap = s.tap := by
  unfold State.deferRecord; (try dsimp only); repeat' split
  all_goals simp
@[simp] theorem State.deferRecord_time (i : Nat) (d : Bytes) (s : State) : (s.deferRecord i d).time = s.time := by
  unfold State.deferRecord; (try dsimp only); repeat' split
  all_goals simp
@[simp] theorem State.deferRecord_win (i : Nat) (d : Bytes) (s : State) : (s.deferRecord i d).win = s.win := by
  unfold State.deferRecord; (try dsimp only); repeat' split
  all_goals simp
@[simp] theorem State.deferRecord_out (i : Nat) (d : Bytes) (s : State) : (s.deferRecord i d).out = s.out := by
  unfold State.deferRecord; (try dsimp only); repeat' split
  all_goals simp
@[simp] theorem State.deferRecord_free (i : Nat) (d : Bytes) (s : State) : (s.deferRecord i d).free = s.free := by
  unfold State.deferRecord; (try dsimp only); repeat' split
  all_goals simp
@[simp] theorem State.deferRecord_pending (i : Nat) (d : Bytes) (s : State) : (s.deferRecord i d).pending = s.pending := by
  unfold State.deferRecord; (try dsimp only); repeat' split
  all_goals simp
@[simp] theorem State.setIntent_id (d : Nat) (b : Bool) (s : State) : (s.setIntent d b).id = s.id := by
  unfold State.setIntent
  dsimp only
  refine List.foldlRecOn (motive := fun t : State => t.id = s.id) _ _ rfl fun t ht m _ => ?_
  exact ht
@[simp] theorem State.setIntent_pins (d : Nat) (b : Bool) (s : State) : (s.setIntent d b).pins = s.pins := by
  unfold State.setIntent
  dsimp only
  refine List.foldlRecOn (motive := fun t : State => t.pins = s.pins) _ _ rfl fun t ht m _ => ?_
  exact ht
@[simp] theorem State.setIntent_pwr (d : Nat) (b : Bool) (s : State) : (s.setIntent d b).pwr = s.pwr := by
  unfold State.setIntent
  dsimp only
  refine List.foldlRecOn (motive := fun t : State => t.pwr = s.pwr) _ _ rfl fun t ht m _ => ?_
  exact ht
@[simp] theorem State.setIntent_gov (d : Nat) (b : Bool) (s : State) : (s.setIntent d b).gov = s.gov := by
  unfold State.setIntent
  dsimp only
  refine List.foldlRecOn (motive := fun t : State => t.gov = s.gov) _ _ rfl fun t ht m _ => ?_
  exact ht
@[simp] theorem State.setIntent_clk (d : Nat) (b : Bool) (s : State) : (s.setIntent d b).clk = s.clk := by
  unfold State.setIntent
  dsimp only
  refine List.foldlRecOn (motive := fun t : State => t.clk = s.clk) _ _ rfl fun t ht m _ => ?_
  exact ht
@[simp] theorem State.setIntent_own (d : Nat) (b : Bool) (s : State) : (s.setIntent d b).own = s.own := by
  unfold State.setIntent
  dsimp only
  refine List.foldlRecOn (motive := fun t : State => t.own = s.own) _ _ rfl fun t ht m _ => ?_
  exact ht
@[simp] theorem State.setIntent_ctl (d : Nat) (b : Bool) (s : State) : (s.setIntent d b).ctl = s.ctl := by
  unfold State.setIntent
  dsimp only
  refine List.foldlRecOn (motive := fun t : State => t.ctl = s.ctl) _ _ rfl fun t ht m _ => ?_
  exact ht
@[simp] theorem State.setIntent_mode (d : Nat) (b : Bool) (s : State) : (s.setIntent d b).mode = s.mode := by
  unfold State.setIntent
  dsimp only
  refine List.foldlRecOn (motive := fun t : State => t.mode = s.mode) _ _ rfl fun t ht m _ => ?_
  exact ht
@[simp] theorem State.setIntent_cam (d : Nat) (b : Bool) (s : State) : (s.setIntent d b).cam = s.cam := by
  unfold State.setIntent
  dsimp only
  refine List.foldlRecOn (motive := fun t : State => t.cam = s.cam) _ _ rfl fun t ht m _ => ?_
  exact ht
@[simp] theorem State.setIntent_isp (d : Nat) (b : Bool) (s : State) : (s.setIntent d b).isp = s.isp := by
  unfold State.setIntent
  dsimp only
  refine List.foldlRecOn (motive := fun t : State => t.isp = s.isp) _ _ rfl fun t ht m _ => ?_
  exact ht
@[simp] theorem State.setIntent_depth (d : Nat) (b : Bool) (s : State) : (s.setIntent d b).depth = s.depth := by
  unfold State.setIntent
  dsimp only
  refine List.foldlRecOn (motive := fun t : State => t.depth = s.depth) _ _ rfl fun t ht m _ => ?_
  exact ht
@[simp] theorem State.setIntent_scene (d : Nat) (b : Bool) (s : State) : (s.setIntent d b).scene = s.scene := by
  unfold State.setIntent
  dsimp only
  refine List.foldlRecOn (motive := fun t : State => t.scene = s.scene) _ _ rfl fun t ht m _ => ?_
  exact ht
@[simp] theorem State.setIntent_leases (d : Nat) (b : Bool) (s : State) : (s.setIntent d b).leases = s.leases := by
  unfold State.setIntent
  dsimp only
  refine List.foldlRecOn (motive := fun t : State => t.leases = s.leases) _ _ rfl fun t ht m _ => ?_
  exact ht
@[simp] theorem State.setIntent_ray (d : Nat) (b : Bool) (s : State) : (s.setIntent d b).ray = s.ray := by
  unfold State.setIntent
  dsimp only
  refine List.foldlRecOn (motive := fun t : State => t.ray = s.ray) _ _ rfl fun t ht m _ => ?_
  exact ht
@[simp] theorem State.setIntent_cellar (d : Nat) (b : Bool) (s : State) : (s.setIntent d b).cellar = s.cellar := by
  unfold State.setIntent
  dsimp only
  refine List.foldlRecOn (motive := fun t : State => t.cellar = s.cellar) _ _ rfl fun t ht m _ => ?_
  exact ht
@[simp] theorem State.setIntent_layers (d : Nat) (b : Bool) (s : State) : (s.setIntent d b).layers = s.layers := by
  unfold State.setIntent
  dsimp only
  refine List.foldlRecOn (motive := fun t : State => t.layers = s.layers) _ _ rfl fun t ht m _ => ?_
  exact ht
@[simp] theorem State.setIntent_hw (d : Nat) (b : Bool) (s : State) : (s.setIntent d b).hw = s.hw := by
  unfold State.setIntent
  dsimp only
  refine List.foldlRecOn (motive := fun t : State => t.hw = s.hw) _ _ rfl fun t ht m _ => ?_
  exact ht
@[simp] theorem State.setIntent_disp (d : Nat) (b : Bool) (s : State) : (s.setIntent d b).disp = s.disp := by
  unfold State.setIntent
  dsimp only
  refine List.foldlRecOn (motive := fun t : State => t.disp = s.disp) _ _ rfl fun t ht m _ => ?_
  exact ht
@[simp] theorem State.setIntent_scan (d : Nat) (b : Bool) (s : State) : (s.setIntent d b).scan = s.scan := by
  unfold State.setIntent
  dsimp only
  refine List.foldlRecOn (motive := fun t : State => t.scan = s.scan) _ _ rfl fun t ht m _ => ?_
  exact ht
@[simp] theorem State.setIntent_pnl (d : Nat) (b : Bool) (s : State) : (s.setIntent d b).pnl = s.pnl := by
  unfold State.setIntent
  dsimp only
  refine List.foldlRecOn (motive := fun t : State => t.pnl = s.pnl) _ _ rfl fun t ht m _ => ?_
  exact ht
@[simp] theorem State.setIntent_lanes (d : Nat) (b : Bool) (s : State) : (s.setIntent d b).lanes = s.lanes := by
  unfold State.setIntent
  dsimp only
  refine List.foldlRecOn (motive := fun t : State => t.lanes = s.lanes) _ _ rfl fun t ht m _ => ?_
  exact ht
@[simp] theorem State.setIntent_mem (d : Nat) (b : Bool) (s : State) : (s.setIntent d b).mem = s.mem := by
  unfold State.setIntent
  dsimp only
  refine List.foldlRecOn (motive := fun t : State => t.mem = s.mem) _ _ rfl fun t ht m _ => ?_
  exact ht
@[simp] theorem State.setIntent_churn (d : Nat) (b : Bool) (s : State) : (s.setIntent d b).churn = s.churn := by
  unfold State.setIntent
  dsimp only
  refine List.foldlRecOn (motive := fun t : State => t.churn = s.churn) _ _ rfl fun t ht m _ => ?_
  exact ht
@[simp] theorem State.setIntent_plc (d : Nat) (b : Bool) (s : State) : (s.setIntent d b).plc = s.plc := by
  unfold State.setIntent
  dsimp only
  refine List.foldlRecOn (motive := fun t : State => t.plc = s.plc) _ _ rfl fun t ht m _ => ?_
  exact ht
@[simp] theorem State.setIntent_aud (d : Nat) (b : Bool) (s : State) : (s.setIntent d b).aud = s.aud := by
  unfold State.setIntent
  dsimp only
  refine List.foldlRecOn (motive := fun t : State => t.aud = s.aud) _ _ rfl fun t ht m _ => ?_
  exact ht
@[simp] theorem State.setIntent_hk (d : Nat) (b : Bool) (s : State) : (s.setIntent d b).hk = s.hk := by
  unfold State.setIntent
  dsimp only
  refine List.foldlRecOn (motive := fun t : State => t.hk = s.hk) _ _ rfl fun t ht m _ => ?_
  exact ht
@[simp] theorem State.setIntent_nvm (d : Nat) (b : Bool) (s : State) : (s.setIntent d b).nvm = s.nvm := by
  unfold State.setIntent
  dsimp only
  refine List.foldlRecOn (motive := fun t : State => t.nvm = s.nvm) _ _ rfl fun t ht m _ => ?_
  exact ht
@[simp] theorem State.setIntent_tp (d : Nat) (b : Bool) (s : State) : (s.setIntent d b).tp = s.tp := by
  unfold State.setIntent
  dsimp only
  refine List.foldlRecOn (motive := fun t : State => t.tp = s.tp) _ _ rfl fun t ht m _ => ?_
  exact ht
@[simp] theorem State.setIntent_sec (d : Nat) (b : Bool) (s : State) : (s.setIntent d b).sec = s.sec := by
  unfold State.setIntent
  dsimp only
  refine List.foldlRecOn (motive := fun t : State => t.sec = s.sec) _ _ rfl fun t ht m _ => ?_
  exact ht
@[simp] theorem State.setIntent_tap (d : Nat) (b : Bool) (s : State) : (s.setIntent d b).tap = s.tap := by
  unfold State.setIntent
  dsimp only
  refine List.foldlRecOn (motive := fun t : State => t.tap = s.tap) _ _ rfl fun t ht m _ => ?_
  exact ht
@[simp] theorem State.setIntent_time (d : Nat) (b : Bool) (s : State) : (s.setIntent d b).time = s.time := by
  unfold State.setIntent
  dsimp only
  refine List.foldlRecOn (motive := fun t : State => t.time = s.time) _ _ rfl fun t ht m _ => ?_
  exact ht
@[simp] theorem State.setIntent_win (d : Nat) (b : Bool) (s : State) : (s.setIntent d b).win = s.win := by
  unfold State.setIntent
  dsimp only
  refine List.foldlRecOn (motive := fun t : State => t.win = s.win) _ _ rfl fun t ht m _ => ?_
  exact ht
@[simp] theorem State.setIntent_out (d : Nat) (b : Bool) (s : State) : (s.setIntent d b).out = s.out := by
  unfold State.setIntent
  dsimp only
  refine List.foldlRecOn (motive := fun t : State => t.out = s.out) _ _ rfl fun t ht m _ => ?_
  exact ht
@[simp] theorem State.setIntent_free (d : Nat) (b : Bool) (s : State) : (s.setIntent d b).free = s.free := by
  unfold State.setIntent
  dsimp only
  refine List.foldlRecOn (motive := fun t : State => t.free = s.free) _ _ rfl fun t ht m _ => ?_
  exact ht
@[simp] theorem State.setIntent_pending (d : Nat) (b : Bool) (s : State) : (s.setIntent d b).pending = s.pending := by
  unfold State.setIntent
  dsimp only
  refine List.foldlRecOn (motive := fun t : State => t.pending = s.pending) _ _ rfl fun t ht m _ => ?_
  exact ht
@[simp] theorem State.startDomain_id (d r : Nat) (s : State) : (s.startDomain d r).id = s.id := by
  unfold State.startDomain; (try dsimp only)
  simp
@[simp] theorem State.startDomain_pins (d r : Nat) (s : State) : (s.startDomain d r).pins = s.pins := by
  unfold State.startDomain; (try dsimp only)
  simp
@[simp] theorem State.startDomain_gov (d r : Nat) (s : State) : (s.startDomain d r).gov = s.gov := by
  unfold State.startDomain; (try dsimp only)
  simp
@[simp] theorem State.startDomain_clk (d r : Nat) (s : State) : (s.startDomain d r).clk = s.clk := by
  unfold State.startDomain; (try dsimp only)
  simp
@[simp] theorem State.startDomain_own (d r : Nat) (s : State) : (s.startDomain d r).own = s.own := by
  unfold State.startDomain; (try dsimp only)
  simp
@[simp] theorem State.startDomain_mode (d r : Nat) (s : State) : (s.startDomain d r).mode = s.mode := by
  unfold State.startDomain; (try dsimp only)
  simp
@[simp] theorem State.startDomain_cam (d r : Nat) (s : State) : (s.startDomain d r).cam = s.cam := by
  unfold State.startDomain; (try dsimp only)
  simp
@[simp] theorem State.startDomain_isp (d r : Nat) (s : State) : (s.startDomain d r).isp = s.isp := by
  unfold State.startDomain; (try dsimp only)
  simp
@[simp] theorem State.startDomain_depth (d r : Nat) (s : State) : (s.startDomain d r).depth = s.depth := by
  unfold State.startDomain; (try dsimp only)
  simp
@[simp] theorem State.startDomain_scene (d r : Nat) (s : State) : (s.startDomain d r).scene = s.scene := by
  unfold State.startDomain; (try dsimp only)
  simp
@[simp] theorem State.startDomain_leases (d r : Nat) (s : State) : (s.startDomain d r).leases = s.leases := by
  unfold State.startDomain; (try dsimp only)
  simp
@[simp] theorem State.startDomain_ray (d r : Nat) (s : State) : (s.startDomain d r).ray = s.ray := by
  unfold State.startDomain; (try dsimp only)
  simp
@[simp] theorem State.startDomain_cellar (d r : Nat) (s : State) : (s.startDomain d r).cellar = s.cellar := by
  unfold State.startDomain; (try dsimp only)
  simp
@[simp] theorem State.startDomain_layers (d r : Nat) (s : State) : (s.startDomain d r).layers = s.layers := by
  unfold State.startDomain; (try dsimp only)
  simp
@[simp] theorem State.startDomain_hw (d r : Nat) (s : State) : (s.startDomain d r).hw = s.hw := by
  unfold State.startDomain; (try dsimp only)
  simp
@[simp] theorem State.startDomain_disp (d r : Nat) (s : State) : (s.startDomain d r).disp = s.disp := by
  unfold State.startDomain; (try dsimp only)
  simp
@[simp] theorem State.startDomain_scan (d r : Nat) (s : State) : (s.startDomain d r).scan = s.scan := by
  unfold State.startDomain; (try dsimp only)
  simp
@[simp] theorem State.startDomain_pnl (d r : Nat) (s : State) : (s.startDomain d r).pnl = s.pnl := by
  unfold State.startDomain; (try dsimp only)
  simp
@[simp] theorem State.startDomain_lanes (d r : Nat) (s : State) : (s.startDomain d r).lanes = s.lanes := by
  unfold State.startDomain; (try dsimp only)
  simp
@[simp] theorem State.startDomain_mem (d r : Nat) (s : State) : (s.startDomain d r).mem = s.mem := by
  unfold State.startDomain; (try dsimp only)
  simp
@[simp] theorem State.startDomain_churn (d r : Nat) (s : State) : (s.startDomain d r).churn = s.churn := by
  unfold State.startDomain; (try dsimp only)
  simp
@[simp] theorem State.startDomain_plc (d r : Nat) (s : State) : (s.startDomain d r).plc = s.plc := by
  unfold State.startDomain; (try dsimp only)
  simp
@[simp] theorem State.startDomain_aud (d r : Nat) (s : State) : (s.startDomain d r).aud = s.aud := by
  unfold State.startDomain; (try dsimp only)
  simp
@[simp] theorem State.startDomain_hk (d r : Nat) (s : State) : (s.startDomain d r).hk = s.hk := by
  unfold State.startDomain; (try dsimp only)
  simp
@[simp] theorem State.startDomain_nvm (d r : Nat) (s : State) : (s.startDomain d r).nvm = s.nvm := by
  unfold State.startDomain; (try dsimp only)
  simp
@[simp] theorem State.startDomain_tp (d r : Nat) (s : State) : (s.startDomain d r).tp = s.tp := by
  unfold State.startDomain; (try dsimp only)
  simp
@[simp] theorem State.startDomain_sec (d r : Nat) (s : State) : (s.startDomain d r).sec = s.sec := by
  unfold State.startDomain; (try dsimp only)
  simp
@[simp] theorem State.startDomain_tap (d r : Nat) (s : State) : (s.startDomain d r).tap = s.tap := by
  unfold State.startDomain; (try dsimp only)
  simp
@[simp] theorem State.startDomain_time (d r : Nat) (s : State) : (s.startDomain d r).time = s.time := by
  unfold State.startDomain; (try dsimp only)
  simp
@[simp] theorem State.startDomain_win (d r : Nat) (s : State) : (s.startDomain d r).win = s.win := by
  unfold State.startDomain; (try dsimp only)
  simp
@[simp] theorem State.startDomain_free (d r : Nat) (s : State) : (s.startDomain d r).free = s.free := by
  unfold State.startDomain; (try dsimp only)
  simp
@[simp] theorem State.startDomain_pending (d r : Nat) (s : State) : (s.startDomain d r).pending = s.pending := by
  unfold State.startDomain; (try dsimp only)
  simp
@[simp] theorem State.reqDomain_id (d : Nat) (b : Bool) (r : Nat) (s : State) : (s.reqDomain d b r).id = s.id := by
  unfold State.reqDomain; (try dsimp only)
  have hw : (s.when (s.hasDomain d && s.pins.coreEn) (·.setIntent d b)).id = s.id := by
    unfold State.when; split <;> simp
  repeat' split
  all_goals simp [hw]
@[simp] theorem State.reqDomain_pins (d : Nat) (b : Bool) (r : Nat) (s : State) : (s.reqDomain d b r).pins = s.pins := by
  unfold State.reqDomain; (try dsimp only)
  have hw : (s.when (s.hasDomain d && s.pins.coreEn) (·.setIntent d b)).pins = s.pins := by
    unfold State.when; split <;> simp
  repeat' split
  all_goals simp [hw]
@[simp] theorem State.reqDomain_gov (d : Nat) (b : Bool) (r : Nat) (s : State) : (s.reqDomain d b r).gov = s.gov := by
  unfold State.reqDomain; (try dsimp only)
  have hw : (s.when (s.hasDomain d && s.pins.coreEn) (·.setIntent d b)).gov = s.gov := by
    unfold State.when; split <;> simp
  repeat' split
  all_goals simp [hw]
@[simp] theorem State.reqDomain_clk (d : Nat) (b : Bool) (r : Nat) (s : State) : (s.reqDomain d b r).clk = s.clk := by
  unfold State.reqDomain; (try dsimp only)
  have hw : (s.when (s.hasDomain d && s.pins.coreEn) (·.setIntent d b)).clk = s.clk := by
    unfold State.when; split <;> simp
  repeat' split
  all_goals simp [hw]
@[simp] theorem State.reqDomain_own (d : Nat) (b : Bool) (r : Nat) (s : State) : (s.reqDomain d b r).own = s.own := by
  unfold State.reqDomain; (try dsimp only)
  have hw : (s.when (s.hasDomain d && s.pins.coreEn) (·.setIntent d b)).own = s.own := by
    unfold State.when; split <;> simp
  repeat' split
  all_goals simp [hw]
@[simp] theorem State.reqDomain_mode (d : Nat) (b : Bool) (r : Nat) (s : State) : (s.reqDomain d b r).mode = s.mode := by
  unfold State.reqDomain; (try dsimp only)
  have hw : (s.when (s.hasDomain d && s.pins.coreEn) (·.setIntent d b)).mode = s.mode := by
    unfold State.when; split <;> simp
  repeat' split
  all_goals simp [hw]
@[simp] theorem State.reqDomain_cam (d : Nat) (b : Bool) (r : Nat) (s : State) : (s.reqDomain d b r).cam = s.cam := by
  unfold State.reqDomain; (try dsimp only)
  have hw : (s.when (s.hasDomain d && s.pins.coreEn) (·.setIntent d b)).cam = s.cam := by
    unfold State.when; split <;> simp
  repeat' split
  all_goals simp [hw]
@[simp] theorem State.reqDomain_isp (d : Nat) (b : Bool) (r : Nat) (s : State) : (s.reqDomain d b r).isp = s.isp := by
  unfold State.reqDomain; (try dsimp only)
  have hw : (s.when (s.hasDomain d && s.pins.coreEn) (·.setIntent d b)).isp = s.isp := by
    unfold State.when; split <;> simp
  repeat' split
  all_goals simp [hw]
@[simp] theorem State.reqDomain_depth (d : Nat) (b : Bool) (r : Nat) (s : State) : (s.reqDomain d b r).depth = s.depth := by
  unfold State.reqDomain; (try dsimp only)
  have hw : (s.when (s.hasDomain d && s.pins.coreEn) (·.setIntent d b)).depth = s.depth := by
    unfold State.when; split <;> simp
  repeat' split
  all_goals simp [hw]
@[simp] theorem State.reqDomain_scene (d : Nat) (b : Bool) (r : Nat) (s : State) : (s.reqDomain d b r).scene = s.scene := by
  unfold State.reqDomain; (try dsimp only)
  have hw : (s.when (s.hasDomain d && s.pins.coreEn) (·.setIntent d b)).scene = s.scene := by
    unfold State.when; split <;> simp
  repeat' split
  all_goals simp [hw]
@[simp] theorem State.reqDomain_leases (d : Nat) (b : Bool) (r : Nat) (s : State) : (s.reqDomain d b r).leases = s.leases := by
  unfold State.reqDomain; (try dsimp only)
  have hw : (s.when (s.hasDomain d && s.pins.coreEn) (·.setIntent d b)).leases = s.leases := by
    unfold State.when; split <;> simp
  repeat' split
  all_goals simp [hw]
@[simp] theorem State.reqDomain_ray (d : Nat) (b : Bool) (r : Nat) (s : State) : (s.reqDomain d b r).ray = s.ray := by
  unfold State.reqDomain; (try dsimp only)
  have hw : (s.when (s.hasDomain d && s.pins.coreEn) (·.setIntent d b)).ray = s.ray := by
    unfold State.when; split <;> simp
  repeat' split
  all_goals simp [hw]
@[simp] theorem State.reqDomain_cellar (d : Nat) (b : Bool) (r : Nat) (s : State) : (s.reqDomain d b r).cellar = s.cellar := by
  unfold State.reqDomain; (try dsimp only)
  have hw : (s.when (s.hasDomain d && s.pins.coreEn) (·.setIntent d b)).cellar = s.cellar := by
    unfold State.when; split <;> simp
  repeat' split
  all_goals simp [hw]
@[simp] theorem State.reqDomain_layers (d : Nat) (b : Bool) (r : Nat) (s : State) : (s.reqDomain d b r).layers = s.layers := by
  unfold State.reqDomain; (try dsimp only)
  have hw : (s.when (s.hasDomain d && s.pins.coreEn) (·.setIntent d b)).layers = s.layers := by
    unfold State.when; split <;> simp
  repeat' split
  all_goals simp [hw]
@[simp] theorem State.reqDomain_hw (d : Nat) (b : Bool) (r : Nat) (s : State) : (s.reqDomain d b r).hw = s.hw := by
  unfold State.reqDomain; (try dsimp only)
  have hw : (s.when (s.hasDomain d && s.pins.coreEn) (·.setIntent d b)).hw = s.hw := by
    unfold State.when; split <;> simp
  repeat' split
  all_goals simp [hw]
@[simp] theorem State.reqDomain_disp (d : Nat) (b : Bool) (r : Nat) (s : State) : (s.reqDomain d b r).disp = s.disp := by
  unfold State.reqDomain; (try dsimp only)
  have hw : (s.when (s.hasDomain d && s.pins.coreEn) (·.setIntent d b)).disp = s.disp := by
    unfold State.when; split <;> simp
  repeat' split
  all_goals simp [hw]
@[simp] theorem State.reqDomain_scan (d : Nat) (b : Bool) (r : Nat) (s : State) : (s.reqDomain d b r).scan = s.scan := by
  unfold State.reqDomain; (try dsimp only)
  have hw : (s.when (s.hasDomain d && s.pins.coreEn) (·.setIntent d b)).scan = s.scan := by
    unfold State.when; split <;> simp
  repeat' split
  all_goals simp [hw]
@[simp] theorem State.reqDomain_pnl (d : Nat) (b : Bool) (r : Nat) (s : State) : (s.reqDomain d b r).pnl = s.pnl := by
  unfold State.reqDomain; (try dsimp only)
  have hw : (s.when (s.hasDomain d && s.pins.coreEn) (·.setIntent d b)).pnl = s.pnl := by
    unfold State.when; split <;> simp
  repeat' split
  all_goals simp [hw]
@[simp] theorem State.reqDomain_lanes (d : Nat) (b : Bool) (r : Nat) (s : State) : (s.reqDomain d b r).lanes = s.lanes := by
  unfold State.reqDomain; (try dsimp only)
  have hw : (s.when (s.hasDomain d && s.pins.coreEn) (·.setIntent d b)).lanes = s.lanes := by
    unfold State.when; split <;> simp
  repeat' split
  all_goals simp [hw]
@[simp] theorem State.reqDomain_mem (d : Nat) (b : Bool) (r : Nat) (s : State) : (s.reqDomain d b r).mem = s.mem := by
  unfold State.reqDomain; (try dsimp only)
  have hw : (s.when (s.hasDomain d && s.pins.coreEn) (·.setIntent d b)).mem = s.mem := by
    unfold State.when; split <;> simp
  repeat' split
  all_goals simp [hw]
@[simp] theorem State.reqDomain_churn (d : Nat) (b : Bool) (r : Nat) (s : State) : (s.reqDomain d b r).churn = s.churn := by
  unfold State.reqDomain; (try dsimp only)
  have hw : (s.when (s.hasDomain d && s.pins.coreEn) (·.setIntent d b)).churn = s.churn := by
    unfold State.when; split <;> simp
  repeat' split
  all_goals simp [hw]
@[simp] theorem State.reqDomain_plc (d : Nat) (b : Bool) (r : Nat) (s : State) : (s.reqDomain d b r).plc = s.plc := by
  unfold State.reqDomain; (try dsimp only)
  have hw : (s.when (s.hasDomain d && s.pins.coreEn) (·.setIntent d b)).plc = s.plc := by
    unfold State.when; split <;> simp
  repeat' split
  all_goals simp [hw]
@[simp] theorem State.reqDomain_aud (d : Nat) (b : Bool) (r : Nat) (s : State) : (s.reqDomain d b r).aud = s.aud := by
  unfold State.reqDomain; (try dsimp only)
  have hw : (s.when (s.hasDomain d && s.pins.coreEn) (·.setIntent d b)).aud = s.aud := by
    unfold State.when; split <;> simp
  repeat' split
  all_goals simp [hw]
@[simp] theorem State.reqDomain_hk (d : Nat) (b : Bool) (r : Nat) (s : State) : (s.reqDomain d b r).hk = s.hk := by
  unfold State.reqDomain; (try dsimp only)
  have hw : (s.when (s.hasDomain d && s.pins.coreEn) (·.setIntent d b)).hk = s.hk := by
    unfold State.when; split <;> simp
  repeat' split
  all_goals simp [hw]
@[simp] theorem State.reqDomain_nvm (d : Nat) (b : Bool) (r : Nat) (s : State) : (s.reqDomain d b r).nvm = s.nvm := by
  unfold State.reqDomain; (try dsimp only)
  have hw : (s.when (s.hasDomain d && s.pins.coreEn) (·.setIntent d b)).nvm = s.nvm := by
    unfold State.when; split <;> simp
  repeat' split
  all_goals simp [hw]
@[simp] theorem State.reqDomain_tp (d : Nat) (b : Bool) (r : Nat) (s : State) : (s.reqDomain d b r).tp = s.tp := by
  unfold State.reqDomain; (try dsimp only)
  have hw : (s.when (s.hasDomain d && s.pins.coreEn) (·.setIntent d b)).tp = s.tp := by
    unfold State.when; split <;> simp
  repeat' split
  all_goals simp [hw]
@[simp] theorem State.reqDomain_sec (d : Nat) (b : Bool) (r : Nat) (s : State) : (s.reqDomain d b r).sec = s.sec := by
  unfold State.reqDomain; (try dsimp only)
  have hw : (s.when (s.hasDomain d && s.pins.coreEn) (·.setIntent d b)).sec = s.sec := by
    unfold State.when; split <;> simp
  repeat' split
  all_goals simp [hw]
@[simp] theorem State.reqDomain_tap (d : Nat) (b : Bool) (r : Nat) (s : State) : (s.reqDomain d b r).tap = s.tap := by
  unfold State.reqDomain; (try dsimp only)
  have hw : (s.when (s.hasDomain d && s.pins.coreEn) (·.setIntent d b)).tap = s.tap := by
    unfold State.when; split <;> simp
  repeat' split
  all_goals simp [hw]
@[simp] theorem State.reqDomain_time (d : Nat) (b : Bool) (r : Nat) (s : State) : (s.reqDomain d b r).time = s.time := by
  unfold State.reqDomain; (try dsimp only)
  have hw : (s.when (s.hasDomain d && s.pins.coreEn) (·.setIntent d b)).time = s.time := by
    unfold State.when; split <;> simp
  repeat' split
  all_goals simp [hw]
@[simp] theorem State.reqDomain_win (d : Nat) (b : Bool) (r : Nat) (s : State) : (s.reqDomain d b r).win = s.win := by
  unfold State.reqDomain; (try dsimp only)
  have hw : (s.when (s.hasDomain d && s.pins.coreEn) (·.setIntent d b)).win = s.win := by
    unfold State.when; split <;> simp
  repeat' split
  all_goals simp [hw]
@[simp] theorem State.reqDomain_free (d : Nat) (b : Bool) (r : Nat) (s : State) : (s.reqDomain d b r).free = s.free := by
  unfold State.reqDomain; (try dsimp only)
  have hw : (s.when (s.hasDomain d && s.pins.coreEn) (·.setIntent d b)).free = s.free := by
    unfold State.when; split <;> simp
  repeat' split
  all_goals simp [hw]
@[simp] theorem State.reqDomain_pending (d : Nat) (b : Bool) (r : Nat) (s : State) : (s.reqDomain d b r).pending = s.pending := by
  unfold State.reqDomain; (try dsimp only)
  have hw : (s.when (s.hasDomain d && s.pins.coreEn) (·.setIntent d b)).pending = s.pending := by
    unfold State.when; split <;> simp
  repeat' split
  all_goals simp [hw]
@[simp] theorem State.churnComplete_id (q e a b c d f : Nat) (h : Option Nat) (t : W32) (i : Bool) (s : State) : (s.churnComplete q e a b c d f h t i).id = s.id := by
  unfold State.churnComplete State.when; (try dsimp only); repeat' split
  all_goals simp
@[simp] theorem State.churnComplete_pins (q e a b c d f : Nat) (h : Option Nat) (t : W32) (i : Bool) (s : State) : (s.churnComplete q e a b c d f h t i).pins = s.pins := by
  unfold State.churnComplete State.when; (try dsimp only); repeat' split
  all_goals simp
@[simp] theorem State.churnComplete_pwr (q e a b c d f : Nat) (h : Option Nat) (t : W32) (i : Bool) (s : State) : (s.churnComplete q e a b c d f h t i).pwr = s.pwr := by
  unfold State.churnComplete State.when; (try dsimp only); repeat' split
  all_goals simp
@[simp] theorem State.churnComplete_gov (q e a b c d f : Nat) (h : Option Nat) (t : W32) (i : Bool) (s : State) : (s.churnComplete q e a b c d f h t i).gov = s.gov := by
  unfold State.churnComplete State.when; (try dsimp only); repeat' split
  all_goals simp
@[simp] theorem State.churnComplete_clk (q e a b c d f : Nat) (h : Option Nat) (t : W32) (i : Bool) (s : State) : (s.churnComplete q e a b c d f h t i).clk = s.clk := by
  unfold State.churnComplete State.when; (try dsimp only); repeat' split
  all_goals simp
@[simp] theorem State.churnComplete_own (q e a b c d f : Nat) (h : Option Nat) (t : W32) (i : Bool) (s : State) : (s.churnComplete q e a b c d f h t i).own = s.own := by
  unfold State.churnComplete State.when; (try dsimp only); repeat' split
  all_goals simp
@[simp] theorem State.churnComplete_units (q e a b c d f : Nat) (h : Option Nat) (t : W32) (i : Bool) (s : State) : (s.churnComplete q e a b c d f h t i).units = s.units := by
  unfold State.churnComplete State.when; (try dsimp only); repeat' split
  all_goals simp
@[simp] theorem State.churnComplete_mode (q e a b c d f : Nat) (h : Option Nat) (t : W32) (i : Bool) (s : State) : (s.churnComplete q e a b c d f h t i).mode = s.mode := by
  unfold State.churnComplete State.when; (try dsimp only); repeat' split
  all_goals simp
@[simp] theorem State.churnComplete_cam (q e a b c d f : Nat) (h : Option Nat) (t : W32) (i : Bool) (s : State) : (s.churnComplete q e a b c d f h t i).cam = s.cam := by
  unfold State.churnComplete State.when; (try dsimp only); repeat' split
  all_goals simp
@[simp] theorem State.churnComplete_isp (q e a b c d f : Nat) (h : Option Nat) (t : W32) (i : Bool) (s : State) : (s.churnComplete q e a b c d f h t i).isp = s.isp := by
  unfold State.churnComplete State.when; (try dsimp only); repeat' split
  all_goals simp
@[simp] theorem State.churnComplete_depth (q e a b c d f : Nat) (h : Option Nat) (t : W32) (i : Bool) (s : State) : (s.churnComplete q e a b c d f h t i).depth = s.depth := by
  unfold State.churnComplete State.when; (try dsimp only); repeat' split
  all_goals simp
@[simp] theorem State.churnComplete_scene (q e a b c d f : Nat) (h : Option Nat) (t : W32) (i : Bool) (s : State) : (s.churnComplete q e a b c d f h t i).scene = s.scene := by
  unfold State.churnComplete State.when; (try dsimp only); repeat' split
  all_goals simp
@[simp] theorem State.churnComplete_leases (q e a b c d f : Nat) (h : Option Nat) (t : W32) (i : Bool) (s : State) : (s.churnComplete q e a b c d f h t i).leases = s.leases := by
  unfold State.churnComplete State.when; (try dsimp only); repeat' split
  all_goals simp
@[simp] theorem State.churnComplete_ray (q e a b c d f : Nat) (h : Option Nat) (t : W32) (i : Bool) (s : State) : (s.churnComplete q e a b c d f h t i).ray = s.ray := by
  unfold State.churnComplete State.when; (try dsimp only); repeat' split
  all_goals simp
@[simp] theorem State.churnComplete_layers (q e a b c d f : Nat) (h : Option Nat) (t : W32) (i : Bool) (s : State) : (s.churnComplete q e a b c d f h t i).layers = s.layers := by
  unfold State.churnComplete State.when; (try dsimp only); repeat' split
  all_goals simp
@[simp] theorem State.churnComplete_hw (q e a b c d f : Nat) (h : Option Nat) (t : W32) (i : Bool) (s : State) : (s.churnComplete q e a b c d f h t i).hw = s.hw := by
  unfold State.churnComplete State.when; (try dsimp only); repeat' split
  all_goals simp
@[simp] theorem State.churnComplete_disp (q e a b c d f : Nat) (h : Option Nat) (t : W32) (i : Bool) (s : State) : (s.churnComplete q e a b c d f h t i).disp = s.disp := by
  unfold State.churnComplete State.when; (try dsimp only); repeat' split
  all_goals simp
@[simp] theorem State.churnComplete_scan (q e a b c d f : Nat) (h : Option Nat) (t : W32) (i : Bool) (s : State) : (s.churnComplete q e a b c d f h t i).scan = s.scan := by
  unfold State.churnComplete State.when; (try dsimp only); repeat' split
  all_goals simp
@[simp] theorem State.churnComplete_pnl (q e a b c d f : Nat) (h : Option Nat) (t : W32) (i : Bool) (s : State) : (s.churnComplete q e a b c d f h t i).pnl = s.pnl := by
  unfold State.churnComplete State.when; (try dsimp only); repeat' split
  all_goals simp
@[simp] theorem State.churnComplete_lanes (q e a b c d f : Nat) (h : Option Nat) (t : W32) (i : Bool) (s : State) : (s.churnComplete q e a b c d f h t i).lanes = s.lanes := by
  unfold State.churnComplete State.when; (try dsimp only); repeat' split
  all_goals simp
@[simp] theorem State.churnComplete_plc (q e a b c d f : Nat) (h : Option Nat) (t : W32) (i : Bool) (s : State) : (s.churnComplete q e a b c d f h t i).plc = s.plc := by
  unfold State.churnComplete State.when; (try dsimp only); repeat' split
  all_goals simp
@[simp] theorem State.churnComplete_aud (q e a b c d f : Nat) (h : Option Nat) (t : W32) (i : Bool) (s : State) : (s.churnComplete q e a b c d f h t i).aud = s.aud := by
  unfold State.churnComplete State.when; (try dsimp only); repeat' split
  all_goals simp
@[simp] theorem State.churnComplete_hk (q e a b c d f : Nat) (h : Option Nat) (t : W32) (i : Bool) (s : State) : (s.churnComplete q e a b c d f h t i).hk = s.hk := by
  unfold State.churnComplete State.when; (try dsimp only); repeat' split
  all_goals simp
@[simp] theorem State.churnComplete_nvm (q e a b c d f : Nat) (h : Option Nat) (t : W32) (i : Bool) (s : State) : (s.churnComplete q e a b c d f h t i).nvm = s.nvm := by
  unfold State.churnComplete State.when; (try dsimp only); repeat' split
  all_goals simp
@[simp] theorem State.churnComplete_tp (q e a b c d f : Nat) (h : Option Nat) (t : W32) (i : Bool) (s : State) : (s.churnComplete q e a b c d f h t i).tp = s.tp := by
  unfold State.churnComplete State.when; (try dsimp only); repeat' split
  all_goals simp
@[simp] theorem State.churnComplete_sec (q e a b c d f : Nat) (h : Option Nat) (t : W32) (i : Bool) (s : State) : (s.churnComplete q e a b c d f h t i).sec = s.sec := by
  unfold State.churnComplete State.when; (try dsimp only); repeat' split
  all_goals simp
@[simp] theorem State.churnComplete_tap (q e a b c d f : Nat) (h : Option Nat) (t : W32) (i : Bool) (s : State) : (s.churnComplete q e a b c d f h t i).tap = s.tap := by
  unfold State.churnComplete State.when; (try dsimp only); repeat' split
  all_goals simp
@[simp] theorem State.churnComplete_time (q e a b c d f : Nat) (h : Option Nat) (t : W32) (i : Bool) (s : State) : (s.churnComplete q e a b c d f h t i).time = s.time := by
  unfold State.churnComplete State.when; (try dsimp only); repeat' split
  all_goals simp
@[simp] theorem State.churnComplete_win (q e a b c d f : Nat) (h : Option Nat) (t : W32) (i : Bool) (s : State) : (s.churnComplete q e a b c d f h t i).win = s.win := by
  unfold State.churnComplete State.when; (try dsimp only); repeat' split
  all_goals simp
@[simp] theorem State.churnComplete_free (q e a b c d f : Nat) (h : Option Nat) (t : W32) (i : Bool) (s : State) : (s.churnComplete q e a b c d f h t i).free = s.free := by
  unfold State.churnComplete State.when; (try dsimp only); repeat' split
  all_goals simp
@[simp] theorem State.churnComplete_pending (q e a b c d f : Nat) (h : Option Nat) (t : W32) (i : Bool) (s : State) : (s.churnComplete q e a b c d f h t i).pending = s.pending := by
  unfold State.churnComplete State.when; (try dsimp only); repeat' split
  all_goals simp
@[simp] theorem State.churnEnd_id (r : ChurnRun) (s : State) : (s.churnEnd r).id = s.id := by
  unfold State.churnEnd; (try dsimp only); repeat' split
  all_goals simp
@[simp] theorem State.churnEnd_pins (r : ChurnRun) (s : State) : (s.churnEnd r).pins = s.pins := by
  unfold State.churnEnd; (try dsimp only); repeat' split
  all_goals simp
@[simp] theorem State.churnEnd_pwr (r : ChurnRun) (s : State) : (s.churnEnd r).pwr = s.pwr := by
  unfold State.churnEnd; (try dsimp only); repeat' split
  all_goals simp
@[simp] theorem State.churnEnd_gov (r : ChurnRun) (s : State) : (s.churnEnd r).gov = s.gov := by
  unfold State.churnEnd; (try dsimp only); repeat' split
  all_goals simp
@[simp] theorem State.churnEnd_clk (r : ChurnRun) (s : State) : (s.churnEnd r).clk = s.clk := by
  unfold State.churnEnd; (try dsimp only); repeat' split
  all_goals simp
@[simp] theorem State.churnEnd_own (r : ChurnRun) (s : State) : (s.churnEnd r).own = s.own := by
  unfold State.churnEnd; (try dsimp only); repeat' split
  all_goals simp
@[simp] theorem State.churnEnd_units (r : ChurnRun) (s : State) : (s.churnEnd r).units = s.units := by
  unfold State.churnEnd; (try dsimp only); repeat' split
  all_goals simp
@[simp] theorem State.churnEnd_mode (r : ChurnRun) (s : State) : (s.churnEnd r).mode = s.mode := by
  unfold State.churnEnd; (try dsimp only); repeat' split
  all_goals simp
@[simp] theorem State.churnEnd_cam (r : ChurnRun) (s : State) : (s.churnEnd r).cam = s.cam := by
  unfold State.churnEnd; (try dsimp only); repeat' split
  all_goals simp
@[simp] theorem State.churnEnd_isp (r : ChurnRun) (s : State) : (s.churnEnd r).isp = s.isp := by
  unfold State.churnEnd; (try dsimp only); repeat' split
  all_goals simp
@[simp] theorem State.churnEnd_depth (r : ChurnRun) (s : State) : (s.churnEnd r).depth = s.depth := by
  unfold State.churnEnd; (try dsimp only); repeat' split
  all_goals simp
@[simp] theorem State.churnEnd_scene (r : ChurnRun) (s : State) : (s.churnEnd r).scene = s.scene := by
  unfold State.churnEnd; (try dsimp only); repeat' split
  all_goals simp
@[simp] theorem State.churnEnd_leases (r : ChurnRun) (s : State) : (s.churnEnd r).leases = s.leases := by
  unfold State.churnEnd; (try dsimp only); repeat' split
  all_goals simp
@[simp] theorem State.churnEnd_ray (r : ChurnRun) (s : State) : (s.churnEnd r).ray = s.ray := by
  unfold State.churnEnd; (try dsimp only); repeat' split
  all_goals simp
@[simp] theorem State.churnEnd_layers (r : ChurnRun) (s : State) : (s.churnEnd r).layers = s.layers := by
  unfold State.churnEnd; (try dsimp only); repeat' split
  all_goals simp
@[simp] theorem State.churnEnd_hw (r : ChurnRun) (s : State) : (s.churnEnd r).hw = s.hw := by
  unfold State.churnEnd; (try dsimp only); repeat' split
  all_goals simp
@[simp] theorem State.churnEnd_disp (r : ChurnRun) (s : State) : (s.churnEnd r).disp = s.disp := by
  unfold State.churnEnd; (try dsimp only); repeat' split
  all_goals simp
@[simp] theorem State.churnEnd_scan (r : ChurnRun) (s : State) : (s.churnEnd r).scan = s.scan := by
  unfold State.churnEnd; (try dsimp only); repeat' split
  all_goals simp
@[simp] theorem State.churnEnd_pnl (r : ChurnRun) (s : State) : (s.churnEnd r).pnl = s.pnl := by
  unfold State.churnEnd; (try dsimp only); repeat' split
  all_goals simp
@[simp] theorem State.churnEnd_lanes (r : ChurnRun) (s : State) : (s.churnEnd r).lanes = s.lanes := by
  unfold State.churnEnd; (try dsimp only); repeat' split
  all_goals simp
@[simp] theorem State.churnEnd_plc (r : ChurnRun) (s : State) : (s.churnEnd r).plc = s.plc := by
  unfold State.churnEnd; (try dsimp only); repeat' split
  all_goals simp
@[simp] theorem State.churnEnd_aud (r : ChurnRun) (s : State) : (s.churnEnd r).aud = s.aud := by
  unfold State.churnEnd; (try dsimp only); repeat' split
  all_goals simp
@[simp] theorem State.churnEnd_hk (r : ChurnRun) (s : State) : (s.churnEnd r).hk = s.hk := by
  unfold State.churnEnd; (try dsimp only); repeat' split
  all_goals simp
@[simp] theorem State.churnEnd_nvm (r : ChurnRun) (s : State) : (s.churnEnd r).nvm = s.nvm := by
  unfold State.churnEnd; (try dsimp only); repeat' split
  all_goals simp
@[simp] theorem State.churnEnd_tp (r : ChurnRun) (s : State) : (s.churnEnd r).tp = s.tp := by
  unfold State.churnEnd; (try dsimp only); repeat' split
  all_goals simp
@[simp] theorem State.churnEnd_sec (r : ChurnRun) (s : State) : (s.churnEnd r).sec = s.sec := by
  unfold State.churnEnd; (try dsimp only); repeat' split
  all_goals simp
@[simp] theorem State.churnEnd_tap (r : ChurnRun) (s : State) : (s.churnEnd r).tap = s.tap := by
  unfold State.churnEnd; (try dsimp only); repeat' split
  all_goals simp
@[simp] theorem State.churnEnd_time (r : ChurnRun) (s : State) : (s.churnEnd r).time = s.time := by
  unfold State.churnEnd; (try dsimp only); repeat' split
  all_goals simp
@[simp] theorem State.churnEnd_win (r : ChurnRun) (s : State) : (s.churnEnd r).win = s.win := by
  unfold State.churnEnd; (try dsimp only); repeat' split
  all_goals simp
@[simp] theorem State.churnEnd_free (r : ChurnRun) (s : State) : (s.churnEnd r).free = s.free := by
  unfold State.churnEnd; (try dsimp only); repeat' split
  all_goals simp
@[simp] theorem State.churnEnd_pending (r : ChurnRun) (s : State) : (s.churnEnd r).pending = s.pending := by
  unfold State.churnEnd; (try dsimp only); repeat' split
  all_goals simp
@[simp] theorem State.churnStop_id (n : Nat) (s : State) : (s.churnStop n).id = s.id := by
  unfold State.churnStop; (try dsimp only); repeat' split
  all_goals simp
@[simp] theorem State.churnStop_pins (n : Nat) (s : State) : (s.churnStop n).pins = s.pins := by
  unfold State.churnStop; (try dsimp only); repeat' split
  all_goals simp
@[simp] theorem State.churnStop_pwr (n : Nat) (s : State) : (s.churnStop n).pwr = s.pwr := by
  unfold State.churnStop; (try dsimp only); repeat' split
  all_goals simp
@[simp] theorem State.churnStop_gov (n : Nat) (s : State) : (s.churnStop n).gov = s.gov := by
  unfold State.churnStop; (try dsimp only); repeat' split
  all_goals simp
@[simp] theorem State.churnStop_clk (n : Nat) (s : State) : (s.churnStop n).clk = s.clk := by
  unfold State.churnStop; (try dsimp only); repeat' split
  all_goals simp
@[simp] theorem State.churnStop_own (n : Nat) (s : State) : (s.churnStop n).own = s.own := by
  unfold State.churnStop; (try dsimp only); repeat' split
  all_goals simp
@[simp] theorem State.churnStop_units (n : Nat) (s : State) : (s.churnStop n).units = s.units := by
  unfold State.churnStop; (try dsimp only); repeat' split
  all_goals simp
@[simp] theorem State.churnStop_mode (n : Nat) (s : State) : (s.churnStop n).mode = s.mode := by
  unfold State.churnStop; (try dsimp only); repeat' split
  all_goals simp
@[simp] theorem State.churnStop_cam (n : Nat) (s : State) : (s.churnStop n).cam = s.cam := by
  unfold State.churnStop; (try dsimp only); repeat' split
  all_goals simp
@[simp] theorem State.churnStop_isp (n : Nat) (s : State) : (s.churnStop n).isp = s.isp := by
  unfold State.churnStop; (try dsimp only); repeat' split
  all_goals simp
@[simp] theorem State.churnStop_depth (n : Nat) (s : State) : (s.churnStop n).depth = s.depth := by
  unfold State.churnStop; (try dsimp only); repeat' split
  all_goals simp
@[simp] theorem State.churnStop_scene (n : Nat) (s : State) : (s.churnStop n).scene = s.scene := by
  unfold State.churnStop; (try dsimp only); repeat' split
  all_goals simp
@[simp] theorem State.churnStop_leases (n : Nat) (s : State) : (s.churnStop n).leases = s.leases := by
  unfold State.churnStop; (try dsimp only); repeat' split
  all_goals simp
@[simp] theorem State.churnStop_ray (n : Nat) (s : State) : (s.churnStop n).ray = s.ray := by
  unfold State.churnStop; (try dsimp only); repeat' split
  all_goals simp
@[simp] theorem State.churnStop_layers (n : Nat) (s : State) : (s.churnStop n).layers = s.layers := by
  unfold State.churnStop; (try dsimp only); repeat' split
  all_goals simp
@[simp] theorem State.churnStop_hw (n : Nat) (s : State) : (s.churnStop n).hw = s.hw := by
  unfold State.churnStop; (try dsimp only); repeat' split
  all_goals simp
@[simp] theorem State.churnStop_disp (n : Nat) (s : State) : (s.churnStop n).disp = s.disp := by
  unfold State.churnStop; (try dsimp only); repeat' split
  all_goals simp
@[simp] theorem State.churnStop_scan (n : Nat) (s : State) : (s.churnStop n).scan = s.scan := by
  unfold State.churnStop; (try dsimp only); repeat' split
  all_goals simp
@[simp] theorem State.churnStop_pnl (n : Nat) (s : State) : (s.churnStop n).pnl = s.pnl := by
  unfold State.churnStop; (try dsimp only); repeat' split
  all_goals simp
@[simp] theorem State.churnStop_lanes (n : Nat) (s : State) : (s.churnStop n).lanes = s.lanes := by
  unfold State.churnStop; (try dsimp only); repeat' split
  all_goals simp
@[simp] theorem State.churnStop_plc (n : Nat) (s : State) : (s.churnStop n).plc = s.plc := by
  unfold State.churnStop; (try dsimp only); repeat' split
  all_goals simp
@[simp] theorem State.churnStop_aud (n : Nat) (s : State) : (s.churnStop n).aud = s.aud := by
  unfold State.churnStop; (try dsimp only); repeat' split
  all_goals simp
@[simp] theorem State.churnStop_hk (n : Nat) (s : State) : (s.churnStop n).hk = s.hk := by
  unfold State.churnStop; (try dsimp only); repeat' split
  all_goals simp
@[simp] theorem State.churnStop_nvm (n : Nat) (s : State) : (s.churnStop n).nvm = s.nvm := by
  unfold State.churnStop; (try dsimp only); repeat' split
  all_goals simp
@[simp] theorem State.churnStop_tp (n : Nat) (s : State) : (s.churnStop n).tp = s.tp := by
  unfold State.churnStop; (try dsimp only); repeat' split
  all_goals simp
@[simp] theorem State.churnStop_sec (n : Nat) (s : State) : (s.churnStop n).sec = s.sec := by
  unfold State.churnStop; (try dsimp only); repeat' split
  all_goals simp
@[simp] theorem State.churnStop_tap (n : Nat) (s : State) : (s.churnStop n).tap = s.tap := by
  unfold State.churnStop; (try dsimp only); repeat' split
  all_goals simp
@[simp] theorem State.churnStop_time (n : Nat) (s : State) : (s.churnStop n).time = s.time := by
  unfold State.churnStop; (try dsimp only); repeat' split
  all_goals simp
@[simp] theorem State.churnStop_win (n : Nat) (s : State) : (s.churnStop n).win = s.win := by
  unfold State.churnStop; (try dsimp only); repeat' split
  all_goals simp
@[simp] theorem State.churnStop_free (n : Nat) (s : State) : (s.churnStop n).free = s.free := by
  unfold State.churnStop; (try dsimp only); repeat' split
  all_goals simp
@[simp] theorem State.churnStop_pending (n : Nat) (s : State) : (s.churnStop n).pending = s.pending := by
  unfold State.churnStop; (try dsimp only); repeat' split
  all_goals simp
@[simp] theorem State.overtakeField_id (s : State) : (s.overtakeField).id = s.id := by
  unfold State.overtakeField
  simp only [State.modMode_id]
  refine List.foldlRecOn (motive := fun t : State => t.id = s.id) _ _ rfl fun t ht m _ => ?_
  simp_all
@[simp] theorem State.overtakeField_pins (s : State) : (s.overtakeField).pins = s.pins := by
  unfold State.overtakeField
  simp only [State.modMode_pins]
  refine List.foldlRecOn (motive := fun t : State => t.pins = s.pins) _ _ rfl fun t ht m _ => ?_
  simp_all
@[simp] theorem State.overtakeField_pwr (s : State) : (s.overtakeField).pwr = s.pwr := by
  unfold State.overtakeField
  simp only [State.modMode_pwr]
  refine List.foldlRecOn (motive := fun t : State => t.pwr = s.pwr) _ _ rfl fun t ht m _ => ?_
  simp_all
@[simp] theorem State.overtakeField_gov (s : State) : (s.overtakeField).gov = s.gov := by
  unfold State.overtakeField
  simp only [State.modMode_gov]
  refine List.foldlRecOn (motive := fun t : State => t.gov = s.gov) _ _ rfl fun t ht m _ => ?_
  simp_all
@[simp] theorem State.overtakeField_clk (s : State) : (s.overtakeField).clk = s.clk := by
  unfold State.overtakeField
  simp only [State.modMode_clk]
  refine List.foldlRecOn (motive := fun t : State => t.clk = s.clk) _ _ rfl fun t ht m _ => ?_
  simp_all
@[simp] theorem State.overtakeField_own (s : State) : (s.overtakeField).own = s.own := by
  unfold State.overtakeField
  simp only [State.modMode_own]
  refine List.foldlRecOn (motive := fun t : State => t.own = s.own) _ _ rfl fun t ht m _ => ?_
  simp_all
@[simp] theorem State.overtakeField_units (s : State) : (s.overtakeField).units = s.units := by
  unfold State.overtakeField
  simp only [State.modMode_units]
  refine List.foldlRecOn (motive := fun t : State => t.units = s.units) _ _ rfl fun t ht m _ => ?_
  simp_all
@[simp] theorem State.overtakeField_cam (s : State) : (s.overtakeField).cam = s.cam := by
  unfold State.overtakeField
  simp only [State.modMode_cam]
  refine List.foldlRecOn (motive := fun t : State => t.cam = s.cam) _ _ rfl fun t ht m _ => ?_
  simp_all
@[simp] theorem State.overtakeField_isp (s : State) : (s.overtakeField).isp = s.isp := by
  unfold State.overtakeField
  simp only [State.modMode_isp]
  refine List.foldlRecOn (motive := fun t : State => t.isp = s.isp) _ _ rfl fun t ht m _ => ?_
  simp_all
@[simp] theorem State.overtakeField_depth (s : State) : (s.overtakeField).depth = s.depth := by
  unfold State.overtakeField
  simp only [State.modMode_depth]
  refine List.foldlRecOn (motive := fun t : State => t.depth = s.depth) _ _ rfl fun t ht m _ => ?_
  simp_all
@[simp] theorem State.overtakeField_scene (s : State) : (s.overtakeField).scene = s.scene := by
  unfold State.overtakeField
  simp only [State.modMode_scene]
  refine List.foldlRecOn (motive := fun t : State => t.scene = s.scene) _ _ rfl fun t ht m _ => ?_
  simp_all
@[simp] theorem State.overtakeField_leases (s : State) : (s.overtakeField).leases = s.leases := by
  unfold State.overtakeField
  simp only [State.modMode_leases]
  refine List.foldlRecOn (motive := fun t : State => t.leases = s.leases) _ _ rfl fun t ht m _ => ?_
  simp_all
@[simp] theorem State.overtakeField_ray (s : State) : (s.overtakeField).ray = s.ray := by
  unfold State.overtakeField
  simp only [State.modMode_ray]
  refine List.foldlRecOn (motive := fun t : State => t.ray = s.ray) _ _ rfl fun t ht m _ => ?_
  simp_all
@[simp] theorem State.overtakeField_cellar (s : State) : (s.overtakeField).cellar = s.cellar := by
  unfold State.overtakeField
  simp only [State.modMode_cellar]
  refine List.foldlRecOn (motive := fun t : State => t.cellar = s.cellar) _ _ rfl fun t ht m _ => ?_
  simp_all
@[simp] theorem State.overtakeField_layers (s : State) : (s.overtakeField).layers = s.layers := by
  unfold State.overtakeField
  simp only [State.modMode_layers]
  refine List.foldlRecOn (motive := fun t : State => t.layers = s.layers) _ _ rfl fun t ht m _ => ?_
  simp_all
@[simp] theorem State.overtakeField_hw (s : State) : (s.overtakeField).hw = s.hw := by
  unfold State.overtakeField
  simp only [State.modMode_hw]
  refine List.foldlRecOn (motive := fun t : State => t.hw = s.hw) _ _ rfl fun t ht m _ => ?_
  simp_all
@[simp] theorem State.overtakeField_disp (s : State) : (s.overtakeField).disp = s.disp := by
  unfold State.overtakeField
  simp only [State.modMode_disp]
  refine List.foldlRecOn (motive := fun t : State => t.disp = s.disp) _ _ rfl fun t ht m _ => ?_
  simp_all
@[simp] theorem State.overtakeField_scan (s : State) : (s.overtakeField).scan = s.scan := by
  unfold State.overtakeField
  simp only [State.modMode_scan]
  refine List.foldlRecOn (motive := fun t : State => t.scan = s.scan) _ _ rfl fun t ht m _ => ?_
  simp_all
@[simp] theorem State.overtakeField_pnl (s : State) : (s.overtakeField).pnl = s.pnl := by
  unfold State.overtakeField
  simp only [State.modMode_pnl]
  refine List.foldlRecOn (motive := fun t : State => t.pnl = s.pnl) _ _ rfl fun t ht m _ => ?_
  simp_all
@[simp] theorem State.overtakeField_lanes (s : State) : (s.overtakeField).lanes = s.lanes := by
  unfold State.overtakeField
  simp only [State.modMode_lanes]
  refine List.foldlRecOn (motive := fun t : State => t.lanes = s.lanes) _ _ rfl fun t ht m _ => ?_
  simp_all
@[simp] theorem State.overtakeField_mem (s : State) : (s.overtakeField).mem = s.mem := by
  unfold State.overtakeField
  simp only [State.modMode_mem]
  refine List.foldlRecOn (motive := fun t : State => t.mem = s.mem) _ _ rfl fun t ht m _ => ?_
  simp_all
@[simp] theorem State.overtakeField_churn (s : State) : (s.overtakeField).churn = s.churn := by
  unfold State.overtakeField
  simp only [State.modMode_churn]
  refine List.foldlRecOn (motive := fun t : State => t.churn = s.churn) _ _ rfl fun t ht m _ => ?_
  simp_all
@[simp] theorem State.overtakeField_plc (s : State) : (s.overtakeField).plc = s.plc := by
  unfold State.overtakeField
  simp only [State.modMode_plc]
  refine List.foldlRecOn (motive := fun t : State => t.plc = s.plc) _ _ rfl fun t ht m _ => ?_
  simp_all
@[simp] theorem State.overtakeField_aud (s : State) : (s.overtakeField).aud = s.aud := by
  unfold State.overtakeField
  simp only [State.modMode_aud]
  refine List.foldlRecOn (motive := fun t : State => t.aud = s.aud) _ _ rfl fun t ht m _ => ?_
  simp_all
@[simp] theorem State.overtakeField_hk (s : State) : (s.overtakeField).hk = s.hk := by
  unfold State.overtakeField
  simp only [State.modMode_hk]
  refine List.foldlRecOn (motive := fun t : State => t.hk = s.hk) _ _ rfl fun t ht m _ => ?_
  simp_all
@[simp] theorem State.overtakeField_tp (s : State) : (s.overtakeField).tp = s.tp := by
  unfold State.overtakeField
  simp only [State.modMode_tp]
  refine List.foldlRecOn (motive := fun t : State => t.tp = s.tp) _ _ rfl fun t ht m _ => ?_
  simp_all
@[simp] theorem State.overtakeField_sec (s : State) : (s.overtakeField).sec = s.sec := by
  unfold State.overtakeField
  simp only [State.modMode_sec]
  refine List.foldlRecOn (motive := fun t : State => t.sec = s.sec) _ _ rfl fun t ht m _ => ?_
  simp_all
@[simp] theorem State.overtakeField_tap (s : State) : (s.overtakeField).tap = s.tap := by
  unfold State.overtakeField
  simp only [State.modMode_tap]
  refine List.foldlRecOn (motive := fun t : State => t.tap = s.tap) _ _ rfl fun t ht m _ => ?_
  simp_all
@[simp] theorem State.overtakeField_time (s : State) : (s.overtakeField).time = s.time := by
  unfold State.overtakeField
  simp only [State.modMode_time]
  refine List.foldlRecOn (motive := fun t : State => t.time = s.time) _ _ rfl fun t ht m _ => ?_
  simp_all
@[simp] theorem State.overtakeField_win (s : State) : (s.overtakeField).win = s.win := by
  unfold State.overtakeField
  simp only [State.modMode_win]
  refine List.foldlRecOn (motive := fun t : State => t.win = s.win) _ _ rfl fun t ht m _ => ?_
  simp_all
@[simp] theorem State.overtakeField_free (s : State) : (s.overtakeField).free = s.free := by
  unfold State.overtakeField
  simp only [State.modMode_free]
  refine List.foldlRecOn (motive := fun t : State => t.free = s.free) _ _ rfl fun t ht m _ => ?_
  simp_all
@[simp] theorem State.overtakeField_pending (s : State) : (s.overtakeField).pending = s.pending := by
  unfold State.overtakeField
  simp only [State.modMode_pending]
  refine List.foldlRecOn (motive := fun t : State => t.pending = s.pending) _ _ rfl fun t ht m _ => ?_
  simp_all
@[simp] theorem State.leaveField_id (s : State) : (s.leaveField).id = s.id := by
  unfold State.leaveField
  dsimp only
  refine List.foldlRecOn (motive := fun t : State => t.id = s.id) _ _ (by simp) fun t ht m _ => ?_
  split <;> simp_all
@[simp] theorem State.leaveField_pins (s : State) : (s.leaveField).pins = s.pins := by
  unfold State.leaveField
  dsimp only
  refine List.foldlRecOn (motive := fun t : State => t.pins = s.pins) _ _ (by simp) fun t ht m _ => ?_
  split <;> simp_all
@[simp] theorem State.leaveField_gov (s : State) : (s.leaveField).gov = s.gov := by
  unfold State.leaveField
  dsimp only
  refine List.foldlRecOn (motive := fun t : State => t.gov = s.gov) _ _ (by simp) fun t ht m _ => ?_
  split <;> simp_all
@[simp] theorem State.leaveField_clk (s : State) : (s.leaveField).clk = s.clk := by
  unfold State.leaveField
  dsimp only
  refine List.foldlRecOn (motive := fun t : State => t.clk = s.clk) _ _ (by simp) fun t ht m _ => ?_
  split <;> simp_all
@[simp] theorem State.leaveField_own (s : State) : (s.leaveField).own = s.own := by
  unfold State.leaveField
  dsimp only
  refine List.foldlRecOn (motive := fun t : State => t.own = s.own) _ _ (by simp) fun t ht m _ => ?_
  split <;> simp_all
@[simp] theorem State.leaveField_mode (s : State) : (s.leaveField).mode = s.mode := by
  unfold State.leaveField
  dsimp only
  refine List.foldlRecOn (motive := fun t : State => t.mode = s.mode) _ _ (by simp) fun t ht m _ => ?_
  split <;> simp_all
@[simp] theorem State.leaveField_cam (s : State) : (s.leaveField).cam = s.cam := by
  unfold State.leaveField
  dsimp only
  refine List.foldlRecOn (motive := fun t : State => t.cam = s.cam) _ _ (by simp) fun t ht m _ => ?_
  split <;> simp_all
@[simp] theorem State.leaveField_isp (s : State) : (s.leaveField).isp = s.isp := by
  unfold State.leaveField
  dsimp only
  refine List.foldlRecOn (motive := fun t : State => t.isp = s.isp) _ _ (by simp) fun t ht m _ => ?_
  split <;> simp_all
@[simp] theorem State.leaveField_depth (s : State) : (s.leaveField).depth = s.depth := by
  unfold State.leaveField
  dsimp only
  refine List.foldlRecOn (motive := fun t : State => t.depth = s.depth) _ _ (by simp) fun t ht m _ => ?_
  split <;> simp_all
@[simp] theorem State.leaveField_scene (s : State) : (s.leaveField).scene = s.scene := by
  unfold State.leaveField
  dsimp only
  refine List.foldlRecOn (motive := fun t : State => t.scene = s.scene) _ _ (by simp) fun t ht m _ => ?_
  split <;> simp_all
@[simp] theorem State.leaveField_leases (s : State) : (s.leaveField).leases = s.leases := by
  unfold State.leaveField
  dsimp only
  refine List.foldlRecOn (motive := fun t : State => t.leases = s.leases) _ _ (by simp) fun t ht m _ => ?_
  split <;> simp_all
@[simp] theorem State.leaveField_ray (s : State) : (s.leaveField).ray = s.ray := by
  unfold State.leaveField
  dsimp only
  refine List.foldlRecOn (motive := fun t : State => t.ray = s.ray) _ _ (by simp) fun t ht m _ => ?_
  split <;> simp_all
@[simp] theorem State.leaveField_layers (s : State) : (s.leaveField).layers = s.layers := by
  unfold State.leaveField
  dsimp only
  refine List.foldlRecOn (motive := fun t : State => t.layers = s.layers) _ _ (by simp) fun t ht m _ => ?_
  split <;> simp_all
@[simp] theorem State.leaveField_hw (s : State) : (s.leaveField).hw = s.hw := by
  unfold State.leaveField
  dsimp only
  refine List.foldlRecOn (motive := fun t : State => t.hw = s.hw) _ _ (by simp) fun t ht m _ => ?_
  split <;> simp_all
@[simp] theorem State.leaveField_disp (s : State) : (s.leaveField).disp = s.disp := by
  unfold State.leaveField
  dsimp only
  refine List.foldlRecOn (motive := fun t : State => t.disp = s.disp) _ _ (by simp) fun t ht m _ => ?_
  split <;> simp_all
@[simp] theorem State.leaveField_scan (s : State) : (s.leaveField).scan = s.scan := by
  unfold State.leaveField
  dsimp only
  refine List.foldlRecOn (motive := fun t : State => t.scan = s.scan) _ _ (by simp) fun t ht m _ => ?_
  split <;> simp_all
@[simp] theorem State.leaveField_pnl (s : State) : (s.leaveField).pnl = s.pnl := by
  unfold State.leaveField
  dsimp only
  refine List.foldlRecOn (motive := fun t : State => t.pnl = s.pnl) _ _ (by simp) fun t ht m _ => ?_
  split <;> simp_all
@[simp] theorem State.leaveField_lanes (s : State) : (s.leaveField).lanes = s.lanes := by
  unfold State.leaveField
  dsimp only
  refine List.foldlRecOn (motive := fun t : State => t.lanes = s.lanes) _ _ (by simp) fun t ht m _ => ?_
  split <;> simp_all
@[simp] theorem State.leaveField_plc (s : State) : (s.leaveField).plc = s.plc := by
  unfold State.leaveField
  dsimp only
  refine List.foldlRecOn (motive := fun t : State => t.plc = s.plc) _ _ (by simp) fun t ht m _ => ?_
  split <;> simp_all
@[simp] theorem State.leaveField_aud (s : State) : (s.leaveField).aud = s.aud := by
  unfold State.leaveField
  dsimp only
  refine List.foldlRecOn (motive := fun t : State => t.aud = s.aud) _ _ (by simp) fun t ht m _ => ?_
  split <;> simp_all
@[simp] theorem State.leaveField_hk (s : State) : (s.leaveField).hk = s.hk := by
  unfold State.leaveField
  dsimp only
  refine List.foldlRecOn (motive := fun t : State => t.hk = s.hk) _ _ (by simp) fun t ht m _ => ?_
  split <;> simp_all
@[simp] theorem State.leaveField_nvm (s : State) : (s.leaveField).nvm = s.nvm := by
  unfold State.leaveField
  dsimp only
  refine List.foldlRecOn (motive := fun t : State => t.nvm = s.nvm) _ _ (by simp) fun t ht m _ => ?_
  split <;> simp_all
@[simp] theorem State.leaveField_tp (s : State) : (s.leaveField).tp = s.tp := by
  unfold State.leaveField
  dsimp only
  refine List.foldlRecOn (motive := fun t : State => t.tp = s.tp) _ _ (by simp) fun t ht m _ => ?_
  split <;> simp_all
@[simp] theorem State.leaveField_sec (s : State) : (s.leaveField).sec = s.sec := by
  unfold State.leaveField
  dsimp only
  refine List.foldlRecOn (motive := fun t : State => t.sec = s.sec) _ _ (by simp) fun t ht m _ => ?_
  split <;> simp_all
@[simp] theorem State.leaveField_tap (s : State) : (s.leaveField).tap = s.tap := by
  unfold State.leaveField
  dsimp only
  refine List.foldlRecOn (motive := fun t : State => t.tap = s.tap) _ _ (by simp) fun t ht m _ => ?_
  split <;> simp_all
@[simp] theorem State.leaveField_time (s : State) : (s.leaveField).time = s.time := by
  unfold State.leaveField
  dsimp only
  refine List.foldlRecOn (motive := fun t : State => t.time = s.time) _ _ (by simp) fun t ht m _ => ?_
  split <;> simp_all
@[simp] theorem State.leaveField_win (s : State) : (s.leaveField).win = s.win := by
  unfold State.leaveField
  dsimp only
  refine List.foldlRecOn (motive := fun t : State => t.win = s.win) _ _ (by simp) fun t ht m _ => ?_
  split <;> simp_all
@[simp] theorem State.leaveField_free (s : State) : (s.leaveField).free = s.free := by
  unfold State.leaveField
  dsimp only
  refine List.foldlRecOn (motive := fun t : State => t.free = s.free) _ _ (by simp) fun t ht m _ => ?_
  split <;> simp_all
@[simp] theorem State.leaveField_pending (s : State) : (s.leaveField).pending = s.pending := by
  unfold State.leaveField
  dsimp only
  refine List.foldlRecOn (motive := fun t : State => t.pending = s.pending) _ _ (by simp) fun t ht m _ => ?_
  split <;> simp_all

end Sys2Proof.Machine
end

