-- ==== Sys2Proof/Laws/Power.lean ====
section
/-! SUPPORT. What the reset of the device and a cold boot leave (R43, R58, R60, R72). -/

namespace Sys2Proof.Machine

@[simp] theorem settle_coreEn (s : State) : s.settle.pins.coreEn = s.pins.coreEn := by unfold State.settle; split <;> rfl
@[simp] theorem settle_sdsEn (s : State) : s.settle.pins.sdsEn = s.pins.sdsEn := by unfold State.settle; split <;> rfl
@[simp] theorem settle_memEn (s : State) : s.settle.pins.memEn = s.pins.memEn := by unfold State.settle; split <;> rfl
@[simp] theorem settle_pwrOk (s : State) : s.settle.pins.pwrOk = s.pins.pwrOk := by unfold State.settle; split <;> rfl
@[simp] theorem settle_plcOeN (s : State) : s.settle.pins.plcOeN = s.pins.plcOeN := by unfold State.settle; split <;> rfl
@[simp] theorem settle_pnlPwrEn (s : State) : s.settle.pins.pnlPwrEn = s.pins.pnlPwrEn := by unfold State.settle; split <;> rfl
@[simp] theorem settle_sysRstN (s : State) : s.settle.pins.sysRstN = s.pins.sysRstN := by unfold State.settle; split <;> rfl
@[simp] theorem settle_corePg (s : State) : s.settle.pins.corePg = s.pins.corePg := by unfold State.settle; split <;> rfl
@[simp] theorem settle_wakeN (s : State) : s.settle.pins.wakeN = s.pins.wakeN := by unfold State.settle; split <;> rfl
@[simp] theorem settle_perstAN (s : State) : s.settle.pins.perstAN = s.pins.perstAN := by unfold State.settle; split <;> rfl
/-- SAFE_OK never rises while a command settles. -/
theorem settle_safeOk_low {s : State} (h : s.pins.safeOk = false) : s.settle.pins.safeOk = false := by
  unfold State.settle
  split <;> simp_all

@[simp] theorem wipe_owner (s : State) : s.wipe.own.owner = 7 := rfl
@[simp] theorem wipe_recs (s : State) : s.wipe.nvm.recs = s.nvm.recs := rfl
@[simp] theorem wipe_lossMarker (s : State) : s.wipe.nvm.lossMarker = s.nvm.lossMarker := rfl
@[simp] theorem wipe_id (s : State) : s.wipe.id = s.id := rfl
@[simp] theorem wipe_fseal (s : State) : s.wipe.sec.fseal = s.sec.fseal := rfl
@[simp] theorem wipe_time (s : State) : s.wipe.time = s.time := rfl
@[simp] theorem wipe_linkSplit (s : State) : s.wipe.pwr.linkSplit = s.pwr.linkSplit := rfl
@[simp] theorem wipe_coreEn (s : State) : s.wipe.pins.coreEn = false := rfl
@[simp] theorem wipe_sdsEn (s : State) : s.wipe.pins.sdsEn = false := rfl
@[simp] theorem wipe_memEn (s : State) : s.wipe.pins.memEn = false := rfl
@[simp] theorem wipe_safeOk (s : State) : s.wipe.pins.safeOk = false := rfl
@[simp] theorem wipe_plcOeN (s : State) : s.wipe.pins.plcOeN = true := rfl
@[simp] theorem wipe_pnlPwrEn (s : State) : s.wipe.pins.pnlPwrEn = [false, false, false, false] := rfl
@[simp] theorem wipe_pwrOk (s : State) : s.wipe.pins.pwrOk = s.pins.pwrOk := rfl
@[simp] theorem wipe_sysRstN (s : State) : s.wipe.pins.sysRstN = s.pins.sysRstN := rfl
@[simp] theorem wipe_wakeN (s : State) : s.wipe.pins.wakeN = s.pins.wakeN := rfl
@[simp] theorem wipe_perstAN (s : State) : s.wipe.pins.perstAN = s.pins.perstAN := rfl

@[simp] theorem loadBoard_own (s : State) : s.loadBoard.own = s.own := by unfold State.loadBoard; dsimp only; split <;> simp
@[simp] theorem loadBoard_pins (s : State) : s.loadBoard.pins = s.pins := by unfold State.loadBoard; dsimp only; split <;> simp
@[simp] theorem loadBoard_id (s : State) : s.loadBoard.id = s.id := by unfold State.loadBoard; dsimp only; split <;> simp
@[simp] theorem loadBoard_sec (s : State) : s.loadBoard.sec = s.sec := by unfold State.loadBoard; dsimp only; split <;> simp
@[simp] theorem loadBoard_time (s : State) : s.loadBoard.time = s.time := by unfold State.loadBoard; dsimp only; split <;> simp
@[simp] theorem loadBoard_recs (s : State) : s.loadBoard.nvm.recs = s.nvm.recs := by unfold State.loadBoard; dsimp only; split <;> simp
@[simp] theorem loadBoard_lossMarker (s : State) : s.loadBoard.nvm.lossMarker = s.nvm.lossMarker := by
  unfold State.loadBoard; dsimp only; split <;> simp
@[simp] theorem loadBoard_linkSplit (s : State) : s.loadBoard.pwr.linkSplit = s.pwr.linkSplit := by
  unfold State.loadBoard; dsimp only; split <;> simp

@[simp] theorem coldBootFrom_mode (s : State) (o c : Nat) : (s.coldBootFrom o c).mode.mode = .boot := by simp [State.coldBootFrom]
@[simp] theorem coldBootFrom_owner (s : State) (o c : Nat) : (s.coldBootFrom o c).own.owner = 7 := by simp [State.coldBootFrom]
@[simp] theorem coldBootFrom_phase (s : State) (o c : Nat) : (s.coldBootFrom o c).pwr.phase = .waitCore := by simp [State.coldBootFrom]
@[simp] theorem coldBootFrom_coreEn (s : State) (o c : Nat) : (s.coldBootFrom o c).pins.coreEn = true := by simp [State.coldBootFrom]
@[simp] theorem coldBootFrom_sdsEn (s : State) (o c : Nat) : (s.coldBootFrom o c).pins.sdsEn = false := by simp [State.coldBootFrom]
@[simp] theorem coldBootFrom_memEn (s : State) (o c : Nat) : (s.coldBootFrom o c).pins.memEn = false := by simp [State.coldBootFrom]
@[simp] theorem coldBootFrom_safeOk (s : State) (o c : Nat) : (s.coldBootFrom o c).pins.safeOk = false := by simp [State.coldBootFrom]
@[simp] theorem coldBootFrom_pwrOk (s : State) (o c : Nat) : (s.coldBootFrom o c).pins.pwrOk = s.pins.pwrOk := by simp [State.coldBootFrom]
@[simp] theorem coldBootFrom_sysRstN (s : State) (o c : Nat) : (s.coldBootFrom o c).pins.sysRstN = s.pins.sysRstN := by simp [State.coldBootFrom]
@[simp] theorem coldBootFrom_wakeN (s : State) (o c : Nat) : (s.coldBootFrom o c).pins.wakeN = s.pins.wakeN := by simp [State.coldBootFrom]
@[simp] theorem coldBootFrom_perstAN (s : State) (o c : Nat) : (s.coldBootFrom o c).pins.perstAN = s.pins.perstAN := by simp [State.coldBootFrom]
@[simp] theorem coldBootFrom_lossMarker (s : State) (o c : Nat) : (s.coldBootFrom o c).nvm.lossMarker = none := by simp [State.coldBootFrom]
@[simp] theorem coldBootFrom_recs (s : State) (o c : Nat) : (s.coldBootFrom o c).nvm.recs = s.nvm.recs := by simp [State.coldBootFrom]
@[simp] theorem coldBootFrom_id (s : State) (o c : Nat) : (s.coldBootFrom o c).id = s.id := by simp [State.coldBootFrom]
@[simp] theorem coldBootFrom_fseal (s : State) (o c : Nat) : (s.coldBootFrom o c).sec.fseal = s.sec.fseal := by simp [State.coldBootFrom]
@[simp] theorem coldBootFrom_time (s : State) (o c : Nat) : (s.coldBootFrom o c).time = s.time := by simp [State.coldBootFrom]
@[simp] theorem coldBootFrom_linkSplit (s : State) (o c : Nat) : (s.coldBootFrom o c).pwr.linkSplit = s.pwr.linkSplit := by simp [State.coldBootFrom]
@[simp] theorem coldBootFrom_resetCause (s : State) (o c : Nat) :
    (s.coldBootFrom o c).pwr.resetCause = BitVec.ofNat 32 c ||| (if s.nvm.lossMarker.isSome then 32 else 0) := by simp [State.coldBootFrom]

/-- With SYS_RST_N high a boot starts at once (R60). -/
theorem coldBoot_of_high {s : State} (h : s.pins.sysRstN = true) (c : Nat) : s.coldBoot c = s.coldBootFrom s.time c := by
  simp [State.coldBoot, h]

theorem coldBootFrom_booted (s : State) (o c : Nat) : Booted s (s.coldBootFrom o c).settle (BitVec.ofNat 32 c) := by
  refine ⟨?_, ?_, ?_, ?_, ?_, ?_, settle_safeOk_low ?_, ?_, ?_, ?_, ?_, ?_⟩ <;> simp

theorem coldBoot_booted {s : State} (h : s.pins.sysRstN = true) (c : Nat) : Booted s (s.coldBoot c).settle (BitVec.ofNat 32 c) := by
  rw [coldBoot_of_high h]
  exact coldBootFrom_booted s s.time c

end Sys2Proof.Machine
end

