-- ==== Sys2Proof/WellFormed.lean ====
section
/-! DEFINITION. Well-formed commands: index operands within the tables of the spec (spec/00, Table 0.4; spec/02, Table 2.7;
spec/03, Table 3.14; spec/12, Table 12.1). A number that is in range but absent in the part is well-formed: the meaning
judges it. -/

namespace Sys2Proof

/-- Bounds of the operand classes. -/
def wfBox (n : Nat) : Bool := n < 4
def wfPort (n : Nat) : Bool := n < 16
def wfLane (n : Nat) : Bool := n < 144
def wfDom (n : Nat) : Bool := n < 59
def wfUnit (n : Nat) : Bool := n < 272
def wfChan (n : Nat) : Bool := n < 12
def wfCluster (n : Nat) : Bool := n < 17
def wfPipe (n : Nat) : Bool := n < 4
def wfPair (n : Nat) : Bool := n < 8
def wfLink (n : Nat) : Bool := n < 2
def wfReq (r : Req) : Bool := r.cls < 3 && r.data.all fun d => d.1 < 64

/-- The index operands of a command name things that exist in the family. -/
def Instr.wf : Instr → Bool
  | .mbDoorbell _ b _ | .evrConsumer _ b _ | .evrLostRead _ b | .eventInterruptHoldoff b => wfBox b
  | .churnProducer _ q _ | .churnAbortWrite _ q _ | .churnAbortEffect q => q < 8
  | .registerWrite _ o ws => o % 4 == 0 && !ws.isEmpty
  | .powerGoodDeadline r => r < 3
  | .abruptLossTrigger t => t < 4
  | .perstRise l _ | .perstLow l | .pcieLinkChange l _ _ _ | .pciePowerState l _ _ => wfLink l
  | .domainSwitchRequest d _ _ | .domainOnComplete d | .domainOffComplete d | .droopDetect d _ => wfDom d
  | .avsUpdate r _ _ f => r < 2 && f.all wfDom
  | .refclkLost i _ _ | .refclkRestored i => i < 5
  | .unitMismatchCheck u | .domainFault u => wfUnit u
  | .saplineTrainReq l _ _ _ _ _ => l < 96
  | .laneStats l _ | .stepRequestApply l | .laneRetryTimer l | .laneMarginTimer l | .elecIdleKeepalive l | .offsetTrim l _ => wfLane l
  | .adaptationUpdate l _ n c => wfLane l && n ≤ 64 && c.length ≤ 5
  | .saplineGroupTraining g | .trainingBudgetExpiry g | .holdSequencerTimeout g => g < 12
  | .pnlPgRise r | .panelRailFault r => r < 4
  | .signalDetect p | .rootlineTrainingDone p _ _ _ _ _ | .bringUpTimeout p | .headUnplug p | .failureCountClear p
  | .frameStartTimeout p | .csi2FrameStart p _ _ | .csi2FrameEnd p _ | .csi2ImageLine p _ _ _ _ | .csi2EmbeddedLine p _ _
  | .headAck p _ _ | .regResp p _ _ _ _ | .headAnswerTimeout p | .audBlock p _ _ _ | .rawFrameReady p
  | .pipelineFrameDone p _ | .statsComplete p | .csi2DiscardedPacket p _ | .tapExchangeLimit p => wfPort p
  | .lockFault p l _ => wfPort p && l < 3
  | .rootlineTrainAck p l _ _ _ | .alignBlock p l _ _ => wfPort p && l < 2
  | .inlineLineProcess i | .memfedFrameStart i | .pipelineFault i => wfPipe i
  | .pairFrameStart u | .disparityRowEmit u _ => wfPair u
  | .slicerTileRow l | .slicerHalfRelease l => l < 4
  | .flatTileProduce l => l < 8
  | .stripPull c | .stripComplete c | .clusterSelfTestDone c _ _ | .sliceFault c _ => wfCluster c
  | .channelStartup n | .channelStartupDone n _ | .memRequestIssue n _ | .agePromotion n | .readDataReturn n _ _
  | .refreshSlot n | .refreshCatchup n | .trackingRead n _ | .patrolScrub n _ | .inServiceRetrainStart n
  | .inServiceRetrainDone n _ | .channelRemoval n _ => wfChan n
  | .memRequestEnqueue n r => wfChan n && wfReq r
  | .longUnderrun i => i < 8
  | .slaveWsTimeout p | .audioPortApply p => p < 6
  | .fastComparatorSample i _ => i < 24
  | .conversionSlot r => r < 4096
  | .calibrationLoop i _ _ => i < 8
  | .audioInputSample i _ _ => i < 64
  | _ => true

end Sys2Proof
end

