-- ==== Sys2Proof/Tests/Slice0.lean ====
section
/-! SUPPORT. Own tests: worked examples of the spec, the refusals of well-formedness, and for every clause of an obligation with
hypotheses a concrete state and operands that meet them together (wit_<statement>_<clause>). Expected values come from the
tables of spec/ that the comments name. -/

namespace Sys2Proof.Tests

open Sys2Proof Sys2Proof.Machine
set_option Elab.async false

/-! ### States for the tests -/

/-- A device at work: every domain on, HOST-A the owner, firmware running, SAFE-VIEW, twelve channels in the map. -/
def live : State :=
  { State.reset with
    pins := { State.reset.pins with svcPresentN := false, pwrOk := true, coreEn := true, sdsEn := true, memEn := true, safeStopN := true }
    pwr := { State.reset.pwr with phase := .run, linkSplit := true, domains := List.replicate 59 { on := true } }
    own := { State.reset.own with owner := 0, token := 7, hbDeadline := 250000000 }
    mode := { mode := .safeView }
    tp := { State.reset.tp with state := .running, ready := true }
    leases := { regions := [⟨1, 0x10000, 2 ^ 28, 0⟩, ⟨2, 2 ^ 29, 2 ^ 24, 3⟩] }
    mem := { State.reset.mem with map := List.range 12, chans := List.replicate 12 { state := 3, inMap := true } } }

/-- `s` with one command in the mailbox of a master. -/
def put (s : State) (m : Master) (code bulk : Nat) (args : Bytes) : State :=
  { s with
    win := memWrite s.win (slotAddr m.code 0) (le 2 code ++ [0x5A] ++ le 1 bulk ++ le 2 240 ++ List.replicate 10 0 ++ args)
    ctl := { s.ctl with boxes := s.ctl.boxes.modify m.code fun b => { b with producer := 1 } } }

/-- A command of HOST-A, the owner. -/
def cmd (code : Nat) (args : Bytes) : State := put live .hostA code 0 args
/-- A command with a bulk buffer at 0x10000 and further arguments from byte 16. -/
def bulk (code dir len : Nat) (args : Bytes) : State :=
  put live .hostA code 1 (le 5 0x10000 ++ le 1 dir ++ [0, 0] ++ le 4 len ++ le 4 0 ++ args)

/-- An operation of HOST-A in progress, PENDING_ID 1. -/
def mkOp (code : Nat) (args : Bytes) : PendingOp := { master := 0, id := 1, tag := 3, code := code, args := args, deadline := 50000000, aux := 7 }
def withOp (o : PendingOp) : State := { live with ctl := { live.ctl with pendingOps := [o] } }

/-- Layer 0 slicing frame 6 of port 0, its second row of tiles next. -/
def slicingCfg : SliceCfg := { port := 0, slices := 1, pool := 0x10000, bytes := 2 ^ 20, curve := (List.range 33).map fun i => (i, 8 * i) }
def slicingBuf : OutBuf := { seq := 6, complete := true, width := 32, height := 96 }
def slicing : State :=
  { live with
    isp := { live.isp with ports := live.isp.ports.set 0 { bufs := [slicingBuf] } }
    depth := { live.depth with
      units := live.depth.units.set 0 { enabled := true, cfg := { refPort := 0, other := 1 }, cur := some (6, 0), rows := 48, codes := List.replicate 48 [1, 2, 3] }
      layers := live.depth.layers.set 0 { enabled := true, cfg := slicingCfg, cur := some 6, tileRow := 1, pair := { refPort := 0, other := 1 } } } }
def slicingSrc : SliceSrc :=
  { w := 32, h := 96, a := 1, map := none, buf := slicingBuf, codes := (List.replicate 48 [1, 2, 3]).map fillRow, pair := { refPort := 0, other := 1 },
    cfg := slicingCfg, flat := false }

/-! ### Worked examples of the spec -/

/-- Table 13.3: one device address through the map of a full LV9640 with channels of 1 GiB. -/
theorem test_dramMap : State.dramPlace { live with mem := { live.mem with cfg := { dense := true } } } 0x0123456780 = (9, 407228288) ∧
    bankOf 407228288 = 12 := by decide +kernel

/-- Table 7.6: the metric depth of code 433, the planes of 16 slices from -40 to +40 mm, the curve between points 10 and 11. -/
theorem test_metricDepth : metric { baselineUm := 300000, focalPx := 117964800 } 433 = 31926 := by decide +kernel
theorem test_planeDepths : ((planeZs { slices := 16, curve := [(0, -10240), (1, 10240)] }).drop 7).take 2 = [-683, 683] := by decide +kernel
theorem test_curve : curveZ ((List.range 10).map (fun i => (i, 10240)) ++ [(1500, 2048), (2500, -1024)] ++ List.replicate 21 (4000, -10240)) 31926 = 526 := by
  decide +kernel

/-- The map of Table 9.4, the correction the same at every node of the grid. -/
def rayMap : Bytes :=
  pad 16 (List.replicate 12 0 ++ le 2 1728) ++ le 4 1 ++ le 4 3 ++ le 4 704512 ++ List.replicate 36 0
    ++ (List.range 65).flatMap (fun i => le 2 (wrap 16 (roundDiv (524288 - 16384 * (i : Int)) 100))) ++ List.replicate 66 0
    ++ (List.range 65).flatMap (fun j => le 2 (wrap 16 (1024 - 32 * (j : Int)))) ++ List.replicate 1018 0
    ++ (List.replicate 4096 [6, 0, 0xFE, 0xFF]).flatten
/-- Table 9.4: the direction of the green ray of pixel (7,300, 4,320). -/
theorem test_rayDirection : direction rayMap 15360 8640 0 7300 4320 1 = (2566, -2) := by decide +kernel
/-- Table 9.4: where that ray meets plane 5 and plane 8. -/
def plane5 : RayPlane := { layer := 5, ident := 5, src := .scene [] [], w := 2048, h := 1024, z := 3072, x0 := 1703936, y0 := 974848, invx := 65536, invy := 65536, alpha := 4095, straight := true }
theorem test_rayHit : plane5.hit 1728 7300 4320 2566 (-2) = (169319, 131069) := by decide +kernel
theorem test_rayHitScaled : RayPlane.hit { plane5 with z := 683, x0 := 384, y0 := 384, invx := 16384, invy := 16384 } 1728 7300 4320 2566 (-2) = (467352, 276384) := by
  decide +kernel
/-- Table 9.4: the two planes composited, the second one opaque. -/
theorem test_composite : (RayAcc.over' 4095 true 4095 1211 (RayAcc.over' 4095 true 2072 3257 {})) = { c := 2246, acc := 4095, n := 2, stop := true } ∧
    (RayAcc.over' 4095 true 2072 3257 {}).c = 1648 := by decide +kernel

/-- Table 8.8: texel 69 of a PAL4 record; the GRAD component of the text below it. -/
theorem test_palette4 : decodeTexel ([3, 0, 0, 0] ++ List.replicate 6 0 ++ [0x00, 0xC0, 0xCC, 0xFF, 0xFF, 0xBF] ++ List.replicate 29 0 ++ [0x24]) 69 = 0xBFFFFFCCC000 := by
  decide +kernel
theorem test_gradient : comp (decodeTexel ([6, 0, 0, 0] ++ List.replicate 12 0 ++ le 2 100 ++ le 2 (wrap 16 (-77)) ++ List.replicate 8 0) 3) 0 = 99 ∧
    comp (decodeTexel ([6, 0, 0, 0] ++ List.replicate 12 0 ++ le 2 0 ++ le 2 (wrap 16 (-77)) ++ List.replicate 8 0) 2) 0 = 0 := by decide +kernel

/-- Table 6.6: the loop's two steps, for L = 2. -/
theorem test_exposure : nextE 512 1024 2 (8000 * 256) 0 = 1706688 ∧ splitE 1706688 0 256 16667 = (6666, 256) ∧ nextE 512 853 2 1706496 0 = 1479097 := by
  decide +kernel

/-- Table 11.6: T_min of the reference panel over 96, 95 and 88 lanes, in 1/256 ns. -/
theorem test_lineSlot : [tMinRaw 15360 96 0, tMinRaw 15360 95 0, tMinRaw 15360 88 0, tMinRaw 15360 96 1, tMinRaw 15360 96 2].map (· * 100 / 256) =
    [27718, 28234, 30296, 51437, 98875] := by decide +kernel

/-- Chapter 10's example: the taps of phase 32 and their sum over 1,000, 1,200, 1,600 and 1,700. -/
theorem test_scalerTaps : (catmullH.drop 256).take 8 = [0, 0, -1024, 9216, 9216, -1024, 0, 0] := by decide +kernel

/-- Chapter 12's example: a burst of 10 bits into PRBS31 counts 30 errors and keeps the lock. -/
theorem test_injectBits : ((LaneAux.injectBits 10 { genOn := true, chkOn := true, nearLoop := true, sync := true, generator := 4, checker := 4 }).errors,
    (LaneAux.injectBits 10 { genOn := true, chkOn := true, nearLoop := true, sync := true, generator := 4, checker := 4 }).syncLosses) = (30, 0) := by decide +kernel

/-- Table 14.6: command 1 copies a row to the right, from its far end or from its near end. -/
def scroll : ChurnCmd := { op := 2, flags := 1, mask := 0, w := 15296, h := 1, dst := 0x10000, dstFmt := 1, dstPitch := 61440, dx := 64, dy := 2100, src := 0x10000, srcFmt := 1, srcPitch := 61440, sx := 0, sy := 2100, color := 0, alpha := 0 }
theorem test_hazard : scroll.hazard [] = false ∧ ChurnCmd.hazard { scroll with flags := 0 } [] = true := by decide +kernel

/-- Chapter 15's example: segment 37 going to 1 has its code at bits [75:74] of driver 0, segment 140 going to 0 at bits [25:24] of driver 1. -/
def placardSeq : PlcSeq :=
  { clearing := false, band := 4, clamped := false, bias := 0, frames := 24, target := 2 ^ 37, previous := 2 ^ 140, slot := 7, cfg := ⟨160, 0, 0, []⟩,
    wave := [1, 0, 4, 0, 0, 24, 20, 0, 40] ++ List.replicate 7 0 ++ List.replicate 16 0 ++ List.replicate 6 0x55 ++ List.replicate 10 0 ++ List.replicate 5 0xAA ++ List.replicate 43 0 }
theorem test_placardWords : placardSeq.word 0 (some 0) = (List.replicate 32 0).set 9 4 ++ [0] ∧ placardSeq.word 1 (some 0) = (List.replicate 32 0).set 3 2 ++ [0] ∧
    placardSeq.word 1 (some 20) = List.replicate 33 0 := by decide +kernel

/-- Chapter 16's example: the delay for lip sync, without a trim and with +3.0 ms. -/
theorem test_audioDelay : (AudIn.setDelay { source := 0, fed := true, base := 17719000 }).delay = 851 ∧
    (AudIn.setDelay { source := 0, fed := true, base := 17719000, trim := 30 }).delay = 995 := by decide +kernel

/-- Table 3.6: HOST-B outranks SVC at the tick after the lapse. -/
theorem test_contestedClaim : (match execOwnershipTick { live with own := { live.own with owner := 7, claims := [⟨2, 9, 0⟩, ⟨1, 8, 0⟩] } } with
    | .next t => (t.own.owner, t.own.claims) | _ => (9, [])) = (1, []) := by decide +kernel

/-- Chapter 11, the line worked after R287: the LINE_HDR on L37, the place of word 2,053, and the split with L20 excluded. -/
theorem test_lineHdr : lineHdr { y := 4320, sf := 0, full := false, scrub := false, frame := 0x1A3C, sig := 0x7D3109A4 } 4320 96 37 =
    [0x78, 0x25, 0xE0, 0x10, 0x00, 0x3C, 0x2D, 0x00, 0x60, 0x00, 0xA4, 0x09, 0x31, 0x7D, 0x00, 0x00] := by decide +kernel
theorem test_laneWords : 2053 % 96 = 37 ∧ 2053 / 96 = 21 ∧ laneWords 4320 95 44 = 46 ∧ laneWords 4320 95 45 = 45 ∧
    (linePacket { y := 0, sf := 0, full := false, scrub := false, frame := 0, sig := 0 } [3, 7] ((List.range 48).map (BitVec.ofNat 8 ·))).map
      (fun x => (x.1, x.2.2.map (byteAt · 0))) = [(3, [0, 32]), (7, [16])] := by decide +kernel

/-! ### Published check values of the checksums the spec names -/

/-- IEEE 802.3, SMBus and FIPS 180-4: the checks of "123456789" and of "abc". -/
def digits : Bytes := [0x31, 0x32, 0x33, 0x34, 0x35, 0x36, 0x37, 0x38, 0x39]
theorem test_checks : crc32 digits = 0xCBF43926 ∧ pec digits = 0xF4 := by decide +kernel
theorem test_sha256 : sha256 [0x61, 0x62, 0x63] = [0xBA, 0x78, 0x16, 0xBF, 0x8F, 0x01, 0xCF, 0xEA, 0x41, 0x41, 0x40, 0xDE, 0x5D, 0xAE, 0x22, 0x23, 0xB0, 0x03, 0x61, 0xA3,
    0x96, 0x17, 0x7A, 0x9C, 0xB4, 0x10, 0xFF, 0x61, 0xF2, 0x00, 0x15, 0xAD] := by decide +kernel

/-! ### Decoding, stepping, well-formedness -/

/-- No row of the table gives bits. -/
theorem test_noWord : decodeTableWord 16 0x1234 = none := by decide
/-- The first step on an empty queue passes a nanosecond. -/
theorem test_idleStep : (match step State.reset with | .next t => t.time | _ => 9) = 1 := by decide +kernel
/-- The front command runs and leaves the queue. -/
theorem test_queueOrder : (match step { live with pending := [.svcPresentChange false, .svcPresentChange true] } with
    | .next t => (t.pins.svcPresentN, t.pending) | _ => (true, [])) = (false, [.svcPresentChange true]) := by decide +kernel

/-- An operand beyond each bound of well-formedness is refused; the last index within it passes. -/
theorem test_illFormed : [Instr.mbDoorbell .svc 4 0, .churnProducer .hostA 8 0, .registerWrite .svc 2 [0], .registerWrite .svc 4 [], .powerGoodDeadline 3,
    .abruptLossTrigger 4, .perstLow 2, .domainOnComplete 59, .avsUpdate 2 0 true [], .avsUpdate 0 0 true [59], .refclkRestored 5, .domainFault 272,
    .saplineTrainReq 96 1 1 1 1 1, .laneRetryTimer 144, .adaptationUpdate 3 0 65 [], .adaptationUpdate 3 0 4 [1, 1, 1, 1, 1, 1], .trainingBudgetExpiry 12, .pnlPgRise 4,
    .signalDetect 16, .alignBlock 3 2 0 0, .memfedFrameStart 4, .pairFrameStart 8, .slicerTileRow 4, .flatTileProduce 8, .stripPull 17, .refreshSlot 12,
    .memRequestEnqueue 0 { requester := 1, cls := 3, write := false, addr := 0, data := [] }, .memRequestEnqueue 0 { requester := 1, cls := 0, write := true, addr := 0, data := [(64, 1)] },
    .longUnderrun 8, .audioPortApply 6, .fastComparatorSample 24 true, .conversionSlot 4096, .calibrationLoop 8 0 0, .audioInputSample 64 0 0].all (fun i => !i.wf) = true := by
  decide
theorem test_wellFormed : [Instr.mbDoorbell .svc 3 0, .churnProducer .hostA 7 0, .registerWrite .svc 4 [0], .domainOnComplete 58, .domainFault 271, .laneRetryTimer 143,
    .saplineTrainReq 95 1 1 1 1 1, .signalDetect 15, .stripPull 16, .refreshSlot 11, .conversionSlot 4095, .audioInputSample 63 0 0].all Instr.wf = true := by decide

/-! ### Lemmas for a witness -/

/-- The CRC-32 of R190 on numbers, each intermediate value computed at once. -/
def crcNat : Nat → Nat → Nat
  | 0, c => c
  | n + 1, c => bif Nat.beq (Nat.mod c 2) 1 then crcNat n (Nat.xor (Nat.div c 2) 0xEDB88320) else crcNat n (Nat.div c 2)
theorem crcNat_eq (n : Nat) (c : W32) : crcNat n c.toNat = (crcBits n c).toNat := by
  induction n generalizing c with
  | zero => rfl
  | succ n ih =>
    have h : c.getLsbD 0 = Nat.beq (Nat.mod c.toNat 2) 1 := by
      simp only [BitVec.getLsbD, Nat.testBit_zero]
      exact Bool.eq_iff_iff.2 (by simp [Nat.beq_eq]; rfl)
    rw [crcBits, ← ih, crcNat, ← h]
    cases c.getLsbD 0
    · simp only [Bool.cond_false, Bool.false_eq_true, if_false, BitVec.toNat_ushiftRight, Nat.shiftRight_eq_div_pow]; rfl
    · simp only [Bool.cond_true, if_true, BitVec.toNat_xor, BitVec.toNat_ushiftRight, Nat.shiftRight_eq_div_pow]; rfl
def crcStrict : Bytes → Nat → Nat
  | [], c => c
  | x :: t, c => bif Nat.ble c 0xFFFFFFFF then crcStrict t (crcNat 8 (Nat.xor c x.toNat)) else c
theorem crcStrict_eq (b : Bytes) (c : W32) : crcStrict b c.toNat = (crcFold c b).toNat := by
  induction b generalizing c with
  | nil => rfl
  | cons x t ih =>
    have h : Nat.xor c.toNat x.toNat = (c ^^^ x.setWidth 32).toNat := by
      rw [BitVec.toNat_xor, BitVec.toNat_setWidth, Nat.mod_eq_of_lt (by have := x.isLt; omega)]
      rfl
    have hc : Nat.ble c.toNat 0xFFFFFFFF = true := by rw [Nat.ble_eq]; have := c.isLt; omega
    rw [crcStrict, hc, cond_true, h, crcNat_eq, ih]
    rfl
theorem mapError_none {s : State} {m : Bytes} {crc : Nat}
    (h : (m.length != mapBytes || u16At m 0 != 1 || u32At m 4 != mapBytes) = false ∧ crcStrict m 0xFFFFFFFF ^^^ 0xFFFFFFFF = crc ∧
      s.mapMatches m = true ∧ (u32At m 20 == 0 || 65535 < u32At m 20 || s32At m 16 < -65535 || 65535 < s32At m 16) = false ∧
      (u32At m 24 < 2 * 65536 || 255 * 65536 < u32At m 24) = false ∧ mapReservedBad m = false) : s.mapError m crc = none := by
  obtain ⟨h1, h2, h3, h4, h5, h6⟩ := h
  have hc : (crc32 m).toNat = crc := by
    rw [crc32, BitVec.toNat_xor, ← crcStrict_eq]
    exact h2
  simp only [State.mapError, hc, h1, h3, h4, h5, h6]
  simp
/-- Beyond its last entry a memory reads 0. -/
theorem memRead_tail (m : Memory) (a n : Nat) (h : ∀ c ∈ m, c.1 < a) : memRead m a n = List.replicate n 0 := by
  have hg : ∀ (m : Memory) (a : Nat), (∀ c ∈ m, c.1 < a) → memGet m a = 0 := by
    intro m a h
    induction m with
    | nil => rfl
    | cons c t ih =>
      obtain ⟨b, v⟩ := c
      have hb : b < a := h (b, v) (by simp)
      simp only [memGet, if_neg (show ¬ a < b by omega), if_neg (show ¬ a = b by omega)]
      exact ih fun c hc => h c (by simp [hc])
  induction n generalizing a with
  | zero => rfl
  | succ n ih => rw [memRead, hg m a h, ih (a + 1) fun c hc => Nat.lt_succ_of_lt (h c hc), List.replicate_succ]
theorem memRead_add (m : Memory) (a j n : Nat) : memRead m a (j + n) = memRead m a j ++ memRead m (a + j) n := by
  induction j generalizing a with
  | zero => simp [memRead]
  | succ j ih => rw [Nat.succ_add, memRead, ih, memRead, List.cons_append, Nat.add_assoc a 1 j, Nat.add_comm 1 j]
/-- A read of the Cellar window. -/
theorem devRead_cellar (s : State) (o n : Nat) (h1 : s.dramTop ≤ cellarBase) (h2 : o + n ≤ cellarSize) :
    s.devRead (cellarBase + o) n = memRead s.cellar.window o n := by
  induction n generalizing o with
  | zero => rfl
  | succ n ih =>
    have e1 : s.inDram (cellarBase + o) = false := by simp [State.inDram]; omega
    have e2 : inCellar (cellarBase + o) = true := by simp [inCellar]; omega
    rw [State.devRead, memRead, Nat.add_assoc, ih (o + 1) (by omega)]
    simp [State.devByte, e1, e2]

/-! ### Witnesses of the hypotheses -/

theorem wit_SystemCommands_0 : ∃ (m : Master), ∃ (s : State), Accepts s m { code := 0x0000, cls := 0 } :=
  ⟨.hostA, (cmd 0 ([])), by decide +kernel⟩
theorem wit_SystemCommands_1 : ∃ (m : Master), ∃ (s : State), Accepts s m { code := 0x0001, cls := 0 } :=
  ⟨.hostA, (cmd 1 ([])), by decide +kernel⟩
theorem wit_SystemCommands_2 : ∃ (m : Master), ∃ (s : State), Accepts s m { code := 0x0002, cls := 0 } :=
  ⟨.hostA, (cmd 2 ([])), by decide +kernel⟩
theorem wit_SystemCommands_3 : ∃ (m : Master), ∃ (s : State), let t := s.taken m; let a := s.argsOf m; Accepts s m { code := 0x0003, cls := 0, len := 2, args := [{ off := 0, n := 2 }] } ∧ (unitDomain (u16At a 0)).isSome = true ∧ t.unitPresent (u16At a 0) = true := by
  refine ⟨.hostA, (cmd 3 (le 2 17)), ?_⟩
  try dsimp only
  decide +kernel
theorem wit_SystemCommands_4 : ∃ (m : Master), ∃ (s : State), Accepts s m { code := 0x0100, cls := 0 } :=
  ⟨.hostA, (cmd 0x100 ([])), by decide +kernel⟩
theorem wit_SystemCommands_5 : ∃ (m : Master), ∃ (s : State), Accepts s m { code := 0x0200, cls := 0 } :=
  ⟨.hostA, (cmd 0x200 ([])), by decide +kernel⟩
theorem wit_SystemCommands_6 : ∃ (m : Master), ∃ (s : State), let a := s.argsOf m; Accepts s m { code := 0x0300, cls := 0, len := 1, args := [{ off := 0, hi := 2 }] } ∧ byteAt a 0 ≤ 2 := by
  refine ⟨.hostA, (cmd 0x300 ([])), ?_⟩
  try dsimp only
  decide +kernel
theorem wit_SystemCommands_7 : ∃ (m : Master), ∃ (s : State), let a := s.argsOf m; Accepts s m { code := 0x0101, cls := 1, len := 5, args := [{ off := 0, n := 2, lo := 50, hi := 2000 }, { off := 2, hi := 2 }, { off := 3, hi := 2 }, { off := 4, hi := 2 }] } ∧ byteAt a 2 ≠ byteAt a 3 ∧ byteAt a 2 ≠ byteAt a 4 ∧ byteAt a 3 ≠ byteAt a 4 := by
  refine ⟨.hostA, (cmd 0x101 (le 2 50 ++ [2, 0, 1])), ?_⟩
  try dsimp only
  decide +kernel
theorem wit_SystemCommands_8 : ∃ (m : Master), ∃ (s : State), Accepts s m { code := 0x0202, cls := 1, len := 1, args := [{ off := 0, lo := 2, hi := 3 }] } :=
  ⟨.hostA, (cmd 0x202 ([3])), by decide +kernel⟩
theorem wit_SystemCommands_9 : ∃ (m : Master), ∃ (s : State), let a := s.argsOf m; Accepts s m { code := 0x0301, cls := 1, len := 3, args := [{ off := 0, n := 2, lo := 65, hi := 150 }, { off := 2, mask := 1 }] } ∧ byteAt a 2 = 0 := by
  refine ⟨.hostA, (cmd 0x301 (le 2 65)), ?_⟩
  try dsimp only
  decide +kernel
theorem wit_SystemCommands_10 : ∃ (m : Master), ∃ (s : State), let a := s.argsOf m; Accepts s m { code := 0x0301, cls := 1, len := 3, args := [{ off := 0, n := 2, lo := 65, hi := 150 }, { off := 2, mask := 1 }] } ∧ byteAt a 2 = 1 := by
  refine ⟨.hostA, (cmd 0x301 (le 2 65 ++ [1])), ?_⟩
  try dsimp only
  decide +kernel
theorem wit_ModeRequests_0 : ∃ (m : Master), ∃ (s : State), let t := s.taken m; let a := s.argsOf m; Accepts s m { code := 0x0201, cls := 1, len := 1, args := [{ off := 0 }] } ∧ byteAt a 0 = 3 ∧ t.mode.mode = .boot ∧ t.stopActive = false ∧ t.opOn 0x201 = false ∧ t.pnl.gaveUp = false ∧ s.pendingCount m.code < 16 := by
  refine ⟨.hostA, (put { live with mode := { mode := .boot } } .hostA 0x201 0 [3]), ?_⟩
  try dsimp only
  decide +kernel
theorem wit_ModeRequests_1 : ∃ (m : Master), ∃ (s : State), let t := s.taken m; let a := s.argsOf m; Accepts s m { code := 0x0201, cls := 1, len := 1, args := [{ off := 0 }] } ∧ byteAt a 0 = 2 ∧ t.mode.mode ≠ .boot ∧ t.mode.mode ≠ .safeView ∧ t.opOn 0x201 = false ∧ t.pnl.gaveUp = false := by
  refine ⟨.hostA, (put { live with mode := { mode := .field } } .hostA 0x201 0 [2]), ?_⟩
  try dsimp only
  decide +kernel
theorem wit_ModeRequests_2 : ∃ (m : Master), ∃ (s : State), let t := s.taken m; let a := s.argsOf m; Accepts s m { code := 0x0201, cls := 1, len := 1, args := [{ off := 0 }] } ∧ byteAt a 0 = 5 ∧ t.mode.mode = .safeView ∧ t.stopActive = false ∧ t.opOn 0x201 = false ∧ t.pnl.gaveUp = false := by
  refine ⟨.hostA, (cmd 0x201 ([5])), ?_⟩
  try dsimp only
  decide +kernel
theorem wit_ModeRequests_3 : ∃ (m : Master), ∃ (s : State), let t := s.taken m; let a := s.argsOf m; Accepts s m { code := 0x0201, cls := 1, len := 1, args := [{ off := 0 }] } ∧ byteAt a 0 = 0 ∧ t.mode.mode ≠ .boot ∧ t.mode.mode ≠ .dormant ∧ t.mode.mode ≠ .safeView ∧ t.opOn 0x201 = false ∧ t.pnl.gaveUp = false := by
  refine ⟨.hostA, (put ({ live with mode := { mode := .field } }) .hostA 0x201 0 ([0])), ?_⟩
  try dsimp only
  decide +kernel
theorem wit_ModeRequests_4 : ∃ (m : Master), ∃ (s : State), let t := s.taken m; let a := s.argsOf m; Accepts s m { code := 0x0201, cls := 1, len := 1, args := [{ off := 0 }] } ∧ byteAt a 0 = 3 ∧ t.stopActive = true := by
  refine ⟨.hostA, (put ({ live with pins := { live.pins with safeStopN := false } }) .hostA 0x201 0 ([3])), ?_⟩
  try dsimp only
  decide +kernel
theorem wit_ModeRequests_5 : ∃ (m : Master), ∃ (s : State), let t := s.taken m; Accepts s m { code := 0x0006, cls := 1, len := 4, args := [{ off := 0, n := 4, lo := 0xA5C3, hi := 0xA5C3 }] } ∧ t.pwr.phase = .run := by
  refine ⟨.hostA, (cmd 6 (le 4 0xA5C3)), ?_⟩
  try dsimp only
  decide +kernel
theorem wit_ModeRequests_9 : ∃ (s : State), s.pins.safeStopN = true :=
  ⟨live, by decide +kernel⟩
theorem wit_ModeRequests_11 : ∃ (s : State), s.mode.mode = .safeView ∧ s.fieldWanted = true ∧ s.mode.fieldIn = none ∧ s.unmet = none :=
  ⟨{ live with  mode := { mode := .safeView, bootField := true },  disp := { live.disp with panel := some ⟨64, 32, 2, 0, 50, 1, 0⟩, timing := { lineNs := 50000 * 256, activeLines := 32 } },  ray := { live.ray with map := some (List.replicate 2 0 ++ [2, 0] ++ List.replicate 4 0 ++ [64, 0, 32, 0, 50, 0]), clusters := List.replicate 17 { passed := some true } } }, by decide +kernel⟩
theorem wit_ModePrecedence_0 : ∃ (s : State), ((s.mode.mode = .field ∨ s.mode.mode = .degraded)) ∧ s.pins.safeStopN = false :=
  ⟨{ live with mode := { mode := .field }, pins := { live.pins with safeStopN := false } }, by decide +kernel⟩
theorem wit_ModePrecedence_2 : ∃ (s : State), ((s.mode.mode = .field ∨ s.mode.mode = .degraded)) ∧ s.pins.safeStopN = true ∧ s.own.forceSafeView = true :=
  ⟨{ live with mode := { mode := .degraded }, own := { live.own with forceSafeView := true } }, by decide +kernel⟩
theorem wit_ModePrecedence_4 : ∃ (s : State), ((s.mode.mode = .field ∨ s.mode.mode = .degraded)) ∧ s.pins.safeStopN = true ∧ s.own.forceSafeView = false ∧ ((s.mode.safeTrigger = none ∨ s.mode.safeTrigger = some 0x06)) ∧ s.mode.lightLost = true :=
  ⟨{ live with mode := { mode := .field, lightLost := true } }, by decide +kernel⟩
theorem wit_ModePrecedence_6 : ∃ (s : State), ∃ (r : Reduction), ((s.mode.mode = .field ∨ s.mode.mode = .degraded)) ∧ s.pins.safeStopN = true ∧ s.own.forceSafeView = false ∧ ((s.mode.safeTrigger = none ∨ s.mode.safeTrigger = some 0x06)) ∧ s.mode.lightLost = false ∧ s.mode.mode = .field ∧ s.mode.detected = [r] ∧ degrades r = true ∧ s.mode.reductions.filter degrades = [] :=
  ⟨{ live with mode := { mode := .field, detected := [⟨0x13, 5, 0⟩] } }, ⟨0x13, 5, 0⟩, by decide +kernel⟩
theorem wit_ModePrecedence_9 : ∃ (s : State), ((s.mode.mode = .field ∨ s.mode.mode = .degraded)) ∧ s.pins.safeStopN = true ∧ s.own.forceSafeView = false ∧ ((s.mode.safeTrigger = none ∨ s.mode.safeTrigger = some 0x06)) ∧ s.mode.lightLost = false ∧ s.mode.mode = .field ∧ s.allReductions.filter degrades = [] ∧ s.mode.ownerReq = some .safeView :=
  ⟨{ live with mode := { mode := .field, ownerReq := some .safeView } }, by decide +kernel⟩
theorem wit_HeadCommands_0 : ∃ (m : Master), ∃ (s : State), let t := s.taken m; let a := s.argsOf m; let p := byteAt a 0; Accepts s m { code := 0x0400, cls := 0, len := 1, args := [{ off := 0, hi := 15 }] } ∧ t.hasPort p = true := by
  refine ⟨.hostA, (cmd 0x400 ([15])), ?_⟩
  try dsimp only
  decide +kernel
theorem wit_HeadCommands_1 : ∃ (m : Master), ∃ (s : State), let t := s.taken m; let a := s.argsOf m; let p := byteAt a 0; Accepts s m { code := 0x0402, cls := 0, len := 4, args := [{ off := 0, hi := 15 }, { off := 1, lo := 1, hi := 64 }, { off := 2, n := 2 }] } ∧ t.hasPort p = true ∧ t.linkIdleUp p = true := by
  refine ⟨.hostA, (put ({ live with cam := { live.cam with ports := live.cam.ports.set 0 { state := 5, configured := true } } }) .hostA 0x402 0 [0, 64, 0x10, 0]), ?_⟩
  try dsimp only
  decide +kernel
theorem wit_HeadCommands_2 : ∃ (m : Master), ∃ (s : State), let t := s.taken m; let a := s.argsOf m; let p := byteAt a 0; Accepts s m { code := 0x0402, cls := 0, len := 4, args := [{ off := 0, hi := 15 }, { off := 1, lo := 1, hi := 64 }, { off := 2, n := 2 }] } ∧ t.hasPort p = true ∧ t.linkIdleUp p = false := by
  refine ⟨.hostA, (cmd 0x402 ([0, 64, 0x10, 0])), ?_⟩
  try dsimp only
  decide +kernel
theorem wit_HeadCommands_3 : ∃ (m : Master), ∃ (s : State), let t := s.taken m; let a := s.argsOf m; let p := byteAt a 0; Accepts s m { code := 0x0403, cls := 1, len := 68, args := [{ off := 0, hi := 15 }, { off := 1, lo := 1, hi := 64 }, { off := 2, n := 2 }, { off := 4, n := 64 }] } ∧ t.hasPort p = true ∧ ((∀ o, 4 + byteAt a 1 ≤ o → o < 68 → byteAt a o = 0)) ∧ t.linkIdleUp p = true := by
  refine ⟨.hostA, (put ({ live with cam := { live.cam with ports := live.cam.ports.set 0 { state := 5, configured := true } } }) .hostA 0x403 0 ([0, 2, 0x10, 0, 1, 2])), ?_⟩
  try dsimp only
  decide +kernel
theorem wit_HeadCommands_4 : ∃ (m : Master), ∃ (s : State), let t := s.taken m; let a := s.argsOf m; let p := byteAt a 0; Accepts s m { code := 0x0403, cls := 1, len := 68, args := [{ off := 0, hi := 15 }, { off := 1, lo := 1, hi := 64 }, { off := 2, n := 2 }, { off := 4, n := 64 }] } ∧ t.hasPort p = true ∧ ((∀ o, 4 + byteAt a 1 ≤ o → o < 68 → byteAt a o = 0)) ∧ t.linkIdleUp p = false := by
  refine ⟨.hostA, (cmd 0x403 ([0, 2, 0x10, 0, 1, 2])), ?_⟩
  try dsimp only
  decide +kernel
theorem wit_HeadCommands_5 : ∃ (m : Master), ∃ (s : State), let t := s.taken m; let a := s.argsOf m; let p := byteAt a 0; Accepts s m { code := 0x0401, cls := 1, len := 17, args := [{ off := 0, hi := 15 }, { off := 1, lo := 1, hi := 2 }, { off := 2, hi := 2 }, { off := 3, hi := 3 }, { off := 4 }, { off := 5, mask := 15 }, { off := 6, n := 2 }, { off := 8, n := 2 }, { off := 10, lo := 1, hi := 4 }, { off := 12, n := 5 }] } ∧ t.hasPort p = true ∧ byteAt a 4 ∈ dataTypes ∧ capacityOk (byteAt a 1) (byteAt a 2) (u16At a 6) (u16At a 8) (byteAt a 4) (t.framePeriod0 * byteAt a 10) = true ∧ ((a40At a 12 = 0 ∨ (t.regionAt (a40At a 12)).isSome = true)) ∧ t.configRuns p = true := by
  refine ⟨.hostA, (put ({ live with cam := { live.cam with ports := live.cam.ports.set 0 { state := 6, after := 2 } } }) .hostA 0x401 0 ([0, 2, 2, 0, 0x2C, 1] ++ le 2 3840 ++ le 2 2160 ++ [1, 0] ++ le 5 0)), ?_⟩
  try dsimp only
  decide +kernel
theorem wit_HeadCommands_6 : ∃ (m : Master), ∃ (s : State), let t := s.taken m; let a := s.argsOf m; let p := byteAt a 0; Accepts s m { code := 0x0401, cls := 1, len := 17, args := [{ off := 0, hi := 15 }, { off := 1, lo := 1, hi := 2 }, { off := 2, hi := 2 }, { off := 3, hi := 3 }, { off := 4 }, { off := 5, mask := 15 }, { off := 6, n := 2 }, { off := 8, n := 2 }, { off := 10, lo := 1, hi := 4 }, { off := 12, n := 5 }] } ∧ t.hasPort p = true ∧ byteAt a 4 ∈ dataTypes ∧ capacityOk (byteAt a 1) (byteAt a 2) (u16At a 6) (u16At a 8) (byteAt a 4) (t.framePeriod0 * byteAt a 10) = true ∧ ((a40At a 12 = 0 ∨ (t.regionAt (a40At a 12)).isSome = true)) ∧ t.configRuns p = false ∧ (t.camPort p).state ≠ 5 := by
  refine ⟨.hostA, (cmd 0x401 ([0, 2, 2, 0, 0x2C, 1] ++ le 2 3840 ++ le 2 2160 ++ [1, 0] ++ le 5 0)), ?_⟩
  try dsimp only
  decide +kernel
theorem wit_HeadCommands_7 : ∃ (m : Master), ∃ (s : State), let t := s.taken m; let a := s.argsOf m; let p := byteAt a 0; Accepts s m { code := 0x0401, cls := 1, len := 17, args := [{ off := 0, hi := 15 }, { off := 1, lo := 1, hi := 2 }, { off := 2, hi := 2 }, { off := 3, hi := 3 }, { off := 4 }, { off := 5, mask := 15 }, { off := 6, n := 2 }, { off := 8, n := 2 }, { off := 10, lo := 1, hi := 4 }, { off := 12, n := 5 }] } ∧ t.hasPort p = true ∧ byteAt a 4 ∈ dataTypes ∧ capacityOk (byteAt a 1) (byteAt a 2) (u16At a 6) (u16At a 8) (byteAt a 4) (t.framePeriod0 * byteAt a 10) = true ∧ ((a40At a 12 = 0 ∨ (t.regionAt (a40At a 12)).isSome = true)) ∧ t.configRuns p = false ∧ (t.camPort p).state = 5 := by
  refine ⟨.hostA, (put ({ live with cam := { live.cam with ports := live.cam.ports.set 0 { state := 5, configured := true }, flows := live.cam.flows.set 0 { frame := some { seq := 1, start := 0 } } } }) .hostA 0x401 0 ([0, 2, 2, 0, 0x2C, 1] ++ le 2 3840 ++ le 2 2160 ++ [1, 0] ++ le 5 0)), ?_⟩
  try dsimp only
  decide +kernel
theorem wit_HeadCommands_8 : ∃ (m : Master), ∃ (s : State), let t := s.taken m; let a := s.argsOf m; Accepts s m { code := 0x0404, cls := 1, bulk := some 0, len := 17, args := [{ off := 16, hi := 31 }] } ∧ BulkFits s m { code := 0x0404, cls := 1, bulk := some 0, len := 17, args := [{ off := 16, hi := 31 }] } ∧ s.bulkLen m = 512 ∧ profileBad ((s.takenBulk m).devRead (s.bulkAt m) 512) = false ∧ (t.opOn 0x0404 fun x => byteAt x 16 == byteAt a 16) = false ∧ ((∀ q < 16, t.configRuns q = true → profileMatches (t.camPort q).headId ((s.takenBulk m).devRead (s.bulkAt m) 512) = false)) ∧ s.pendingCount m.code < 16 := by
  refine ⟨.hostA, ((bulk 0x404 0 512 [31]).devWrite 0x10000 (List.replicate 8 0 ++ [1, 0, 0, 0x2C, 1] ++ List.replicate 5 0 ++ [1] ++ List.replicate 12 0 ++ [1])), ?_⟩
  try dsimp only
  decide +kernel
theorem wit_IspCommands_0 : ∃ (m : Master), ∃ (s : State), let t := s.taken m; let a := s.argsOf m; Accepts s m { code := 0x0500, cls := 0, len := 1, args := [{ off := 0, hi := 3 }] } ∧ t.hasPipe (byteAt a 0) = true := by
  refine ⟨.hostA, (cmd 0x500 ([3])), ?_⟩
  try dsimp only
  decide +kernel
theorem wit_IspCommands_1 : ∃ (m : Master), ∃ (s : State), let t := s.taken m; let a := s.argsOf m; Accepts s m { code := 0x0504, cls := 0, bulk := some 1, len := 18, args := [{ off := 16, hi := 15 }, { off := 17, mask := 7 }] } ∧ BulkFits s m { code := 0x0504, cls := 0, bulk := some 1, len := 18, args := [{ off := 16, hi := 15 }, { off := 17, mask := 7 }] } ∧ t.hasPort (byteAt a 16) = true ∧ 12608 ≤ s.bulkLen m := by
  refine ⟨.hostA, (bulk 0x504 1 12608 [15, 7]), ?_⟩
  try dsimp only
  decide +kernel
theorem wit_IspCommands_2 : ∃ (m : Master), ∃ (s : State), let t := s.taken m; let a := s.argsOf m; Accepts s m { code := 0x0505, cls := 1, len := 8, args := [{ off := 0, hi := 15 }, { off := 1, mask := 3 }, { off := 2, n := 2, hi := 4095 }, { off := 4, n := 2 }, { off := 6, n := 2 }] } ∧ t.hasPort (byteAt a 0) = true := by
  refine ⟨.hostA, (cmd 0x505 ([0, 3] ++ le 2 4095 ++ le 2 100 ++ le 2 256)), ?_⟩
  try dsimp only
  decide +kernel
theorem wit_IspCommands_3 : ∃ (m : Master), ∃ (s : State), let t := s.taken m; let a := s.argsOf m; Accepts s m { code := 0x0501, cls := 1, bulk := some 0, len := 18, args := [{ off := 16, hi := 15 }, { off := 17, mask := 1 }] } ∧ BulkFits s m { code := 0x0501, cls := 1, bulk := some 0, len := 18, args := [{ off := 16, hi := 15 }, { off := 17, mask := 1 }] } ∧ t.hasPort (byteAt a 16) = true ∧ s.bulkLen m = 9760 ∧ ctxBad ((s.takenBulk m).devRead (s.bulkAt m) 9760) = false := by
  refine ⟨.hostA, ((bulk 0x501 0 9760 [0, 1]).devWrite 0x10000 [1]), ?_⟩
  try dsimp only
  decide +kernel
theorem wit_IspCommands_4 : ∃ (m : Master), ∃ (s : State), let t := s.taken m; let a := s.argsOf m; Accepts s m { code := 0x0502, cls := 1, len := 4, args := [{ off := 0, hi := 3 }, { off := 1, hi := 3 }, { off := 2, n := 2 }] } ∧ t.hasPipe (byteAt a 0) = true ∧ ((∀ p < 16, bit (u16At a 2) p = true → t.hasPort p = true)) ∧ t.maskBad (byteAt a 0) (byteAt a 1) (BitVec.ofNat 16 (u16At a 2)) = none := by
  refine ⟨.hostA, (cmd 0x502 ([0, 1] ++ le 2 0)), ?_⟩
  try dsimp only
  decide +kernel
theorem wit_IspCommands_5 : ∃ (m : Master), ∃ (s : State), let t := s.taken m; let a := s.argsOf m; Accepts s m { code := 0x0503, cls := 1, len := 16, args := [{ off := 0, hi := 3 }, { off := 1 }, { off := 2, hi := 15 }, { off := 4, n := 5 }, { off := 12, n := 4 }] } ∧ t.hasPipe (byteAt a 0) = true ∧ t.hasPort (byteAt a 2) = true ∧ byteAt a 1 = 255 := by
  refine ⟨.hostA, (cmd 0x503 ([0, 255, 0])), ?_⟩
  try dsimp only
  decide +kernel
theorem wit_IspCommands_6 : ∃ (m : Master), ∃ (s : State), let t := s.taken m; let a := s.argsOf m; Accepts s m { code := 0x0503, cls := 1, len := 16, args := [{ off := 0, hi := 3 }, { off := 1 }, { off := 2, hi := 15 }, { off := 4, n := 5 }, { off := 12, n := 4 }] } ∧ t.hasPipe (byteAt a 0) = true ∧ t.hasPort (byteAt a 2) = true ∧ byteAt a 1 ≤ 4 ∧ ((t.inlinePort (byteAt a 0) = byteAt a 2 ∨ t.maskPipe (byteAt a 2) = some (byteAt a 0))) ∧ t.inRegion (a40At a 4) (u32At a 12) = true ∧ t.held (a40At a 4) (u32At a 12) = false ∧ tapSlot (byteAt a 1) (t.camPort (byteAt a 2)).cfg.width (t.camPort (byteAt a 2)).cfg.height (t.camPort (byteAt a 2)).cfg.dataType ≤ u32At a 12 := by
  refine ⟨.hostA, (cmd 0x503 ([0, 4, 0, 0] ++ le 5 0x10000 ++ [0, 0, 0] ++ le 4 (2 ^ 27))), ?_⟩
  try dsimp only
  decide +kernel
theorem wit_RootlineLinks_0 : ∃ (port : Nat), ∃ (s : State), (s.camPort port).state = 1 ∧ s.domOn (domRG port) = true ∧ (s.camPort port).configured = true :=
  ⟨0, { live with cam := { live.cam with ports := live.cam.ports.set 0 { state := 1, configured := true } } }, by decide +kernel⟩
theorem wit_RootlineLinks_1 : ∃ (port : Nat), ∃ (s : State), (s.camPort port).state = 1 ∧ s.domOn (domRG port) = true ∧ (s.camPort port).configured = false :=
  ⟨0, { live with cam := { live.cam with ports := live.cam.ports.set 0 { state := 1 } } }, by decide +kernel⟩
theorem wit_RootlineLinks_2 : ∃ (port : Nat), ∃ (s : State), s.portTraining port = true :=
  ⟨0, { live with cam := { live.cam with ports := live.cam.ports.set 0 { state := 2 } } }, by decide +kernel⟩
theorem wit_RootlineLinks_3 : ∃ (port : Nat), ∃ (s : State), s.portTraining port = false :=
  ⟨0, live, by decide +kernel⟩
theorem wit_RootlineLinks_4 : ∃ (port : Nat), ∃ (s : State), ∃ (t0 : Nat), s.lanes.portTapLimit.getD port none = some t0 ∧ s.portTraining port = true ∧ ((∃ i ∈ (s.camPort port).lanesIn, (s.lane (portLane port i)).ended = false)) :=
  ⟨0, { live with cam := { live.cam with ports := live.cam.ports.set 0 { state := 2 } }, lanes := { live.lanes with portTapLimit := live.lanes.portTapLimit.set 0 (some 2000000), lanes := live.lanes.lanes.set 96 { state := 1 }, aux := live.lanes.aux.set 96 { search := some { seq := 4 } } } }, 2000000, by decide +kernel⟩
theorem wit_RootlineLinks_5 : ∃ (port : Nat), ∃ (lane : Nat), ∃ (seq : Nat), ∃ (margin : Nat), ∃ (s : State), ∃ (t : TapSearch), (s.laneAux (portLane port lane)).search = some t ∧ s.portTraining port = true ∧ (s.lane (portLane port lane)).state = 1 ∧ (s.lane (portLane port lane)).ended = false ∧ seq = t.seq ∧ t.phase = 0 ∧ 250 ≤ roundNat (margin * 1000) 64 :=
  ⟨0, 0, 4, 16, { live with cam := { live.cam with ports := live.cam.ports.set 0 { state := 2 } }, lanes := { live.lanes with portTapLimit := live.lanes.portTapLimit.set 0 (some 2000000), lanes := live.lanes.lanes.set 96 { state := 1 }, aux := live.lanes.aux.set 96 { search := some { seq := 4 } } } }, { seq := 4 }, by decide +kernel⟩
theorem wit_RootlineLinks_6 : ∃ (port : Nat), ∃ (lane : Nat), ∃ (seq : Nat), ∃ (margin : Nat), ∃ (s : State), ∃ (t : TapSearch), (s.laneAux (portLane port lane)).search = some t ∧ s.portTraining port = true ∧ (s.lane (portLane port lane)).state = 1 ∧ (s.lane (portLane port lane)).ended = false ∧ seq = t.seq ∧ t.phase = 0 ∧ roundNat (margin * 1000) 64 < 250 :=
  ⟨0, 0, 4, 15, { live with cam := { live.cam with ports := live.cam.ports.set 0 { state := 2 } }, lanes := { live.lanes with portTapLimit := live.lanes.portTapLimit.set 0 (some 2000000), lanes := live.lanes.lanes.set 96 { state := 1 }, aux := live.lanes.aux.set 96 { search := some { seq := 4 } } } }, { seq := 4 }, by decide +kernel⟩
theorem wit_RootlineLinks_7 : ∃ (port : Nat), ∃ (lane : Nat), ∃ (seq : Nat), ∃ (s : State), ∃ (t : TapSearch), (s.laneAux (portLane port lane)).search = some t ∧ seq ≠ t.seq :=
  ⟨0, 0, 5, { live with cam := { live.cam with ports := live.cam.ports.set 0 { state := 2 } }, lanes := { live.lanes with portTapLimit := live.lanes.portTapLimit.set 0 (some 2000000), lanes := live.lanes.lanes.set 96 { state := 1 }, aux := live.lanes.aux.set 96 { search := some { seq := 4 } } } }, { seq := 4 }, by decide +kernel⟩
theorem wit_RootlineLinks_8 : ∃ (port : Nat), ∃ (s : State), ((∃ i ∈ (s.camPort port).lanesIn, (s.lane (portLane port i)).trained = false)) :=
  ⟨0, { live with cam := { live.cam with ports := live.cam.ports.set 0 { state := 6 } } }, by decide +kernel⟩
theorem wit_RootlineLinks_9 : ∃ (port : Nat), ∃ (s : State), s.portTraining port = true ∧ ((∀ i ∈ (s.camPort port).lanesIn, (s.lane (portLane port i)).trained = true)) ∧ (s.camPort port).state = 6 ∧ port < s.cam.ports.length :=
  ⟨0, { live with cam := { live.cam with ports := live.cam.ports.set 0 { state := 6 } }, lanes := { live.lanes with lanes := live.lanes.lanes.set 96 { state := 1, trained := true } } }, by decide +kernel⟩
theorem wit_RootlineLinks_11 : ∃ (port : Nat), ∃ (s : State), s.linkIdleUp port = false ∧ (s.camPort port).state ≠ 6 :=
  ⟨0, { live with cam := { live.cam with ports := live.cam.ports.set 0 { state := 1 } } }, by decide +kernel⟩
theorem wit_RootlineLinks_12 : ∃ (port : Nat), ∃ (lane : Nat), ∃ (s : State), (s.camPort port).state = 6 ∧ (s.camPort port).lostLane < 2 ∧ (s.camPort port).lostLane ≠ lane :=
  ⟨0, 1, { live with cam := { live.cam with ports := live.cam.ports.set 0 { state := 6, lostLane := 0 } } }, by decide +kernel⟩
theorem wit_RootlineLinks_13 : ∃ (port : Nat), ∃ (s : State), (s.camPort port).state = 5 ∧ (s.camPort port).failures ≠ 0 :=
  ⟨0, { live with cam := { live.cam with ports := live.cam.ports.set 0 { state := 5, failures := 2 } } }, by decide +kernel⟩
theorem wit_RootlineLinks_14 : ∃ (port : Nat), ∃ (s : State), (s.camPort port).state = 5 ∧ (s.camPort port).cfg.fsyncEn = true ∧ (s.camPort port).nextCfg = none :=
  ⟨0, { live with cam := { live.cam with ports := live.cam.ports.set 0 { state := 5, cfg := { fsyncEn := true } } } }, by decide +kernel⟩
theorem wit_RootlineLinks_15 : ∃ (port : Nat), ∃ (s : State), (s.camPort port).state ≠ 5 :=
  ⟨0, live, by decide +kernel⟩
theorem wit_RootlineLinks_17 : ∃ (port : Nat), ∃ (s : State), 2 ≤ (s.camPort port).state ∧ (s.camPort port).state ≠ 8 ∧ port < s.cam.ports.length :=
  ⟨0, { live with cam := { live.cam with ports := live.cam.ports.set 0 { state := 2 } } }, by decide +kernel⟩
theorem wit_RootlineLinks_18 : ∃ (port : Nat), ∃ (s : State), (((s.camPort port).state < 2 ∨ (s.camPort port).state = 8)) :=
  ⟨0, { live with cam := { live.cam with ports := live.cam.ports.set 0 { state := 8 } } }, by decide +kernel⟩
theorem wit_CameraTraffic_0 : ∃ (port : Nat), ∃ (tag : Nat), ∃ (s : State), s.findReq port tag = none :=
  ⟨0, 9, live, by decide +kernel⟩
theorem wit_CameraTraffic_2 : ∃ (port : Nat), ∃ (tag : Nat), ∃ (s : State), ∃ (r : RevReq), s.findReq port tag = some r ∧ r.kind ≠ 2 ∧ r.limit ≠ 0 :=
  ⟨0, 9, { live with cam := { live.cam with ports := live.cam.ports.set 0 { state := 5 }, flows := live.cam.flows.set 0 { req := [⟨1, 9, [0xFB, 5, 9, 0x10, 0, 4, 0, 0], 0, 200000, 2000000, []⟩] } } }, ⟨1, 9, [0xFB, 5, 9, 0x10, 0, 4, 0, 0], 0, 200000, 2000000, []⟩, by decide +kernel⟩
theorem wit_CameraTraffic_3 : ∃ (port : Nat), ∃ (tag : Nat), ∃ (s : State), ∃ (r : RevReq), s.findReq port tag = some r ∧ r.kind ≠ 2 ∧ r.limit = 0 :=
  ⟨0, 9, { live with cam := { live.cam with ports := live.cam.ports.set 0 { state := 5 }, flows := live.cam.flows.set 0 { req := [⟨1, 9, [0xFB, 5, 9, 0x10, 0, 4, 0, 0], 0, 200000, 0, []⟩] } } }, ⟨1, 9, [0xFB, 5, 9, 0x10, 0, 4, 0, 0], 0, 200000, 0, []⟩, by decide +kernel⟩
theorem wit_CameraTraffic_4 : ∃ (port : Nat), ∃ (tag : Nat), ∃ (s : State), ∃ (r : RevReq), s.findReq port tag = some r ∧ r.kind ≠ 2 :=
  ⟨0, 9, { live with cam := { live.cam with ports := live.cam.ports.set 0 { state := 5 }, flows := live.cam.flows.set 0 { req := [⟨1, 9, [0xFB, 5, 9, 0x10, 0, 4, 0, 0], 0, 200000, 0, []⟩] } } }, ⟨1, 9, [0xFB, 5, 9, 0x10, 0, 4, 0, 0], 0, 200000, 0, []⟩, by decide +kernel⟩
theorem wit_CameraTraffic_5 : ∃ (port : Nat), ∃ (tag : Nat), ∃ (status : Nat), ∃ (s : State), ∃ (r : RevReq), s.findReq port tag = some r ∧ r.kind ≠ 2 ∧ 1 < status :=
  ⟨0, 9, 2, { live with cam := { live.cam with ports := live.cam.ports.set 0 { state := 5 }, flows := live.cam.flows.set 0 { req := [⟨1, 9, [0xFB, 5, 9, 0x10, 0, 4, 0, 0], 0, 200000, 0, []⟩] } } }, ⟨1, 9, [0xFB, 5, 9, 0x10, 0, 4, 0, 0], 0, 200000, 0, []⟩, by decide +kernel⟩
theorem wit_CameraTraffic_6 : ∃ (port : Nat), ∃ (tag : Nat), ∃ (s : State), ∃ (r : RevReq), s.findReq port tag = some r ∧ r.kind = 2 ∧ byteAt r.msg 5 ≤ 4 ∧ 1 ≤ byteAt r.msg 5 :=
  ⟨0, 9, { live with cam := { live.cam with ports := live.cam.ports.set 0 { state := 5 }, flows := live.cam.flows.set 0 { req := [⟨2, 9, [0xFB, 5, 9, 0x10, 0, 4, 0, 0], 0, 200000, 2000000, []⟩] } } }, ⟨2, 9, [0xFB, 5, 9, 0x10, 0, 4, 0, 0], 0, 200000, 2000000, []⟩, by decide +kernel⟩
theorem wit_CameraTraffic_7 : ∃ (port : Nat), ∃ (tag : Nat), ∃ (s : State), ∃ (r : RevReq), s.findReq port tag = some r ∧ r.kind = 2 :=
  ⟨0, 9, { live with cam := { live.cam with ports := live.cam.ports.set 0 { state := 5 }, flows := live.cam.flows.set 0 { req := [⟨2, 9, [0xFB, 5, 9, 0x10, 0, 4, 0, 0], 0, 200000, 2000000, []⟩] } } }, ⟨2, 9, [0xFB, 5, 9, 0x10, 0, 4, 0, 0], 0, 200000, 2000000, []⟩, by decide +kernel⟩
theorem wit_CameraTraffic_8 : ∃ (port : Nat), ∃ (s : State), ∃ (r : RevReq), ∃ (rest : List RevReq), (s.camFlow port).req = r :: rest ∧ ((∀ x ∈ rest, r.window ≤ x.window)) :=
  ⟨0, { live with cam := { live.cam with ports := live.cam.ports.set 0 { state := 5 }, flows := live.cam.flows.set 0 { req := [⟨1, 9, [0xFB, 5, 9, 0x10, 0, 4, 0, 0], 0, 200000, 0, []⟩] } } }, ⟨1, 9, [0xFB, 5, 9, 0x10, 0, 4, 0, 0], 0, 200000, 0, []⟩, [], by decide +kernel⟩
theorem wit_CameraTraffic_9 : ∃ (port : Nat), ∃ (s : State), (s.camFlow port).req = [] :=
  ⟨0, live, by decide +kernel⟩
theorem wit_CameraTraffic_10 : ∃ (port : Nat), ∃ (s : State), (s.camPort port).state ≠ 5 :=
  ⟨0, live, by decide +kernel⟩
theorem wit_CameraTraffic_11 : ∃ (port : Nat), ∃ (s : State), let z := s.camFlow port; (s.camPort port).state = 5 ∧ z.frame = none ∧ port < s.cam.flows.length := by
  refine ⟨0, { live with cam := { live.cam with ports := live.cam.ports.set 0 { state := 5, cfg := { fsyncEn := true } }, flows := live.cam.flows.set 0 { startSeen := true, lastTick := some 6 } } }, ?_⟩
  try dsimp only
  decide +kernel
theorem wit_CameraTraffic_12 : ∃ (port : Nat), ∃ (number : W16), ∃ (s : State), let e := s.modFlow port fun f => { f with lastFrameNum := number }; (e.camFlow port).frame = none := by
  refine ⟨0, 1, { live with cam := { live.cam with ports := live.cam.ports.set 0 { state := 5 } } }, ?_⟩
  try dsimp only
  decide +kernel
theorem wit_CameraTraffic_13 : ∃ (port : Nat), ∃ (number : W16), ∃ (s : State), let e := s.modFlow port fun f => { f with lastFrameNum := number }; (e.camFlow port).frame.isSome = true := by
  refine ⟨0, 1, { live with cam := { live.cam with ports := live.cam.ports.set 0 { state := 5 }, flows := live.cam.flows.set 0 { frame := some { seq := 6, start := 0, w := 4, h := 3, dt := 0x2A } } } }, ?_⟩
  try dsimp only
  decide +kernel
theorem wit_CameraTraffic_14 : ∃ (port : Nat), ∃ (s : State), ∃ (vc : Nat), vc ≠ (s.camPort port).cfg.vc :=
  ⟨0, { live with cam := { live.cam with ports := live.cam.ports.set 0 { state := 5 } } }, 1, by decide +kernel⟩
theorem wit_CameraTraffic_15 : ∃ (port : Nat), ∃ (data : List W8), ∃ (s : State), let z := s.camFlow port; ∃ (f : CamFrame), z.frame = some f ∧ f.dropped = false ∧ f.ended = false ∧ data.length ≠ lineBytes f.w f.dt := by
  refine ⟨0, [1, 2, 3], { live with cam := { live.cam with ports := live.cam.ports.set 0 { state := 5 }, flows := live.cam.flows.set 0 { frame := some { seq := 6, start := 0, w := 4, h := 3, dt := 0x2C } } } }, { seq := 6, start := 0, w := 4, h := 3, dt := 0x2C }, ?_⟩
  try dsimp only
  decide +kernel
theorem wit_CameraTraffic_16 : ∃ (port : Nat), ∃ (data : List W8), ∃ (s : State), let z := s.camFlow port; ∃ (f : CamFrame), z.frame = some f ∧ f.dropped = false ∧ f.ended = false ∧ data.length = lineBytes f.w f.dt ∧ f.lines + 1 < f.h := by
  refine ⟨0, [1, 2, 3, 4, 5, 6], { live with cam := { live.cam with ports := live.cam.ports.set 0 { state := 5 }, flows := live.cam.flows.set 0 { frame := some { seq := 6, start := 0, w := 4, h := 3, dt := 0x2C } } } }, { seq := 6, start := 0, w := 4, h := 3, dt := 0x2C }, ?_⟩
  try dsimp only
  decide +kernel
theorem wit_CameraTraffic_17 : ∃ (port : Nat), ∃ (data : List W8), ∃ (s : State), let z := s.camFlow port; ∃ (f : CamFrame), z.frame = some f ∧ f.dropped = false ∧ f.ended = false ∧ data.length = lineBytes f.w f.dt ∧ f.lines < f.h := by
  refine ⟨0, [1, 2, 3, 4, 5, 6], { live with cam := { live.cam with ports := live.cam.ports.set 0 { state := 5 }, flows := live.cam.flows.set 0 { frame := some { seq := 6, start := 0, w := 4, h := 3, dt := 0x2C } } } }, { seq := 6, start := 0, w := 4, h := 3, dt := 0x2C }, ?_⟩
  try dsimp only
  decide +kernel
theorem wit_CameraTraffic_18 : ∃ (port : Nat), ∃ (s : State), let z := s.camFlow port; ∃ (f : CamFrame), z.frame = some f ∧ f.lines = 0 ∧ f.embedded = none := by
  refine ⟨0, { live with cam := { live.cam with ports := live.cam.ports.set 0 { state := 5 }, flows := live.cam.flows.set 0 { frame := some { seq := 6, start := 0, w := 4, h := 3, dt := 0x2C } } } }, { seq := 6, start := 0, w := 4, h := 3, dt := 0x2C }, ?_⟩
  try dsimp only
  decide +kernel
theorem wit_CameraTraffic_20 : ∃ (port : Nat), ∃ (s : State), ∃ (skew : Nat), s.linkIdleUp port = true ∧ (s.camPort port).runLanes = 1 ∧ skew ≤ 16 * 66 :=
  ⟨0, { live with cam := { live.cam with ports := live.cam.ports.set 0 { state := 5 } } }, 1056, by decide +kernel⟩
theorem wit_CameraTraffic_21 : ∃ (port : Nat), ∃ (s : State), ∃ (skew : Nat), s.linkIdleUp port = true ∧ 16 * 66 < skew :=
  ⟨0, { live with cam := { live.cam with ports := live.cam.ports.set 0 { state := 5 } } }, 1057, by decide +kernel⟩
theorem wit_CameraTraffic_22 : ∃ (port : Nat), ∃ (s : State), let z := s.camFlow port; ∃ (lane : Nat), ∃ (skew : Nat), ∃ (c : W16), s.linkIdleUp port = true ∧ (s.camPort port).runLanes = 2 ∧ skew ≤ 16 * 66 ∧ lane < 2 ∧ port < s.cam.flows.length ∧ (z.laneCount = [some c, none] ∨ z.laneCount = [none, some c]) ∧ z.laneCount.getD lane none = some c := by
  refine ⟨0, { live with cam := { live.cam with ports := live.cam.ports.set 0 { state := 5, runLanes := 2 }, flows := live.cam.flows.set 0 { laneCount := [none, some 7] } } }, 1, 0, 7, ?_⟩
  try dsimp only
  decide +kernel
theorem wit_CameraTraffic_23 : ∃ (s : State), ∃ (f : W32), ∃ (t0 : Nat), ∃ (p : Nat), s.nextTick = some (f, t0, p) :=
  ⟨{ live with disp := { live.disp with sched := true, panel := some ⟨64, 32, 1, 0, 50, 1, 0⟩, timing := { lineNs := 25600, activeLines := 32, lockOffset := 0 } } }, 0, 0, 4000, by decide +kernel⟩
theorem wit_PipelinesProcessFrames_0 : ∃ (pipe : Nat), ∃ (s : State), let y := s.pipe pipe; y.faulted = true := by
  refine ⟨1, { live with isp := { live.isp with pipes := live.isp.pipes.set 1 { faulted := true } } }, ?_⟩
  try dsimp only
  decide +kernel
theorem wit_PipelinesProcessFrames_2 : ∃ (pipe : Nat), ∃ (s : State), let y := s.pipe pipe; ∃ (f : ProcFrame), ∃ (rows : Plane), ∃ (all : Bool), s.domOn (domIP pipe) = true ∧ s.hasPipe pipe = true ∧ y.faulted = false ∧ y.cur = some f ∧ s.procRows f = (rows, all) ∧ rows ≠ [] ∧ f.done < f.h ∧ ((all = true ∨ f.done + 8 < rows.length)) := by
  refine ⟨1, { live with isp := { live.isp with pipes := live.isp.pipes.set 1 { inline := 0, cur := some { pipe := 1, port := 4, inline := false, seq := 6, ctx := [], gen := 0, done := 1, raw := some { port := 4, seq := 6, start := 0, lines := 3, flags := 0, embedded := none, rows := [[1, 2, 3, 4], [1, 2, 3, 4], [1, 2, 3, 4]], w := 4, h := 3, dt := 0x2A }, w := 4, h := 3, dt := 0x2A } } } }, { pipe := 1, port := 4, inline := false, seq := 6, ctx := [], gen := 0, done := 1, raw := some { port := 4, seq := 6, start := 0, lines := 3, flags := 0, embedded := none, rows := [[1, 2, 3, 4], [1, 2, 3, 4], [1, 2, 3, 4]], w := 4, h := 3, dt := 0x2A }, w := 4, h := 3, dt := 0x2A }, [[1, 2, 3, 4], [1, 2, 3, 4], [1, 2, 3, 4]], true, ?_⟩
  try dsimp only
  decide +kernel
theorem wit_PipelinesProcessFrames_3 : ∃ (pipe : Nat), ∃ (s : State), let y := s.pipe pipe; ∃ (p : Nat), ∃ (rest : List Nat), s.domOn (domIP pipe) = true ∧ s.hasPipe pipe = true ∧ y.faulted = false ∧ y.mem = none ∧ y.order = p :: rest ∧ (s.ispPort p).ready = none := by
  refine ⟨1, { live with isp := { live.isp with pipes := live.isp.pipes.set 1 { inline := 1, order := [4, 6] } } }, 4, [6], ?_⟩
  try dsimp only
  decide +kernel
theorem wit_PipelinesProcessFrames_5 : ∃ (pipe : Nat), ∃ (s : State), let y := s.pipe pipe; s.hasPipe pipe = true ∧ y.faulted = false := by
  refine ⟨0, live, ?_⟩
  try dsimp only
  decide +kernel
theorem wit_PipelinesProcessFrames_7 : ∃ (s : State), ((∀ i < 4, (s.pipe i).cur = none ∧ (s.pipe i).mem = none)) :=
  ⟨live, by decide +kernel⟩
theorem wit_PipelinesProcessFrames_8 : ∃ (pipe : Nat), ∃ (port : Nat), ∃ (s : State), let y := s.pipe pipe; ∃ (f : ProcFrame), ∃ (r : RawFrame), ((∀ i < 4, i ≠ pipe → (s.pipe i).cur = none ∧ (s.pipe i).mem = none)) ∧ pipe < 4 ∧ y.cur = some f ∧ f.port = port ∧ f.raw = some r ∧ f.done = f.h := by
  refine ⟨1, 4, { live with isp := { live.isp with pipes := live.isp.pipes.set 1 { cur := some { pipe := 1, port := 4, inline := false, seq := 6, ctx := [], gen := 0, done := 3, raw := some { port := 4, seq := 6, start := 0, lines := 3, flags := 0, embedded := none, rows := [[1, 2, 3, 4], [1, 2, 3, 4], [1, 2, 3, 4]], w := 4, h := 3, dt := 0x2A }, w := 4, h := 3, dt := 0x2A } } } }, { pipe := 1, port := 4, inline := false, seq := 6, ctx := [], gen := 0, done := 3, raw := some { port := 4, seq := 6, start := 0, lines := 3, flags := 0, embedded := none, rows := [[1, 2, 3, 4], [1, 2, 3, 4], [1, 2, 3, 4]], w := 4, h := 3, dt := 0x2A }, w := 4, h := 3, dt := 0x2A }, { port := 4, seq := 6, start := 0, lines := 3, flags := 0, embedded := none, rows := [[1, 2, 3, 4], [1, 2, 3, 4], [1, 2, 3, 4]], w := 4, h := 3, dt := 0x2A }, ?_⟩
  try dsimp only
  decide +kernel
theorem wit_PipelinesProcessFrames_9 : ∃ (port : Nat), ∃ (s : State), ∃ (f : ProcFrame), ∃ (r : RawFrame), (s.ispPort port).statsDue = some f ∧ f.raw = some r ∧ s.loopOn port = false ∧ port < s.isp.ports.length :=
  ⟨4, { live with isp := { live.isp with pipes := live.isp.pipes.set 1 {  }, ports := live.isp.ports.set 4 { statsDue := some { pipe := 1, port := 4, inline := false, seq := 6, ctx := [], gen := 0, done := 3, raw := some { port := 4, seq := 6, start := 0, lines := 3, flags := 0, embedded := none, rows := [[1, 2, 3, 4], [1, 2, 3, 4], [1, 2, 3, 4]], w := 4, h := 3, dt := 0x2A }, w := 4, h := 3, dt := 0x2A } } } }, { pipe := 1, port := 4, inline := false, seq := 6, ctx := [], gen := 0, done := 3, raw := some { port := 4, seq := 6, start := 0, lines := 3, flags := 0, embedded := none, rows := [[1, 2, 3, 4], [1, 2, 3, 4], [1, 2, 3, 4]], w := 4, h := 3, dt := 0x2A }, w := 4, h := 3, dt := 0x2A }, { port := 4, seq := 6, start := 0, lines := 3, flags := 0, embedded := none, rows := [[1, 2, 3, 4], [1, 2, 3, 4], [1, 2, 3, 4]], w := 4, h := 3, dt := 0x2A }, by decide +kernel⟩
theorem wit_PipelinesProcessFrames_10 : ∃ (port : Nat), ∃ (s : State), (s.ispPort port).statsDue = none :=
  ⟨4, live, by decide +kernel⟩
theorem wit_DepthCommands_0 : ∃ (m : Master), ∃ (s : State), let t := s.taken m; let a := s.argsOf m; let u := byteAt a 0; Accepts s m { code := 0x0600, cls := 0, len := 1, args := [{ off := 0, hi := 7 }] } ∧ t.hasPair u = true := by
  refine ⟨.hostA, (cmd 0x600 ([7])), ?_⟩
  try dsimp only
  decide +kernel
theorem wit_DepthCommands_1 : ∃ (m : Master), ∃ (s : State), let t := s.taken m; let a := s.argsOf m; let u := byteAt a 0; let cfg : PairCfg := { refPort := byteAt a 1, other := byteAt a 2, temporal := bit (byteAt a 3) 1, lrCheck := bit (byteAt a 3) 2, baselineUm := u32At a 4, focalPx := u32At a 8, lrTol := byteAt a 12, weight := byteAt a 13 }; Accepts s m { code := 0x0601, cls := 1, len := 14, args := [{ off := 0, hi := 7 }, { off := 1, hi := 15 }, { off := 2, hi := 15 }, { off := 3, mask := 7 }, { off := 4, n := 4 }, { off := 8, n := 4 }, { off := 12 }, { off := 13 }] } ∧ t.hasPair u = true ∧ t.hasPort (byteAt a 1) = true ∧ t.hasPort (byteAt a 2) = true ∧ ((bit (byteAt a 3) 0 = true → t.pairBad u cfg = none)) ∧ (t.pairUnit u).cur = none := by
  refine ⟨.hostA, (cmd 0x601 ([0, 1, 2, 6] ++ le 4 1000 ++ le 4 1000 ++ [1, 1])), ?_⟩
  try dsimp only
  decide +kernel
theorem wit_DepthCommands_2 : ∃ (m : Master), ∃ (s : State), let t := s.taken m; let a := s.argsOf m; let u := byteAt a 0; let cfg : PairCfg := { refPort := byteAt a 1, other := byteAt a 2, temporal := bit (byteAt a 3) 1, lrCheck := bit (byteAt a 3) 2, baselineUm := u32At a 4, focalPx := u32At a 8, lrTol := byteAt a 12, weight := byteAt a 13 }; Accepts s m { code := 0x0601, cls := 1, len := 14, args := [{ off := 0, hi := 7 }, { off := 1, hi := 15 }, { off := 2, hi := 15 }, { off := 3, mask := 7 }, { off := 4, n := 4 }, { off := 8, n := 4 }, { off := 12 }, { off := 13 }] } ∧ t.hasPair u = true ∧ t.hasPort (byteAt a 1) = true ∧ t.hasPort (byteAt a 2) = true ∧ ((bit (byteAt a 3) 0 = true → t.pairBad u cfg = none)) ∧ (t.pairUnit u).cur.isSome = true ∧ (t.pairUnit u).next = none ∧ (t.pairUnit u).mapWaits = false := by
  refine ⟨.hostA, (put ({ live with depth := { live.depth with units := live.depth.units.set 0 { cur := some (3, 0), enabled := true } } }) .hostA 0x601 0 ([0, 1, 2, 6] ++ le 4 1000 ++ le 4 1000 ++ [1, 1])), ?_⟩
  try dsimp only
  decide +kernel
theorem wit_DepthCommands_3 : ∃ (m : Master), ∃ (s : State), let t := s.taken m; let a := s.argsOf m; let u := byteAt a 0; let cfg : PairCfg := { refPort := byteAt a 1, other := byteAt a 2, temporal := bit (byteAt a 3) 1, lrCheck := bit (byteAt a 3) 2, baselineUm := u32At a 4, focalPx := u32At a 8, lrTol := byteAt a 12, weight := byteAt a 13 }; Accepts s m { code := 0x0601, cls := 1, len := 14, args := [{ off := 0, hi := 7 }, { off := 1, hi := 15 }, { off := 2, hi := 15 }, { off := 3, mask := 7 }, { off := 4, n := 4 }, { off := 8, n := 4 }, { off := 12 }, { off := 13 }] } ∧ t.hasPair u = true ∧ t.hasPort (byteAt a 1) = true ∧ t.hasPort (byteAt a 2) = true ∧ ((bit (byteAt a 3) 0 = true → t.pairBad u cfg = none)) ∧ (t.pairUnit u).cur.isSome = true ∧ (((t.pairUnit u).next.isSome = true ∨ (t.pairUnit u).mapWaits = true)) := by
  refine ⟨.hostA, (put ({ live with depth := { live.depth with units := live.depth.units.set 0 { cur := some (3, 0), enabled := true, next := some none } } }) .hostA 0x601 0 ([0, 1, 2, 6] ++ le 4 1000 ++ le 4 1000 ++ [1, 1])), ?_⟩
  try dsimp only
  decide +kernel
theorem wit_DepthCommands_4 : ∃ (m : Master), ∃ (s : State), let t := s.taken m; let tb := s.takenBulk m; let a := s.argsOf m; let p := byteAt a 16; let map := tb.devRead (s.bulkAt m) 18432; let running := (tb.pairsOf p).filter fun v => (tb.pairUnit v).cur.isSome; Accepts s m { code := 0x0602, cls := 1, bulk := some 0, len := 17, args := [{ off := 16, hi := 15 }] } ∧ BulkFits s m { code := 0x0602, cls := 1, bulk := some 0, len := 17, args := [{ off := 16, hi := 15 }] } ∧ t.hasPort p = true ∧ s.bulkLen m = 18432 ∧ (((tb.depthInput p).1 = 0 ∨ warpBad (warpNodes map) (tb.depthInput p).1 (tb.depthInput p).2 = none)) ∧ ((∀ v ∈ running, (tb.pairUnit v).next = none ∧ (tb.pairUnit v).mapWaits = false)) := by
  refine ⟨.hostA, (bulk 0x602 0 18432 [0]), ?_⟩
  try dsimp only
  decide +kernel
theorem wit_DepthCommands_5 : ∃ (m : Master), ∃ (s : State), let t := s.taken m; let a := s.argsOf m; let l := byteAt a 0; let cfg : SliceCfg := { port := byteAt a 1, slices := byteAt a 2, pool := a40At a 4, bytes := u32At a 12, curve := (List.range 33).map fun i => (u16At a (16 + 4 * i), s16At a (18 + 4 * i)) }; Accepts s m { code := 0x0603, cls := 1, len := 148, args := [{ off := 0, hi := 3 }, { off := 1, hi := 15 }, { off := 2, lo := 1, hi := 16 }, { off := 3, mask := 1 }, { off := 4, n := 5 }, { off := 12, n := 4 }, { off := 16, n := 132 }] } ∧ t.hasPort (byteAt a 1) = true ∧ t.sliceBad l cfg = none ∧ t.commitTouched cfg.pool cfg.bytes = true := by
  refine ⟨.hostA, (put ({ live with leases := { regions := [⟨1, 0x10000, 2 ^ 24, 2⟩], holds := [⟨0, 1, 0x10000, 64, 0⟩] }, depth := { live.depth with units := live.depth.units.set 0 { enabled := true, cfg := { refPort := 1 } } } }) .hostA 0x603 0 ([0, 1, 2, 1] ++ le 5 0x10000 ++ [0, 0, 0] ++ le 4 (2 ^ 20) ++ (List.range 33).flatMap fun i => le 2 i ++ le 2 (8 * i))), ?_⟩
  try dsimp only
  decide +kernel
theorem wit_DepthCommands_6 : ∃ (m : Master), ∃ (s : State), let t := s.taken m; let a := s.argsOf m; let l := byteAt a 0; let cfg : SliceCfg := { port := byteAt a 1, slices := byteAt a 2, pool := a40At a 4, bytes := u32At a 12, curve := (List.range 33).map fun i => (u16At a (16 + 4 * i), s16At a (18 + 4 * i)) }; Accepts s m { code := 0x0603, cls := 1, len := 148, args := [{ off := 0, hi := 3 }, { off := 1, hi := 15 }, { off := 2, lo := 1, hi := 16 }, { off := 3, mask := 1 }, { off := 4, n := 5 }, { off := 12, n := 4 }, { off := 16, n := 132 }] } ∧ t.hasPort (byteAt a 1) = true ∧ t.sliceBad l cfg = none ∧ bit (byteAt a 3) 0 = true ∧ t.commitTouched cfg.pool cfg.bytes = false := by
  refine ⟨.hostA, (put { live with leases := { regions := [⟨1, 0x10000, 2 ^ 24, 2⟩] }, depth := { live.depth with units := live.depth.units.set 0 { enabled := true, cfg := { refPort := 1 } } } } .hostA 0x603 0 ([0, 1, 2, 1] ++ le 5 0x10000 ++ [0, 0, 0] ++ le 4 (2 ^ 20) ++ (List.range 33).flatMap fun i => le 2 i ++ le 2 (8 * i))), ?_⟩
  try dsimp only
  decide +kernel
theorem wit_DepthCommands_7 : ∃ (m : Master), ∃ (s : State), let t := s.taken m; let a := s.argsOf m; let l := byteAt a 0; let cfg : SliceCfg := { port := byteAt a 1, slices := byteAt a 2, pool := a40At a 4, bytes := u32At a 12, curve := (List.range 33).map fun i => (u16At a (16 + 4 * i), s16At a (18 + 4 * i)) }; Accepts s m { code := 0x0603, cls := 1, len := 148, args := [{ off := 0, hi := 3 }, { off := 1, hi := 15 }, { off := 2, lo := 1, hi := 16 }, { off := 3, mask := 1 }, { off := 4, n := 5 }, { off := 12, n := 4 }, { off := 16, n := 132 }] } ∧ t.hasPort (byteAt a 1) = true ∧ t.sliceBad l cfg = none ∧ bit (byteAt a 3) 0 = false ∧ t.commitTouched cfg.pool cfg.bytes = false := by
  refine ⟨.hostA, (put ({ live with leases := { regions := [⟨1, 0x10000, 2 ^ 24, 2⟩] }, depth := { live.depth with units := live.depth.units.set 0 { enabled := true, cfg := { refPort := 1 } } } }) .hostA 0x603 0 ([0, 1, 2, 0] ++ le 5 0x10000 ++ [0, 0, 0] ++ le 4 (2 ^ 20) ++ (List.range 33).flatMap fun i => le 2 i ++ le 2 (8 * i))), ?_⟩
  try dsimp only
  decide +kernel
theorem wit_DepthRuns_0 : ∃ (unit : Nat), ∃ (s : State), let u := s.pairUnit unit; ((u.cur.isSome = true ∨ u.enabled = false ∨ s.domOn domDE = false ∨ u.state = 4)) := by
  refine ⟨1, live, ?_⟩
  try dsimp only
  decide +kernel
theorem wit_DepthRuns_1 : ∃ (unit : Nat), ∃ (s : State), let u := s.pairUnit unit; u.cur = none ∧ u.enabled = true ∧ s.domOn domDE = true ∧ u.state ≠ 4 ∧ u.next = none ∧ s.allFlat u.cfg.refPort = false ∧ s.pairReady u = none := by
  refine ⟨1, { live with depth := { live.depth with units := live.depth.units.set 1 { enabled := true, cfg := { refPort := 0, other := 1 } } } }, ?_⟩
  try dsimp only
  decide +kernel
theorem wit_DepthRuns_2 : ∃ (unit : Nat), ∃ (s : State), let u := s.pairUnit unit; ∃ (q : W32), unit < s.depth.units.length ∧ u.cur = none ∧ u.enabled = true ∧ s.domOn domDE = true ∧ u.state ≠ 4 ∧ u.next = none ∧ s.allFlat u.cfg.refPort = false ∧ s.pairReady u = some q := by
  refine ⟨1, { live with depth := { live.depth with units := live.depth.units.set 1 { enabled := true, cfg := { refPort := 0, other := 1 } } }, isp := { live.isp with ports := List.replicate 16 { bufs := [{ seq := 6, complete := true, width := 64, height := 48, y := List.replicate 48 [1], aux := [] }] } } }, 6, ?_⟩
  try dsimp only
  decide +kernel
theorem wit_DepthRuns_3 : ∃ (unit : Nat), ∃ (s : State), let u := s.pairUnit unit; u.cur = none := by
  refine ⟨1, live, ?_⟩
  try dsimp only
  decide +kernel
theorem wit_DepthRuns_4 : ∃ (unit : Nat), ∃ (s : State), let u := s.pairUnit unit; ∃ (q : W32), ∃ (t0 : Nat), u.cur = some (q, t0) ∧ ((s.bufOf u.cfg.refPort q = none ∨ s.bufOf u.cfg.other q = none)) := by
  refine ⟨1, { live with depth := { live.depth with units := live.depth.units.set 1 { cur := some (6, 0), cfg := { refPort := 0, other := 1 } } } }, 6, 0, ?_⟩
  try dsimp only
  decide +kernel
theorem wit_DepthRuns_5 : ∃ (unit : Nat), ∃ (s : State), let u := s.pairUnit unit; ∃ (q : W32), ∃ (t0 : Nat), ∃ (a : OutBuf), ∃ (b : OutBuf), u.cur = some (q, t0) ∧ s.bufOf u.cfg.refPort q = some a ∧ s.bufOf u.cfg.other q = some b ∧ ((a.flagged = true ∨ b.flagged = true)) := by
  refine ⟨1, { live with depth := { live.depth with units := live.depth.units.set 1 { cur := some (6, 0), cfg := { refPort := 0, other := 1 } } }, isp := { live.isp with ports := List.replicate 16 { bufs := [{ seq := 6, flags := 1, width := 64, height := 48, y := List.replicate 48 [1], aux := [] }] } } }, 6, 0, { seq := 6, flags := 1, width := 64, height := 48, y := List.replicate 48 [1], aux := [] }, { seq := 6, flags := 1, width := 64, height := 48, y := List.replicate 48 [1], aux := [] }, ?_⟩
  try dsimp only
  decide +kernel
theorem wit_DepthRuns_6 : ∃ (unit : Nat), ∃ (s : State), let u := s.pairUnit unit; ∃ (q : W32), ∃ (t0 : Nat), ∃ (a : OutBuf), ∃ (b : OutBuf), u.cur = some (q, t0) ∧ s.bufOf u.cfg.refPort q = some a ∧ s.bufOf u.cfg.other q = some b ∧ a.flagged = false ∧ b.flagged = false ∧ ((a.depthPlane.length ≤ min (2 * u.rows + 40) (a.depthSize.2 - 1) ∨ b.depthPlane.length ≤ min (2 * u.rows + 40) (a.depthSize.2 - 1))) := by
  refine ⟨1, { live with depth := { live.depth with units := live.depth.units.set 1 { cur := some (6, 0), cfg := { refPort := 0, other := 1 } } }, isp := { live.isp with ports := List.replicate 16 { bufs := [{ seq := 6, complete := true, width := 64, height := 48, y := List.replicate 40 [1], aux := [] }] } } }, 6, 0, { seq := 6, complete := true, width := 64, height := 48, y := List.replicate 40 [1], aux := [] }, { seq := 6, complete := true, width := 64, height := 48, y := List.replicate 40 [1], aux := [] }, ?_⟩
  try dsimp only
  decide +kernel
theorem wit_DepthRuns_7 : ∃ (unit : Nat), ∃ (s : State), let u := s.pairUnit unit; ∃ (q : W32), ∃ (t0 : Nat), ∃ (a : OutBuf), ∃ (b : OutBuf), u.cur = some (q, t0) ∧ s.bufOf u.cfg.refPort q = some a ∧ s.bufOf u.cfg.other q = some b ∧ a.flagged = false ∧ b.flagged = false ∧ min (2 * u.rows + 40) (a.depthSize.2 - 1) < a.depthPlane.length ∧ min (2 * u.rows + 40) (a.depthSize.2 - 1) < b.depthPlane.length := by
  refine ⟨1, { live with depth := { live.depth with units := live.depth.units.set 1 { cur := some (6, 0), cfg := { refPort := 0, other := 1 } } }, isp := { live.isp with ports := List.replicate 16 { bufs := [{ seq := 6, complete := true, width := 64, height := 48, y := List.replicate 48 [1], aux := [] }] } } }, 6, 0, { seq := 6, complete := true, width := 64, height := 48, y := List.replicate 48 [1], aux := [] }, { seq := 6, complete := true, width := 64, height := 48, y := List.replicate 48 [1], aux := [] }, ?_⟩
  try dsimp only
  decide +kernel
theorem wit_DepthRuns_8 : ∃ (s : State), s.domOn domSL = false :=
  ⟨{ live with pwr := { live.pwr with domains := [] } }, by decide +kernel⟩
theorem wit_DepthRuns_9 : ∃ (layer : Nat), ∃ (s : State), (s.slicer layer).stalled = true ∧ (s.slicer layer).cur.isSome = true :=
  ⟨0, { live with depth := { live.depth with layers := live.depth.layers.set 0 { cur := some 6, stalled := true } } }, by decide +kernel⟩
theorem wit_DepthRuns_10 : ∃ (layer : Nat), ∃ (s : State), ∃ (q : W32), s.domOn domSL = true ∧ (s.slicer layer).cur = some q ∧ s.held (s.slicer layer).halfBase (halfBytes (s.slicer layer).cfg) = true ∧ layer < s.depth.layers.length :=
  ⟨0, { slicing with leases := { holds := [⟨0, 1, 0x10000, 64, 0⟩] } }, 6, by decide +kernel⟩
theorem wit_DepthRuns_11 : ∃ (layer : Nat), ∃ (s : State), ∃ (q : W32), s.domOn domSL = true ∧ (s.slicer layer).stalled = false ∧ (s.slicer layer).cur = some q ∧ s.held (s.slicer layer).halfBase (halfBytes (s.slicer layer).cfg) = false ∧ s.sliceSrc layer q = none :=
  ⟨0, { live with depth := { live.depth with layers := live.depth.layers.set 0 { cur := some 6 } } }, 6, by decide +kernel⟩
theorem wit_DepthRuns_13 : ∃ (layer : Nat), ∃ (s : State), (s.slicer layer).stalled = true ∧ s.held (s.slicer layer).halfBase (halfBytes (s.slicer layer).cfg) = false :=
  ⟨0, { live with depth := { live.depth with layers := live.depth.layers.set 0 { stalled := true } } }, by decide +kernel⟩
theorem wit_DepthRuns_14 : ∃ (layer : Nat), ∃ (s : State), (((s.slicer layer).stalled = false ∨ s.held (s.slicer layer).halfBase (halfBytes (s.slicer layer).cfg) = true)) :=
  ⟨0, live, by decide +kernel⟩
theorem wit_SceneStream_0 : ∃ (m : Master), ∃ (s : State), Accepts s m { code := 0x0700, cls := 0 } :=
  ⟨.hostA, (cmd 0x700 ([])), by decide +kernel⟩
theorem wit_SceneStream_1 : ∃ (m : Master), ∃ (s : State), let t := s.taken m; let a := s.argsOf m; let b := a40At a 0; let n := u32At a 8; Accepts s m { code := 0x0701, cls := 1, len := 13, args := [{ off := 0, n := 5 }, { off := 8, n := 4 }, { off := 12, hi := 3 }] } ∧ b % 65536 = 0 ∧ ((∀ k < (match t.scene.pools.getD (byteAt a 12) none with | some (_, len) => len / pageSize | none => 0), t.pageHeld (byteAt a 12) k = false)) ∧ n = 0 := by
  refine ⟨.hostA, (cmd 0x701 (le 5 0x10000 ++ [0, 0, 0] ++ le 4 0 ++ [3])), ?_⟩
  try dsimp only
  decide +kernel
theorem wit_SceneStream_2 : ∃ (m : Master), ∃ (s : State), let t := s.taken m; let a := s.argsOf m; let b := a40At a 0; let n := u32At a 8; Accepts s m { code := 0x0701, cls := 1, len := 13, args := [{ off := 0, n := 5 }, { off := 8, n := 4 }, { off := 12, hi := 3 }] } ∧ b % 65536 = 0 ∧ ((∀ k < (match t.scene.pools.getD (byteAt a 12) none with | some (_, len) => len / pageSize | none => 0), t.pageHeld (byteAt a 12) k = false)) ∧ n ≠ 0 ∧ n % 65536 = 0 ∧ t.inRegion b n (some 0) = true := by
  refine ⟨.hostA, (cmd 0x701 (le 5 0x10000 ++ [0, 0, 0] ++ le 4 0x10000 ++ [3])), ?_⟩
  try dsimp only
  decide +kernel
theorem wit_SceneStream_3 : ∃ (m : Master), ∃ (s : State), Accepts s m { code := 0x0702, cls := 1, len := 1, args := [{ off := 0, hi := 1 }] } :=
  ⟨.hostA, (cmd 0x702 ([1])), by decide +kernel⟩
theorem wit_SceneStream_4 : ∃ (m : Master), ∃ (s : State), let t := s.taken m; let a := s.argsOf m; let b := a40At a 0; let n := u32At a 8; Accepts s m { code := 0x0703, cls := 1, len := 13, args := [{ off := 0, n := 5 }, { off := 8, n := 4 }, { off := 12, hi := 4 }] } ∧ b % 64 = 0 ∧ n ≠ 0 ∧ n % 64 = 0 ∧ t.inMemory b n = true ∧ ((∀ r ∈ t.leases.regions, overlaps b n r.base r.len = false)) ∧ ((t.leases.regions.map (·.id)).filter (· ≤ 256)).length < 256 := by
  refine ⟨.hostA, (cmd 0x703 (le 5 (2 ^ 30) ++ [0, 0, 0] ++ le 4 64 ++ [4])), ?_⟩
  try dsimp only
  decide +kernel
theorem wit_SceneStream_5 : ∃ (m : Master), ∃ (s : State), let t := s.taken m; let a := s.argsOf m; let n := u32At a 8; ∃ (r : Lease), Accepts s m { code := 0x0704, cls := 1, len := 2, args := [{ off := 0, n := 2 }] } ∧ u16At a 0 ≤ 256 ∧ t.leases.regions.find? (·.id == u16At a 0) = some r ∧ t.held r.base r.len = false ∧ t.configIn r = false := by
  refine ⟨.hostA, (cmd 0x704 (le 2 2)), ⟨2, 2 ^ 29, 2 ^ 24, 3⟩, ?_⟩
  try dsimp only
  decide +kernel
theorem wit_SceneStream_6 : ∃ (s : State), let k := s.scene.consumed.toNat; let e := memRead s.win (sceneEntryAddr k) 32; let a := a40At e 0; let n := u32At e 8; s.scene.producer ≠ s.scene.consumed ∧ s.mem.map.isEmpty = false ∧ s.domOn domCMP = true ∧ byteAt e 6 ≤ 3 ∧ byteAt e 7 = 0 ∧ ((∀ b ∈ slice e 16 16, b = 0)) ∧ byteAt e 5 ≤ 3 ∧ a % 16 = 0 ∧ n % 16 = 0 ∧ s.poolOf a n = none := by
  refine ⟨{ live with scene := { live.scene with producer := 1, pools := [none, none, none, none] }, win := memWrite [] (sceneEntryAddr 0) (le 5 0x10000 ++ [0, 1, 0] ++ le 4 64) }, ?_⟩
  try dsimp only
  decide +kernel
theorem wit_SceneStream_7 : ∃ (s : State), let k := s.scene.consumed.toNat; let e := memRead s.win (sceneEntryAddr k) 32; let a := a40At e 0; let n := u32At e 8; ∃ (q : Nat), ∃ (b : Nat), ∃ (len : Nat), let x : Stream := { b := s.devRead a n, scene := byteAt e 5, entry := q * 2 ^ 30 + (a - b) / 16, bad := fun o len => s.poisoned (a + o) len }; ∃ (er : StreamError), ∃ (sf : Nat), s.scene.producer ≠ s.scene.consumed ∧ s.mem.map.isEmpty = false ∧ s.domOn domCMP = true ∧ byteAt e 6 ≤ 3 ∧ byteAt e 7 = 0 ∧ ((∀ b ∈ slice e 16 16, b = 0)) ∧ byteAt e 5 ≤ 3 ∧ a % 16 = 0 ∧ n % 16 = 0 ∧ s.poolOf a n = some q ∧ s.scene.pools.getD q none = some (b, len) ∧ parseStream x s.scene.pend = (.error er, sf) := by
  refine ⟨{ live with scene := { live.scene with producer := 1, pools := [some (0x10000, 65536), none, none, none] }, win := memWrite [] (sceneEntryAddr 0) (le 5 0x10000 ++ [0, 1, 0] ++ le 4 64) }, 0, 0x10000, 65536, { err := 3, off := 0 }, 0, ?_⟩
  try dsimp only
  decide +kernel
theorem wit_SceneStream_8 : ∃ (s : State), let k := s.scene.consumed.toNat; let e := memRead s.win (sceneEntryAddr k) 32; let a := a40At e 0; let n := u32At e 8; ∃ (q : Nat), ∃ (b : Nat), ∃ (len : Nat), let x : Stream := { b := s.devRead a n, scene := byteAt e 5, entry := q * 2 ^ 30 + (a - b) / 16, bad := fun o len => s.poisoned (a + o) len }; ∃ (pl : Planes), ∃ (sf : Nat), s.scene.producer ≠ s.scene.consumed ∧ s.mem.map.isEmpty = false ∧ s.domOn domCMP = true ∧ byteAt e 6 ≤ 3 ∧ byteAt e 7 = 0 ∧ ((∀ b ∈ slice e 16 16, b = 0)) ∧ byteAt e 5 ≤ 3 ∧ a % 16 = 0 ∧ n % 16 = 0 ∧ s.poolOf a n = some q ∧ s.scene.pools.getD q none = some (b, len) ∧ parseStream x s.scene.pend = (.ok pl, sf) := by
  refine ⟨(({ live with scene := { live.scene with producer := 1, pools := [some (0x10000, 65536), none, none, none] }, win := memWrite [] (sceneEntryAddr 0) (le 5 0x10000 ++ [0, 1, 0] ++ le 4 32) } : State).devWrite 0x10000 [1, 0, 0, 0, 16, 0, 0, 0, 0, 1, 0, 0, 7, 0, 0, 0, 5, 0, 0, 0, 16, 0, 0, 0, 7, 0, 0, 0, 0, 0, 0, 0]), 0, 0x10000, 65536, live.scene.pend, 7, ?_⟩
  try dsimp only
  decide +kernel
theorem wit_RayEngine_0 : ∃ (m : Master), ∃ (s : State), Accepts s m { code := 0x0800, cls := 0 } :=
  ⟨.hostA, (cmd 0x800 ([])), by decide +kernel⟩
theorem wit_RayEngine_2 : ∃ (m : Master), ∃ (s : State), Accepts s m { code := 0x0802, cls := 1, len := 4, args := [{ off := 0, lo := 1, hi := 64 }, { off := 2, n := 2, lo := 1, hi := 128 }] } :=
  ⟨.hostA, (cmd 0x802 (le 2 64 ++ le 2 128)), by decide +kernel⟩
theorem wit_RayEngine_4 : ∃ (cluster : Nat), ∃ (s : State), s.hasCluster cluster = true ∧ s.domOn cluster = true ∧ s.opOn 0x1503 (fun a => byteAt a 0 == cluster) = false :=
  ⟨0, live, by decide +kernel⟩
theorem wit_RayEngine_5 : ∃ (cluster : Nat), ∃ (s : State), s.domOn cluster = false :=
  ⟨16, { live with pwr := { live.pwr with domains := live.pwr.domains.set 16 {} } }, by decide +kernel⟩
theorem wit_RayEngine_7 : ∃ (s : State), s.ray.spare.isSome = true :=
  ⟨live, by decide +kernel⟩
theorem wit_RayEngine_8 : ∃ (s : State), s.ray.spare = none :=
  ⟨{ live with ray := { live.ray with spare := none } }, by decide +kernel⟩
theorem wit_RayEngine_9 : ∃ (slice : Nat), ∃ (s : State), s.hasCluster slice = true ∧ s.domOn slice = true ∧ (s.ray.slices.getD slice {}).faulted = false :=
  ⟨0, live, by decide +kernel⟩
theorem wit_RayEngine_10 : ∃ (slice : Nat), ∃ (s : State), ∃ (n : Nat), ∃ (x : Tile), s.hasCluster slice = true ∧ s.domOn slice = true ∧ (s.ray.slices.getD slice {}).faulted = false ∧ (s.cellar.tiles.filter (·.slice == slice))[n]? = some x :=
  ⟨0, { live with cellar := { live.cellar with tiles := [{ key := .record 1, tex := [], len := 64, slice := 0, last := 0 }] } }, 0, { key := .record 1, tex := [], len := 64, slice := 0, last := 0 }, by decide +kernel⟩
theorem wit_RayEngine_11 : ∃ (slice : Nat), ∃ (s : State), s.hasCluster slice = true ∧ s.domOn slice = true ∧ (s.ray.slices.getD slice {}).faulted = false ∧ slice ∈ s.ray.safeDomains :=
  ⟨0, live, by decide +kernel⟩
theorem wit_RayEngine_14 : ∃ (s : State), s.ray.cur = none :=
  ⟨live, by decide +kernel⟩
theorem wit_RayEngine_15 : ∃ (cluster : Nat), ∃ (s : State), ∃ (f : RayFrame), s.ray.cur = some f ∧ ((f.bypass = true ∨ cluster ∉ s.rendering ∨ 2 ≤ s.stripsOf cluster)) :=
  ⟨0, { live with ray := { live.ray with cur := some { frame := 3, bypass := true, width := 480, height := 16, subs := 1, map := [], planes := [], lim := 64, total := 1, dropped := 0 } } }, { frame := 3, bypass := true, width := 480, height := 16, subs := 1, map := [], planes := [], lim := 64, total := 1, dropped := 0 }, by decide +kernel⟩
theorem wit_RayEngine_16 : ∃ (cluster : Nat), ∃ (s : State), ∃ (f : RayFrame), ∃ (k : DupCheck), s.ray.cur = some f ∧ f.bypass = false ∧ cluster ∈ s.rendering ∧ s.stripsOf cluster < 2 ∧ s.checkFor cluster = some k :=
  ⟨0, { live with ray := { live.ray with clusters := List.replicate 17 { passed := some true }, cur := some { frame := 3, bypass := false, width := 480, height := 16, subs := 1, map := [], planes := [], lim := 64, total := 1, dropped := 0 } }, cellar := { live.cellar with checks := [{ n := 1, frame := 3, primary := 2, checker := 0 }] } }, { frame := 3, bypass := false, width := 480, height := 16, subs := 1, map := [], planes := [], lim := 64, total := 1, dropped := 0 }, { n := 1, frame := 3, primary := 2, checker := 0 }, by decide +kernel⟩
theorem wit_RayEngine_17 : ∃ (cluster : Nat), ∃ (s : State), ∃ (f : RayFrame), let g := s.skipLate f; ∃ (n : Nat), ∃ (rest : List Nat), s.ray.cur = some f ∧ f.bypass = false ∧ cluster ∈ s.rendering ∧ s.stripsOf cluster < 2 ∧ s.checkFor cluster = none ∧ g.again = n :: rest := by
  refine ⟨0, { live with ray := { live.ray with clusters := List.replicate 17 { passed := some true }, cur := some { frame := 3, bypass := false, width := 480, height := 16, subs := 1, map := [], planes := [], lim := 64, total := 1, dropped := 0, again := [1] } } }, { frame := 3, bypass := false, width := 480, height := 16, subs := 1, map := [], planes := [], lim := 64, total := 1, dropped := 0, again := [1] }, 1, [], ?_⟩
  try dsimp only
  decide +kernel
theorem wit_RayEngine_18 : ∃ (cluster : Nat), ∃ (s : State), ∃ (f : RayFrame), let g := s.skipLate f; let z := (s.modRay fun r => { r with cur := some g }).releaseFlat; s.ray.cur = some f ∧ f.bypass = false ∧ cluster ∈ s.rendering ∧ s.stripsOf cluster < 2 ∧ s.checkFor cluster = none ∧ g.again = [] ∧ g.next < g.strips' ∧ z.roomFor g g.next = true := by
  refine ⟨0, { live with ray := { live.ray with clusters := List.replicate 17 { passed := some true }, cur := some { frame := 3, bypass := false, width := 480, height := 16, subs := 1, map := [], planes := [], lim := 64, total := 1, dropped := 0 } } }, { frame := 3, bypass := false, width := 480, height := 16, subs := 1, map := [], planes := [], lim := 64, total := 1, dropped := 0 }, ?_⟩
  try dsimp only
  decide +kernel
theorem wit_RayEngine_19 : ∃ (s : State), s.ray.cur = none ∧ s.ray.prev = none :=
  ⟨live, by decide +kernel⟩
theorem wit_RayEngine_20 : ∃ (cluster : Nat), ∃ (s : State), ∃ (f : RayFrame), ∃ (x : Strip), s.ray.prev = none ∧ s.ray.cur = some f ∧ f.strips.find? (·.cluster == cluster) = some x ∧ s.stripNeeds f x = [] ∧ x.check = true :=
  ⟨0, { live with ray := { live.ray with cur := some { frame := 3, bypass := false, width := 480, height := 16, subs := 1, map := [], planes := [], lim := 64, total := 1, dropped := 0, strips := [⟨0, 1, true⟩] } } }, { frame := 3, bypass := false, width := 480, height := 16, subs := 1, map := [], planes := [], lim := 64, total := 1, dropped := 0, strips := [⟨0, 1, true⟩] }, ⟨0, 1, true⟩, by decide +kernel⟩
theorem wit_RayEngine_21 : ∃ (cluster : Nat), ∃ (s : State), ∃ (f : RayFrame), ∃ (x : Strip), s.ray.prev = none ∧ s.ray.cur = some f ∧ f.strips.find? (·.cluster == cluster) = some x ∧ s.stripNeeds f x = [] ∧ x.check = false :=
  ⟨0, { live with ray := { live.ray with cur := some { frame := 3, bypass := false, width := 480, height := 16, subs := 1, map := [], planes := [], lim := 64, total := 1, dropped := 0, strips := [⟨0, 1, false⟩] } } }, { frame := 3, bypass := false, width := 480, height := 16, subs := 1, map := [], planes := [], lim := 64, total := 1, dropped := 0, strips := [⟨0, 1, false⟩] }, ⟨0, 1, false⟩, by decide +kernel⟩
theorem wit_RayEngine_22 : ∃ (cluster : Nat), ∃ (s : State), ∃ (f : RayFrame), ∃ (x : Strip), s.ray.prev = none ∧ s.ray.cur = some f ∧ f.strips.find? (·.cluster == cluster) = some x ∧ s.stripNeeds f x ≠ [] ∧ s.rowLate f (x.n / f.cols) = false :=
  ⟨0, { live with ray := { live.ray with cur := some { frame := 3, bypass := false, width := 1, height := 1, subs := 1, map := [], planes := [{ layer := 32, ident := 1, src := .scene [1, 0xFFFFFFFF, 1, 1] [64, 64, 64, 64], w := 64, h := 40, z := 0, x0 := 0, y0 := 0, invx := 65536, invy := 65536, alpha := 255, straight := false }], lim := 64, total := 1, dropped := 0, strips := [⟨0, 0, false⟩] } } }, { frame := 3, bypass := false, width := 1, height := 1, subs := 1, map := [], planes := [{ layer := 32, ident := 1, src := .scene [1, 0xFFFFFFFF, 1, 1] [64, 64, 64, 64], w := 64, h := 40, z := 0, x0 := 0, y0 := 0, invx := 65536, invy := 65536, alpha := 255, straight := false }], lim := 64, total := 1, dropped := 0, strips := [⟨0, 0, false⟩] }, ⟨0, 0, false⟩, by decide +kernel⟩
theorem wit_RayEngine_23 : ∃ (s : State), s.checkDue = none :=
  ⟨live, by decide +kernel⟩
theorem wit_RayEngine_24 : ∃ (s : State), ∃ (k : DupCheck), ∃ (p : W32), ∃ (c : W32), s.checkDue = some k ∧ k.third = none ∧ p = c :=
  ⟨{ live with cellar := { live.cellar with checks := [{ n := 1, frame := 3, primary := 2, checker := 0, taken := true }] } }, { n := 1, frame := 3, primary := 2, checker := 0, taken := true }, 5, 5, by decide +kernel⟩
theorem wit_RayEngine_25 : ∃ (s : State), ∃ (k : DupCheck), ∃ (p : W32), ∃ (c : W32), s.checkDue = some k ∧ k.third = none ∧ p ≠ c :=
  ⟨{ live with cellar := { live.cellar with checks := [{ n := 1, frame := 3, primary := 2, checker := 0, taken := true }] } }, { n := 1, frame := 3, primary := 2, checker := 0, taken := true }, 5, 6, by decide +kernel⟩
theorem wit_RayEngine_26 : ∃ (s : State), ∃ (k : DupCheck), ∃ (t : W32), s.checkDue = some k ∧ k.third.isSome = true ∧ t = k.seen.1 :=
  ⟨{ live with cellar := { live.cellar with checks := [{ n := 1, frame := 3, primary := 2, checker := 0, taken := true, third := some 4, thirdTaken := true, seen := (5, 6) }] } }, { n := 1, frame := 3, primary := 2, checker := 0, taken := true, third := some 4, thirdTaken := true, seen := (5, 6) }, 5, by decide +kernel⟩
theorem wit_RayEngine_27 : ∃ (s : State), ∃ (k : DupCheck), ∃ (t : W32), s.checkDue = some k ∧ k.third.isSome = true ∧ t ≠ k.seen.1 ∧ t = k.seen.2 :=
  ⟨{ live with cellar := { live.cellar with checks := [{ n := 1, frame := 3, primary := 2, checker := 0, taken := true, third := some 4, thirdTaken := true, seen := (5, 6) }] } }, { n := 1, frame := 3, primary := 2, checker := 0, taken := true, third := some 4, thirdTaken := true, seen := (5, 6) }, 6, by decide +kernel⟩
theorem wit_RayEngine_28 : ∃ (s : State), ∃ (k : DupCheck), ∃ (t : W32), s.checkDue = some k ∧ k.third.isSome = true ∧ t ≠ k.seen.1 ∧ t ≠ k.seen.2 :=
  ⟨{ live with cellar := { live.cellar with checks := [{ n := 1, frame := 3, primary := 2, checker := 0, taken := true, third := some 4, thirdTaken := true, seen := (5, 6) }] } }, { n := 1, frame := 3, primary := 2, checker := 0, taken := true, third := some 4, thirdTaken := true, seen := (5, 6) }, 7, by decide +kernel⟩
theorem wit_RayEngine_29 : ∃ (s : State), ∃ (plane : Nat), ∃ (tx : Nat), ∃ (ty : Nat), s.inFlight plane tx ty = none :=
  ⟨live, 0, 2, 0, by decide +kernel⟩
theorem wit_RayEngine_30 : ∃ (s : State), ∃ (plane : Nat), ∃ (tx : Nat), ∃ (ty : Nat), ∃ (f : RayFrame), ∃ (p : RayPlane), ∃ (k : TileKey), ∃ (tex : List Nat), s.inFlight plane tx ty = some (f, p, k) ∧ s.decodeTile k = some tex ∧ s.cacheSlices ≠ [] :=
  ⟨{ live with ray := { live.ray with slices := List.replicate 17 { passed := some true }, cur := some { frame := 3, bypass := false, width := 480, height := 16, subs := 1, map := [], planes := [{ layer := 32, ident := 1, src := .scene [1, 0xFFFFFFFF, 1, 1] [64, 64, 64, 64], w := 64, h := 40, z := 0, x0 := 0, y0 := 0, invx := 65536, invy := 65536, alpha := 255, straight := false }], lim := 64, total := 1, dropped := 0, strips := [⟨0, 1, false⟩] } }, cellar := { live.cellar with flight := [{ cluster := 0, key := .record 1, bursts := 1 }] } }, 0, 0, 0, { frame := 3, bypass := false, width := 480, height := 16, subs := 1, map := [], planes := [{ layer := 32, ident := 1, src := .scene [1, 0xFFFFFFFF, 1, 1] [64, 64, 64, 64], w := 64, h := 40, z := 0, x0 := 0, y0 := 0, invx := 65536, invy := 65536, alpha := 255, straight := false }], lim := 64, total := 1, dropped := 0, strips := [⟨0, 1, false⟩] }, { layer := 32, ident := 1, src := .scene [1, 0xFFFFFFFF, 1, 1] [64, 64, 64, 64], w := 64, h := 40, z := 0, x0 := 0, y0 := 0, invx := 65536, invy := 65536, alpha := 255, straight := false }, .record 1, List.replicate 1024 0, by decide +kernel⟩
theorem wit_RayEngine_31 : ∃ (s : State), ∃ (plane : Nat), ∃ (tx : Nat), ∃ (ty : Nat), ∃ (f : RayFrame), ∃ (p : RayPlane), ∃ (k : TileKey), s.inFlight plane tx ty = some (f, p, k) :=
  ⟨{ live with ray := { live.ray with slices := List.replicate 17 { passed := some true }, cur := some { frame := 3, bypass := false, width := 480, height := 16, subs := 1, map := [], planes := [{ layer := 32, ident := 1, src := .scene [1, 0xFFFFFFFF, 1, 1] [64, 64, 64, 64], w := 64, h := 40, z := 0, x0 := 0, y0 := 0, invx := 65536, invy := 65536, alpha := 255, straight := false }], lim := 64, total := 1, dropped := 0, strips := [⟨0, 1, false⟩] } }, cellar := { live.cellar with flight := [{ cluster := 0, key := .record 1, bursts := 1 }] } }, 0, 0, 0, { frame := 3, bypass := false, width := 480, height := 16, subs := 1, map := [], planes := [{ layer := 32, ident := 1, src := .scene [1, 0xFFFFFFFF, 1, 1] [64, 64, 64, 64], w := 64, h := 40, z := 0, x0 := 0, y0 := 0, invx := 65536, invy := 65536, alpha := 255, straight := false }], lim := 64, total := 1, dropped := 0, strips := [⟨0, 1, false⟩] }, { layer := 32, ident := 1, src := .scene [1, 0xFFFFFFFF, 1, 1] [64, 64, 64, 64], w := 64, h := 40, z := 0, x0 := 0, y0 := 0, invx := 65536, invy := 65536, alpha := 255, straight := false }, .record 1, by decide +kernel⟩
theorem wit_RayEngine_32 : ∃ (s : State), ∃ (layer : Nat), ∃ (f : RayFrame), ∃ (p : RayPlane), ∃ (a : Shown), s.ray.cur = some f ∧ f.planes.find? (·.layer == layer) = some p ∧ p.src = .flat a ∧ layer < f.flatNext.length ∧ ((s.cellar.tiles.filter fun t => match t.key with | .flat .. => true | _ => false).length < s.ray.flatLimit) ∧ s.cacheSlices ≠ [] :=
  ⟨{ live with ray := { live.ray with slices := List.replicate 17 { passed := some true }, cur := some { frame := 3, bypass := false, width := 480, height := 16, subs := 1, map := [], planes := [{ layer := 0, ident := 1, src := .flat {}, w := 64, h := 40, z := 0, x0 := 0, y0 := 0, invx := 65536, invy := 65536, alpha := 255, straight := false }], lim := 64, total := 1, dropped := 0 } } }, 0, { frame := 3, bypass := false, width := 480, height := 16, subs := 1, map := [], planes := [{ layer := 0, ident := 1, src := .flat {}, w := 64, h := 40, z := 0, x0 := 0, y0 := 0, invx := 65536, invy := 65536, alpha := 255, straight := false }], lim := 64, total := 1, dropped := 0 }, { layer := 0, ident := 1, src := .flat {}, w := 64, h := 40, z := 0, x0 := 0, y0 := 0, invx := 65536, invy := 65536, alpha := 255, straight := false }, {}, by decide +kernel⟩
theorem wit_RayEngine_33 : ∃ (s : State), ∃ (layer : Nat), ∃ (f : RayFrame), ∃ (p : RayPlane), ∃ (a : Shown), s.ray.cur = some f ∧ f.planes.find? (·.layer == layer) = some p ∧ p.src = .flat a ∧ (s.ray.flatLimit ≤ (s.cellar.tiles.filter fun t => match t.key with | .flat .. => true | _ => false).length) :=
  ⟨{ live with ray := { live.ray with flatLimit := 0, cur := some { frame := 3, bypass := false, width := 480, height := 16, subs := 1, map := [], planes := [{ layer := 0, ident := 1, src := .flat {}, w := 64, h := 40, z := 0, x0 := 0, y0 := 0, invx := 65536, invy := 65536, alpha := 255, straight := false }], lim := 64, total := 1, dropped := 0 } } }, 0, { frame := 3, bypass := false, width := 480, height := 16, subs := 1, map := [], planes := [{ layer := 0, ident := 1, src := .flat {}, w := 64, h := 40, z := 0, x0 := 0, y0 := 0, invx := 65536, invy := 65536, alpha := 255, straight := false }], lim := 64, total := 1, dropped := 0 }, { layer := 0, ident := 1, src := .flat {}, w := 64, h := 40, z := 0, x0 := 0, y0 := 0, invx := 65536, invy := 65536, alpha := 255, straight := false }, {}, by decide +kernel⟩
theorem wit_LayerCommands_0 : ∃ (m : Master), ∃ (s : State), Accepts s m { code := 0x0900, cls := 0, len := 1, args := [{ off := 0, hi := 7 }] } :=
  ⟨.hostA, (cmd 0x900 ([7])), by decide +kernel⟩
theorem wit_LayerCommands_1 : ∃ (m : Master), ∃ (s : State), let a := s.argsOf m; Accepts s m { code := 0x0902, cls := 1, len := 34, args := [{ off := 0, hi := 7 }], reserved := false } ∧ bit (byteAt a 3) 0 = false := by
  refine ⟨.hostA, (cmd 0x902 ([0, 0, 0, 0])), ?_⟩
  try dsimp only
  decide +kernel
theorem wit_LayerCommands_2 : ∃ (m : Master), ∃ (s : State), let t := s.taken m; let a := s.argsOf m; let l := byteAt a 0; let b := patch (slice a 1 33) 2 [BitVec.ofNat 8 (byteAt a 3 / 2 * 2)]; let w := t.modWin fun x => memWrite x (blockAddr l + 1) b; Accepts s m { code := 0x0902, cls := 1, len := 34, args := [{ off := 0, hi := 7 }], reserved := false } ∧ bit (byteAt a 3) 0 = true ∧ w.commitReason = none := by
  refine ⟨.hostA, (cmd 0x902 ([7, 0, 0, 1])), ?_⟩
  try dsimp only
  decide +kernel
theorem wit_LayerCommands_3 : ∃ (m : Master), ∃ (s : State), let t := s.taken m; let a := s.argsOf m; let l := byteAt a 0; let b := patch (slice a 1 33) 2 [BitVec.ofNat 8 (byteAt a 3 / 2 * 2)]; let w := t.modWin fun x => memWrite x (blockAddr l + 1) b; ∃ (r : Nat), ∃ (k : Nat), Accepts s m { code := 0x0902, cls := 1, len := 34, args := [{ off := 0, hi := 7 }], reserved := false } ∧ bit (byteAt a 3) 0 = true ∧ w.commitReason = some (r, k) := by
  refine ⟨.hostA, (cmd 0x902 ([7, 9, 0, 1])), 1, 7, ?_⟩
  try dsimp only
  decide +kernel
theorem wit_LayerCommands_4 : ∃ (m : Master), ∃ (s : State), let t := s.taken m; let a := s.argsOf m; let h := t.captureSize.2; let p := u32At a 20; Accepts s m { code := 0x0903, cls := 1, len := 24, args := [{ off := 0, hi := 1 }, { off := 1, hi := 1 }, { off := 4, n := 5 }, { off := 12, n := 5 }, { off := 20, n := 4 }] } ∧ ((byteAt a 0 ≠ 0 → t.inRegion (a40At a 4) (p * h) (some 3) = true ∧ t.inRegion (a40At a 12) (p * h) (some 3) = true ∧ p % 64 = 0 ∧ captureLine (byteAt a 1) t.captureSize.1 ≤ p ∧ t.held (a40At a 4) (p * h) = false ∧ t.held (a40At a 12) (p * h) = false)) := by
  refine ⟨.hostA, (cmd 0x903 ([0])), ?_⟩
  try dsimp only
  decide +kernel
theorem wit_LayerCommands_5 : ∃ (m : Master), ∃ (s : State), Accepts s m { code := 0x0904, cls := 0 } :=
  ⟨.hostA, (cmd 0x904 ([])), by decide +kernel⟩
theorem wit_LayerCommands_6 : ∃ (m : Master), ∃ (s : State), Accepts s m { code := 0x0906, cls := 2, len := 2, args := [{ off := 0, n := 2, lo := 50, hi := 2000 }] } :=
  ⟨.safe, (put live .safe 0x906 0 (le 2 2000)), by decide +kernel⟩
theorem wit_DisplaySettings_0 : ∃ (m : Master), ∃ (s : State), Accepts s m { code := 0x0A00, cls := 0 } :=
  ⟨.hostA, (cmd 0xA00 ([])), by decide +kernel⟩
theorem wit_DisplaySettings_1 : ∃ (m : Master), ∃ (s : State), let t := s.taken m; let a := s.argsOf m; let p := panelOf a; let g := t.timingFor p; Accepts s m { code := 0x0A01, cls := 1, len := 12, args := [{ off := 0, n := 2 }, { off := 2, n := 2 }, { off := 4, lo := 1, hi := 8 }, { off := 5, hi := 0 }, { off := 6, n := 2 }, { off := 8, lo := 1, hi := 4 }, { off := 10, n := 2 }] } ∧ t.panelBad p (framePeriodRaw p g g.lineNs) = none ∧ ((t.mode.mode = .safeView ∨ t.mode.mode = .maintenance)) := by
  refine ⟨.hostA, (cmd 0xA01 (le 2 64 ++ le 2 32 ++ [1, 0] ++ le 2 50 ++ [1, 0])), ?_⟩
  try dsimp only
  decide +kernel
theorem wit_DisplaySettings_2 : ∃ (m : Master), ∃ (s : State), let t := s.taken m; let a := s.argsOf m; let p := panelOf a; let g := t.timingFor p; Accepts s m { code := 0x0A01, cls := 1, len := 12, args := [{ off := 0, n := 2 }, { off := 2, n := 2 }, { off := 4, lo := 1, hi := 8 }, { off := 5, hi := 0 }, { off := 6, n := 2 }, { off := 8, lo := 1, hi := 4 }, { off := 10, n := 2 }] } ∧ t.panelBad p (framePeriodRaw p g g.lineNs) = none ∧ t.mode.mode ≠ .safeView ∧ t.mode.mode ≠ .maintenance := by
  refine ⟨.hostA, (put ({ live with mode := { mode := .field } }) .hostA 0xA01 0 (le 2 64 ++ le 2 32 ++ [1, 0] ++ le 2 50 ++ [1, 0])), ?_⟩
  try dsimp only
  decide +kernel
theorem wit_DisplaySettings_3 : ∃ (m : Master), ∃ (s : State), let t := s.taken m; let a := s.argsOf m; let g := timingOf a; Accepts s m { code := 0x0A02, cls := 1, len := 20, args := [{ off := 0 }, { off := 1 }, { off := 2 }, { off := 4, n := 4 }, { off := 8, n := 2 }, { off := 10, n := 2 }, { off := 12, n := 2 }, { off := 16, n := 4 }] } ∧ t.timingBad g = none ∧ t.opOn 0x0A02 = true := by
  refine ⟨.hostA, (put ({ (withOp (mkOp 0xA02 ([0, 0, 0, 0] ++ le 4 (50000 * 256) ++ le 2 32 ++ le 2 8 ++ le 2 4096 ++ [0, 0] ++ le 4 0xFFFFFFFF))) with disp := { live.disp with panel := some ⟨64, 32, 2, 0, 50, 1, 0⟩ } }) .hostA 0xA02 0 ([0, 0, 0, 0] ++ le 4 (50000 * 256) ++ le 2 32 ++ le 2 8 ++ le 2 4096 ++ [0, 0] ++ le 4 0xFFFFFFFF)), ?_⟩
  try dsimp only
  decide +kernel
theorem wit_DisplaySettings_4 : ∃ (m : Master), ∃ (s : State), let t := s.taken m; let a := s.argsOf m; let g := timingOf a; Accepts s m { code := 0x0A02, cls := 1, len := 20, args := [{ off := 0 }, { off := 1 }, { off := 2 }, { off := 4, n := 4 }, { off := 8, n := 2 }, { off := 10, n := 2 }, { off := 12, n := 2 }, { off := 16, n := 4 }] } ∧ t.timingBad g = none ∧ t.opOn 0x0A02 = false ∧ g.laneRate = t.disp.timing.laneRate := by
  refine ⟨.hostA, (put { live with disp := { live.disp with panel := some ⟨64, 32, 2, 0, 50, 1, 0⟩ } } .hostA 0xA02 0 ([0, 0, 0, 0] ++ le 4 (50000 * 256) ++ le 2 32 ++ le 2 8 ++ le 2 4096 ++ [0, 0] ++ le 4 0xFFFFFFFF)), ?_⟩
  try dsimp only
  decide +kernel
theorem wit_DisplaySettings_5 : ∃ (m : Master), ∃ (s : State), let t := s.taken m; let a := s.argsOf m; let g := timingOf a; Accepts s m { code := 0x0A02, cls := 1, len := 20, args := [{ off := 0 }, { off := 1 }, { off := 2 }, { off := 4, n := 4 }, { off := 8, n := 2 }, { off := 10, n := 2 }, { off := 12, n := 2 }, { off := 16, n := 4 }] } ∧ t.timingBad g = none ∧ t.opOn 0x0A02 = false ∧ g.laneRate ≠ t.disp.timing.laneRate ∧ s.pendingCount m.code < 16 := by
  refine ⟨.hostA, (put { live with disp := { live.disp with panel := some ⟨64, 32, 2, 0, 50, 1, 0⟩ } } .hostA 0xA02 0 ([0, 0, 1, 0] ++ le 4 (50000 * 256) ++ le 2 32 ++ le 2 8 ++ le 2 4096 ++ [0, 0] ++ le 4 0xFFFFFFFF)), ?_⟩
  try dsimp only
  decide +kernel
theorem wit_DisplaySettings_6 : ∃ (m : Master), ∃ (s : State), Accepts s m { code := 0x0A03, cls := 1 } :=
  ⟨.hostA, (cmd 0xA03 ([])), by decide +kernel⟩
theorem wit_LaneAndLinkCommands_0 : ∃ (m : Master), ∃ (s : State), let t := s.taken m; let a := s.argsOf m; let l := byteAt a 0; Accepts s m { code := 0x0B00, cls := 0, len := 1, args := [{ off := 0, hi := 143 }] } ∧ t.hasLane l = true := by
  refine ⟨.hostA, (cmd 0xB00 ([143])), ?_⟩
  try dsimp only
  decide +kernel
theorem wit_LaneAndLinkCommands_1 : ∃ (m : Master), ∃ (s : State), let t := s.taken m; let a := s.argsOf m; let l := byteAt a 0; Accepts s m { code := 0x0B02, cls := 1, len := 1, args := [{ off := 0, hi := 127 }] } ∧ t.hasLane l = true ∧ (t.opOn 0x0B02 fun x => byteAt x 0 == l) = true := by
  refine ⟨.hostA, (put ((withOp (mkOp 0xB02 ([95])))) .hostA 0xB02 0 ([95])), ?_⟩
  try dsimp only
  decide +kernel
theorem wit_LaneAndLinkCommands_2 : ∃ (m : Master), ∃ (s : State), let t := s.taken m; let a := s.argsOf m; let l := byteAt a 0; Accepts s m { code := 0x0B02, cls := 1, len := 1, args := [{ off := 0, hi := 127 }] } ∧ t.hasLane l = true ∧ (t.opOn 0x0B02 fun x => byteAt x 0 == l) = false ∧ s.pendingCount m.code < 16 ∧ l < 96 := by
  refine ⟨.hostA, (cmd 0xB02 ([95])), ?_⟩
  try dsimp only
  decide +kernel
theorem wit_LaneAndLinkCommands_3 : ∃ (m : Master), ∃ (s : State), let t := s.taken m; let a := s.argsOf m; let l := byteAt a 0; Accepts s m { code := 0x0B02, cls := 1, len := 1, args := [{ off := 0, hi := 127 }] } ∧ t.hasLane l = true ∧ (t.opOn 0x0B02 fun x => byteAt x 0 == l) = false ∧ s.pendingCount m.code < 16 ∧ 96 ≤ l ∧ t.linkIdleUp ((l - 96) / 2) = false := by
  refine ⟨.hostA, (cmd 0xB02 ([127])), ?_⟩
  try dsimp only
  decide +kernel
theorem wit_LaneAndLinkCommands_4 : ∃ (m : Master), ∃ (s : State), let t := s.taken m; let a := s.argsOf m; let l := byteAt a 0; let p := (l - 96) / 2; let x := t.camPort p; Accepts s m { code := 0x0B02, cls := 1, len := 1, args := [{ off := 0, hi := 127 }] } ∧ t.hasLane l = true ∧ (t.opOn 0x0B02 fun x => byteAt x 0 == l) = false ∧ s.pendingCount m.code < 16 ∧ 96 ≤ l ∧ t.linkIdleUp ((l - 96) / 2) = true := by
  refine ⟨.hostA, (put ({ live with cam := { live.cam with ports := live.cam.ports.set 0 { state := 5 } } }) .hostA 0xB02 0 [96]), ?_⟩
  try dsimp only
  decide +kernel
theorem wit_LaneAndLinkCommands_5 : ∃ (m : Master), ∃ (s : State), let t := s.taken m; let a := s.argsOf m; let l := byteAt a 0; Accepts s m { code := 0x0B01, cls := 1, len := 24, args := [{ off := 0, hi := 127 }, { off := 1, mask := 15 }, { off := 2, hi := 5 }, { off := 3, hi := 3 }, { off := 4, n := 4 }, { off := 8, n := 16 }] } ∧ t.hasLane l = true ∧ t.mode.mode ≠ .maintenance ∧ byteAt a 1 % 8 = 0 ∧ byteAt a 2 = 0 ∧ byteAt a 3 = 0 ∧ u32At a 4 = 0 := by
  refine ⟨.hostA, (cmd 0xB01 ([0])), ?_⟩
  try dsimp only
  decide +kernel
theorem wit_LaneAndLinkCommands_6 : ∃ (m : Master), ∃ (s : State), let t := s.taken m; let a := s.argsOf m; let l := byteAt a 0; Accepts s m { code := 0x0B01, cls := 1, len := 24, args := [{ off := 0, hi := 127 }, { off := 1, mask := 15 }, { off := 2, hi := 5 }, { off := 3, hi := 3 }, { off := 4, n := 4 }, { off := 8, n := 16 }] } ∧ t.hasLane l = true ∧ t.mode.mode = .maintenance ∧ (t.opOn 0x0B02 fun x => byteAt x 0 == l) = false ∧ byteAt a 1 % 8 = 0 ∧ byteAt a 2 = 0 ∧ byteAt a 3 = 0 ∧ u32At a 4 = 0 := by
  refine ⟨.hostA, (put ({ live with mode := { mode := .maintenance } }) .hostA 0xB01 0 [0]), ?_⟩
  try dsimp only
  decide +kernel
theorem wit_LaneAndLinkCommands_7 : ∃ (m : Master), ∃ (s : State), let t := s.taken m; let a := s.argsOf m; let l := byteAt a 0; Accepts s m { code := 0x0B01, cls := 1, len := 24, args := [{ off := 0, hi := 127 }, { off := 1, mask := 15 }, { off := 2, hi := 5 }, { off := 3, hi := 3 }, { off := 4, n := 4 }, { off := 8, n := 16 }] } ∧ t.hasLane l = true ∧ t.mode.mode = .maintenance ∧ (t.opOn 0x0B02 fun x => byteAt x 0 == l) = false ∧ byteAt a 1 % 8 ≤ 5 ∧ ((byteAt a 1 % 8 ≠ 0 ∨ byteAt a 2 ≠ 0)) ∧ ((l < 96 → byteAt a 2 ≠ 0 → bit (byteAt a 1) 3 = true)) ∧ ((96 ≤ l → l % 2 = 1 → byteAt a 1 % 8 ≠ 0 → bit (byteAt a 1) 3 = true)) ∧ (if byteAt a 3 = 2 then 1 ≤ u32At a 4 ∧ u32At a 4 ≤ 128 else if byteAt a 3 = 3 then 1000 ≤ u32At a 4 else u32At a 4 = 0) := by
  refine ⟨.hostA, (put ({ live with mode := { mode := .maintenance } }) .hostA 0xB01 0 [0, 9, 1]), ?_⟩
  try dsimp only
  decide +kernel
theorem wit_LaneAndLinkCommands_8 : ∃ (link : Nat), ∃ (s : State), link < 2 ∧ s.ctl.fns.length = 2 ∧ (s.linkLanes link).isEmpty = false ∧ s.domOn (domHP link) = true ∧ s.perstHigh link = true :=
  ⟨1, live, by decide +kernel⟩
theorem wit_LaneAndLinkCommands_10 : ∃ (link : Nat), ∃ (s : State), link < 2 ∧ s.ctl.fns.length = 2 ∧ (s.linkLanes link).isEmpty = false ∧ ((s.domOn (domHP link) = false ∨ s.perstHigh link = false)) :=
  ⟨1, { live with pwr := { live.pwr with domains := [] } }, by decide +kernel⟩
theorem wit_LaneAndLinkCommands_11 : ∃ (link : Nat), ∃ (s : State), link < 2 ∧ s.ctl.fns.length = 2 ∧ (s.linkLanes link).isEmpty = false ∧ (s.fn link).linkUp = true :=
  ⟨0, { live with ctl := { live.ctl with fns := [{ linkUp := true }, {}] } }, by decide +kernel⟩
theorem wit_LaneAndLinkCommands_12 : ∃ (link : Nat), ∃ (s : State), link < 2 ∧ s.ctl.fns.length = 2 ∧ (s.linkLanes link).isEmpty = false ∧ (s.fn link).linkUp = false :=
  ⟨0, live, by decide +kernel⟩
theorem wit_MemoryAndChannels_0 : ∃ (m : Master), ∃ (s : State), let t := s.taken m; let a := s.argsOf m; let n := byteAt a 0; Accepts s m { code := 0x0C00, cls := 0, len := 1, args := [{ off := 0, hi := 11 }] } ∧ t.hasChannel n = true := by
  refine ⟨.hostA, (cmd 0xC00 ([11])), ?_⟩
  try dsimp only
  decide +kernel
theorem wit_MemoryAndChannels_1 : ∃ (m : Master), ∃ (s : State), let t := s.taken m; let a := s.argsOf m; let n := byteAt a 0; let out := t.othersOut n fun st => st == 1 || st == 2 || st == 4 || st == 5 || st == 6; Accepts s m { code := 0x0C01, cls := 1, len := 1, args := [{ off := 0, hi := 11 }] } ∧ t.hasChannel n = true ∧ out = true := by
  refine ⟨.hostA, (put ({ live with mem := { live.mem with chans := live.mem.chans.set 0 { inMap := true, state := 4 } } }) .hostA 0xC01 0 ([11])), ?_⟩
  try dsimp only
  decide +kernel
theorem wit_MemoryAndChannels_2 : ∃ (m : Master), ∃ (s : State), let t := s.taken m; let a := s.argsOf m; let n := byteAt a 0; let again := t.opOn 0x0C01 fun x => byteAt x 0 == n; Accepts s m { code := 0x0C01, cls := 1, len := 1, args := [{ off := 0, hi := 11 }] } ∧ t.hasChannel n = true ∧ (((t.chan n).state = 4 ∨ (t.chan n).state = 6 ∨ again = true)) := by
  refine ⟨.hostA, (put ({ live with mem := { live.mem with chans := live.mem.chans.set 11 { inMap := true, state := 6 } } }) .hostA 0xC01 0 ([11])), ?_⟩
  try dsimp only
  decide +kernel
theorem wit_MemoryAndChannels_3 : ∃ (m : Master), ∃ (s : State), let t := s.taken m; let a := s.argsOf m; let n := byteAt a 0; let out := t.othersOut n fun st => st == 1 || st == 2 || st == 4 || st == 5 || st == 6; let again := t.opOn 0x0C01 fun x => byteAt x 0 == n; Accepts s m { code := 0x0C01, cls := 1, len := 1, args := [{ off := 0, hi := 11 }] } ∧ t.hasChannel n = true ∧ out = false ∧ (t.chan n).state ≠ 4 ∧ (t.chan n).state ≠ 6 ∧ again = false ∧ s.pendingCount m.code < 16 := by
  refine ⟨.hostA, (cmd 0xC01 ([11])), ?_⟩
  try dsimp only
  decide +kernel
theorem wit_MemoryAndChannels_4 : ∃ (m : Master), ∃ (s : State), let t := s.taken m; let a := s.argsOf m; let n := byteAt a 0; Accepts s m { code := 0x0C02, cls := 1, len := 12, args := [{ off := 0, hi := 11 }, { off := 1, hi := 5 }, { off := 4, n := 4 }, { off := 8, n := 4, lo := 1 }] } ∧ t.hasChannel n = true ∧ u32At a 4 + u32At a 8 ≤ chanBytes t / 1024 ∧ t.mode.mode ≠ .maintenance := by
  refine ⟨.hostA, (cmd 0xC02 ([11, 5, 0, 0] ++ le 4 0 ++ le 4 1)), ?_⟩
  try dsimp only
  decide +kernel
theorem wit_MemoryAndChannels_5 : ∃ (m : Master), ∃ (s : State), let t := s.taken m; let a := s.argsOf m; let n := byteAt a 0; Accepts s m { code := 0x0C02, cls := 1, len := 12, args := [{ off := 0, hi := 11 }, { off := 1, hi := 5 }, { off := 4, n := 4 }, { off := 8, n := 4, lo := 1 }] } ∧ t.hasChannel n = true ∧ u32At a 4 + u32At a 8 ≤ chanBytes t / 1024 ∧ t.mode.mode = .maintenance ∧ (((t.chan n).state = 4 ∨ t.memTested n = true)) := by
  refine ⟨.hostA, (put ({ { live with mem := { live.mem with chans := live.mem.chans.set 11 { inMap := true, state := 4 } } } with mode := { mode := .maintenance } }) .hostA 0xC02 0 ([11, 5, 0, 0] ++ le 4 0 ++ le 4 1)), ?_⟩
  try dsimp only
  decide +kernel
theorem wit_MemoryAndChannels_6 : ∃ (m : Master), ∃ (s : State), let t := s.taken m; let a := s.argsOf m; let n := byteAt a 0; Accepts s m { code := 0x0C02, cls := 1, len := 12, args := [{ off := 0, hi := 11 }, { off := 1, hi := 5 }, { off := 4, n := 4 }, { off := 8, n := 4, lo := 1 }] } ∧ t.hasChannel n = true ∧ u32At a 4 + u32At a 8 ≤ chanBytes t / 1024 ∧ t.mode.mode = .maintenance ∧ (t.chan n).state ≠ 4 ∧ t.memTested n = false ∧ s.pendingCount m.code < 16 := by
  refine ⟨.hostA, (put ({ live with mode := { mode := .maintenance } }) .hostA 0xC02 0 ([11, 5, 0, 0] ++ le 4 0 ++ le 4 1)), ?_⟩
  try dsimp only
  decide +kernel
theorem wit_MemoryAndChannels_7 : ∃ (m : Master), ∃ (s : State), let a := s.argsOf m; let n := byteAt a 0; Accepts s m { code := 0x0C03, cls := 1, len := 6, args := [{ off := 0, n := 2 }, { off := 2, n := 2 }, { off := 4, n := 2, hi := 8760 }] } ∧ ((u16At a 0 = 0 ∨ 1024 ≤ u16At a 0)) ∧ ((u16At a 2 = 0 ∨ 500 ≤ u16At a 2)) := by
  refine ⟨.hostA, (cmd 0xC03 (le 2 1024 ++ le 2 500 ++ le 2 8760)), ?_⟩
  try dsimp only
  decide +kernel
theorem wit_MemoryAndChannels_8 : ∃ (n : Nat), ∃ (s : State), let c := s.chan n; s.hasChannel n = true ∧ s.domOn (domMC n) = true ∧ s.mem.cfg.ok = true ∧ s.mem.cfg.channelMask.getLsbD n = true ∧ c.state = 0 ∧ s.lowHold = false := by
  refine ⟨0, { live with mem := { live.mem with cfg := { channelMask := 1 }, chans := live.mem.chans.set 0 {} } }, ?_⟩
  try dsimp only
  decide +kernel
theorem wit_MemoryAndChannels_9 : ∃ (n : Nat), ∃ (s : State), let c := s.chan n; c.state ≠ 0 := by
  refine ⟨0, live, ?_⟩
  try dsimp only
  decide +kernel
theorem wit_MemoryAndChannels_10 : ∃ (n : Nat), ∃ (eyes : List Nat), ∃ (s : State), let c := s.chan n; c.state = 1 ∧ c.inMap = false ∧ eyesPass eyes = true ∧ n < s.mem.chans.length := by
  refine ⟨0, List.replicate 18 24, { live with mem := { live.mem with chans := live.mem.chans.set 0 { state := 1 }, map := [1, 2] } }, ?_⟩
  try dsimp only
  decide +kernel
theorem wit_MemoryAndChannels_11 : ∃ (n : Nat), ∃ (eyes : List Nat), ∃ (s : State), let c := s.chan n; c.state = 1 ∧ c.inMap = false ∧ eyesPass eyes = false ∧ n < s.mem.chans.length := by
  refine ⟨0, [0], { live with mem := { live.mem with chans := live.mem.chans.set 0 { state := 1 }, map := [1, 2] } }, ?_⟩
  try dsimp only
  decide +kernel
theorem wit_MemoryAndChannels_13 : ∃ (n : Nat), ∃ (s : State), let c := s.chan n; let asked := s.opOn 0x0C01 fun a => byteAt a 0 == n; c.serving = true ∧ c.state = 3 ∧ c.retrainNeeded = true ∧ s.lowHold = false ∧ s.othersOut n (· == 4) = false ∧ ((∀ k < n, ¬((s.chan k).serving = true ∧ (s.chan k).retrainNeeded = true))) ∧ asked = true := by
  refine ⟨0, { (withOp (mkOp 0xC01 ([0]))) with mem := { live.mem with chans := live.mem.chans.set 0 { inMap := true, state := 3, retrainNeeded := true } } }, ?_⟩
  try dsimp only
  decide +kernel
theorem wit_MemoryAndChannels_14 : ∃ (n : Nat), ∃ (s : State), let c := s.chan n; let asked := s.opOn 0x0C01 fun a => byteAt a 0 == n; c.serving = true ∧ c.state = 3 ∧ c.retrainNeeded = true ∧ s.lowHold = false ∧ s.othersOut n (· == 4) = false ∧ ((∀ k < n, ¬((s.chan k).serving = true ∧ (s.chan k).retrainNeeded = true))) ∧ asked = false ∧ (s.within (3600 * 10 ^ 9) c.autoTimes).length < 2 := by
  refine ⟨0, { live with mem := { live.mem with chans := live.mem.chans.set 0 { state := 3, inMap := true, retrainNeeded := true } } }, ?_⟩
  try dsimp only
  decide +kernel
theorem wit_MemoryAndChannels_15 : ∃ (n : Nat), ∃ (s : State), let c := s.chan n; let asked := s.opOn 0x0C01 fun a => byteAt a 0 == n; c.serving = true ∧ c.state = 3 ∧ c.retrainNeeded = true ∧ s.lowHold = false ∧ s.othersOut n (· == 4) = false ∧ ((∀ k < n, ¬((s.chan k).serving = true ∧ (s.chan k).retrainNeeded = true))) ∧ asked = false ∧ 2 ≤ (s.within (3600 * 10 ^ 9) c.autoTimes).length := by
  refine ⟨0, { live with mem := { live.mem with chans := live.mem.chans.set 0 { state := 3, inMap := true, retrainNeeded := true, autoTimes := [0, 0] } } }, ?_⟩
  try dsimp only
  decide +kernel
theorem wit_MemoryAndChannels_16 : ∃ (n : Nat), ∃ (eyes : List Nat), ∃ (s : State), let c := s.chan n; c.state = 4 ∧ s.ctl.pendingOps = [] ∧ eyesPass eyes = true := by
  refine ⟨0, List.replicate 18 24, { live with mem := { live.mem with chans := live.mem.chans.set 0 { state := 4, inMap := true } } }, ?_⟩
  try dsimp only
  decide +kernel
theorem wit_MemoryAndChannels_17 : ∃ (n : Nat), ∃ (eyes : List Nat), ∃ (s : State), let c := s.chan n; c.state = 4 ∧ s.ctl.pendingOps = [] ∧ eyesPass eyes = false := by
  refine ⟨0, List.replicate 18 0, { live with mem := { live.mem with chans := live.mem.chans.set 0 { inMap := true, state := 4 } } }, ?_⟩
  try dsimp only
  decide +kernel
theorem wit_MemoryAndChannels_18 : ∃ (n : Nat), ∃ (s : State), let c := s.chan n; c.state ≠ 4 ∧ c.state ≠ 5 := by
  refine ⟨0, live, ?_⟩
  try dsimp only
  decide +kernel
theorem wit_MemoryAndChannels_19 : ∃ (n : Nat), ∃ (s : State), let c := s.chan n; c.serving = true ∧ c.state ≠ 6 ∧ s.leadChan n = false ∧ n < s.mem.chans.length := by
  refine ⟨1, live, ?_⟩
  try dsimp only
  decide +kernel
theorem wit_MemoryAndChannels_20 : ∃ (n : Nat), ∃ (s : State), let c := s.chan n; ∃ (w : List Nat), c.serving = true ∧ c.state = 3 ∧ n < s.mem.chans.length ∧ 2 ∈ w := by
  refine ⟨0, live, [2], ?_⟩
  try dsimp only
  decide +kernel
theorem wit_MemoryAndChannels_21 : ∃ (s : State), s.mem.realloc = true ∧ s.tp.state = .running :=
  ⟨{ live with mem := { live.mem with realloc := true } }, by decide +kernel⟩
theorem wit_MemoryAndChannels_22 : ∃ (s : State), s.mem.realloc = false :=
  ⟨live, by decide +kernel⟩
theorem wit_DramTraffic_0 : ∃ (n : Nat), ∃ (req : Req), ∃ (s : State), (((s.chan n).removing = true ∨ (s.chan n).state = 5)) ∧ req.write = true :=
  ⟨0, { requester := 1, cls := 2, write := true, addr := 64, data := [(0, 9)] }, { live with mem := { live.mem with chans := live.mem.chans.set 0 { state := 5 } } }, by decide +kernel⟩
theorem wit_DramTraffic_1 : ∃ (n : Nat), ∃ (req : Req), ∃ (s : State), (((s.chan n).removing = true ∨ (s.chan n).state = 5)) ∧ req.write = false :=
  ⟨0, { requester := 1, cls := 2, write := false, addr := 64, data := [] }, { live with mem := { live.mem with chans := live.mem.chans.set 0 { state := 5 } } }, by decide +kernel⟩
theorem wit_DramTraffic_2 : ∃ (n : Nat), ∃ (req : Req), ∃ (s : State), let q := s.memQ n; (s.chan n).removing = false ∧ (s.chan n).state ≠ 5 ∧ (s.chan n).serving = true ∧ q.room req.write (s.reqClass req) = true ∧ req.addr < chanBytes s ∧ s.lands req = true ∧ req.write = true := by
  refine ⟨0, { requester := 1, cls := 2, write := true, addr := 64, data := [(0, 9)] }, live, ?_⟩
  try dsimp only
  decide +kernel
theorem wit_DramTraffic_3 : ∃ (n : Nat), ∃ (req : Req), ∃ (s : State), let q := s.memQ n; (s.chan n).removing = false ∧ (s.chan n).state ≠ 5 ∧ (s.chan n).serving = true ∧ q.room req.write (s.reqClass req) = true ∧ req.addr < chanBytes s ∧ s.lands req = true ∧ req.write = false := by
  refine ⟨0, { requester := 1, cls := 2, write := false, addr := 64, data := [] }, live, ?_⟩
  try dsimp only
  decide +kernel
theorem wit_DramTraffic_4 : ∃ (n : Nat), ∃ (s : State), (s.chan n).serving = false :=
  ⟨0, { live with mem := { live.mem with chans := live.mem.chans.set 0 { state := 5 } } }, by decide +kernel⟩
theorem wit_DramTraffic_5 : ∃ (n : Nat), ∃ (s : State), ∃ (b : Bool), (s.chan n).serving = true ∧ s.nextReq n = (none, b) :=
  ⟨0, live, false, by decide +kernel⟩
theorem wit_DramTraffic_6 : ∃ (n : Nat), ∃ (s : State), ∃ (x : MemReq), ∃ (b : Bool), (s.chan n).serving = true ∧ s.nextReq n = (some x, b) ∧ n < s.mem.queues.length ∧ x.write = false :=
  ⟨0, { live with mem := { live.mem with queues := live.mem.queues.set 0 { reads := [{ id := 4, requester := 1, cls := 1, write := false, addr := 64, data := [], since := 0 }] } } }, { id := 4, requester := 1, cls := 1, write := false, addr := 64, data := [], since := 0 }, false, by decide +kernel⟩
theorem wit_DramTraffic_7 : ∃ (n : Nat), ∃ (s : State), ∃ (x : MemReq), ∃ (b : Bool), (s.chan n).serving = true ∧ s.nextReq n = (some x, b) ∧ n < s.mem.queues.length ∧ x.write = true :=
  ⟨0, { live with mem := { live.mem with queues := live.mem.queues.set 0 { writes := [{ id := 4, requester := 1, cls := 2, write := true, addr := 64, data := [(0, 9)], since := 0 }] } } }, { id := 4, requester := 1, cls := 2, write := true, addr := 64, data := [(0, 9)], since := 0 }, true, by decide +kernel⟩
theorem wit_DramTraffic_8 : ∃ (n : Nat), ∃ (s : State), let q := s.memQ n; ∃ (x : MemReq), q.flight.find? (·.id == x.id) = some x ∧ n < s.mem.queues.length := by
  refine ⟨0, { live with mem := { live.mem with queues := live.mem.queues.set 0 { flight := [{ id := 4, requester := 1, cls := 1, write := false, addr := 64, data := [], since := 0 }] } } }, { id := 4, requester := 1, cls := 1, write := false, addr := 64, data := [], since := 0 }, ?_⟩
  try dsimp only
  decide +kernel
theorem wit_DramTraffic_9 : ∃ (n : Nat), ∃ (s : State), let q := s.memQ n; q.reads = [] ∧ q.writes = [] := by
  refine ⟨0, live, ?_⟩
  try dsimp only
  decide +kernel
theorem wit_DramTraffic_10 : ∃ (n : Nat), ∃ (s : State), let q := s.memQ n; ∃ (x : MemReq), q.reads = [x] ∧ q.writes = [] ∧ x.cls < 2 ∧ n < s.mem.queues.length ∧ x.since + s.mem.ageLimit + 1 ≤ s.time := by
  refine ⟨0, { live with time := 2001, mem := { live.mem with queues := live.mem.queues.set 0 { reads := [{ id := 4, requester := 1, cls := 1, write := false, addr := 64, data := [], since := 0 }] } } }, { id := 4, requester := 1, cls := 1, write := false, addr := 64, data := [], since := 0 }, ?_⟩
  try dsimp only
  decide +kernel
theorem wit_DramTraffic_11 : ∃ (n : Nat), ∃ (s : State), let c := s.chan n; c.serving = true ∧ s.leadChan n = false ∧ s.disp.panic = true ∧ c.debt < 8 := by
  refine ⟨1, { live with disp := { live.disp with panic := true } }, ?_⟩
  try dsimp only
  decide +kernel
theorem wit_DramTraffic_12 : ∃ (n : Nat), ∃ (s : State), let c := s.chan n; c.serving = true ∧ s.leadChan n = false ∧ ((s.disp.panic = false ∨ 8 ≤ c.debt)) := by
  refine ⟨1, live, ?_⟩
  try dsimp only
  decide +kernel
theorem wit_DramTraffic_13 : ∃ (n : Nat), ∃ (s : State), let c := s.chan n; c.serving = false := by
  refine ⟨0, { live with mem := { live.mem with chans := live.mem.chans.set 0 { state := 5 } } }, ?_⟩
  try dsimp only
  decide +kernel
theorem wit_DramTraffic_14 : ∃ (n : Nat), ∃ (s : State), let c := s.chan n; c.serving = true ∧ s.leadChan n = false ∧ s.disp.panic = false ∧ c.debt ≠ 0 := by
  refine ⟨1, { live with mem := { live.mem with chans := live.mem.chans.set 1 { state := 3, inMap := true, debt := 8 } } }, ?_⟩
  try dsimp only
  decide +kernel
theorem wit_DramTraffic_15 : ∃ (n : Nat), ∃ (s : State), let c := s.chan n; c.serving = true ∧ s.disp.panic = false := by
  refine ⟨0, live, ?_⟩
  try dsimp only
  decide +kernel
theorem wit_DramTraffic_16 : ∃ (s : State), s.disp.panic = true :=
  ⟨{ live with disp := { live.disp with panic := true } }, by decide +kernel⟩
theorem wit_ChurnEngine_0 : ∃ (m : Master), ∃ (s : State), Accepts s m { code := 0x0D00, cls := 0, len := 1, args := [{ off := 0, hi := 7 }] } :=
  ⟨.hostA, (cmd 0xD00 ([7])), by decide +kernel⟩
theorem wit_ChurnEngine_1 : ∃ (m : Master), ∃ (s : State), let t := s.taken m; let a := s.argsOf m; let q := byteAt a 0; let b := a40At a 4; let n := u32At a 12; Accepts s m { code := 0x0D01, cls := 1, len := 16, args := [{ off := 0, hi := 7 }, { off := 1, hi := 3 }, { off := 4, n := 5 }, { off := 12, n := 4 }] } ∧ b % 64 = 0 ∧ ((n = 0 ∨ (n % 32 = 0 ∧ 64 ≤ n ∧ n ≤ 131072 ∧ t.inMemory b n = true ∧ t.permanent b n = none))) ∧ (t.chq q).outstanding = 0 := by
  refine ⟨.hostA, (cmd 0xD01 ([7, 3, 0, 0] ++ le 5 0x10000 ++ [0, 0, 0] ++ le 4 131072)), ?_⟩
  try dsimp only
  decide +kernel
theorem wit_ChurnEngine_2 : ∃ (m : Master), ∃ (s : State), let t := s.taken m; let a := s.argsOf m; let q := byteAt a 0; let b := a40At a 4; let n := u32At a 12; Accepts s m { code := 0x0D01, cls := 1, len := 16, args := [{ off := 0, hi := 7 }, { off := 1, hi := 3 }, { off := 4, n := 5 }, { off := 12, n := 4 }] } ∧ b % 64 = 0 ∧ ((n = 0 ∨ (n % 32 = 0 ∧ 64 ≤ n ∧ n ≤ 131072 ∧ t.inMemory b n = true ∧ t.permanent b n = none))) ∧ (t.chq q).outstanding ≠ 0 := by
  refine ⟨.hostA, (put ({ live with churn := { live.churn with queues := live.churn.queues.set 7 { base := 0x10000, entries := 4, producer := 1 } } }) .hostA 0xD01 0 ([7, 3, 0, 0] ++ le 5 0x10000 ++ [0, 0, 0] ++ le 4 131072)), ?_⟩
  try dsimp only
  decide +kernel
theorem wit_ChurnEngine_3 : ∃ (m : Master), ∃ (s : State), Accepts s m { code := 0x0D02, cls := 1, len := 1, args := [{ off := 0, hi := 7 }] } :=
  ⟨.hostA, (cmd 0xD02 ([7])), by decide +kernel⟩
theorem wit_ChurnEngine_4 : ∃ (s : State), ∃ (q : Nat), let a := (s.chq q).base + 32 * ((s.chq q).completed.toNat % (s.chq q).entries); s.domOn domCH = true ∧ s.churn.run = none ∧ s.churn.drainUntil = none ∧ s.churnNext = some q ∧ s.poisoned a 32 = true := by
  refine ⟨{ live with churn := { live.churn with queues := live.churn.queues.set 2 { base := 0x10000, entries := 2, producer := 1 } }, mem := { live.mem with chans := List.replicate 12 { state := 3, inMap := true, poisonList := [4096] } } }, 2, ?_⟩
  try dsimp only
  decide +kernel
theorem wit_ChurnEngine_5 : ∃ (s : State), ∃ (q : Nat), let a := (s.chq q).base + 32 * ((s.chq q).completed.toNat % (s.chq q).entries); s.domOn domCH = true ∧ s.churn.run = none ∧ s.churn.drainUntil = none ∧ s.churnNext = some q ∧ s.poisoned a 32 = false := by
  refine ⟨{ live with churn := { live.churn with queues := live.churn.queues.set 2 { base := 0x10000, entries := 2, producer := 1 } } }, 2, ?_⟩
  try dsimp only
  decide +kernel
theorem wit_ChurnEngine_6 : ∃ (s : State), ∃ (r : ChurnRun), let b := s.devRead (r.list + 192 + 64 * r.index) 64; ∃ (st : Nat), ∃ (why : Nat), s.domOn domCH = true ∧ s.churn.run = some r ∧ r.failed = none ∧ r.aborted = none ∧ r.index < r.count ∧ r.seg = 0 ∧ s.churnCmdBad r b = some (st, why) := by
  refine ⟨(({ live with churn := { live.churn with queues := live.churn.queues.set 2 { base := 0x10000, entries := 2, producer := 1 }, run := some { q := 2, k := 0, entry := 0x10000, list := 0x20000, tag := 0, irq := false, count := 1 } } } : State).devWrite 0x200C0 ([6])), { q := 2, k := 0, entry := 0x10000, list := 0x20000, tag := 0, irq := false, count := 1 }, stBadArg, 3, ?_⟩
  try dsimp only
  decide +kernel
theorem wit_ChurnEngine_7 : ∃ (s : State), ∃ (r : ChurnRun), let b := s.devRead (r.list + 192 + 64 * r.index) 64; let c := ChurnCmd.parse b; s.domOn domCH = true ∧ s.churn.run = some r ∧ r.failed = none ∧ r.aborted = none ∧ r.index < r.count ∧ ((r.seg = 0 → s.churnCmdBad r b = none)) ∧ c.op = 0 := by
  refine ⟨{ live with churn := { live.churn with queues := live.churn.queues.set 2 { base := 0x10000, entries := 2, producer := 1 }, run := some { q := 2, k := 0, entry := 0x10000, list := 0x20000, tag := 0, irq := false, count := 1 } } }, { q := 2, k := 0, entry := 0x10000, list := 0x20000, tag := 0, irq := false, count := 1 }, ?_⟩
  try dsimp only
  decide +kernel
theorem wit_ChurnEngine_8 : ∃ (s : State), ∃ (r : ChurnRun), let b := s.devRead (r.list + 192 + 64 * r.index) 64; let c := ChurnCmd.parse b; s.domOn domCH = true ∧ s.churn.run = some r ∧ r.failed = none ∧ r.aborted = none ∧ r.index < r.count ∧ ((r.seg = 0 → s.churnCmdBad r b = none)) ∧ c.op ≠ 0 ∧ ((c.hazard r.clips = false ∨ r.waiting = true)) ∧ ((∃ p ∈ c.writes r.clips r.seg, s.held p.1 p.2 = true)) := by
  refine ⟨(({ live with churn := { live.churn with queues := live.churn.queues.set 2 { base := 0x10000, entries := 2, producer := 1 }, run := some { q := 2, k := 0, entry := 0x10000, list := 0x20000, tag := 0, irq := false, count := 1 } }, leases := { live.leases with holds := [⟨0, 1, 0x30000, 64, 0⟩] } } : State).devWrite 0x200C0 ([1, 0, 0, 0] ++ le 2 2 ++ le 2 1 ++ le 5 0x30000 ++ [0, 0, 0] ++ le 4 64 ++ List.replicate 20 0 ++ le 8 5)), { q := 2, k := 0, entry := 0x10000, list := 0x20000, tag := 0, irq := false, count := 1 }, ?_⟩
  try dsimp only
  decide +kernel
theorem wit_ChurnEngine_9 : ∃ (s : State), ∃ (r : ChurnRun), let b := s.devRead (r.list + 192 + 64 * r.index) 64; let c := ChurnCmd.parse b; s.domOn domCH = true ∧ s.churn.run = some r ∧ r.failed = none ∧ r.aborted = none ∧ r.index < r.count ∧ ((r.seg = 0 → s.churnCmdBad r b = none)) ∧ c.op ≠ 0 ∧ ((c.hazard r.clips = false ∨ r.waiting = true)) ∧ ((∀ p ∈ c.writes r.clips r.seg, s.held p.1 p.2 = false)) := by
  refine ⟨(({ live with churn := { live.churn with queues := live.churn.queues.set 2 { base := 0x10000, entries := 2, producer := 1 }, run := some { q := 2, k := 0, entry := 0x10000, list := 0x20000, tag := 0, irq := false, count := 1 } } } : State).devWrite 0x200C0 ([1, 0, 0, 0] ++ le 2 2 ++ le 2 1 ++ le 5 0x30000 ++ [0, 0, 0] ++ le 4 64 ++ List.replicate 20 0 ++ le 8 5)), { q := 2, k := 0, entry := 0x10000, list := 0x20000, tag := 0, irq := false, count := 1 }, ?_⟩
  try dsimp only
  decide +kernel
theorem wit_ChurnEngine_10 : ∃ (s : State), ∃ (r : ChurnRun), let b := s.devRead (r.list + 192 + 64 * r.index) 64; let c := ChurnCmd.parse b; s.domOn domCH = true ∧ s.churn.run = some r ∧ r.failed = none ∧ r.aborted = none ∧ r.index < r.count ∧ r.seg = 0 ∧ s.churnCmdBad r b = none ∧ c.op ≠ 0 ∧ c.hazard r.clips = true ∧ r.waiting = false ∧ r.q < s.churn.queues.length := by
  refine ⟨(({ live with churn := { live.churn with queues := live.churn.queues.set 2 { base := 0x10000, entries := 2, producer := 1 }, run := some { q := 2, k := 0, entry := 0x10000, list := 0x20000, tag := 0, irq := false, count := 1 } } } : State).devWrite 0x200C0 ([2, 0, 0, 0] ++ le 2 4 ++ le 2 2 ++ le 5 0x30000 ++ [1, 0, 0] ++ le 4 64 ++ le 2 0 ++ le 2 1 ++ le 5 0x30000 ++ [1, 0, 0] ++ le 4 64 ++ List.replicate 28 0)), { q := 2, k := 0, entry := 0x10000, list := 0x20000, tag := 0, irq := false, count := 1 }, ?_⟩
  try dsimp only
  decide +kernel
theorem wit_ChurnEngine_11 : ∃ (s : State), s.domOn domCH = true ∧ s.churn.run = none :=
  ⟨live, by decide +kernel⟩
theorem wit_ChurnEngine_13 : ∃ (s : State), ∃ (r : ChurnRun), s.domOn domCH = true ∧ s.churn.run = some r ∧ r.index = r.count ∧ r.failed = none ∧ r.aborted = none ∧ (s.chq r.q).abort = false ∧ s.churn.drainUntil = none :=
  ⟨{ live with churn := { live.churn with queues := live.churn.queues.set 2 { base := 0x10000, entries := 2, producer := 1 }, run := some { q := 2, k := 0, entry := 0x10000, list := 0x20000, tag := 0, irq := false, count := 1, index := 1 } } }, { q := 2, k := 0, entry := 0x10000, list := 0x20000, tag := 0, irq := false, count := 1, index := 1 }, by decide +kernel⟩
theorem wit_ChurnEngine_14 : ∃ (m : Master), ∃ (v : W32), ∃ (s : State), s.portLive m.code = true ∧ s.isOwner m.code = true ∧ v.getLsbD 0 = true :=
  ⟨.hostA, 1, live, by decide +kernel⟩
theorem wit_ChurnEngine_15 : ∃ (q : Nat), ∃ (s : State), ∃ (r : ChurnRun), (s.chq q).abort = true ∧ s.runOf q = some r :=
  ⟨2, { live with churn := { live.churn with queues := live.churn.queues.set 2 { base := 0x10000, entries := 2, producer := 1, abort := true }, run := some { q := 2, k := 0, entry := 0x10000, list := 0x20000, tag := 0, irq := false, count := 1 } } }, { q := 2, k := 0, entry := 0x10000, list := 0x20000, tag := 0, irq := false, count := 1 }, by decide +kernel⟩
theorem wit_ChurnEngine_16 : ∃ (q : Nat), ∃ (s : State), (s.chq q).abort = true ∧ s.runOf q = none ∧ (s.chq q).outstanding = 0 :=
  ⟨3, { live with churn := { live.churn with queues := live.churn.queues.set 3 { abort := true } } }, by decide +kernel⟩
theorem wit_ChurnEngine_17 : ∃ (q : Nat), ∃ (s : State), (s.chq q).abort = true ∧ s.runOf q = none ∧ (s.chq q).outstanding ≠ 0 :=
  ⟨2, { live with churn := { live.churn with queues := live.churn.queues.set 2 { base := 0x10000, entries := 2, producer := 1, abort := true } } }, by decide +kernel⟩
theorem wit_ChurnEngine_18 : ∃ (s : State), ∃ (t0 : Nat), s.churn.drainUntil = some t0 :=
  ⟨{ live with churn := { live.churn with drainUntil := some 50 } }, 50, by decide +kernel⟩
theorem wit_PlacardPort_0 : ∃ (m : Master), ∃ (s : State), Accepts s m { code := 0x0E00, cls := 0 } :=
  ⟨.hostA, (cmd 0xE00 ([])), by decide +kernel⟩
theorem wit_PlacardPort_1 : ∃ (m : Master), ∃ (s : State), let t := s.taken m; let a := s.argsOf m; Accepts s m { code := 0x0E01, cls := 1, len := 8, args := [{ off := 0, n := 2 }, { off := 2 }, { off := 3 }, { off := 4, n := 4 }] } ∧ 1 ≤ u16At a 0 ∧ u16At a 0 ≤ 256 ∧ byteAt a 2 ≤ 1 ∧ segTop t.plc.shown ≤ u16At a 0 ∧ ((t.plc.seq ≠ none ∨ t.opOn 0x0E03 = true)) := by
  refine ⟨.hostA, (put ((withOp (mkOp 0xE03 ([])))) .hostA 0xE01 0 (le 2 256 ++ [1, 0] ++ le 4 0)), ?_⟩
  try dsimp only
  decide +kernel
theorem wit_PlacardPort_2 : ∃ (m : Master), ∃ (s : State), let t := s.taken m; let a := s.argsOf m; Accepts s m { code := 0x0E01, cls := 1, len := 8, args := [{ off := 0, n := 2 }, { off := 2 }, { off := 3 }, { off := 4, n := 4 }] } ∧ 1 ≤ u16At a 0 ∧ u16At a 0 ≤ 256 ∧ byteAt a 2 ≤ 1 ∧ segTop t.plc.shown ≤ u16At a 0 ∧ t.plc.seq = none ∧ t.opOn 0x0E03 = false := by
  refine ⟨.hostA, (cmd 0xE01 (le 2 256 ++ [1, 0] ++ le 4 0)), ?_⟩
  try dsimp only
  decide +kernel
theorem wit_PlacardPort_3 : ∃ (m : Master), ∃ (s : State), let t := s.taken m; let a := s.argsOf m; let v := BitVec.ofNat 256 (uAt 32 a 0); Accepts s m { code := 0x0E02, cls := 1, len := 32, args := [{ off := 0, n := 32 }] } ∧ ((∀ g ∈ t.plc.cfg, segTop v ≤ g.segments)) ∧ t.pins.plcFaultN = false := by
  refine ⟨.hostA, (put ({ live with pins := { live.pins with plcFaultN := false } }) .hostA 0xE02 0 (le 32 1)), ?_⟩
  try dsimp only
  decide +kernel
theorem wit_PlacardPort_4 : ∃ (m : Master), ∃ (s : State), let t := s.taken m; let a := s.argsOf m; let v := BitVec.ofNat 256 (uAt 32 a 0); Accepts s m { code := 0x0E02, cls := 1, len := 32, args := [{ off := 0, n := 32 }] } ∧ ((∀ g ∈ t.plc.cfg, segTop v ≤ g.segments)) ∧ t.pins.plcFaultN = true ∧ t.wave t.plc.bandNow = none := by
  refine ⟨.hostA, (cmd 0xE02 (le 32 1)), ?_⟩
  try dsimp only
  decide +kernel
theorem wit_PlacardPort_5 : ∃ (m : Master), ∃ (s : State), let t := s.taken m; let a := s.argsOf m; let v := BitVec.ofNat 256 (uAt 32 a 0); ∃ (w : Bytes), Accepts s m { code := 0x0E02, cls := 1, len := 32, args := [{ off := 0, n := 32 }] } ∧ ((∀ g ∈ t.plc.cfg, segTop v ≤ g.segments)) ∧ t.pins.plcFaultN = true ∧ t.wave t.plc.bandNow = some w ∧ t.plc.cfg = none := by
  refine ⟨.hostA, (put ({ live with plc := { live.plc with waves := List.replicate 8 (some (List.replicate 96 0)) } }) .hostA 0xE02 0 (le 32 1)), List.replicate 96 0, ?_⟩
  try dsimp only
  decide +kernel
theorem wit_PlacardPort_6 : ∃ (m : Master), ∃ (s : State), let t := s.taken m; let a := s.argsOf m; let v := BitVec.ofNat 256 (uAt 32 a 0); ∃ (g : PlcCfg), ∃ (w : Bytes), Accepts s m { code := 0x0E02, cls := 1, len := 32, args := [{ off := 0, n := 32 }] } ∧ ((∀ g ∈ t.plc.cfg, segTop v ≤ g.segments)) ∧ t.pins.plcFaultN = true ∧ t.wave t.plc.bandNow = some w ∧ t.plc.cfg = some g ∧ t.domOn domPL = true ∧ t.plcBusy = true := by
  refine ⟨.hostA, (put ({ live with plc := { live.plc with cfg := some ⟨256, 0, 0, []⟩, recover := true, waves := List.replicate 8 (some (List.replicate 96 0)) } }) .hostA 0xE02 0 (le 32 1)), ⟨256, 0, 0, []⟩, List.replicate 96 0, ?_⟩
  try dsimp only
  decide +kernel
theorem wit_PlacardPort_7 : ∃ (m : Master), ∃ (s : State), let t := s.taken m; let a := s.argsOf m; let v := BitVec.ofNat 256 (uAt 32 a 0); ∃ (g : PlcCfg), ∃ (w : Bytes), Accepts s m { code := 0x0E02, cls := 1, len := 32, args := [{ off := 0, n := 32 }] } ∧ ((∀ g ∈ t.plc.cfg, segTop v ≤ g.segments)) ∧ t.plc.cfg = some g ∧ t.pins.plcFaultN = true ∧ t.wave t.plc.bandNow = some w ∧ t.domOn domPL = true ∧ t.plcBusy = false ∧ ((∀ x ∈ t.plc.lastStart, x + 1000000000 ≤ t.time)) ∧ s.pendingCount m.code < 16 := by
  refine ⟨.hostA, (put ({ live with plc := { live.plc with cfg := some ⟨256, 0, 0, []⟩, waves := List.replicate 8 (some (List.replicate 96 0)) } }) .hostA 0xE02 0 (le 32 1)), ⟨256, 0, 0, []⟩, List.replicate 96 0, ?_⟩
  try dsimp only
  decide +kernel
theorem wit_PlacardPort_8 : ∃ (m : Master), ∃ (s : State), let t := s.taken m; let tb := s.takenBulk m; let a := s.argsOf m; Accepts s m { code := 0x0E03, cls := 1, bulk := some 0, len := 17, args := [{ off := 16, hi := 7 }] } ∧ BulkFits s m { code := 0x0E03, cls := 1, bulk := some 0, len := 17, args := [{ off := 16, hi := 7 }] } ∧ s.bulkLen m = 96 ∧ waveOk (tb.devRead (s.bulkAt m) 96) (byteAt a 16) = true ∧ ((∀ q ∈ t.plc.seq, q.band ≠ byteAt a 16)) ∧ t.opOn 0x0E03 = false ∧ s.pendingCount m.code < 16 := by
  refine ⟨.hostA, ((bulk 0xE03 0 96 [5]).devWrite 0x10000 [1, 0, 5, 0, 0, 0, 0, 0, 8]), ?_⟩
  try dsimp only
  decide +kernel
theorem wit_PlacardPort_9 : ∃ (s : State), ∃ (q : PlcSeq), s.plc.seq = some q ∧ q.committed = false ∧ s.domOn domPL = true ∧ s.nvmUp = true ∧ q.slot < s.plc.slots.length :=
  ⟨{ live with plc := { live.plc with seq := some { clearing := false, band := 4, clamped := false, bias := 1, frames := 8, target := 1, previous := 0, slot := 3, cfg := ⟨256, 1, 0, []⟩, wave := List.replicate 96 0 } } }, { clearing := false, band := 4, clamped := false, bias := 1, frames := 8, target := 1, previous := 0, slot := 3, cfg := ⟨256, 1, 0, []⟩, wave := List.replicate 96 0 }, by decide +kernel⟩
theorem wit_PlacardPort_10 : ∃ (s : State), s.plc.seq = none :=
  ⟨live, by decide +kernel⟩
theorem wit_PlacardPort_11 : ∃ (s : State), ∃ (q : PlcSeq), s.plc.seq = some q ∧ s.domOn domPL = true ∧ s.pins.plcFaultN = true ∧ q.committed = true ∧ q.latched ≠ 0 ∧ q.latched < q.frames :=
  ⟨{ live with plc := { live.plc with seq := some { clearing := false, band := 4, clamped := false, bias := 1, frames := 8, target := 1, previous := 0, slot := 3, committed := true, latched := 7, cfg := ⟨256, 1, 0, []⟩, wave := List.replicate 96 0 } } }, { clearing := false, band := 4, clamped := false, bias := 1, frames := 8, target := 1, previous := 0, slot := 3, committed := true, latched := 7, cfg := ⟨256, 1, 0, []⟩, wave := List.replicate 96 0 }, by decide +kernel⟩
theorem wit_PlacardPort_12 : ∃ (s : State), ∃ (q : PlcSeq), s.plc.seq = some q ∧ s.domOn domPL = true ∧ s.pins.plcFaultN = true ∧ q.committed = true ∧ q.latched ≠ 0 ∧ q.frames ≤ q.latched :=
  ⟨{ live with plc := { live.plc with seq := some { clearing := false, band := 4, clamped := false, bias := 1, frames := 8, target := 1, previous := 0, slot := 3, committed := true, latched := 8, cfg := ⟨256, 1, 0, []⟩, wave := List.replicate 96 0 } } }, { clearing := false, band := 4, clamped := false, bias := 1, frames := 8, target := 1, previous := 0, slot := 3, committed := true, latched := 8, cfg := ⟨256, 1, 0, []⟩, wave := List.replicate 96 0 }, by decide +kernel⟩
theorem wit_PlacardPort_14 : ∃ (s : State), s.domOn domPL = true :=
  ⟨{ live with plc := { live.plc with seq := some { clearing := false, band := 4, clamped := false, bias := 1, frames := 8, target := 1, previous := 0, slot := 3, cfg := ⟨256, 1, 0, []⟩, wave := List.replicate 96 0 } } }, by decide +kernel⟩
theorem wit_PlacardPort_15 : ∃ (s : State), s.domOn domPL = false :=
  ⟨{ live with pwr := { live.pwr with domains := [] } }, by decide +kernel⟩
theorem wit_PlacardPort_17 : ∃ (s : State), s.domOn domPL = true ∧ s.plc.seq = none ∧ s.plc.state = .waitWaveform ∧ s.plc.recover = false :=
  ⟨{ live with plc := { live.plc with state := .waitWaveform } }, by decide +kernel⟩
theorem wit_PlacardPort_18 : ∃ (s : State), ∃ (x : PlcSlot), s.tp.state = .running ∧ s.domOn domPL = true ∧ s.plc.seq = none ∧ s.plc.state ≠ .waitWaveform ∧ newestIntent s.plc.slots = some x ∧ x.done = x.seq :=
  ⟨{ live with plc := { live.plc with slots := live.plc.slots.set 3 { seq := 5, done := 5, valid := true, target := 9 } } }, { seq := 5, done := 5, valid := true, target := 9 }, by decide +kernel⟩
theorem wit_PlacardPort_19 : ∃ (s : State), s.plc.state = .waitWaveform ∧ s.domOn domPL = true ∧ s.plc.seq = none :=
  ⟨{ live with plc := { live.plc with state := .waitWaveform } }, by decide +kernel⟩
theorem wit_PlacardPort_20 : ∃ (s : State), s.plc.state ≠ .waitWaveform :=
  ⟨live, by decide +kernel⟩
theorem wit_AudioUnit_0 : ∃ (m : Master), ∃ (s : State), Accepts s m { code := 0x0F00, cls := 0 } :=
  ⟨.hostA, (cmd 0xF00 ([])), by decide +kernel⟩
theorem wit_AudioUnit_1 : ∃ (m : Master), ∃ (s : State), let a := s.argsOf m; let n := byteAt a 0; Accepts s m { code := 0x0F01, cls := 1, len := 4, args := [{ off := 0, hi := 5 }, { off := 1, mask := 1 }, { off := 2, hi := 1 }, { off := 3 }] } ∧ (¬ (n = 5 ∧ byteAt a 1 = 1)) ∧ ((byteAt a 3 = 16 ∨ byteAt a 3 = 24)) := by
  refine ⟨.hostA, (cmd 0xF01 ([5, 0, 1, 24])), ?_⟩
  try dsimp only
  decide +kernel
theorem wit_AudioUnit_2 : ∃ (m : Master), ∃ (s : State), let t := s.taken m; let a := s.argsOf m; let n := byteAt a 0; let src := (List.range 8).map fun i => byteAt a i; let gain := (List.range 40).map fun k => sext 8 (byteAt a (8 + k)); Accepts s m { code := 0x0F02, cls := 1, len := 48, args := [{ off := 0, n := 48 }] } ∧ ((∀ x ∈ src, x ≤ 35 ∧ (x < 32 → t.hasPort (x / 2) = true))) ∧ ((∀ g ∈ gain, g ≤ 48)) := by
  refine ⟨.hostA, (cmd 0xF02 ([35, 31] ++ List.replicate 6 0 ++ List.replicate 40 48)), ?_⟩
  try dsimp only
  decide +kernel
theorem wit_AudioUnit_3 : ∃ (m : Master), ∃ (s : State), let t := s.taken m; let a := s.argsOf m; let n := byteAt a 0; let d := s16At a 2; Accepts s m { code := 0x0F03, cls := 1, len := 4, args := [{ off := 0, hi := 7 }, { off := 2, n := 2 }] } ∧ d ≤ 2500 ∧ -2500 ≤ d ∧ (t.aIn n).rawDelay d ≤ 12000 := by
  refine ⟨.hostA, (cmd 0xF03 ([7, 0] ++ le 2 2500)), ?_⟩
  try dsimp only
  decide +kernel
theorem wit_AudioUnit_4 : ∃ (m : Master), ∃ (s : State), let t := s.taken m; let a := s.argsOf m; let n := byteAt a 0; Accepts s m { code := 0x0F04, cls := 1, len := 13, args := [{ off := 0, n := 5 }, { off := 8, n := 4 }, { off := 12, lo := 1, hi := 2 }] } ∧ a40At a 0 % 64 = 0 ∧ u32At a 8 % 64 = 0 ∧ 4096 ≤ u32At a 8 ∧ u32At a 8 ≤ 2 ^ 24 ∧ t.inRegion (a40At a 0) (u32At a 8) = true ∧ t.held (a40At a 0) (u32At a 8) = false := by
  refine ⟨.hostA, (cmd 0xF04 (le 5 0x10000 ++ [0, 0, 0] ++ le 4 4096 ++ [2])), ?_⟩
  try dsimp only
  decide +kernel
theorem wit_AudioUnit_5 : ∃ (m : Master), ∃ (s : State), let a := s.argsOf m; let n := byteAt a 0; Accepts s m { code := 0x0F05, cls := 1, len := 24, args := [{ off := 0, n := 24 }] } ∧ n % 2 = 0 := by
  refine ⟨.hostA, (cmd 0xF05 ([2])), ?_⟩
  try dsimp only
  decide +kernel
theorem wit_AudioUnit_6 : ∃ (s : State), s.domOn domAU = false :=
  ⟨{ live with pwr := { live.pwr with domains := [] } }, by decide +kernel⟩
theorem wit_AudioUnit_7 : ∃ (s : State), s.domOn domAU = true :=
  ⟨live, by decide +kernel⟩
theorem wit_AudioUnit_8 : ∃ (port : Nat), ∃ (s : State), ∃ (p : CamPort), p = s.cam.ports.getD port {} ∧ p.cfg.audioEn = true ∧ s.domOn (domRG port) = true ∧ 4 ≤ p.state ∧ s.domOn domAU = true ∧ port < s.cam.flows.length :=
  ⟨0, { live with cam := { live.cam with ports := live.cam.ports.set 0 { state := 4, cfg := { audioEn := true } } } }, { state := 4, cfg := { audioEn := true } }, by decide +kernel⟩
theorem wit_AudioUnit_11 : ∃ (source : Nat), ∃ (s : State), s.domOn domAU = true ∧ source ≠ 5 :=
  ⟨4, live, by decide +kernel⟩
theorem wit_AudioUnit_12 : ∃ (s : State), s.domOn domAU = true ∧ (s.aPort 5).rate96 = false ∧ (s.aPort 5).bits ≠ 16 :=
  ⟨live, by decide +kernel⟩
theorem wit_AudioUnit_13 : ∃ (input : Nat), ∃ (s : State), 480 ≤ (s.aIn input).underrun ∧ (s.aIn input).long = false :=
  ⟨2, { live with aud := { live.aud with inputs := live.aud.inputs.set 2 { underrun := 480 } } }, by decide +kernel⟩
theorem wit_AudioUnit_14 : ∃ (input : Nat), ∃ (s : State), (s.aIn input).underrun < 480 :=
  ⟨2, { live with aud := { live.aud with inputs := live.aud.inputs.set 2 { underrun := 479 } } }, by decide +kernel⟩
theorem wit_AudioUnit_15 : ∃ (port : Nat), ∃ (s : State), (s.aPort port).master = false :=
  ⟨1, { live with aud := { live.aud with ports := live.aud.ports.set 1 { master := false } } }, by decide +kernel⟩
theorem wit_AudioUnit_16 : ∃ (port : Nat), ∃ (s : State), (s.aPort port).master = true :=
  ⟨1, live, by decide +kernel⟩
theorem wit_AudioUnit_17 : ∃ (port : Nat), ∃ (s : State), ∃ (m : Bool), ∃ (r : Bool), ∃ (b : Nat), port < s.aud.ports.length ∧ (s.aPort port).next = some (m, r, b) :=
  ⟨1, { live with aud := { live.aud with ports := live.aud.ports.set 1 { next := some (false, true, 16) } } }, false, true, 16, by decide +kernel⟩
theorem wit_AudioUnit_18 : ∃ (s : State), s.aud.iecFrame = 0 ∧ s.domOn domAU = true :=
  ⟨{ live with aud := { live.aud with returnDue := true } }, by decide +kernel⟩
theorem wit_AudioUnit_19 : ∃ (s : State), s.aud.iecFrame ≠ 0 :=
  ⟨{ live with aud := { live.aud with iecFrame := 1 } }, by decide +kernel⟩
theorem wit_HousekeepingSettings_0 : ∃ (m : Master), ∃ (s : State), Accepts s m { code := 0x1000, cls := 0, len := 1, args := [{ off := 0, hi := 3 }] } :=
  ⟨.hostA, (cmd 0x1000 ([3])), by decide +kernel⟩
theorem wit_HousekeepingSettings_1 : ∃ (m : Master), ∃ (s : State), let a := s.argsOf m; let k := byteAt a 0; Accepts s m { code := 0x1001, cls := 1, len := 20, args := [{ off := 0 }, { off := 2, n := 18 }] } ∧ ((k < 24 ∨ k = 0xFF)) ∧ -880 ≤ s16At a 2 ∧ ((∀ i < 8, s16At a (2 + 2 * i) < s16At a (4 + 2 * i))) ∧ 1760 ≤ s16At a 18 ∧ s16At a 18 ≤ 2000 := by
  refine ⟨.hostA, (cmd 0x1001 ([23, 0] ++ le 2 (2 ^ 16 - 880) ++ (le 2 100 ++ le 2 200 ++ le 2 300 ++ le 2 400 ++ le 2 500 ++ le 2 600 ++ le 2 700) ++ le 2 1760)), ?_⟩
  try dsimp only
  decide +kernel
theorem wit_HousekeepingSettings_2 : ∃ (m : Master), ∃ (s : State), Accepts s m { code := 0x1002, cls := 0, len := 1, args := [{ off := 0, hi := 63 }] } :=
  ⟨.hostA, (cmd 0x1002 ([63])), by decide +kernel⟩
theorem wit_HousekeepingSettings_3 : ∃ (m : Master), ∃ (s : State), let t := s.taken m; let a := s.argsOf m; let k := byteAt a 0; let i := u16At a 2; Accepts s m { code := 0x1100, cls := 0, len := 4, args := [{ off := 0, hi := 7 }, { off := 2, n := 2 }] } ∧ t.hasTrim k i = true := by
  refine ⟨.hostA, (put ({ live with hk := { live.hk with cal := live.hk.cal.set 2 { trims := [5, 6] } } }) .hostA 0x1100 0 ([2, 0] ++ le 2 1)), ?_⟩
  try dsimp only
  decide +kernel
theorem wit_HousekeepingSettings_4 : ∃ (m : Master), ∃ (s : State), let t := s.taken m; let a := s.argsOf m; let k := byteAt a 0; let i := u16At a 2; Accepts s m { code := 0x1101, cls := 1, len := 4, args := [{ off := 0, hi := 7 }, { off := 2, n := 2 }] } ∧ ((i = 0xFFFF ∨ t.hasTrim k i = true)) ∧ (t.opOn 0x1101 fun x => byteAt x 0 == k) = true := by
  refine ⟨.hostA, (put ((withOp (mkOp 0x1101 ([2])))) .hostA 0x1101 0 ([2, 0] ++ le 2 0xFFFF)), ?_⟩
  try dsimp only
  decide +kernel
theorem wit_HousekeepingSettings_5 : ∃ (m : Master), ∃ (s : State), let t := s.taken m; let a := s.argsOf m; let k := byteAt a 0; let i := u16At a 2; Accepts s m { code := 0x1101, cls := 1, len := 4, args := [{ off := 0, hi := 7 }, { off := 2, n := 2 }] } ∧ ((i = 0xFFFF ∨ t.hasTrim k i = true)) ∧ (t.opOn 0x1101 fun x => byteAt x 0 == k) = false ∧ s.pendingCount m.code < 16 := by
  refine ⟨.hostA, (put ({ live with hk := { live.hk with cal := live.hk.cal.set 2 { trims := [5, 6] } } }) .hostA 0x1101 0 ([2, 0] ++ le 2 0xFFFF)), ?_⟩
  try dsimp only
  decide +kernel
theorem wit_HousekeepingSettings_6 : ∃ (m : Master), ∃ (s : State), let t := s.taken m; Accepts s m { code := 0x1102, cls := 1, len := 2, args := [{ off := 0, hi := 7 }, { off := 1, hi := 1 }] } ∧ t.mode.mode ≠ .maintenance := by
  refine ⟨.hostA, (cmd 0x1102 ([2, 1])), ?_⟩
  try dsimp only
  decide +kernel
theorem wit_HousekeepingSettings_7 : ∃ (m : Master), ∃ (s : State), let t := s.taken m; let a := s.argsOf m; let k := byteAt a 0; Accepts s m { code := 0x1102, cls := 1, len := 2, args := [{ off := 0, hi := 7 }, { off := 1, hi := 1 }] } ∧ t.mode.mode = .maintenance ∧ (t.opOn 0x1101 fun x => byteAt x 0 == k) = true := by
  refine ⟨.hostA, (put ({ (withOp (mkOp 0x1101 ([2]))) with mode := { mode := .maintenance } }) .hostA 0x1102 0 ([2, 1])), ?_⟩
  try dsimp only
  decide +kernel
theorem wit_HousekeepingSettings_8 : ∃ (m : Master), ∃ (s : State), let t := s.taken m; let a := s.argsOf m; let k := byteAt a 0; Accepts s m { code := 0x1102, cls := 1, len := 2, args := [{ off := 0, hi := 7 }, { off := 1, hi := 1 }] } ∧ t.mode.mode = .maintenance ∧ (t.opOn 0x1101 fun x => byteAt x 0 == k) = false := by
  refine ⟨.hostA, (put ({ live with mode := { mode := .maintenance } }) .hostA 0x1102 0 [7, 1]), ?_⟩
  try dsimp only
  decide +kernel
theorem wit_HousekeepingRuns_0 : ∃ (s : State), ∃ (d : Demand), ∃ (rest : List Demand), s.hk.demands = d :: rest ∧ s.hk.demandsUsed < 4 :=
  ⟨{ live with hk := { live.hk with demands := [⟨7, 1, 9⟩], demandsUsed := 3 } }, ⟨7, 1, 9⟩, [], by decide +kernel⟩
theorem wit_HousekeepingRuns_1 : ∃ (sensor : Nat), ∃ (s : State), (((s.sensor sensor).faulted = true ∨ s.pwr.phase = .trip ∨ 24 ≤ sensor)) ∧ sensor ≠ 0 :=
  ⟨24, live, by decide +kernel⟩
theorem wit_HousekeepingRuns_2 : ∃ (sensor : Nat), ∃ (s : State), (s.sensor sensor).faulted = false ∧ s.pwr.phase ≠ .trip ∧ sensor < 24 ∧ sensor ≠ 0 ∧ (s.sensor sensor).hit = true :=
  ⟨5, { live with hk := { live.hk with sensors := live.hk.sensors.set 5 { hit := true } } }, by decide +kernel⟩
theorem wit_HousekeepingRuns_3 : ∃ (sensor : Nat), ∃ (s : State), (s.sensor sensor).faulted = false ∧ s.pwr.phase ≠ .trip ∧ sensor < 24 ∧ sensor ≠ 0 ∧ (s.sensor sensor).hit = false :=
  ⟨5, live, by decide +kernel⟩
theorem wit_HousekeepingRuns_4 : ∃ (sensor : Nat), ∃ (s : State), (s.sensor sensor).faulted = false ∧ s.pwr.phase ≠ .trip ∧ sensor < 24 ∧ sensor ≠ 0 :=
  ⟨5, live, by decide +kernel⟩
theorem wit_HousekeepingRuns_5 : ∃ (s : State), s.hk.coolSince = none :=
  ⟨live, by decide +kernel⟩
theorem wit_HousekeepingRuns_6 : ∃ (s : State), ∃ (t0 : Nat), s.hk.coolSince = some t0 ∧ s.pwr.phase ≠ .trip :=
  ⟨{ live with hk := { live.hk with coolSince := some 5 } }, 5, by decide +kernel⟩
theorem wit_HousekeepingRuns_7 : ∃ (s : State), ∃ (t0 : Nat), s.hk.coolSince = some t0 ∧ s.pwr.phase = .trip ∧ s.pwr.lossSeq = false ∧ s.pins.pwrOk = true :=
  ⟨{ live with hk := { live.hk with coolSince := some 5 }, pwr := { live.pwr with phase := .trip, tripSeq := true } }, 5, by decide +kernel⟩
theorem wit_HousekeepingRuns_8 : ∃ (item : Nat), ∃ (index : Nat), ∃ (s : State), item < 8 ∧ s.hasTrim item index = true ∧ (s.hk.cal.getD item {}).held = false ∧ s.calRuns item = true :=
  ⟨2, 1, { live with hk := { live.hk with cal := live.hk.cal.set 2 { trims := [5, 6] } } }, by decide +kernel⟩
theorem wit_HousekeepingRuns_9 : ∃ (item : Nat), ∃ (s : State), (s.hk.cal.getD item {}).held = true :=
  ⟨2, { live with hk := { live.hk with cal := live.hk.cal.set 2 { trims := [5, 6], held := true } } }, by decide +kernel⟩
theorem wit_HousekeepingRuns_10 : ∃ (s : State), ((s.groupLost = true ∨ s.hottestRequest.2 ≠ s.hk.step)) :=
  ⟨{ live with hk := { live.hk with step := 1 } }, by decide +kernel⟩
theorem wit_HousekeepingRuns_11 : ∃ (s : State), s.groupLost = false ∧ s.hottestRequest.2 = s.hk.step :=
  ⟨live, by decide +kernel⟩
theorem wit_HousekeepingRuns_12 : ∃ (s : State), s.tp.state = .running ∧ s.lowHold = true ∧ s.hk.selfHeating = false :=
  ⟨{ live with hk := { live.hk with sensors := live.hk.sensors.set 5 { holds := [true, true, false, false, false, false, false, false] } } }, by decide +kernel⟩
theorem wit_HousekeepingRuns_13 : ∃ (s : State), s.lowHold = false :=
  ⟨live, by decide +kernel⟩
theorem wit_NvmStore_0 : ∃ (m : Master), ∃ (s : State), let a := s.argsOf m; let id := u16At a 16; Accepts s m { code := 0x1200, cls := 0, bulk := some 1, len := 18, args := [{ off := 16, n := 2 }] } ∧ BulkFits s m { code := 0x1200, cls := 0, bulk := some 1, len := 18, args := [{ off := 16, n := 2 }] } ∧ knownRecord id = true ∧ id ≠ 0x205 := by
  refine ⟨.hostA, (bulk 0x1200 1 4096 (le 2 0x40)), ?_⟩
  try dsimp only
  decide +kernel
theorem wit_NvmStore_1 : ∃ (m : Master), ∃ (s : State), let t := s.taken m; let tb := s.takenBulk m; let a := s.argsOf m; let id := u16At a 16; Accepts s m { code := 0x1201, cls := 1, bulk := some 0, len := 18, args := [{ off := 16, n := 2 }] } ∧ BulkFits s m { code := 0x1201, cls := 1, bulk := some 0, len := 18, args := [{ off := 16, n := 2 }] } ∧ ownerRecord id = true ∧ ((id = 2 → boardOk (tb.devRead (s.bulkAt m) (s.bulkLen m)) = true)) ∧ ((id = 0x206 → t.sec.fseal = false)) ∧ ((∀ o ∈ t.ctl.pendingOps, o.code = 0x1201 → o.aux ≠ id)) ∧ s.pendingCount m.code < 16 := by
  refine ⟨.hostA, (bulk 0x1201 0 64 (le 2 0x50)), ?_⟩
  try dsimp only
  decide +kernel
theorem wit_NvmStore_2 : ∃ (m : Master), ∃ (s : State), Accepts s m { code := 0x1202, cls := 0 } :=
  ⟨.hostA, (cmd 0x1202 ([])), by decide +kernel⟩
theorem wit_NvmStore_3 : ∃ (m : Master), ∃ (s : State), Accepts s m { code := 0x1400, cls := 0 } :=
  ⟨.hostA, (cmd 0x1400 ([])), by decide +kernel⟩
theorem wit_NvmStore_4 : ∃ (m : Master), ∃ (s : State), Accepts s m { code := 0x1401, cls := 0, bulk := some 1, len := 22, args := [{ off := 16, n := 4 }, { off := 20, n := 2 }] } ∧ BulkFits s m { code := 0x1401, cls := 0, bulk := some 1, len := 22, args := [{ off := 16, n := 4 }, { off := 20, n := 2 }] } :=
  ⟨.hostA, (bulk 0x1401 1 4096 (le 4 0 ++ le 2 8)), by decide +kernel⟩
theorem wit_NvmStore_5 : ∃ (m : Master), ∃ (s : State), Accepts s m { code := 0x1402, cls := 1, len := 4, args := [{ off := 0, n := 4, lo := 0xC1EA, hi := 0xC1EA }] } :=
  ⟨.hostA, (cmd 0x1402 (le 4 0xC1EA)), by decide +kernel⟩
theorem wit_NvmStore_6 : ∃ (record : Nat), ∃ (s : State), (s.record record).pending = none :=
  ⟨3, live, by decide +kernel⟩
theorem wit_NvmStore_7 : ∃ (record : Nat), ∃ (s : State), ∃ (p : Bytes), (s.record record).pending = some p ∧ s.tp.state = .running ∧ s.nvmUp = true ∧ ((record < 0x18 ∨ 0x20 ≤ record)) :=
  ⟨6, { live with nvm := { live.nvm with recs := [{ id := 6, pending := some [1, 2] }] } }, [1, 2], by decide +kernel⟩
theorem wit_NvmStore_8 : ∃ (record : Nat), ∃ (s : State), ∃ (p : Bytes), (s.record record).pending = some p ∧ s.tp.state = .running ∧ s.nvmUp = true ∧ 0x18 ≤ record ∧ record < 0x20 ∧ (s.hk.cal.getD (record - 0x18) {}).held = true :=
  ⟨0x1F, { live with nvm := { live.nvm with recs := [{ id := 0x1F, pending := some [1, 2] }] }, hk := { live.hk with cal := live.hk.cal.set 7 { held := true } } }, [1, 2], by decide +kernel⟩
theorem wit_NvmStore_9 : ∃ (record : Nat), ∃ (s : State), ∃ (p : Bytes), (s.record record).pending = some p ∧ s.tp.state = .running ∧ s.nvmUp = true ∧ 0x18 ≤ record ∧ record < 0x20 ∧ (s.hk.cal.getD (record - 0x18) {}).held = false :=
  ⟨0x18, { live with nvm := { live.nvm with recs := [{ id := 0x18, pending := some [1, 2] }] } }, [1, 2], by decide +kernel⟩
theorem wit_NvmStore_10 : ∃ (s : State), s.tp.state = .running ∧ s.nvmUp = true :=
  ⟨live, by decide +kernel⟩
theorem wit_NvmStore_11 : ∃ (s : State), s.nvmUp = false :=
  ⟨{ live with pwr := { live.pwr with phase := .lossWait } }, by decide +kernel⟩
theorem wit_NvmStore_13 : ∃ (s : State), s.nvmUp = true :=
  ⟨live, by decide +kernel⟩
theorem wit_SecurityCommands_0 : ∃ (m : Master), ∃ (s : State), Accepts s m { code := 0x1300, cls := 0 } :=
  ⟨.hostA, (cmd 0x1300 ([])), by decide +kernel⟩
theorem wit_SecurityCommands_1 : ∃ (m : Master), ∃ (s : State), let t := s.taken m; Accepts s m { code := 0x1301, cls := 0, bulk := some 1, len := 48, args := [{ off := 16, n := 32 }] } ∧ BulkFits s m { code := 0x1301, cls := 0, bulk := some 1, len := 48, args := [{ off := 16, n := 32 }] } ∧ 36864 ≤ s.bulkLen m ∧ t.opOn 0x1305 = false ∧ s.pendingCount m.code < 16 := by
  refine ⟨.hostA, (bulk 0x1301 1 36864 (List.replicate 32 7)), ?_⟩
  try dsimp only
  decide +kernel
theorem wit_SecurityCommands_2 : ∃ (m : Master), ∃ (s : State), let t := s.taken m; let a := s.argsOf m; Accepts s m { code := 0x1302, cls := 1, bulk := some 0, len := 17, args := [{ off := 16 }] } ∧ BulkFits s m { code := 0x1302, cls := 1, bulk := some 0, len := 17, args := [{ off := 16 }] } ∧ byteAt a 16 ≠ t.tp.slot ∧ byteAt a 16 ≤ 1 ∧ s.bulkLen m ≤ 24 * 2 ^ 20 ∧ t.secBusy = false ∧ s.pendingCount m.code < 16 := by
  refine ⟨.hostA, (bulk 0x1302 0 64 [1]), ?_⟩
  try dsimp only
  decide +kernel
theorem wit_SecurityCommands_3 : ∃ (m : Master), ∃ (s : State), let t := s.taken m; let a := s.argsOf m; Accepts s m { code := 0x1303, cls := 1, len := 1, args := [{ off := 0 }] } ∧ byteAt a 0 ≠ t.tp.slot ∧ byteAt a 0 ≤ 1 ∧ t.slotValid (byteAt a 0) = true ∧ t.secBusy = false ∧ t.sec.items.length < 16 ∧ s.pendingCount m.code < 16 := by
  refine ⟨.hostA, (put (live.setSlot 1 true (some 3)) .hostA 0x1303 0 [1]), ?_⟩
  try dsimp only
  decide +kernel
theorem wit_SecurityCommands_4 : ∃ (m : Master), ∃ (s : State), let t := s.taken m; Accepts s m { code := 0x1306, cls := 1, bulk := some 0, len := 17, args := [{ off := 16, hi := 1 }] } ∧ BulkFits s m { code := 0x1306, cls := 1, bulk := some 0, len := 17, args := [{ off := 16, hi := 1 }] } ∧ t.secBusy = false ∧ s.pendingCount m.code < 16 := by
  refine ⟨.hostA, (bulk 0x1306 0 64 [1]), ?_⟩
  try dsimp only
  decide +kernel
theorem wit_SecurityCommands_5 : ∃ (m : Master), ∃ (s : State), let t := s.taken m; let tb := s.takenBulk m; let b := tb.devRead (s.bulkAt m) (s.bulkLen m); let p := conPayloadBytes b; let key := slice p 16 48; Accepts s m { code := 0x1304, cls := 1, bulk := some 0, len := 16 } ∧ BulkFits s m { code := 0x1304, cls := 1, bulk := some 0, len := 16 } ∧ t.conCheck 3 b (s.bulkLen m) key [1, 2] = none ∧ conPayload b = 96 ∧ zeros p 64 32 = true ∧ ((key.all (· == 0) = true → t.ownerKeySet = true ∧ t.sec.fseal = false)) ∧ conBlocks b 1 = true ∧ u64At p 0 = t.id.serial.toNat ∧ u64At t.ownerKey 32 < u64At p 8 ∧ ((t.ownerKeySet = true ∨ slice b 64 48 = key)) ∧ t.secBusy = false ∧ s.pendingCount m.code < 16 := by
  refine ⟨.hostA, ((((((bulk 0x1304 0 16672 []).devWrite 0x10000 [0x31, 0x53, 0x56, 0x4C, 1, 0, 3, 1, 0, 0, 0, 0, 96]).devWrite 0x10018 [1]).devWrite 0x10040 [9]).devWrite 0x14080 [1]).devWrite 0x140A0 ([187, 33, 68, 7, 160, 147, 233, 253, 236, 31, 193, 84, 86, 195, 75, 11, 1, 177, 93, 217, 187, 132, 176, 196, 105, 255, 118, 178, 60, 15, 75, 120])).devWrite 0x140C8 [1, 0, 0, 0, 0, 0, 0, 0, 9], ?_⟩
  try dsimp only
  decide +kernel
theorem wit_SecurityCommands_6 : ∃ (m : Master), ∃ (s : State), ∃ (sealEn : Bool), let z := s.modPins fun p => { p with sealEn := sealEn }; Accepts z m { code := 0x1305, cls := 1, len := 4, args := [{ off := 0, n := 4, lo := 0x5EA10F1D, hi := 0x5EA10F1D }] } ∧ s.sec.fseal = false ∧ s.ownerKeySet = true ∧ s.secBusy = false ∧ s.pendingCount m.code < 16 ∧ sealEn = true := by
  refine ⟨.hostA, (put (live.writeRecord 0x202 (List.replicate 32 9 ++ List.replicate 8 0)) .hostA 0x1305 0 (le 4 0x5EA10F1D)), true, ?_⟩
  try dsimp only
  decide +kernel
theorem wit_SecurityCommands_7 : ∃ (m : Master), ∃ (s : State), ∃ (sealEn : Bool), let z := s.modPins fun p => { p with sealEn := sealEn }; Accepts z m { code := 0x1305, cls := 1, len := 4, args := [{ off := 0, n := 4, lo := 0x5EA10F1D, hi := 0x5EA10F1D }] } ∧ s.sec.fseal = false ∧ s.ownerKeySet = true ∧ s.secBusy = false ∧ s.pendingCount m.code < 16 ∧ sealEn = false := by
  refine ⟨.hostA, (put (live.writeRecord 0x202 (List.replicate 32 9 ++ List.replicate 8 0)) .hostA 0x1305 0 (le 4 0x5EA10F1D)), false, ?_⟩
  try dsimp only
  decide +kernel
theorem wit_ServiceCommands_0 : ∃ (m : Master), ∃ (s : State), let t := s.taken m; let d := u16At (s.argsOf m) 0; t.hasDomain d = true ∧ s.pendingCount m.code < 16 ∧ Accepts s m { code := 0x1500, cls := 0, len := 2, args := [svcArg] } := by
  refine ⟨.hostA, (cmd 0x1500 (le 2 58)), ?_⟩
  try dsimp only
  decide +kernel
theorem wit_ServiceCommands_1 : ∃ (m : Master), ∃ (s : State), let t := s.taken m; let d := u16At (s.argsOf m) 0; t.hasDomain d = true ∧ s.pendingCount m.code < 16 ∧ Accepts s m { code := 0x1501, cls := 1, len := 2, args := [svcArg] } ∧ t.svcBusy d = false ∧ t.drainRefused d = false := by
  refine ⟨.hostA, (cmd 0x1501 (le 2 29)), ?_⟩
  try dsimp only
  decide +kernel
theorem wit_ServiceCommands_2 : ∃ (m : Master), ∃ (s : State), let t := s.taken m; let d := u16At (s.argsOf m) 0; t.hasDomain d = true ∧ s.pendingCount m.code < 16 ∧ Accepts s m { code := 0x1502, cls := 1, len := 2, args := [svcArg] } ∧ t.svcBusy d = false ∧ (t.dom d).service ≠ 0 := by
  refine ⟨.hostA, (put ({ live with pwr := { live.pwr with domains := live.pwr.domains.set 29 { on := false, service := 1 } } }) .hostA 0x1502 0 (le 2 29)), ?_⟩
  try dsimp only
  decide +kernel
theorem wit_ServiceCommands_3 : ∃ (m : Master), ∃ (s : State), let t := s.taken m; let d := u16At (s.argsOf m) 0; t.hasDomain d = true ∧ s.pendingCount m.code < 16 ∧ Accepts s m { code := 0x1501, cls := 1, len := 2, args := [svcArg] } ∧ ((t.svcBusy d = true ∨ t.drainRefused d = true)) := by
  refine ⟨.hostA, (put ((withOp (mkOp 0x1501 (le 2 29)))) .hostA 0x1501 0 (le 2 29)), ?_⟩
  try dsimp only
  decide +kernel
theorem wit_ServiceCommands_4 : ∃ (m : Master), ∃ (s : State), let t := s.taken m; let d := u16At (s.argsOf m) 0; t.hasDomain d = true ∧ s.pendingCount m.code < 16 ∧ Accepts s m { code := 0x1502, cls := 1, len := 2, args := [svcArg] } ∧ ((t.svcBusy d = true ∨ (t.dom d).service = 0)) := by
  refine ⟨.hostA, (cmd 0x1502 (le 2 29)), ?_⟩
  try dsimp only
  decide +kernel
theorem wit_ServiceCommands_5 : ∃ (m : Master), ∃ (s : State), let t := s.taken m; let d := u16At (s.argsOf m) 0; t.hasDomain d = true ∧ s.pendingCount m.code < 16 ∧ Accepts s m { code := 0x1503, cls := 1, len := 2, args := [svcArg] } ∧ ((t.svcBusy d = true ∨ (t.dom d).service = 0)) := by
  refine ⟨.hostA, (cmd 0x1503 (le 2 29)), ?_⟩
  try dsimp only
  decide +kernel
theorem wit_ServiceCommands_6 : ∃ (m : Master), ∃ (s : State), let t := s.taken m; let d := u16At (s.argsOf m) 0; t.hasDomain d = true ∧ s.pendingCount m.code < 16 ∧ Accepts s m { code := 0x1504, cls := 1, len := 2, args := [svcArg] } ∧ (t.dom d).service ≠ 3 := by
  refine ⟨.hostA, (cmd 0x1504 (le 2 29)), ?_⟩
  try dsimp only
  decide +kernel
theorem wit_ServiceCommands_7 : ∃ (m : Master), ∃ (s : State), let t := s.taken m; let d := u16At (s.argsOf m) 0; t.hasDomain d = true ∧ s.pendingCount m.code < 16 ∧ Accepts s m { code := 0x1503, cls := 1, len := 2, args := [svcArg] } ∧ t.svcBusy d = false ∧ (t.dom d).service ≠ 0 := by
  refine ⟨.hostA, (put ({ live with pwr := { live.pwr with domains := live.pwr.domains.set 29 { on := true, service := 1 } } }) .hostA 0x1503 0 (le 2 29)), ?_⟩
  try dsimp only
  decide +kernel
theorem wit_ServiceCommands_8 : ∃ (m : Master), ∃ (s : State), let t := s.taken m; let d := u16At (s.argsOf m) 0; t.hasDomain d = true ∧ s.pendingCount m.code < 16 ∧ Accepts s m { code := 0x1504, cls := 1, len := 2, args := [svcArg] } ∧ t.svcBusy d = false ∧ (t.dom d).service = 3 := by
  refine ⟨.hostA, (put ({ live with pwr := { live.pwr with domains := live.pwr.domains.set 29 { on := true, service := 3 } } }) .hostA 0x1504 0 (le 2 29)), ?_⟩
  try dsimp only
  decide +kernel
theorem wit_ServiceCommands_9 : ∃ (s : State), let a := s.argsOf .svc; s.tp.state = .recovery ∧ s.front 2 0x1302 = true ∧ ({ code := 0x1302, cls := 0, bulk := some 0, len := 25, args := [{ off := 16, hi := 1 }, { off := 20, n := 4 }, { off := 24, hi := 1 }] } : Cmd).argError (s.frontSlot 2) a = none ∧ s.bulkAt .svc = 0 ∧ 1 ≤ s.bulkLen .svc ∧ s.bulkLen .svc ≤ 2 ^ 20 ∧ u32At a 20 % 65536 = 0 ∧ u32At a 20 + s.bulkLen .svc ≤ slotSize ∧ byteAt a 24 = 0 := by
  refine ⟨(put ({ live with tp := { live.tp with state := .recovery } }) .svc 0x1302 1 (le 5 0 ++ [0, 0, 0] ++ le 4 65536 ++ le 4 0 ++ [1, 0, 0, 0] ++ le 4 65536 ++ [0])), ?_⟩
  try dsimp only
  decide +kernel
theorem wit_ServiceCommands_10 : ∃ (s : State), let a := s.argsOf .svc; let t := s.taken .svc; s.tp.state = .recovery ∧ s.front 2 0x1303 = true ∧ ({ code := 0x1303, cls := 0, len := 1, args := [{ off := 0, hi := 1 }] } : Cmd).argError (s.frontSlot 2) a = none ∧ t.slotValid (byteAt a 0) = true := by
  refine ⟨(put { live.setSlot 1 true (some 3) with tp := { live.tp with state := .recovery } } .svc 0x1303 0 [1]), ?_⟩
  try dsimp only
  decide +kernel
theorem wit_ServiceCommands_11 : ∃ (s : State), ∃ (m : Master), ∃ (code : Nat), s.front m.code code = true ∧ ((s.tp.state = .running → code ∉ definedCodes)) ∧ ((s.tp.state = .recovery → m = .svc → code ≠ 0 ∧ code ≠ 6 ∧ code ≠ 0x1300 ∧ code ≠ 0x1302 ∧ code ≠ 0x1303)) ∧ ((s.tp.state = .running ∨ s.tp.state = .recovery)) :=
  ⟨(put ({ live with tp := { live.tp with state := .recovery } }) .svc 0x100 0 []), .svc, 0x100, by decide +kernel⟩
theorem wit_ClaimsOfOwnership_0 : ∃ (m : Master), ∃ (s : State), s.portLive m.code = false :=
  ⟨.svc, { live with pins := { live.pins with svcPresentN := true } }, by decide +kernel⟩
theorem wit_ClaimsOfOwnership_1 : ∃ (m : Master), ∃ (token : W32), ∃ (s : State), s.portLive m.code = true ∧ ((s.own.owner = 7 ∨ s.time < s.own.hbDeadline)) ∧ ((∀ h ∈ s.own.handover, s.time < h.deadline)) ∧ m ≠ .safe ∧ token ≠ 0 ∧ ((s.own.owner = 7 ∨ s.own.owner = m.code)) :=
  ⟨.svc, 8, { live with own := { live.own with owner := 7 } }, by decide +kernel⟩
theorem wit_ClaimsOfOwnership_2 : ∃ (m : Master), ∃ (token : W32), ∃ (s : State), ∃ (h : Handover), s.portLive m.code = true ∧ ((s.own.owner = 7 ∨ s.time < s.own.hbDeadline)) ∧ ((∀ h ∈ s.own.handover, s.time < h.deadline)) ∧ m ≠ .safe ∧ token ≠ 0 ∧ s.own.owner ≠ 7 ∧ s.own.owner ≠ m.code ∧ s.own.handover = some h ∧ h.target = m.code :=
  ⟨.svc, 8, { live with own := { live.own with handover := some ⟨2, 500⟩ } }, ⟨2, 500⟩, by decide +kernel⟩
theorem wit_ClaimsOfOwnership_3 : ∃ (m : Master), ∃ (token : W32), ∃ (s : State), s.portLive m.code = true ∧ ((s.own.owner = 7 ∨ s.time < s.own.hbDeadline)) ∧ ((∀ h ∈ s.own.handover, s.time < h.deadline)) ∧ m ≠ .safe ∧ token ≠ 0 ∧ s.own.owner ≠ 7 ∧ s.own.owner ≠ m.code ∧ ((∀ h ∈ s.own.handover, h.target ≠ m.code)) :=
  ⟨.svc, 8, { live with own := { live.own with handover := some ⟨1, 500⟩ } }, by decide +kernel⟩
theorem wit_ClaimsOfOwnership_4 : ∃ (m : Master), ∃ (token : W32), ∃ (s : State), s.portLive m.code = true ∧ ((s.own.owner = 7 ∨ s.time < s.own.hbDeadline)) ∧ ((∀ h ∈ s.own.handover, s.time < h.deadline)) ∧ m ≠ .safe ∧ token = 0 :=
  ⟨.svc, 0, live, by decide +kernel⟩
theorem wit_ClaimsOfOwnership_5 : ∃ (m : Master), ∃ (s : State), s.portLive m.code = true ∧ ((s.own.owner = 7 ∨ s.time < s.own.hbDeadline)) ∧ ((∀ h ∈ s.own.handover, s.time < h.deadline)) ∧ m = .safe :=
  ⟨.safe, live, by decide +kernel⟩
theorem wit_ClaimsOfOwnership_6 : ∃ (s : State), let now := (s.time / 1000000 + 1) * 1000000; s.own.owner = 7 ∧ ((∀ h ∈ s.own.handover, now < h.deadline)) := by
  refine ⟨{ live with own := { live.own with owner := 7, claims := [⟨2, 9, 0⟩, ⟨0, 8, 0⟩] } }, ?_⟩
  try dsimp only
  decide +kernel
theorem wit_HoldingOwnership_0 : ∃ (m : Master), ∃ (token : W32), ∃ (s : State), m ≠ .safe ∧ s.portLive m.code = true ∧ ((s.own.owner = 7 ∨ s.time < s.own.hbDeadline)) ∧ s.own.owner = m.code ∧ s.own.token = token :=
  ⟨.hostA, 7, live, by decide +kernel⟩
theorem wit_HoldingOwnership_1 : ∃ (m : Master), ∃ (token : W32), ∃ (s : State), m ≠ .safe ∧ s.portLive m.code = true ∧ ((s.own.owner = 7 ∨ s.time < s.own.hbDeadline)) ∧ s.own.owner = m.code ∧ s.own.token ≠ token :=
  ⟨.hostA, 8, live, by decide +kernel⟩
theorem wit_HoldingOwnership_2 : ∃ (m : Master), ∃ (s : State), m ≠ .safe ∧ s.portLive m.code = true ∧ ((s.own.owner = 7 ∨ s.time < s.own.hbDeadline)) ∧ s.own.owner ≠ m.code :=
  ⟨.svc, live, by decide +kernel⟩
theorem wit_HoldingOwnership_3 : ∃ (m : Master), ∃ (s : State), m ≠ .safe ∧ s.portLive m.code = true ∧ ((s.own.owner = 7 ∨ s.time < s.own.hbDeadline)) ∧ s.own.owner ≠ 7 :=
  ⟨.svc, live, by decide +kernel⟩
theorem wit_HoldingOwnership_4 : ∃ (m : Master), ∃ (s : State), m ≠ .safe ∧ s.portLive m.code = true ∧ ((s.own.owner = 7 ∨ s.time < s.own.hbDeadline)) ∧ s.own.owner = m.code :=
  ⟨.hostA, live, by decide +kernel⟩
theorem wit_HoldingOwnership_6 : ∃ (m : Master), ∃ (s : State), ∃ (at_ : Nat), m ≠ .safe ∧ s.portLive m.code = true ∧ s.own.owner = m.code ∧ s.time < s.own.hbDeadline ∧ ((∀ h ∈ s.own.handover, s.time < h.deadline)) ∧ s.own.pairs.getD m.code none = some (s.own.token, at_) ∧ s.time ≤ at_ + 1000000 :=
  ⟨.hostA, { live with own := { live.own with pairs := [some (7, 0), none, none, none] } }, 0, by decide +kernel⟩
theorem wit_HoldingOwnership_7 : ∃ (m : Master), ∃ (value : W32), ∃ (s : State), ∃ (at_ : Nat), let k := value.toNat % 8; m ≠ .safe ∧ s.portLive m.code = true ∧ s.own.owner = m.code ∧ s.time < s.own.hbDeadline ∧ ((∀ h ∈ s.own.handover, s.time < h.deadline)) ∧ s.own.pairs.getD m.code none = some (s.own.token, at_) ∧ s.time ≤ at_ + 1000000 ∧ k = 7 := by
  refine ⟨.hostA, 7, { live with own := { live.own with pairs := [some (7, 0), none, none, none] } }, 0, ?_⟩
  try dsimp only
  decide +kernel
theorem wit_HoldingOwnership_8 : ∃ (m : Master), ∃ (value : W32), ∃ (s : State), ∃ (at_ : Nat), let k := value.toNat % 8; m ≠ .safe ∧ s.portLive m.code = true ∧ s.own.owner = m.code ∧ s.time < s.own.hbDeadline ∧ ((∀ h ∈ s.own.handover, s.time < h.deadline)) ∧ s.own.pairs.getD m.code none = some (s.own.token, at_) ∧ s.time ≤ at_ + 1000000 ∧ k ≠ m.code ∧ s.canOwn k = true := by
  refine ⟨.hostA, 2, { live with own := { live.own with pairs := [some (7, 0), none, none, none] } }, 0, ?_⟩
  try dsimp only
  decide +kernel
theorem wit_HoldingOwnership_9 : ∃ (m : Master), ∃ (value : W32), ∃ (s : State), ∃ (at_ : Nat), let k := value.toNat % 8; m ≠ .safe ∧ s.portLive m.code = true ∧ s.own.owner = m.code ∧ s.time < s.own.hbDeadline ∧ ((∀ h ∈ s.own.handover, s.time < h.deadline)) ∧ s.own.pairs.getD m.code none = some (s.own.token, at_) ∧ s.time ≤ at_ + 1000000 ∧ k ≠ 7 ∧ ((k = m.code ∨ s.canOwn k = false)) := by
  refine ⟨.hostA, 3, { live with own := { live.own with pairs := [some (7, 0), none, none, none] } }, 0, ?_⟩
  try dsimp only
  decide +kernel
theorem wit_HoldingOwnership_10 : ∃ (m : Master), ∃ (s : State), ∃ (at_ : Nat), ∃ (h : Handover), m ≠ .safe ∧ s.portLive m.code = true ∧ s.own.owner = m.code ∧ s.time < s.own.hbDeadline ∧ ((∀ h ∈ s.own.handover, s.time < h.deadline)) ∧ s.own.pairs.getD m.code none = some (s.own.token, at_) ∧ s.time ≤ at_ + 1000000 ∧ s.own.handover = some h :=
  ⟨.hostA, { live with own := { live.own with pairs := [some (7, 0), none, none, none], handover := some ⟨2, 500⟩ } }, 0, ⟨2, 500⟩, by decide +kernel⟩
theorem wit_HoldingOwnership_11 : ∃ (s : State), s.pins.svcPresentN = true :=
  ⟨{ live with pins := { live.pins with svcPresentN := true } }, by decide +kernel⟩
theorem wit_HoldingOwnership_12 : ∃ (s : State), s.pins.svcPresentN = false :=
  ⟨{ live with pins := { live.pins with svcPresentN := false } }, by decide +kernel⟩
theorem wit_HoldingOwnership_13 : ∃ (s : State), ∃ (level : Bool), s.pins.svcPresentN = level :=
  ⟨live, false, by decide +kernel⟩
theorem wit_ReleaseMakesOwnershipVacant_0 : ∃ (m : Master), ∃ (value : W32), ∃ (at_ : Nat), ∃ (s : State), s.portLive m.code = true ∧ m ≠ .safe ∧ s.own.owner = m.code ∧ s.time < s.own.hbDeadline ∧ ((∀ h ∈ s.own.handover, s.time < h.deadline)) ∧ s.own.pairs.getD m.code none = some (s.own.token, at_) ∧ s.time ≤ at_ + 1000000 ∧ value.toNat % 8 = 7 :=
  ⟨.hostA, 7, 0, { live with own := { live.own with pairs := [some (7, 0), none, none, none] } }, by decide +kernel⟩
theorem wit_SafeControlBelongsToSafe_0 : ∃ (m : Master), m = .safe :=
  ⟨.safe, by decide +kernel⟩
theorem wit_SafeControlBelongsToSafe_5 : ∃ (m : Master), ∃ (i : Instr), i ∈ [Instr.forceSafeViewSet m, .forceSafeViewClear m, .hwRelease m, .alarmToneOn m, .alarmToneOff m] ∧ m ≠ .safe :=
  ⟨.hostA, .forceSafeViewSet .hostA, by decide +kernel⟩
theorem wit_EveryProducerFollowsOneRule_9 : ∃ (m : Master), ∃ (v : W32), ∃ (s : State), let b := s.box m.code; let w : W8 := v.setWidth 8; s.portLive m.code = true ∧ s.tp.state = .running ∧ w ≠ b.producer ∧ (w - b.responded).toNat ≤ 32 ∧ (w - b.producer).toNat ≤ (w - b.responded).toNat := by
  refine ⟨.hostA, 32, live, ?_⟩
  try dsimp only
  decide +kernel
theorem wit_EveryProducerFollowsOneRule_10 : ∃ (m : Master), ∃ (v : W32), ∃ (s : State), let b := s.box m.code; let w : W8 := v.setWidth 8; s.portLive m.code = true ∧ s.tp.state = .running ∧ w = b.producer := by
  refine ⟨.hostA, 0, live, ?_⟩
  try dsimp only
  decide +kernel
theorem wit_EveryProducerFollowsOneRule_11 : ∃ (m : Master), ∃ (v : W32), ∃ (s : State), let b := s.box m.code; let w : W8 := v.setWidth 8; s.portLive m.code = true ∧ s.tp.state = .running ∧ w ≠ b.producer ∧ ((32 < (w - b.responded).toNat ∨ (w - b.responded).toNat < (w - b.producer).toNat)) := by
  refine ⟨.hostA, 33, live, ?_⟩
  try dsimp only
  decide +kernel
theorem wit_EveryProducerFollowsOneRule_12 : ∃ (m : Master), ∃ (s : State), ∃ (k : Nat), s.portLive m.code = true ∧ s.tp.state = .running ∧ k ≠ m.code :=
  ⟨.hostA, live, 2, by decide +kernel⟩
theorem wit_EventRingControl_0 : ∃ (m : Master), ∃ (s : State), s.portLive m.code = false :=
  ⟨.svc, { live with pins := { live.pins with svcPresentN := true } }, by decide +kernel⟩
theorem wit_EventRingControl_2 : ∃ (m : Master), ∃ (v : W32), ∃ (s : State), let r := s.ring m.code; s.portLive m.code = true ∧ (v - r.consumer).toNat ≤ (r.producer - r.consumer).toNat := by
  refine ⟨.hostA, 3, { live with ctl := { live.ctl with rings := live.ctl.rings.set 0 { producer := 3, consumer := 1 } } }, ?_⟩
  try dsimp only
  decide +kernel
theorem wit_EventRingControl_3 : ∃ (m : Master), ∃ (v : W32), ∃ (s : State), let r := s.ring m.code; s.portLive m.code = true ∧ (r.producer - r.consumer).toNat < (v - r.consumer).toNat := by
  refine ⟨.hostA, 4, { live with ctl := { live.ctl with rings := live.ctl.rings.set 0 { producer := 3, consumer := 1 } } }, ?_⟩
  try dsimp only
  decide +kernel
theorem wit_EventRingControl_4 : ∃ (m : Master), ∃ (s : State), ∃ (k : Nat), s.portLive m.code = true ∧ k ≠ m.code :=
  ⟨.hostA, { live with ctl := { live.ctl with rings := live.ctl.rings.set 0 { producer := 3, consumer := 1 } } }, 1, by decide +kernel⟩
theorem wit_EventRingControl_5 : ∃ (m : Master), ∃ (s : State), ∃ (k : Nat), s.portLive m.code = true ∧ s.masterExists k = true :=
  ⟨.hostA, { live with ctl := { live.ctl with rings := live.ctl.rings.set 0 { producer := 3, consumer := 1 } } }, 0, by decide +kernel⟩
theorem wit_EventRingControl_6 : ∃ (s : State), ∃ (k : Nat), (s.ring k).heldOff = true :=
  ⟨{ live with ctl := { live.ctl with rings := live.ctl.rings.set 0 { heldOff := true } } }, 0, by decide +kernel⟩
theorem wit_OperationsEnd_0 : ∃ (m : Master), ∃ (pid : Nat), ∃ (s : State), ∃ (o : PendingOp), s.tp.state = .running ∧ s.findOp m.code pid = some o ∧ s.poisoned (a40At o.args 0) (u32At o.args 8) = false ∧ o.code = 0x0404 :=
  ⟨.hostA, 1, withOp (mkOp 0x0404 (le 5 0x10000 ++ [0, 0, 0] ++ le 4 64)), mkOp 0x0404 (le 5 0x10000 ++ [0, 0, 0] ++ le 4 64), by decide +kernel⟩
theorem wit_OperationsEnd_1 : ∃ (m : Master), ∃ (pid : Nat), ∃ (s : State), ∃ (o : PendingOp), s.tp.state = .running ∧ s.findOp m.code pid = some o ∧ s.poisoned (a40At o.args 0) (u32At o.args 8) = false ∧ o.code = 0x0E03 :=
  ⟨.hostA, 1, withOp (mkOp 0x0E03 ([0])), mkOp 0x0E03 ([0]), by decide +kernel⟩
theorem wit_OperationsEnd_2 : ∃ (m : Master), ∃ (pid : Nat), ∃ (s : State), ∃ (o : PendingOp), s.tp.state = .running ∧ s.findOp m.code pid = some o ∧ s.poisoned (a40At o.args 0) (u32At o.args 8) = false ∧ o.code = 0x1201 :=
  ⟨.hostA, 1, withOp (mkOp 0x1201 (le 5 0x10000 ++ [0, 0, 0] ++ le 4 64 ++ le 4 0 ++ le 2 0x40)), mkOp 0x1201 (le 5 0x10000 ++ [0, 0, 0] ++ le 4 64 ++ le 4 0 ++ le 2 0x40), by decide +kernel⟩
theorem wit_OperationsEnd_3 : ∃ (m : Master), ∃ (pid : Nat), ∃ (s : State), ∃ (o : PendingOp), s.tp.state = .running ∧ s.findOp m.code pid = some o ∧ s.poisoned (a40At o.args 0) (u32At o.args 8) = false ∧ o.code = 0x1304 :=
  ⟨.hostA, 1, withOp (mkOp 0x1304 (le 5 0x10000 ++ [0, 0, 0] ++ le 4 64)), mkOp 0x1304 (le 5 0x10000 ++ [0, 0, 0] ++ le 4 64), by decide +kernel⟩
theorem wit_OperationsEnd_4 : ∃ (m : Master), ∃ (pid : Nat), ∃ (s : State), ∃ (o : PendingOp), s.tp.state = .running ∧ s.findOp m.code pid = some o ∧ s.poisoned (a40At o.args 0) (u32At o.args 8) = true ∧ o.code = 0x1201 :=
  ⟨.hostA, 1, { withOp (mkOp 0x1201 (le 5 0x10000 ++ [0, 0, 0] ++ le 4 64 ++ le 4 0 ++ le 2 0x40)) with mem := { live.mem with chans := List.replicate 12 { state := 3, inMap := true, poisonList := [4096] } } }, mkOp 0x1201 (le 5 0x10000 ++ [0, 0, 0] ++ le 4 64 ++ le 4 0 ++ le 2 0x40), by decide +kernel⟩
theorem wit_OperationsEnd_5 : ∃ (m : Master), ∃ (pid : Nat), ∃ (s : State), ∃ (o : PendingOp), s.tp.state = .running ∧ s.findOp m.code pid = some o ∧ o.code = 0x1101 ∧ byteAt o.args 0 ≠ 1 ∧ u16At o.args 2 ≠ 0xFFFF :=
  ⟨.hostA, 1, withOp (mkOp 0x1101 ([2, 0, 1, 0])), mkOp 0x1101 ([2, 0, 1, 0]), by decide +kernel⟩
theorem wit_OperationsEnd_6 : ∃ (m : Master), ∃ (pid : Nat), ∃ (s : State), ∃ (o : PendingOp), s.tp.state = .running ∧ s.findOp m.code pid = some o ∧ o.code = 0x1301 :=
  ⟨.hostA, 1, withOp (mkOp 0x1301 (List.replicate 48 7)), mkOp 0x1301 (List.replicate 48 7), by decide +kernel⟩
theorem wit_OperationsEnd_7 : ∃ (m : Master), ∃ (pid : Nat), ∃ (s : State), ∃ (o : PendingOp), s.tp.state = .running ∧ s.findOp m.code pid = some o ∧ o.code ≠ 0x1303 ∧ o.code ≠ 0x0C02 ∧ o.code ≠ 0x0201 :=
  ⟨.hostA, 1, withOp (mkOp 0x1502 ([29, 0])), mkOp 0x1502 ([29, 0]), by decide +kernel⟩
theorem wit_RegisterAndMemoryAccess_0 : ∃ (m : Master), ∃ (s : State), s.portLive m.code = false :=
  ⟨.svc, { live with pins := { live.pins with svcPresentN := true } }, by decide +kernel⟩
theorem wit_RegisterAndMemoryAccess_1 : ∃ (m : Master), ∃ (s : State), s.portLive m.code = true :=
  ⟨.hostA, live, by decide +kernel⟩
theorem wit_RegisterAndMemoryAccess_2 : ∃ (m : Master), ∃ (s : State), s.portLive m.code = true ∧ 2 ≤ m.code :=
  ⟨.svc, live, by decide +kernel⟩
theorem wit_RegisterAndMemoryAccess_5 : ∃ (m : Master), ∃ (s : State), s.portLive m.code = true ∧ s.isOwner m.code = true :=
  ⟨.hostA, live, by decide +kernel⟩
theorem wit_RegisterAndMemoryAccess_6 : ∃ (m : Master), ∃ (s : State), ∃ (off : Nat), off ∈ [0x40, 0xF48, 0x3F008, 0x4F008, 0x50008] ∧ s.portLive m.code = true ∧ s.isOwner m.code = false :=
  ⟨.svc, live, 0x4F008, by decide +kernel⟩
theorem wit_RegisterAndMemoryAccess_7 : ∃ (m : Master), ∃ (addr : Nat), ∃ (data : List W8), ∃ (s : State), s.portLive m.code = true ∧ data ≠ [] ∧ s.isOwner m.code = true ∧ s.inMemory addr data.length = true ∧ s.permanent addr data.length = none ∧ s.held addr data.length = false ∧ s.firstOff addr data.length = none :=
  ⟨.hostA, 0x10000, [1, 2], live, by decide +kernel⟩
theorem wit_RegisterAndMemoryAccess_8 : ∃ (m : Master), ∃ (data : List W8), ∃ (s : State), s.portLive m.code = true ∧ data ≠ [] ∧ s.isOwner m.code = false :=
  ⟨.svc, [1, 2], live, by decide +kernel⟩
theorem wit_RegisterAndMemoryAccess_9 : ∃ (m : Master), ∃ (addr : Nat), ∃ (data : List W8), ∃ (s : State), s.portLive m.code = true ∧ data ≠ [] ∧ s.isOwner m.code = true ∧ s.inMemory addr data.length = true ∧ s.permanent addr data.length = none ∧ s.held addr data.length = true ∧ s.leases.allow = false :=
  ⟨.hostA, 0x10040, [1, 2], { live with ctl := { live.ctl with bulkHolds := [⟨0, 1, 0x10000, 128⟩] } }, by decide +kernel⟩
theorem wit_RegisterAndMemoryAccess_10 : ∃ (m : Master), ∃ (addr : Nat), ∃ (data : List W8), ∃ (s : State), ∃ (n : Nat), s.portLive m.code = true ∧ data ≠ [] ∧ m.code < 2 ∧ s.firstOff addr n = none :=
  ⟨.hostA, 0x10000, [1], live, 16, by decide +kernel⟩
theorem wit_RegisterAndMemoryAccess_11 : ∃ (m : Master), ∃ (addr : Nat), ∃ (data : List W8), ∃ (s : State), ∃ (n : Nat), ∃ (b : Nat), ∃ (d : Nat), s.portLive m.code = true ∧ data ≠ [] ∧ m.code < 2 ∧ s.firstOff addr n = some (b, d) :=
  ⟨.hostA, 0x10000, [1, 2], { live with pwr := { live.pwr with domains := live.pwr.domains.take 17 } }, 4, 0x10000, 27, by decide +kernel⟩
theorem wit_SerialPorts_0 : ∃ (a : Nat), ∃ (d : List W8), ∃ (s : State), a < 2 ^ 32 ∧ d.length = 4 ∧ s.pins.svcPresentN = true :=
  ⟨0x28008, [1, 2, 3, 4], { live with pins := { live.pins with svcPresentN := true } }, by decide +kernel⟩
theorem wit_SerialPorts_3 : ∃ (a : Nat), ∃ (d : List W8), ∃ (s : State), a < 2 ^ 32 ∧ d.length = 4 ∧ s.pins.svcPresentN = false :=
  ⟨2 ^ 32 - 1, [1, 2, 3, 4], { live with pins := { live.pins with svcPresentN := false } }, by decide +kernel⟩
theorem wit_SerialPorts_6 : ∃ (a : Nat), ∃ (d : List W8), a < 2 ^ 32 ∧ d.length = 4 :=
  ⟨0x28308, [1, 2, 3, 4], by decide +kernel⟩
theorem wit_SerialPorts_7 : ∃ (a : Nat), ∃ (d : List W8), let w : Bytes := 2 :: (le 4 a ++ d); ∃ (p : W8), a < 2 ^ 32 ∧ d.length = 4 ∧ p ≠ pec (0x94 :: w) := by
  refine ⟨0x28308, [1, 2, 3, 4], 0, ?_⟩
  try dsimp only
  decide +kernel
theorem wit_SerialPorts_15 : ∃ (s : State), s.tapVendor = true :=
  ⟨{ live with tap := { ir := 0x40 } }, by decide +kernel⟩
theorem wit_ForeignWritesAreDropped_0 : ∃ (m : Master), ∃ (v : W32), ∃ (q : Nat), ∃ (s : State), ∃ (i : Instr), i ∈ [Instr.sceneProducer m v, .flipProducer m v, .dispCommit m v, .churnProducer m q v, .churnAbortWrite m q v,
      .audioPcmProducer m v, .hwPortData m v, .hwCommit m v, .hwRefresh m v, .hwFrameRead m] ∧ s.portLive m.code = false :=
  ⟨.svc, 1, 7, { live with pins := { live.pins with svcPresentN := true } }, .sceneProducer .svc 1, by decide +kernel⟩
theorem wit_ForeignWritesAreDropped_1 : ∃ (m : Master), ∃ (s : State), s.portLive m.code = true ∧ s.isOwner m.code = false :=
  ⟨.svc, live, by decide +kernel⟩
theorem wit_ForeignWritesAreDropped_7 : ∃ (m : Master), ∃ (s : State), s.portLive m.code = true ∧ m ≠ .safe :=
  ⟨.hostA, live, by decide +kernel⟩
theorem wit_HeartwoodLayer_0 : ∃ (s : State), s.hw.stage = .idle :=
  ⟨live, by decide +kernel⟩
theorem wit_HeartwoodLayer_1 : ∃ (v : W32), ∃ (s : State), s.hw.stage = .idle ∧ v.getLsbD 0 = true ∧ ((∀ r < 4, s.hwRectReason s.hw.regs r = none)) :=
  ⟨1, { live with disp := { live.disp with panel := some ⟨64, 32, 1, 0, 50, 1, 0⟩ }, hw := { live.hw with regs := [0, 0x00200040, 4096, 0x80000040] ++ List.replicate 12 0 } }, by decide +kernel⟩
theorem wit_HeartwoodLayer_2 : ∃ (v : W32), ∃ (s : State), ∃ (r : Nat), ∃ (k : Nat), s.hw.stage = .idle ∧ v.getLsbD 0 = true ∧ r < 4 ∧ s.hwRectReason s.hw.regs r = some k ∧ ((∀ j < r, s.hwRectReason s.hw.regs j = none)) :=
  ⟨1, { live with disp := { live.disp with panel := some ⟨64, 32, 1, 0, 50, 1, 0⟩ }, hw := { live.hw with regs := [0, 0x00200040, 4096, 0x80000040] ++ [1, 0x00200040, 4096, 0x80000040] ++ List.replicate 8 0 } }, 1, 1, by decide +kernel⟩
theorem wit_HeartwoodLayer_3 : ∃ (s : State), s.hw.stage ≠ .idle :=
  ⟨{ live with hw := { live.hw with stage := .copying } }, by decide +kernel⟩
theorem wit_HeartwoodLayer_4 : ∃ (v : W32), ∃ (s : State), s.hw.stage ≠ .idle ∧ v.getLsbD 0 = true :=
  ⟨1, { live with hw := { live.hw with stage := .waitLatch } }, by decide +kernel⟩
theorem wit_HeartwoodLayer_5 : ∃ (s : State), s.hw.stage = .copying :=
  ⟨{ live with hw := { live.hw with stage := .copying } }, by decide +kernel⟩
theorem wit_HeartwoodLayer_6 : ∃ (crc : W32), ∃ (s : State), ((∃ r ∈ s.hw.reports, r.crc = crc)) :=
  ⟨77, { live with hw := { live.hw with reports := [⟨3, 77, true, 0⟩] } }, by decide +kernel⟩
theorem wit_HeartwoodLayer_7 : ∃ (crc : W32), ∃ (s : State), ((∀ r ∈ s.hw.reports, r.crc ≠ crc)) :=
  ⟨78, { live with hw := { live.hw with reports := [⟨3, 77, true, 0⟩] } }, by decide +kernel⟩
theorem wit_HeartwoodLayer_8 : ∃ (m : Master), ∃ (s : State), ∃ (r : HwReport), ∃ (rest : List HwReport), s.portLive m.code = true ∧ s.hw.reports = r :: rest :=
  ⟨.hostA, { live with hw := { live.hw with reports := [⟨3, 77, true, 0⟩] } }, ⟨3, 77, true, 0⟩, [], by decide +kernel⟩
theorem wit_HeartwoodLayer_9 : ∃ (m : Master), ∃ (s : State), s.portLive m.code = true ∧ s.hw.reports = [] :=
  ⟨.hostA, live, by decide +kernel⟩
theorem wit_HeartwoodLayer_10 : ∃ (s : State), ∃ (t0 : Nat), s.hw.ageFrom = some t0 ∧ s.hw.stale = false :=
  ⟨{ live with hw := { live.hw with ageFrom := some 5 } }, 5, by decide +kernel⟩
theorem wit_CommitsAndFlips_0 : ∃ (m : Master), ∃ (s : State), s.portLive m.code = true ∧ s.isOwner m.code = true ∧ s.domOn domCMP = false :=
  ⟨.hostA, { live with pwr := { live.pwr with domains := [] } }, by decide +kernel⟩
theorem wit_CommitsAndFlips_1 : ∃ (m : Master), ∃ (v : W32), ∃ (s : State), s.domOn domCMP = true ∧ s.portLive m.code = true ∧ s.isOwner m.code = true ∧ v.getLsbD 0 = true ∧ s.commitReason = none :=
  ⟨.hostA, 1, live, by decide +kernel⟩
theorem wit_CommitsAndFlips_2 : ∃ (m : Master), ∃ (v : W32), ∃ (s : State), ∃ (r : Nat), ∃ (l : Nat), s.domOn domCMP = true ∧ s.portLive m.code = true ∧ s.isOwner m.code = true ∧ v.getLsbD 0 = true ∧ s.commitReason = some (r, l) :=
  ⟨.hostA, 1, { live with win := memWrite [] (blockAddr 7 + 1) [1] }, 1, 7, by decide +kernel⟩
theorem wit_CommitsAndFlips_3 : ∃ (m : Master), ∃ (v : W32), ∃ (s : State), s.domOn domCMP = true ∧ s.portLive m.code = true ∧ s.isOwner m.code = true ∧ v.getLsbD 0 = false :=
  ⟨.hostA, 2, live, by decide +kernel⟩
theorem wit_CommitsAndFlips_4 : ∃ (s : State), let a := flipEntryAddr s.layers.consumed.toNat; let e := memRead s.win a 64; s.domOn domCMP = true ∧ s.layers.producer ≠ s.layers.consumed ∧ s.flipWaits = false ∧ flipEntryBad e = true := by
  refine ⟨{ live with layers := { live.layers with producer := 1 }, win := memWrite [] (flipEntryAddr 0) ([0xFF, 0xFF, 0xFF]) }, ?_⟩
  try dsimp only
  decide +kernel
theorem wit_CommitsAndFlips_5 : ∃ (s : State), let a := flipEntryAddr s.layers.consumed.toNat; let e := memRead s.win a 64; s.domOn domCMP = true ∧ s.layers.producer ≠ s.layers.consumed ∧ s.flipWaits = false ∧ flipEntryBad e = false ∧ bit (byteAt e 0) 0 = false := by
  refine ⟨{ live with layers := { live.layers with producer := 1 }, win := memWrite [] (flipEntryAddr 0) ([0, 1]) }, ?_⟩
  try dsimp only
  decide +kernel
theorem wit_CommitsAndFlips_6 : ∃ (s : State), let a := flipEntryAddr s.layers.consumed.toNat; let e := memRead s.win a 64; let u := (s.flipBuffers e).modLayers fun x => { x with maskSince := x.maskSince ||| e.getD 1 0 }; let x := u.accept 0 (bit (byteAt e 0) 1); s.domOn domCMP = true ∧ s.layers.producer ≠ s.layers.consumed ∧ s.flipWaits = false ∧ flipEntryBad e = false ∧ bit (byteAt e 0) 0 = true ∧ u.commitReason = none := by
  refine ⟨{ live with layers := { live.layers with producer := 1 }, win := memWrite [] (flipEntryAddr 0) ([1, 1]) }, ?_⟩
  try dsimp only
  decide +kernel
theorem wit_CommitsAndFlips_7 : ∃ (s : State), let a := flipEntryAddr s.layers.consumed.toNat; let e := memRead s.win a 64; let u := (s.flipBuffers e).modLayers fun x => { x with maskSince := x.maskSince ||| e.getD 1 0 }; ∃ (r : Nat), ∃ (l : Nat), s.domOn domCMP = true ∧ s.layers.producer ≠ s.layers.consumed ∧ s.flipWaits = false ∧ flipEntryBad e = false ∧ bit (byteAt e 0) 0 = true ∧ u.commitReason = some (r, l) := by
  refine ⟨{ live with layers := { live.layers with producer := 1 }, win := memWrite (memWrite [] (flipEntryAddr 0) [1, 1]) (blockAddr 7 + 1) [1] }, 1, 7, ?_⟩
  try dsimp only
  decide +kernel
theorem wit_CommitsAndFlips_8 : ∃ (s : State), s.domOn domCMP = true ∧ ((s.layers.producer = s.layers.consumed ∨ s.flipWaits = true)) :=
  ⟨live, by decide +kernel⟩
theorem wit_BootAndRom_1 : ∃ (s : State), s.pins.pwrOk = false ∧ s.pwr.phase = .waitPwrOk ∧ s.pins.sysRstN = true :=
  ⟨State.reset, by decide +kernel⟩
theorem wit_BootAndRom_2 : ∃ (s : State), s.pins.pwrOk = false ∧ s.pwr.phase ≠ .waitPwrOk :=
  ⟨{ live with pins := { live.pins with pwrOk := false } }, by decide +kernel⟩
theorem wit_BootAndRom_3 : ∃ (s : State), s.pins.pwrOk = true :=
  ⟨live, by decide +kernel⟩
theorem wit_BootAndRom_4 : ∃ (s : State), s.pwr.phase = .heldReset :=
  ⟨{ live with pwr := { live.pwr with phase := .heldReset } }, by decide +kernel⟩
theorem wit_BootAndRom_5 : ∃ (s : State), s.pwr.phase = .softReset ∧ s.pins.sysRstN = true :=
  ⟨{ live with pwr := { live.pwr with phase := .softReset } }, by decide +kernel⟩
theorem wit_BootAndRom_6 : ∃ (s : State), s.pwr.phase = .softReset ∧ s.pins.sysRstN = false :=
  ⟨{ live with pins := { live.pins with sysRstN := false }, pwr := { live.pwr with phase := .softReset } }, by decide +kernel⟩
theorem wit_BootAndRom_7 : ∃ (s : State), s.pwr.phase = .lossWait ∧ s.pins.sysRstN = true :=
  ⟨{ live with pwr := { live.pwr with phase := .lossWait } }, by decide +kernel⟩
theorem wit_BootAndRom_8 : ∃ (s : State), s.pwr.phase = .trip :=
  ⟨{ live with pwr := { live.pwr with phase := .trip } }, by decide +kernel⟩
theorem wit_BootAndRom_9 : ∃ (s : State), s.pwr.phase = .waitCore :=
  ⟨{ live with pwr := { live.pwr with phase := .waitCore } }, by decide +kernel⟩
theorem wit_BootAndRom_10 : ∃ (s : State), ∃ (rail : Nat), ((s.pwr.phase = .waitCore ∧ rail = 0) ∨ ((s.pwr.phase = .waitSds ∨ s.pwr.phase = .run) ∧ s.time ≤ s.pwr.deadline ∧ ((rail = 1 ∧ s.pins.sdsPg = false) ∨ (rail = 2 ∧ s.pins.memPg = false)))) :=
  ⟨{ live with pwr := { live.pwr with phase := .waitSds } }, 2, by decide +kernel⟩
theorem wit_BootAndRom_11 : ∃ (s : State), s.pwr.phase = .retryWait :=
  ⟨{ live with pwr := { live.pwr with phase := .retryWait } }, by decide +kernel⟩
theorem wit_BootAndRom_12 : ∃ (s : State), ((s.tp.state = .off ∨ s.tp.state = .rom)) ∧ s.domOn domTP = true ∧ s.domOn domSEC = true :=
  ⟨{ live with pwr := { live.pwr with phase := .run }, tp := {} }, by decide +kernel⟩
theorem wit_LossesAndWake_0 : ∃ (s : State), ∃ (trigger : Nat), s.pwr.phase.lossRuns = true ∧ ((trigger = 3 → s.pins.coreEn = true)) :=
  ⟨live, 3, by decide +kernel⟩
theorem wit_LossesAndWake_1 : ∃ (s : State), s.pwr.phase ≠ .trip ∧ s.pins.coreEn = false :=
  ⟨{ live with pins := { live.pins with coreEn := false } }, by decide +kernel⟩
theorem wit_LossesAndWake_2 : ∃ (s : State), s.pwr.phase = .trip :=
  ⟨{ live with pwr := { live.pwr with phase := .trip } }, by decide +kernel⟩
theorem wit_LossesAndWake_3 : ∃ (s : State), s.pwr.phase = .dormant :=
  ⟨{ live with pwr := { live.pwr with phase := .dormant } }, by decide +kernel⟩
theorem wit_LossesAndWake_4 : ∃ (s : State), s.pwr.phase.up = true :=
  ⟨live, by decide +kernel⟩
theorem wit_LossesAndWake_6 : ∃ (s : State), s.pwr.phase.up = false ∧ s.pwr.phase ≠ .dormant :=
  ⟨{ live with pwr := { live.pwr with phase := .trip } }, by decide +kernel⟩
theorem wit_LossesAndWake_8 : ∃ (s : State), s.pwr.phase = .dormant ∧ s.pins.pwrOk = true ∧ s.nvm.lossMarker = none :=
  ⟨{ live with pwr := { live.pwr with phase := .dormant } }, by decide +kernel⟩
theorem wit_LossesAndWake_9 : ∃ (s : State), s.pwr.phase = .dormant ∧ s.pins.pwrOk = true ∧ s.nvm.lossMarker = none ∧ s.perstHigh 0 = false :=
  ⟨{ live with pwr := { live.pwr with phase := .dormant }, pins := { live.pins with perstAN := false } }, by decide +kernel⟩
theorem wit_LossesAndWake_10 : ∃ (s : State), s.pwr.phase = .dormant ∧ s.pins.pwrOk = true ∧ s.nvm.lossMarker = none ∧ s.perstHigh 1 = false ∧ s.pwr.linkSplit = false :=
  ⟨{ live with pwr := { live.pwr with phase := .dormant, linkSplit := false }, pins := { live.pins with perstBN := false } }, by decide +kernel⟩
theorem wit_LossesAndWake_11 : ∃ (s : State), s.pwr.phase ≠ .dormant ∧ s.mode.thenDormant = true :=
  ⟨{ live with mode := { mode := .safeView, thenDormant := true } }, by decide +kernel⟩
theorem wit_LossesAndWake_13 : ∃ (s : State), s.pwr.linkSplit = false :=
  ⟨{ live with pwr := { live.pwr with phase := .run, linkSplit := false } }, by decide +kernel⟩
theorem wit_DomainsAndPower_0 : ∃ (d : Nat), ∃ (s : State), s.tp.state = .running ∧ s.hasDomain d = true ∧ s.pins.coreEn = true ∧ d < s.pwr.domains.length ∧ (s.dom d).switching = none ∧ (s.dom d).queued = false ∧ (s.dom d).on = false ∧ s.pwr.startQueue = [] ∧ s.startAllowed d = true :=
  ⟨58, { live with pwr := { live.pwr with domains := live.pwr.domains.set 58 {  } } }, by decide +kernel⟩
theorem wit_DomainsAndPower_1 : ∃ (d : Nat), ∃ (s : State), s.tp.state = .running ∧ s.hasDomain d = true ∧ s.pins.coreEn = true ∧ d < s.pwr.domains.length ∧ (s.dom d).switching = none ∧ (s.dom d).queued = false ∧ (s.dom d).on = false ∧ ((s.pwr.startQueue ≠ [] ∨ s.startAllowed d = false)) :=
  ⟨58, { live with pwr := {  live.pwr with startQueue := [(3, 0)], domains := live.pwr.domains.set 58 {  } } }, by decide +kernel⟩
theorem wit_DomainsAndPower_2 : ∃ (d : Nat), ∃ (s : State), s.tp.state = .running ∧ s.hasDomain d = true ∧ s.pins.coreEn = true ∧ d < s.pwr.domains.length ∧ (s.dom d).switching = none ∧ (s.dom d).queued = false ∧ (s.dom d).on = true ∧ s.domNeeded d = false :=
  ⟨0, live, by decide +kernel⟩
theorem wit_DomainsAndPower_3 : ∃ (d : Nat), ∃ (s : State), ∃ (x : Bool × Nat), ∃ (on : Bool), s.tp.state = .running ∧ s.hasDomain d = true ∧ s.pins.coreEn = true ∧ d < s.pwr.domains.length ∧ (s.dom d).switching = some x ∧ ((on = true ∨ s.domNeeded d = false)) :=
  ⟨58, { live with pwr := { live.pwr with domains := live.pwr.domains.set 58 { switching := some (true, 5) } } }, (true, 5), true, by decide +kernel⟩
theorem wit_DomainsAndPower_4 : ∃ (d : Nat), ∃ (s : State), ∃ (t0 : Nat), s.tp.state = .running ∧ s.hasDomain d = true ∧ s.pins.coreEn = true ∧ d < s.pwr.domains.length ∧ (s.dom d).switching = some (true, t0) ∧ (s.dom d).held = none :=
  ⟨58, { live with pwr := { live.pwr with domains := live.pwr.domains.set 58 { switching := some (true, 5) } } }, 5, by decide +kernel⟩
theorem wit_DomainsAndPower_5 : ∃ (d : Nat), ∃ (s : State), ∃ (t0 : Nat), s.tp.state = .running ∧ s.hasDomain d = true ∧ s.pins.coreEn = true ∧ d < s.pwr.domains.length ∧ (s.dom d).switching = some (false, t0) ∧ (s.dom d).held = none :=
  ⟨58, { live with pwr := { live.pwr with domains := live.pwr.domains.set 58 { switching := some (false, 5) } } }, 5, by decide +kernel⟩
theorem wit_DomainsAndPower_6 : ∃ (d : Nat), ∃ (s : State), ∃ (r : Nat), ∃ (rest : List (Nat × Nat)), s.tp.state = .running ∧ s.hasDomain d = true ∧ s.pins.coreEn = true ∧ d < s.pwr.domains.length ∧ s.pwr.startQueue = (d, r) :: rest :=
  ⟨58, { live with pwr := { live.pwr with domains := live.pwr.domains.set 58 { queued := true }, startQueue := [(58, 4)] } }, 4, [], by decide +kernel⟩
theorem wit_DomainsAndPower_7 : ∃ (d : Nat), ∃ (s : State), s.tp.state = .running ∧ s.hasDomain d = true ∧ s.pins.coreEn = true ∧ d < s.pwr.domains.length ∧ s.pwr.startQueue = [] :=
  ⟨29, live, by decide +kernel⟩
theorem wit_DomainsAndPower_8 : ∃ (s : State), ∃ (r : Nat), ∃ (need : Nat), s.pwr.phase = .run ∧ r < 2 ∧ (s.rail r).frozen = false ∧ (s.rail r).mv < need ∧ (s.rail r).mv < 850 :=
  ⟨live, 1, 801, by decide +kernel⟩
theorem wit_DomainsAndPower_9 : ∃ (s : State), ∃ (r : Nat), ∃ (d : Nat), s.pwr.phase = .run ∧ r < 2 ∧ (s.rail r).frozen = false ∧ d < 59 ∧ onRail r d = true ∧ 16 < (s.dom d).stretchPeriod :=
  ⟨{ live with pwr := { live.pwr with domains := live.pwr.domains.set 3 { on := true, stretchPeriod := 17 } } }, 0, 3, by decide +kernel⟩
theorem wit_DomainsAndPower_10 : ∃ (s : State), ∃ (r : Nat), ∃ (need : Nat), s.pwr.phase = .run ∧ r < 2 ∧ (s.rail r).frozen = false ∧ need + 5 ≤ (s.rail r).mv ∧ s.gov.cap = false ∧ ((∀ d < 59, onRail r d = true → (s.dom d).stretchPeriod ≤ 16)) :=
  ⟨live, 0, 700, by decide +kernel⟩
theorem wit_DomainsAndPower_11 : ∃ (s : State), ∃ (r : Nat), s.pwr.phase = .run ∧ r < 2 ∧ (s.rail r).frozen = true :=
  ⟨{ live with pwr := { live.pwr with avsRay := { frozen := true } } }, 0, by decide +kernel⟩
theorem wit_DomainsAndPower_12 : ∃ (s : State), ∃ (r : Nat), ∃ (d : Nat), ∃ (need : Nat), s.pwr.phase = .run ∧ r < 2 ∧ (s.rail r).frozen = false ∧ (s.rail r).mv = 850 ∧ 850 < need ∧ (s.rail r).naks = 0 ∧ ((s.rail r).mismatches < 4) ∧ onRail r d = true ∧ s.domOn d = true :=
  ⟨{ live with pwr := { live.pwr with avsRay := { mv := 850 } } }, 0, 3, 900, by decide +kernel⟩
theorem wit_DomainsAndPower_13 : ∃ (s : State), ∃ (d : Nat), ∃ (mv : Nat), s.pwr.phase = .run ∧ s.domOn d = true ∧ d < s.pwr.domains.length ∧ s.pwr.droopMv < mv :=
  ⟨live, 3, 41, by decide +kernel⟩
theorem wit_DomainsAndPower_14 : ∃ (s : State), ∃ (mv : Nat), s.pwr.phase = .run ∧ mv ≤ s.pwr.droopMv :=
  ⟨live, 0, by decide +kernel⟩
theorem wit_DomainsAndPower_15 : ∃ (s : State), ∃ (measured : Nat), s.pwr.phase = .run ∧ s.powerLimit * 10 < measured :=
  ⟨live, 1501, by decide +kernel⟩
theorem wit_DomainsAndPower_16 : ∃ (s : State), ∃ (measured : Nat), s.pwr.phase = .run ∧ measured ≤ s.powerLimit * 10 ∧ s.hk.selfHeating = false :=
  ⟨live, 1500, by decide +kernel⟩
theorem wit_DomainsAndPower_17 : ∃ (s : State), ∃ (measured : Nat), s.pwr.phase = .run ∧ measured ≤ s.powerLimit * 10 ∧ s.hk.selfHeating = true :=
  ⟨{ live with hk := { live.hk with selfHeating := true } }, 900, by decide +kernel⟩
theorem wit_TaprootFirmware_0 : ∃ (s : State), s.tp.state = .running ∧ s.domOn domTP = true ∧ s.opOn 0x1303 = false ∧ (s.tp.wdtTimes.filter fun t => s.time < t + 600000000000).length < 3 :=
  ⟨live, by decide +kernel⟩
theorem wit_TaprootFirmware_1 : ∃ (s : State), s.tp.state = .restarting ∧ s.tp.restartCause ≠ 0 :=
  ⟨{ live with tp := { live.tp with state := .restarting, restartCause := 2 } }, by decide +kernel⟩
theorem wit_TaprootFirmware_2 : ∃ (s : State), s.tp.state = .running ∧ s.tp.ready = false :=
  ⟨{ live with tp := { live.tp with ready := false } }, by decide +kernel⟩
theorem wit_TaprootFirmware_3 : ∃ (s : State), s.tp.state = .running ∧ s.tp.ready = true :=
  ⟨live, by decide +kernel⟩
theorem wit_TaprootFirmware_4 : ∃ (s : State), s.tp.state = .draining :=
  ⟨{ live with tp := { live.tp with state := .draining, deadline := some 100 } }, by decide +kernel⟩
theorem wit_TaprootFirmware_5 : ∃ (s : State), s.tp.state = .draining ∧ s.ctl.executing = [] ∧ ((∀ o ∈ s.ctl.pendingOps, o.code = 0x1303)) :=
  ⟨{ live with tp := { live.tp with state := .draining, deadline := some 100 }, ctl := { live.ctl with pendingOps := [mkOp 0x1303 [1]] } }, by decide +kernel⟩
theorem wit_TaprootFirmware_6 : ∃ (s : State), s.tp.state = .restarting ∧ s.opOn 0x1303 = true ∧ s.tp.restartCause = 0 :=
  ⟨{ live with tp := { live.tp with state := .restarting, deadline := some 100 }, ctl := { live.ctl with pendingOps := [mkOp 0x1303 [1]] } }, by decide +kernel⟩
theorem wit_LatchPoints_0 : ∃ (s : State), let u := s.toLatch; s.disp.sched = true ∧ s.disp.panel.isSome = true ∧ s.domOn domCMP = true ∧ s.latchBlocked = false ∧ (u.mode.thenDormant && u.mode.mode == .safeView) = false ∧ u.relinkDue = false ∧ u.disp.panelNext = none := by
  refine ⟨{ live with disp := { live.disp with sched := true, panel := some ⟨64, 32, 1, 0, 50, 1, 0⟩, timing := { lineNs := 25600, activeLines := 32 } } }, ?_⟩
  try dsimp only
  decide +kernel
theorem wit_LatchPoints_1 : ∃ (s : State), let u := s.toLatch; s.disp.sched = true ∧ s.disp.panel.isSome = true ∧ s.domOn domCMP = true ∧ s.latchBlocked = false ∧ (u.mode.thenDormant && u.mode.mode == .safeView) = false ∧ u.relinkDue = false ∧ u.disp.panelNext.isSome = true ∧ u.scan.hold.isSome = true := by
  refine ⟨{ live with disp := { live.disp with sched := true, panel := some ⟨64, 32, 1, 0, 50, 1, 0⟩, timing := { lineNs := 25600, activeLines := 32 }, panelNext := some ⟨128, 32, 1, 0, 50, 1, 0⟩, running := true }, scan := { live.scan with hold := some (2, 0) } }, ?_⟩
  try dsimp only
  decide +kernel
theorem wit_LatchPoints_2 : ∃ (s : State), let u := s.toLatch; s.disp.sched = true ∧ s.disp.panel.isSome = true ∧ s.domOn domCMP = true ∧ s.latchBlocked = false ∧ (u.mode.thenDormant && u.mode.mode == .safeView) = false ∧ u.relinkDue = false ∧ u.disp.panelNext.isSome = true ∧ u.scan.hold = none ∧ u.disp.running = true := by
  refine ⟨{ live with disp := { live.disp with sched := true, panel := some ⟨64, 32, 1, 0, 50, 1, 0⟩, timing := { lineNs := 25600, activeLines := 32 }, panelNext := some ⟨128, 32, 1, 0, 50, 1, 0⟩, running := true } }, ?_⟩
  try dsimp only
  decide +kernel
theorem wit_LatchPoints_3 : ∃ (s : State), let u := s.toLatch; s.disp.sched = true ∧ s.disp.panel.isSome = true ∧ s.domOn domCMP = true ∧ s.latchBlocked = false ∧ (u.mode.thenDormant && u.mode.mode == .safeView) = false ∧ u.relinkDue = true := by
  refine ⟨{ live with disp := { live.disp with sched := true, panel := some ⟨64, 32, 1, 0, 50, 1, 0⟩, timing := { lineNs := 25600, activeLines := 32 }, running := true, timingNext := some { laneRate := 1, lineNs := 25600, activeLines := 32 } } }, ?_⟩
  try dsimp only
  decide +kernel
theorem wit_LatchPoints_4 : ∃ (s : State), let u := s.toLatch; s.disp.sched = true ∧ s.disp.panel.isSome = true ∧ s.domOn domCMP = true ∧ s.latchBlocked = false ∧ (u.mode.thenDormant && u.mode.mode == .safeView) = true := by
  refine ⟨{ live with disp := { live.disp with sched := true, panel := some ⟨64, 32, 1, 0, 50, 1, 0⟩, timing := { lineNs := 25600, activeLines := 32 } }, mode := { mode := .safeView, thenDormant := true } }, ?_⟩
  try dsimp only
  decide +kernel
theorem wit_LatchPoints_5 : ∃ (s : State), ((s.disp.sched = false ∨ s.disp.panel = none ∨ s.domOn domCMP = false ∨ s.latchBlocked = true)) :=
  ⟨live, by decide +kernel⟩
theorem wit_LatchPoints_7 : ∃ (s : State), ∃ (old : Timing), ∃ (t0 : Nat), s.scan.relink = some (old, t0) ∧ s.scan.relinkBack = false :=
  ⟨{ live with scan := { live.scan with relink := some ({}, 5) } }, {}, 5, by decide +kernel⟩
theorem wit_LatchPoints_8 : ∃ (s : State), ∃ (old : Timing), ∃ (t0 : Nat), s.scan.relink = some (old, t0) ∧ s.scan.relinkBack = true :=
  ⟨{ live with scan := { live.scan with relink := some ({}, 5), relinkBack := true } }, {}, 5, by decide +kernel⟩
theorem wit_LatchPoints_9 : ∃ (s : State), ∃ (old : Timing), ∃ (t0 : Nat), s.scan.relink = some (old, t0) ∧ s.trainingRuns = true :=
  ⟨{ live with scan := { live.scan with relink := some ({}, 5) }, lanes := { live.lanes with lanes := live.lanes.lanes.set 0 { state := 1 } } }, {}, 5, by decide +kernel⟩
theorem wit_LatchPoints_10 : ∃ (s : State), ∃ (old : Timing), ∃ (t0 : Nat), let u := s.joinTrained; s.scan.relink = some (old, t0) ∧ s.trainingRuns = false ∧ s.trainedLanes ≠ [] ∧ s.scan.relinkBack = false ∧ (u.disp.timingNext.getD u.disp.timing).lineNs < u.tMin := by
  refine ⟨{ live with disp := { live.disp with sched := true, panel := some ⟨64, 32, 1, 0, 50, 1, 0⟩, timing := { lineNs := 25600, activeLines := 32 }, timingNext := some { lineNs := 0, activeLines := 32 } }, scan := { live.scan with relink := some ({}, 5) }, lanes := { live.lanes with lanes := live.lanes.lanes.set 0 { state := 1, trained := true, ended := true } } }, {}, 5, ?_⟩
  try dsimp only
  decide +kernel
theorem wit_LatchPoints_11 : ∃ (s : State), ∃ (old : Timing), ∃ (t0 : Nat), let u := s.joinTrained; s.scan.relink = some (old, t0) ∧ s.trainingRuns = false ∧ s.trainedLanes ≠ [] ∧ s.scan.relinkBack = false ∧ u.tMin ≤ (u.disp.timingNext.getD u.disp.timing).lineNs ∧ u.scan.relinkBack = false := by
  refine ⟨{ live with disp := { live.disp with sched := true, panel := some ⟨64, 32, 1, 0, 50, 1, 0⟩, timing := { lineNs := 25600, activeLines := 32 }, timingNext := some { lineNs := 10000000, activeLines := 32 } }, scan := { live.scan with relink := some ({}, 5) }, lanes := { live.lanes with lanes := live.lanes.lanes.set 0 { state := 1, trained := true, ended := true } } }, {}, 5, ?_⟩
  try dsimp only
  decide +kernel
theorem wit_LatchPoints_12 : ∃ (s : State), ∃ (old : Timing), ∃ (t0 : Nat), let u := s.joinTrained; let v := (u.modScan fun x => { x with relink := none, relinkBack := false }).nextSlot.flushFrame.latchTaken; s.scan.relink = some (old, t0) ∧ s.trainingRuns = false ∧ s.trainedLanes ≠ [] ∧ u.scan.relinkBack = true ∧ v.taprootUp = true := by
  refine ⟨{ live with disp := { live.disp with sched := true, panel := some ⟨64, 32, 1, 0, 50, 1, 0⟩, timing := { lineNs := 25600, activeLines := 32 } }, scan := { live.scan with relink := some ({}, 5), relinkBack := true }, lanes := { live.lanes with lanes := live.lanes.lanes.set 0 { state := 1, trained := true, ended := true } } }, {}, 5, ?_⟩
  try dsimp only
  decide +kernel
theorem wit_ScanOut_0 : ∃ (s : State), (s.disp.sched = false ∨ s.disp.panel = none) :=
  ⟨live, by decide +kernel⟩
theorem wit_ScanOut_1 : ∃ (s : State), let d := s.disp; let u := (s.timeTo (s.slotStart (d.slotNo + 1))).modDisp fun x => { x with slotNo := x.slotNo + 1 }; let v := u.modDisp fun x => { x with ext := x.ext + 1 }; s.disp.sched = true ∧ s.disp.panel.isSome = true ∧ d.extending = true ∧ v.extends v.disp.ext = true := by
  refine ⟨{ live with disp := { live.disp with sched := true, panel := some ⟨64, 32, 1, 0, 50, 1, 0⟩, timing := { lineNs := 25600, activeLines := 32, mode := 2, lockSource := 0, vtMax := 40 }, extending := true, slot := 3, blanking := false } }, ?_⟩
  try dsimp only
  decide +kernel
theorem wit_ScanOut_2 : ∃ (s : State), let d := s.disp; let u := (s.timeTo (s.slotStart (d.slotNo + 1))).modDisp fun x => { x with slotNo := x.slotNo + 1 }; let v := u.modDisp fun x => { x with ext := x.ext + 1 }; s.disp.sched = true ∧ s.disp.panel.isSome = true ∧ d.extending = true ∧ v.extends v.disp.ext = false := by
  refine ⟨{ live with disp := { live.disp with sched := true, panel := some ⟨64, 32, 1, 0, 50, 1, 0⟩, timing := { lineNs := 25600, activeLines := 32 }, extending := true, slot := 3, blanking := false } }, ?_⟩
  try dsimp only
  decide +kernel
theorem wit_ScanOut_3 : ∃ (s : State), let d := s.disp; let g := s.disp.timing; s.disp.sched = true ∧ s.disp.panel.isSome = true ∧ d.extending = false ∧ d.blanking = false ∧ d.slot + 1 < g.activeLines ∧ ((s.pins.frameOut = false ∨ d.slotNo + 1 ≠ 1)) := by
  refine ⟨{ live with disp := { live.disp with sched := true, panel := some ⟨64, 32, 1, 0, 50, 1, 0⟩, timing := { lineNs := 25600, activeLines := 32 }, slot := 30 } }, ?_⟩
  try dsimp only
  decide +kernel
theorem wit_ScanOut_4 : ∃ (s : State), let d := s.disp; let g := s.disp.timing; s.disp.sched = true ∧ s.disp.panel.isSome = true ∧ d.extending = false ∧ d.blanking = false ∧ g.activeLines ≤ d.slot + 1 ∧ d.subframe + 1 ≠ s.subframes ∧ ((s.pins.frameOut = false ∨ d.slotNo + 1 ≠ 1)) := by
  refine ⟨{ live with disp := { live.disp with sched := true, panel := some ⟨64, 32, 1, 0, 50, 1, 0⟩, timing := { lineNs := 25600, activeLines := 32 }, slot := 31, subframe := 1 } }, ?_⟩
  try dsimp only
  decide +kernel
theorem wit_ScanOut_5 : ∃ (s : State), let d := s.disp; let g := s.disp.timing; let u := (s.timeTo (s.slotStart (d.slotNo + 1))).modDisp fun x => { x with slotNo := x.slotNo + 1 }; s.disp.sched = true ∧ s.disp.panel.isSome = true ∧ d.extending = false ∧ d.blanking = false ∧ g.activeLines ≤ d.slot + 1 ∧ d.subframe + 1 = s.subframes ∧ ((s.pins.frameOut = false ∨ d.slotNo + 1 ≠ 1)) ∧ (u.endSubframe d.subframe).extends 0 = true := by
  refine ⟨{ live with disp := { live.disp with sched := true, panel := some ⟨64, 32, 1, 0, 50, 1, 0⟩, timing := { lineNs := 25600, activeLines := 32, mode := 2, lockSource := 0, vtMax := 40 }, slot := 31 } }, ?_⟩
  try dsimp only
  decide +kernel
theorem wit_ScanOut_6 : ∃ (s : State), let d := s.disp; let g := s.disp.timing; let u := (s.timeTo (s.slotStart (d.slotNo + 1))).modDisp fun x => { x with slotNo := x.slotNo + 1 }; s.disp.sched = true ∧ s.disp.panel.isSome = true ∧ d.extending = false ∧ d.blanking = false ∧ g.activeLines ≤ d.slot + 1 ∧ d.subframe + 1 = s.subframes ∧ ((s.pins.frameOut = false ∨ d.slotNo + 1 ≠ 1)) ∧ (u.endSubframe d.subframe).extends 0 = false := by
  refine ⟨{ live with disp := { live.disp with sched := true, panel := some ⟨64, 32, 1, 0, 50, 1, 0⟩, timing := { lineNs := 25600, activeLines := 32 }, slot := 31 } }, ?_⟩
  try dsimp only
  decide +kernel
theorem wit_ScanOut_7 : ∃ (s : State), let d := s.disp; s.disp.sched = true ∧ s.disp.panel.isSome = true ∧ d.extending = false ∧ d.blanking = true ∧ d.subframe + 1 = s.subframes ∧ d.slot = 2 ∧ d.latched = false ∧ s.latchBlocked = false := by
  refine ⟨{ live with disp := { live.disp with sched := true, panel := some ⟨64, 32, 1, 0, 50, 1, 0⟩, timing := { lineNs := 25600, activeLines := 32 }, blanking := true, slot := 2 } }, ?_⟩
  try dsimp only
  decide +kernel
theorem wit_ScanOut_8 : ∃ (s : State), let d := s.disp; let g := s.disp.timing; s.disp.sched = true ∧ s.disp.panel.isSome = true ∧ d.extending = false ∧ d.blanking = true ∧ (¬ (d.subframe + 1 = s.subframes ∧ d.slot = 2 ∧ d.latched = false ∧ s.latchBlocked = false)) ∧ d.slot + 1 < g.vtMin := by
  refine ⟨{ live with disp := { live.disp with sched := true, panel := some ⟨64, 32, 1, 0, 50, 1, 0⟩, timing := { lineNs := 25600, activeLines := 32 }, blanking := true, slot := 6, latched := true } }, ?_⟩
  try dsimp only
  decide +kernel
theorem wit_ScanOut_9 : ∃ (s : State), let d := s.disp; let g := s.disp.timing; s.disp.sched = true ∧ s.disp.panel.isSome = true ∧ d.extending = false ∧ d.blanking = true ∧ d.subframe + 1 ≠ s.subframes ∧ g.vtMin ≤ d.slot + 1 := by
  refine ⟨{ live with disp := { live.disp with sched := true, panel := some ⟨64, 32, 1, 0, 50, 1, 0⟩, timing := { lineNs := 25600, activeLines := 32 }, blanking := true, slot := 7, subframe := 1 } }, ?_⟩
  try dsimp only
  decide +kernel
theorem wit_ScanOut_10 : ∃ (s : State), let d := s.disp; let g := s.disp.timing; s.disp.sched = true ∧ s.disp.panel.isSome = true ∧ d.extending = false ∧ d.blanking = true ∧ d.subframe + 1 = s.subframes ∧ (¬ (d.slot = 2 ∧ d.latched = false ∧ s.latchBlocked = false)) ∧ g.vtMin ≤ d.slot + 1 := by
  refine ⟨{ live with disp := { live.disp with sched := true, panel := some ⟨64, 32, 1, 0, 50, 1, 0⟩, timing := { lineNs := 25600, activeLines := 32 }, blanking := true, slot := 7, latched := true } }, ?_⟩
  try dsimp only
  decide +kernel
theorem wit_ScanOut_11 : ∃ (sf : Nat), ∃ (line : Nat), ∃ (s : State), ∃ (f : RayFrame), s.ray.cur = some f ∧ sf < f.subs ∧ line < f.height ∧ s.stored sf line = none ∧ f.bypass = true ∧ ((sf * f.height + line < s.begun ∨ s.beamLine + 128 ≤ sf * f.height + line)) :=
  ⟨0, 15, { live with disp := { live.disp with sched := true, panel := some ⟨64, 32, 1, 0, 50, 1, 0⟩, timing := { lineNs := 25600, activeLines := 32 }, slot := 16, slotNo := 16 }, ray := { live.ray with cur := some { frame := 3, bypass := true, width := 4, height := 16, subs := 1, map := [], planes := [], lim := 64, total := 1, dropped := 0, parts := [] } } }, { frame := 3, bypass := true, width := 4, height := 16, subs := 1, map := [], planes := [], lim := 64, total := 1, dropped := 0, parts := [] }, by decide +kernel⟩
theorem wit_ScanOut_12 : ∃ (sf : Nat), ∃ (line : Nat), ∃ (s : State), ∃ (f : RayFrame), s.ray.cur = some f ∧ sf < f.subs ∧ line < f.height ∧ s.stored sf line = none ∧ f.bypass = true ∧ sf ≠ 0 ∧ s.begun ≤ sf * f.height + line ∧ sf * f.height + line < s.beamLine + 128 :=
  ⟨1, 0, { live with disp := { live.disp with sched := true, panel := some ⟨64, 32, 1, 0, 50, 1, 0⟩, timing := { lineNs := 25600, activeLines := 32 }, slot := 4 }, ray := { live.ray with cur := some { frame := 3, bypass := true, width := 4, height := 16, subs := 2, map := [], planes := [], lim := 64, total := 1, dropped := 0, parts := [] } } }, { frame := 3, bypass := true, width := 4, height := 16, subs := 2, map := [], planes := [], lim := 64, total := 1, dropped := 0, parts := [] }, by decide +kernel⟩
theorem wit_ScanOut_13 : ∃ (sf : Nat), ∃ (line : Nat), ∃ (s : State), ∃ (f : RayFrame), s.ray.cur = some f ∧ sf < f.subs ∧ line < f.height ∧ s.stored sf line = none ∧ f.bypass = false ∧ ((∃ k < f.cols, ∀ p ∈ f.parts, ¬ (p.1 = (sf * f.rowsPer + line / 8) * f.cols + k ∧ p.2.1 = line))) :=
  ⟨0, 15, { live with disp := { live.disp with sched := true, panel := some ⟨64, 32, 1, 0, 50, 1, 0⟩, timing := { lineNs := 25600, activeLines := 32 }, slot := 0, slotNo := 0 }, ray := { live.ray with cur := some { frame := 3, bypass := false, width := 4, height := 16, subs := 1, map := [], planes := [], lim := 64, total := 1, dropped := 0, parts := [] } } }, { frame := 3, bypass := false, width := 4, height := 16, subs := 1, map := [], planes := [], lim := 64, total := 1, dropped := 0, parts := [] }, by decide +kernel⟩
theorem wit_ScanOut_14 : ∃ (sf : Nat), ∃ (line : Nat), ∃ (s : State), ∃ (f : RayFrame), s.ray.cur = some f ∧ sf < f.subs ∧ line < f.height ∧ s.stored sf line = none ∧ f.bypass = true ∧ sf = 0 ∧ s.begun ≤ line ∧ line < s.beamLine + 128 :=
  ⟨0, 4, { live with disp := { live.disp with sched := true, panel := some ⟨64, 32, 1, 0, 50, 1, 0⟩, timing := { lineNs := 25600, activeLines := 32 }, slot := 2, slotNo := 2 }, ray := { live.ray with cur := some { frame := 3, bypass := true, width := 4, height := 16, subs := 1, map := [], planes := [], lim := 64, total := 1, dropped := 0, parts := [] } } }, { frame := 3, bypass := true, width := 4, height := 16, subs := 1, map := [], planes := [], lim := 64, total := 1, dropped := 0, parts := [] }, by decide +kernel⟩
theorem wit_ScanOut_15 : ∃ (sf : Nat), ∃ (line : Nat), ∃ (s : State), ∃ (f : RayFrame), s.ray.cur = some f ∧ sf < f.subs ∧ line < f.height ∧ s.stored sf line = none ∧ f.bypass = false ∧ ((∀ k < f.cols, ∃ p ∈ f.parts, p.1 = (sf * f.rowsPer + line / 8) * f.cols + k ∧ p.2.1 = line)) :=
  ⟨0, 4, { live with disp := { live.disp with sched := true, panel := some ⟨64, 32, 1, 0, 50, 1, 0⟩, timing := { lineNs := 25600, activeLines := 32 }, slot := 2, slotNo := 2 }, ray := { live.ray with cur := some { frame := 3, bypass := false, width := 4, height := 16, subs := 1, map := [], planes := [], lim := 64, total := 1, dropped := 0, parts := [(0, 4, [])] } } }, { frame := 3, bypass := false, width := 4, height := 16, subs := 1, map := [], planes := [], lim := 64, total := 1, dropped := 0, parts := [(0, 4, [])] }, by decide +kernel⟩
theorem wit_ScanOut_16 : ∃ (sf : Nat), ∃ (frame : W32), ∃ (sig : W32), ∃ (s : State), ∃ (t0 : Nat), sf < s.subframes ∧ s.disp.sigDue.getD sf none = some t0 ∧ s.time ≤ t0 + 1000000 ∧ (s.disp.scanFrame.getD sf 0).toNat % 256 = frame.toNat % 256 ∧ sig = s.disp.endXor.getD sf 0 :=
  ⟨0, 9, 5, { live with disp := { live.disp with sched := true, panel := some ⟨64, 32, 1, 0, 50, 1, 0⟩, timing := { lineNs := 25600, activeLines := 32 }, sigDue := [some 0], scanFrame := [256 + 9], endXor := [5] } }, 0, by decide +kernel⟩
theorem wit_ScanOut_17 : ∃ (sf : Nat), ∃ (frame : W32), ∃ (sig : W32), ∃ (s : State), ∃ (t0 : Nat), sf < s.subframes ∧ s.disp.sigDue.getD sf none = some t0 ∧ s.time ≤ t0 + 1000000 ∧ (s.disp.scanFrame.getD sf 0).toNat % 256 = frame.toNat % 256 ∧ sig ≠ s.disp.endXor.getD sf 0 :=
  ⟨0, 9, 6, { live with disp := { live.disp with sched := true, panel := some ⟨64, 32, 1, 0, 50, 1, 0⟩, timing := { lineNs := 25600, activeLines := 32 }, sigDue := [some 0], scanFrame := [256 + 9], endXor := [5] } }, 0, by decide +kernel⟩
theorem wit_ScanOut_18 : ∃ (sf : Nat), ∃ (s : State), ∃ (t0 : Nat), sf < s.subframes ∧ s.disp.sigDue.getD sf none = some t0 :=
  ⟨0, { live with disp := { live.disp with sched := true, panel := some ⟨64, 32, 1, 0, 50, 1, 0⟩, timing := { lineNs := 25600, activeLines := 32 }, sigDue := [some 0], scanFrame := [256 + 9], endXor := [5] } }, 0, by decide +kernel⟩
theorem wit_ScanOut_19 : ∃ (sf : Nat), ∃ (s : State), sf < s.subframes ∧ s.disp.sigDue.getD sf none = none :=
  ⟨0, { live with disp := { live.disp with sched := true, panel := some ⟨64, 32, 1, 0, 50, 1, 0⟩, timing := { lineNs := 25600, activeLines := 32 } } }, by decide +kernel⟩
theorem wit_ScanOut_21 : ∃ (sf : Nat), ∃ (s : State), ∃ (cause : Nat), sf < s.subframes ∧ cause ≠ 4 :=
  ⟨0, { live with disp := { live.disp with sched := true, panel := some ⟨64, 32, 1, 0, 50, 1, 0⟩, timing := { lineNs := 25600, activeLines := 32 } } }, 3, by decide +kernel⟩
theorem wit_ScanOut_22 : ∃ (sf : Nat), ∃ (s : State), sf < s.subframes :=
  ⟨0, { live with disp := { live.disp with sched := true, panel := some ⟨64, 32, 1, 0, 50, 1, 0⟩, timing := { lineNs := 25600, activeLines := 32 } } }, by decide +kernel⟩
theorem wit_PanelAndHolds_0 : ∃ (s : State), ∃ (p : PanelCfg), s.disp.panel = some p ∧ s.domOn domCMP = true ∧ s.pnl.up = false ∧ s.pnl.rail = none ∧ s.pnl.gaveUp = false ∧ s.pnl.retryAt = none :=
  ⟨{ live with disp := { live.disp with panel := some ⟨64, 32, 1, 0, 50, 2, 5⟩ }, pnl := { live.pnl with up := false } }, ⟨64, 32, 1, 0, 50, 2, 5⟩, by decide +kernel⟩
theorem wit_PanelAndHolds_1 : ∃ (s : State), ∃ (rail : Nat), s.pnl.rail = some rail ∧ rail + 1 < s.pnl.railsUsed :=
  ⟨{ live with disp := { live.disp with panel := some ⟨64, 32, 1, 0, 50, 2, 5⟩ }, pnl := { live.pnl with rail := some 0, railsUsed := 2 } }, 0, by decide +kernel⟩
theorem wit_PanelAndHolds_2 : ∃ (s : State), ∃ (rail : Nat), s.pnl.rail = some rail ∧ s.pnl.railsUsed ≤ rail + 1 :=
  ⟨{ live with disp := { live.disp with panel := some ⟨64, 32, 1, 0, 50, 2, 5⟩ }, pnl := { live.pnl with rail := some 1, railsUsed := 2 } }, 1, by decide +kernel⟩
theorem wit_PanelAndHolds_3 : ∃ (s : State), ∃ (rail : Nat), s.pins.pnlPwrEn.getD rail false = true :=
  ⟨{ live with pins := { live.pins with pnlPwrEn := [true, true, false, false] } }, 1, by decide +kernel⟩
theorem wit_PanelAndHolds_4 : ∃ (s : State), ∃ (t0 : Nat), ∃ (p : PanelCfg), s.pnl.retryAt = some t0 ∧ s.disp.panel = some p ∧ s.domOn domCMP = true ∧ s.pnl.up = false ∧ s.pnl.rail = none ∧ s.pnl.gaveUp = false :=
  ⟨{ live with disp := { live.disp with panel := some ⟨64, 32, 1, 0, 50, 2, 5⟩ }, pnl := { live.pnl with retryAt := some 7 } }, 7, ⟨64, 32, 1, 0, 50, 2, 5⟩, by decide +kernel⟩
theorem wit_PanelAndHolds_5 : ∃ (s : State), ∃ (why : Nat), ∃ (t0 : Nat), s.scan.hold = some (why, t0) :=
  ⟨{ live with scan := { live.scan with hold := some (1, 5) } }, 1, 5, by decide +kernel⟩
theorem wit_PanelAndHolds_6 : ∃ (s : State), s.scan.hold = none :=
  ⟨live, by decide +kernel⟩
theorem wit_PanelAndHolds_7 : ∃ (s : State), ∃ (g : Nat), s.hasGroup g = true ∧ s.domOn (domSG g) = true ∧ ((∃ l ∈ s.groupLanes g, (s.lane l).included = true)) :=
  ⟨{ live with lanes := { live.lanes with lanes := live.lanes.lanes.set 95 { included := true } } }, 11, by decide +kernel⟩
theorem wit_PanelAndHolds_8 : ∃ (s : State), s.domOn domCMP = true :=
  ⟨live, by decide +kernel⟩
theorem wit_PanelAndHolds_9 : ∃ (s : State), s.pnl.cmpDown = true ∧ s.domOn domCMP = true :=
  ⟨{ live with pnl := { live.pnl with cmpDown := true } }, by decide +kernel⟩
theorem wit_PanelAndHolds_10 : ∃ (s : State), ((s.lockIn = false ∨ s.domOn domCMP = false)) :=
  ⟨live, by decide +kernel⟩
theorem wit_PanelAndHolds_11 : ∃ (s : State), s.lockIn = true ∧ s.domOn domCMP = true ∧ s.scan.edge.isSome = true :=
  ⟨{ live with disp := { live.disp with running := true, sched := true, timing := { mode := 2, lockSource := 0, lineNs := 25600, activeLines := 32 } }, scan := { live.scan with edge := some 5 } }, by decide +kernel⟩
theorem wit_PanelAndHolds_12 : ∃ (s : State), s.lockIn = true ∧ s.domOn domCMP = true ∧ s.scan.edge = none :=
  ⟨{ live with disp := { live.disp with running := true, sched := true, timing := { mode := 2, lockSource := 0, lineNs := 25600, activeLines := 32 } } }, by decide +kernel⟩
theorem wit_UnitsAndClocks_0 : ∃ (u : Nat), ∃ (s : State), let r := s.unit u; s.tp.state = .running ∧ s.unitPresent u = true ∧ ((r.intent.getLsbD (s.observed u) = true ∨ s.time < r.settle)) := by
  refine ⟨0, live, ?_⟩
  try dsimp only
  decide +kernel
theorem wit_UnitsAndClocks_1 : ∃ (u : Nat), ∃ (s : State), let r := s.unit u; s.tp.state = .running ∧ s.unitPresent u = true ∧ r.intent.getLsbD (s.observed u) = false ∧ r.settle ≤ s.time ∧ (r.mismatchSince = none) := by
  refine ⟨3, { live with units := { live.units with recs := live.units.recs.set 3 { intent := 0 } } }, ?_⟩
  try dsimp only
  decide +kernel
theorem wit_UnitsAndClocks_2 : ∃ (u : Nat), ∃ (s : State), let r := s.unit u; ∃ (t0 : Nat), s.tp.state = .running ∧ s.unitPresent u = true ∧ r.intent.getLsbD (s.observed u) = false ∧ r.settle ≤ s.time ∧ (r.mismatchSince = some t0) ∧ r.attempts < 3 := by
  refine ⟨3, { live with units := { live.units with recs := live.units.recs.set 3 { intent := 0, mismatchSince := some 0, attempts := 2 } } }, 0, ?_⟩
  try dsimp only
  decide +kernel
theorem wit_UnitsAndClocks_3 : ∃ (u : Nat), ∃ (s : State), let r := s.unit u; ∃ (t0 : Nat), s.tp.state = .running ∧ s.unitPresent u = true ∧ r.intent.getLsbD (s.observed u) = false ∧ r.settle ≤ s.time ∧ (r.mismatchSince = some t0) ∧ 3 ≤ r.attempts ∧ u < s.units.recs.length := by
  refine ⟨3, { live with units := { live.units with recs := live.units.recs.set 3 { intent := 0, mismatchSince := some 0, attempts := 3 } } }, 0, ?_⟩
  try dsimp only
  decide +kernel
theorem wit_UnitsAndClocks_4 : ∃ (u : Nat), ∃ (s : State), s.unitPresent u = true ∧ (s.unit u).faulted = false ∧ (unitDomain u).any s.domOn = true ∧ s.ownFaultEvent u = true :=
  ⟨0, live, by decide +kernel⟩
theorem wit_UnitsAndClocks_5 : ∃ (u : Nat), ∃ (s : State), s.unitPresent u = true ∧ (s.unit u).faulted = false ∧ (unitDomain u).any s.domOn = true ∧ s.ownFaultEvent u = false :=
  ⟨32, live, by decide +kernel⟩
theorem wit_UnitsAndClocks_6 : ∃ (u : Nat), ∃ (s : State), ((s.unitPresent u = false ∨ (s.unit u).faulted = true ∨ (unitDomain u).any s.domOn = false)) :=
  ⟨3, { live with units := { live.units with recs := live.units.recs.set 3 { faulted := true } } }, by decide +kernel⟩
theorem wit_UnitsAndClocks_7 : ∃ (s : State), ∃ (i : Nat), i < 5 ∧ s.clk.lost.length = 5 ∧ s.clkLost i = false :=
  ⟨live, 4, by decide +kernel⟩
theorem wit_UnitsAndClocks_8 : ∃ (s : State), s.clk.lost.length = 5 ∧ s.clkLost 2 = false ∧ s.clkLost 0 = false :=
  ⟨live, by decide +kernel⟩
theorem wit_UnitsAndClocks_9 : ∃ (s : State), s.clk.lost.length = 5 ∧ s.clkLost 3 = false ∧ s.clkLost 0 = false :=
  ⟨live, by decide +kernel⟩
theorem wit_UnitsAndClocks_10 : ∃ (s : State), s.clk.lost.length = 5 ∧ (s.clkLost 2 = false ∧ s.clkLost 0 = true) :=
  ⟨{ live with clk := { live.clk with lost := [true, false, false, false, false] } }, by decide +kernel⟩
theorem wit_UnitsAndClocks_11 : ∃ (s : State), s.clk.lost.length = 5 ∧ (s.clkLost 2 = true ∧ s.clkLost 0 = false) :=
  ⟨{ live with clk := { live.clk with lost := [false, false, true, false, false] } }, by decide +kernel⟩
theorem wit_UnitsAndClocks_12 : ∃ (s : State), ∃ (i : Nat), s.clk.lost.length = 5 ∧ s.clkLost i = true :=
  ⟨{ live with clk := { live.clk with lost := [false, false, false, false, true] } }, 4, by decide +kernel⟩
theorem wit_UnitsAndClocks_14 : ∃ (s : State), ∃ (i : Nat), s.clk.lost.length = 5 ∧ s.clkLost i = false :=
  ⟨live, 4, by decide +kernel⟩
theorem wit_SaplineLanes_0 : ∃ (g : Nat), ∃ (s : State), g < 12 ∧ s.lanes.groupStart.length = 12 ∧ s.hasGroup g = true ∧ s.domOn (domSG g) = true ∧ s.lowHold = false ∧ s.pnl.up = true ∧ s.disp.running = false :=
  ⟨11, { live with pnl := { live.pnl with up := true } }, by decide +kernel⟩
theorem wit_SaplineLanes_1 : ∃ (s : State), s.lowHold = true :=
  ⟨{ live with hk := { live.hk with sensors := live.hk.sensors.set 0 { holds := [true] } } }, by decide +kernel⟩
theorem wit_SaplineLanes_2 : ∃ (lane : Nat), ∃ (seq : Nat), ∃ (preset : Nat), ∃ (margin : Nat), ∃ (s : State), s.hasLane lane = true ∧ 1 ≤ seq ∧ seq < 256 ∧ margin < 256 ∧ (s.lane lane).ackSeq ≠ seq ∧ (s.lane lane).state = 1 ∧ (s.lane lane).ended = false ∧ preset < 10 :=
  ⟨95, 255, 9, 100, { live with lanes := { live.lanes with lanes := live.lanes.lanes.set 95 { state := 1 } } }, by decide +kernel⟩
theorem wit_SaplineLanes_3 : ∃ (lane : Nat), ∃ (seq : Nat), ∃ (margin : Nat), ∃ (s : State), s.hasLane lane = true ∧ 1 ≤ seq ∧ seq < 256 ∧ margin < 256 ∧ (s.lane lane).ackSeq ≠ seq ∧ (s.lane lane).state = 1 ∧ (s.lane lane).ended = false :=
  ⟨95, 255, 100, { live with lanes := { live.lanes with lanes := live.lanes.lanes.set 95 { state := 1 } } }, by decide +kernel⟩
theorem wit_SaplineLanes_4 : ∃ (lane : Nat), ∃ (seq : Nat), ∃ (margin : Nat), ∃ (s : State), s.hasLane lane = true ∧ 1 ≤ seq ∧ seq < 256 ∧ margin < 256 ∧ (s.lane lane).ackSeq ≠ seq ∧ (s.lane lane).state = 1 ∧ (s.lane lane).ended = false ∧ 51 ≤ margin :=
  ⟨95, 255, 51, { live with lanes := { live.lanes with lanes := live.lanes.lanes.set 95 { state := 1 } } }, by decide +kernel⟩
theorem wit_SaplineLanes_5 : ∃ (lane : Nat), ∃ (seq : Nat), ∃ (margin : Nat), ∃ (s : State), s.hasLane lane = true ∧ 1 ≤ seq ∧ seq < 256 ∧ margin < 256 ∧ (s.lane lane).ackSeq ≠ seq ∧ (s.lane lane).state = 1 ∧ (s.lane lane).ended = false ∧ margin < 51 :=
  ⟨95, 255, 50, { live with lanes := { live.lanes with lanes := live.lanes.lanes.set 95 { state := 1 } } }, by decide +kernel⟩
theorem wit_SaplineLanes_8 : ∃ (lane : Nat), ∃ (seq : Nat), ∃ (margin : Nat), ∃ (s : State), s.hasLane lane = true ∧ 1 ≤ seq ∧ seq < 256 ∧ margin < 256 ∧ (s.lane lane).ackSeq ≠ seq ∧ (((s.lane lane).state = 2 ∨ (s.lane lane).state = 3)) ∧ (s.lane lane).step = none ∧ (s.lane lane).lastStep + 10000000 ≤ s.time ∧ lane < s.lanes.lanes.length :=
  ⟨95, 255, 100, { live with time := 20000000, lanes := { live.lanes with lanes := live.lanes.lanes.set 95 { state := 2 } } }, by decide +kernel⟩
theorem wit_SaplineLanes_9 : ∃ (lane : Nat), ∃ (seq : Nat), ∃ (kind : Nat), ∃ (margin : Nat), ∃ (s : State), s.hasLane lane = true ∧ 1 ≤ seq ∧ seq < 256 ∧ margin < 256 ∧ (s.lane lane).ackSeq ≠ seq ∧ (((s.lane lane).state = 2 ∨ (s.lane lane).state = 3)) ∧ kind ≠ 2 ∧ kind < 5 :=
  ⟨95, 255, 0, 100, { live with time := 20000000, lanes := { live.lanes with lanes := live.lanes.lanes.set 95 { state := 3 } } }, by decide +kernel⟩
theorem wit_SaplineLanes_10 : ∃ (lane : Nat), ∃ (seq : Nat), ∃ (s : State), (s.lane lane).ackSeq = seq :=
  ⟨95, 0, live, by decide +kernel⟩
theorem wit_SaplineLanes_11 : ∃ (g : Nat), ∃ (s : State), ∃ (t0 : Nat), s.lanes.groupStart.getD g none = some t0 :=
  ⟨3, { live with lanes := { live.lanes with groupStart := live.lanes.groupStart.set 3 (some 9) } }, 9, by decide +kernel⟩
theorem wit_SaplineLanes_12 : ∃ (s : State), s.trainingRuns = false ∧ s.trainedLanes ≠ [] :=
  ⟨{ live with lanes := { live.lanes with lanes := live.lanes.lanes.set 0 { state := 1, trained := true, ended := true } } }, by decide +kernel⟩
theorem wit_SaplineLanes_13 : ∃ (lane : Nat), ∃ (s : State), let x := s.lane lane; ∃ (seq : Nat), ∃ (steps : Nat), x.step = some (seq, steps) := by
  refine ⟨95, { live with lanes := { live.lanes with lanes := live.lanes.lanes.set 95 { step := some (7, 5) } } }, 7, 5, ?_⟩
  try dsimp only
  decide +kernel
theorem wit_SaplineLanes_14 : ∃ (lane : Nat), ∃ (s : State), let x := s.lane lane; ((x.state = 2 ∨ x.state = 3)) ∧ x.margin < 120 ∧ (s.laneAux lane).lowPosted = false := by
  refine ⟨95, { live with lanes := { live.lanes with lanes := live.lanes.lanes.set 95 { state := 2, margin := 119 } } }, ?_⟩
  try dsimp only
  decide +kernel
theorem wit_SaplineLanes_15 : ∃ (lane : Nat), ∃ (s : State), let x := s.lane lane; (((x.state ≠ 2 ∧ x.state ≠ 3) ∨ 120 ≤ x.margin)) ∧ (s.laneAux lane).lowPosted = false := by
  refine ⟨95, live, ?_⟩
  try dsimp only
  decide +kernel
theorem wit_SaplineLanes_16 : ∃ (lane : Nat), ∃ (s : State), let x := s.lane lane; (s.laneAux lane).lowPosted = true ∧ 150 ≤ x.margin := by
  refine ⟨95, { live with lanes := { live.lanes with lanes := live.lanes.lanes.set 95 { state := 2, margin := 150 }, aux := live.lanes.aux.set 95 { lowPosted := true } } }, ?_⟩
  try dsimp only
  decide +kernel
theorem wit_SaplineLanes_17 : ∃ (lane : Nat), ∃ (s : State), let x := s.lane lane; ∃ (errors : W32), lane < 96 ∧ x.included = true ∧ errors.toNat < 16 := by
  refine ⟨95, { live with lanes := { live.lanes with lanes := live.lanes.lanes.set 95 { included := true } } }, 15, ?_⟩
  try dsimp only
  decide +kernel
theorem wit_SaplineLanes_18 : ∃ (lane : Nat), ∃ (s : State), let x := s.lane lane; ∃ (errors : W32), lane < 96 ∧ lane < s.lanes.aux.length ∧ x.included = true ∧ 16 ≤ errors.toNat ∧ (s.laneAux lane).statsBad < 2 := by
  refine ⟨95, { live with lanes := { live.lanes with lanes := live.lanes.lanes.set 95 { included := true }, aux := live.lanes.aux.set 95 { statsBad := 1 } } }, 16, ?_⟩
  try dsimp only
  decide +kernel
theorem wit_SaplineLanes_19 : ∃ (lane : Nat), ∃ (s : State), let x := s.lane lane; x.state = 4 ∧ lane < 96 ∧ lane < s.lanes.aux.length ∧ (s.laneAux lane).retries < 6 ∧ s.disp.running = true ∧ s.tp.state = .running ∧ s.scan.hold.isSome = true := by
  refine ⟨95, { live with lanes := { live.lanes with lanes := live.lanes.lanes.set 95 { state := 4 }, aux := live.lanes.aux.set 95 { retries := 5 } }, disp := { live.disp with running := true }, scan := { live.scan with hold := some (1, 5) } }, ?_⟩
  try dsimp only
  decide +kernel
theorem wit_SaplineLanes_20 : ∃ (lane : Nat), ∃ (s : State), let x := s.lane lane; ∃ (errors : W32), lane < 96 ∧ lane < s.lanes.aux.length ∧ lane < s.lanes.lanes.length ∧ x.included = true ∧ 16 ≤ errors.toNat ∧ (s.laneAux lane).statsBad = 2 := by
  refine ⟨95, { live with lanes := { live.lanes with lanes := live.lanes.lanes.set 95 { included := true }, aux := live.lanes.aux.set 95 { statsBad := 2 } } }, 16, ?_⟩
  try dsimp only
  decide +kernel
theorem wit_SaplineLanes_21 : ∃ (lane : Nat), ∃ (s : State), let x := s.lane lane; x.state = 4 ∧ lane < 96 ∧ lane < s.lanes.aux.length ∧ lane < s.lanes.lanes.length ∧ (s.laneAux lane).retries < 6 ∧ s.disp.running = true ∧ s.tp.state = .running ∧ s.scan.hold = none ∧ s.lowHold = false := by
  refine ⟨95, { live with lanes := { live.lanes with lanes := live.lanes.lanes.set 95 { state := 4 }, aux := live.lanes.aux.set 95 { retries := 5 } }, disp := { live.disp with running := true } }, ?_⟩
  try dsimp only
  decide +kernel
theorem wit_SaplineLanes_22 : ∃ (lane : Nat), ∃ (s : State), let x := s.lane lane; x.state = 4 ∧ 6 ≤ (s.laneAux lane).retries := by
  refine ⟨95, { live with lanes := { live.lanes with lanes := live.lanes.lanes.set 95 { state := 4 }, aux := live.lanes.aux.set 95 { retries := 6 } } }, ?_⟩
  try dsimp only
  decide +kernel
theorem wit_ReceiversAdapt_0 : ∃ (lane : Nat), ∃ (s : State), let x := s.lane lane; 96 ≤ lane ∧ lane < s.lanes.lanes.length ∧ x.signal = true := by
  refine ⟨143, { live with lanes := { live.lanes with lanes := live.lanes.lanes.set 143 { state := 2 } } }, ?_⟩
  try dsimp only
  decide +kernel
theorem wit_ReceiversAdapt_1 : ∃ (lane : Nat), ∃ (s : State), let x := s.lane lane; hasReceiver lane = true ∧ lane < 96 ∧ lane < s.lanes.lanes.length ∧ x.signal = true := by
  refine ⟨88, { live with lanes := { live.lanes with lanes := live.lanes.lanes.set 88 { state := 2 } } }, ?_⟩
  try dsimp only
  decide +kernel
theorem wit_ReceiversAdapt_2 : ∃ (lane : Nat), ∃ (s : State), let x := s.lane lane; x.signal = false := by
  refine ⟨143, live, ?_⟩
  try dsimp only
  decide +kernel
theorem wit_ReceiversAdapt_4 : ∃ (lane : Nat), ∃ (s : State), let x := s.lane lane; hasReceiver lane = true ∧ x.signal = true ∧ (s.hk.cal.getD 2 {}).held = false ∧ lane < s.lanes.lanes.length := by
  refine ⟨143, { live with lanes := { live.lanes with lanes := live.lanes.lanes.set 143 { state := 2 } } }, ?_⟩
  try dsimp only
  decide +kernel
theorem wit_ReceiversAdapt_5 : ∃ (s : State), (s.hk.cal.getD 2 {}).held = true :=
  ⟨{ live with hk := { live.hk with cal := live.hk.cal.set 2 { held := true } } }, by decide +kernel⟩
theorem wit_ReceiversAdapt_6 : ∃ (lane : Nat), ∃ (s : State), let x := s.lane lane; ∃ (t0 : Nat), (s.laneAux lane).idleAt = some t0 ∧ x.state = 3 := by
  refine ⟨143, { live with lanes := { live.lanes with lanes := live.lanes.lanes.set 143 { state := 3 }, aux := live.lanes.aux.set 143 { idleAt := some 5 } } }, 5, ?_⟩
  try dsimp only
  decide +kernel
theorem wit_ReceiversAdapt_7 : ∃ (lane : Nat), ∃ (s : State), (s.laneAux lane).idleAt = none :=
  ⟨143, live, by decide +kernel⟩
theorem wit_StepsKeepTheTapLimits_0 : ∃ (x : Lane), x.pre ≤ 12 ∧ 27 ≤ x.main ∧ x.main ≤ 63 ∧ x.post ≤ 24 ∧ x.pre + x.main + x.post ≤ 63 :=
  ⟨{ pre := 0, main := 27, post := 0 }, by decide +kernel⟩
theorem wit_StepRunsTheFrontCommand_1 : ∃ (c : Instr), ∃ (rest : List Instr), ∃ (s : State), s.pending = c :: rest :=
  ⟨.wakeNLow true, [.sysRstNLow], { live with pending := [.wakeNLow true, .sysRstNLow] }, by decide +kernel⟩
theorem wit_StepRunsTheFrontCommand_2 : ∃ (s : State), s.pending = [] :=
  ⟨State.reset, by decide +kernel⟩
theorem wit_EventsGoToTheirRings_0 : ∃ (code : Nat), ∃ (sev : Nat), ∃ (m : Nat), ∃ (s : State), let r := s.ring m; m < 4 ∧ s.ctl.rings.length = 4 ∧ s.ringTakes code sev m = true ∧ r.unconsumed < 240 := by
  refine ⟨0x0100, 1, 3, { live with ctl := { live.ctl with rings := live.ctl.rings.set 3 { producer := 239 } } }, ?_⟩
  try dsimp only
  decide +kernel
theorem wit_EventsGoToTheirRings_5 : ∃ (code : Nat), ∃ (sev : Nat), ∃ (m : Nat), ∃ (s : State), let r := s.ring m; m < 4 ∧ s.ctl.rings.length = 4 ∧ s.ringTakes code sev m = true ∧ 240 ≤ r.unconsumed := by
  refine ⟨0x0100, 1, 3, { live with ctl := { live.ctl with rings := live.ctl.rings.set 3 { producer := 240 } } }, ?_⟩
  try dsimp only
  decide +kernel
theorem wit_EventsGoToTheirRings_9 : ∃ (code : Nat), ∃ (sev : Nat), ∃ (m : Nat), ∃ (s : State), m < 4 ∧ s.ctl.rings.length = 4 ∧ s.ringTakes code sev m = false :=
  ⟨0x0100, 1, 3, { live with ctl := { live.ctl with rings := live.ctl.rings.set 3 { mask := 0 } } }, by decide +kernel⟩
theorem wit_EventsGoToTheirRings_10 : ∃ (m : Nat), ∃ (s : State), m < 4 ∧ s.ctl.rings.length = 4 :=
  ⟨3, live, by decide +kernel⟩
theorem wit_PendingIdsAreFresh_0 : ∃ (m : Master), ∃ (s : State), (s.ctl.pendingOps.filter fun p => p.master == m.code).length ≤ 16 ∧ 1 ≤ (s.box m.code).nextId ∧ (s.box m.code).nextId ≤ 0xFFFF :=
  ⟨.hostA, withOp (mkOp 0x1502 []), by decide +kernel⟩
theorem wit_PendingIdsAreFresh_2 : ∃ (m : Master), ∃ (s : State), ∃ (p : PendingOp), p ∈ s.ctl.pendingOps ∧ (s.ctl.pendingOps.filter fun p => p.master == m.code).length ≤ 16 ∧ 1 ≤ (s.box m.code).nextId ∧ (s.box m.code).nextId ≤ 0xFFFF ∧ p.master = m.code :=
  ⟨.hostA, withOp (mkOp 0x1502 []), mkOp 0x1502 [], by decide +kernel⟩
theorem wit_DramMapIsOneToOne_0 : ∃ (a : Nat), ∃ (s : State), s.mem.map.Pairwise (· < ·) ∧ s.dramTop ≤ a ∧ a < cellarBase :=
  ⟨live.dramTop, live, by decide +kernel⟩
theorem wit_DramMapIsOneToOne_1 : ∃ (a : Nat), ∃ (s : State), s.mem.map.Pairwise (· < ·) ∧ a < s.dramTop :=
  ⟨live.dramTop - 1, live, by decide +kernel⟩
theorem wit_DramMapIsOneToOne_5 : ∃ (a : Nat), ∃ (s : State), ∃ (b : Nat), s.mem.map.Pairwise (· < ·) ∧ a < s.dramTop ∧ b / 2048 = a / 2048 :=
  ⟨live.dramTop - 1, live, live.dramTop - 2048, by decide +kernel⟩
theorem wit_NewestIntentIsTheHighest_1 : ∃ (l : List PlcSlot), ∃ (x : PlcSlot), newestIntent l = some x :=
  ⟨[{ seq := 4, valid := true }, { seq := 9, valid := true }], { seq := 9, valid := true }, by decide +kernel⟩
theorem wit_NewestIntentIsTheHighest_3 : ∃ (l : List PlcSlot), ∃ (x : PlcSlot), ∃ (y : PlcSlot), y ∈ l ∧ newestIntent l = some x ∧ y.valid = true :=
  ⟨[{ seq := 4, valid := true }, { seq := 9, valid := true }], { seq := 9, valid := true }, { seq := 4, valid := true }, by decide +kernel⟩
theorem wit_EvictionSparesFlatTiles_0 : ∃ (slots : Nat), ∃ (l : List Tile), let flat := fun t : Tile => match t.key with | .flat .. => true | _ => false; l.length ≤ slots ∧ ((∃ t ∈ l, flat t = false)) := by
  refine ⟨3, [{ key := .flat 1 2 0 3 4, tex := [] }, { key := .record 5, tex := [], last := 2 }, { key := .slot 64, tex := [], last := 7 }], ?_⟩
  try dsimp only
  decide +kernel
theorem wit_EvictionSparesFlatTiles_1 : ∃ (slots : Nat), ∃ (l : List Tile), let flat := fun t : Tile => match t.key with | .flat .. => true | _ => false; ∃ (t : Tile), t ∈ l ∧ l.length ≤ slots ∧ ((∃ t ∈ l, flat t = false)) ∧ flat t = true := by
  refine ⟨3, [{ key := .flat 1 2 0 3 4, tex := [] }, { key := .record 5, tex := [], last := 2 }, { key := .slot 64, tex := [], last := 7 }], { key := .flat 1 2 0 3 4, tex := [] }, ?_⟩
  try dsimp only
  decide +kernel
theorem wit_EvictionSparesFlatTiles_2 : ∃ (slots : Nat), ∃ (l : List Tile), let flat := fun t : Tile => match t.key with | .flat .. => true | _ => false; ∃ (t : Tile), t ∈ l ∧ l.length ≤ slots ∧ ((∃ t ∈ l, flat t = false)) ∧ t ∉ evictTile slots l := by
  refine ⟨3, [{ key := .flat 1 2 0 3 4, tex := [] }, { key := .record 5, tex := [], last := 2 }, { key := .slot 64, tex := [], last := 7 }], { key := .record 5, tex := [], last := 2 }, ?_⟩
  try dsimp only
  decide +kernel
theorem wit_EvictionSparesFlatTiles_3 : ∃ (slots : Nat), ∃ (l : List Tile), let flat := fun t : Tile => match t.key with | .flat .. => true | _ => false; ∃ (t : Tile), ∃ (u : Tile), t ∈ l ∧ u ∈ l ∧ l.length ≤ slots ∧ ((∃ t ∈ l, flat t = false)) ∧ t ∉ evictTile slots l ∧ flat u = false := by
  refine ⟨3, [{ key := .flat 1 2 0 3 4, tex := [] }, { key := .record 5, tex := [], last := 2 }, { key := .slot 64, tex := [], last := 7 }], { key := .record 5, tex := [], last := 2 }, { key := .slot 64, tex := [], last := 7 }, ?_⟩
  try dsimp only
  decide +kernel
theorem wit_DeviceMemoryReadsBack_0 : ∃ (a : Nat), ∃ (data : Bytes), ∃ (s : State), s.mem.map.Pairwise (· < ·) ∧ s.memoriesWf ∧ s.inMemory a data.length = true :=
  ⟨live.dramTop - 2, [1, 2], live, by decide +kernel⟩
theorem wit_DeviceMemoryReadsBack_1 : ∃ (a : Nat), ∃ (data : Bytes), ∃ (s : State), ∃ (b : Nat), s.mem.map.Pairwise (· < ·) ∧ s.memoriesWf ∧ s.inMemory a data.length = true ∧ s.populated b = true ∧ ((b < a ∨ a + data.length ≤ b)) :=
  ⟨live.dramTop - 2, [1, 2], live, live.dramTop - 3, by decide +kernel⟩
/-- A producer write of value `v`, `w` or `x` at producer `p` and consumer `q`: nothing new, accepted to the limit, beyond it (R472). -/
abbrev Producers (cap : Nat) (p q v w x : W32) : Prop :=
  v = p ∧ (w ≠ p ∧ (w - q).toNat ≤ cap ∧ (w - p).toNat ≤ (w - q).toNat) ∧ (x ≠ p ∧ (cap < (x - q).toNat ∨ (x - q).toNat < (x - p).toNat))
theorem wit_EveryProducerFollowsOneRule_0 : ∃ (m : Master) (v w x : W32) (s : State), s.portLive m.code = true ∧ s.isOwner m.code = true ∧ s.domOn domCMP = true ∧
    Producers 256 s.scene.producer s.scene.consumed v w x ∧ Producers 256 s.layers.producer s.layers.consumed v w x :=
  ⟨.hostA, 0, 256, 257, live, by decide +kernel⟩
theorem wit_EveryProducerFollowsOneRule_6 : ∃ (m : Master) (v w x : W32) (s : State) (q : Nat), s.portLive m.code = true ∧ s.isOwner m.code = true ∧
    Producers (s.chq q).entries (s.chq q).producer (s.chq q).completed v w x :=
  ⟨.hostA, 3, 5, 6, { live with churn := { live.churn with queues := live.churn.queues.set 2 { base := 0x10000, entries := 4, producer := 3, completed := 1 } } }, 2, by decide +kernel⟩
theorem wit_EveryProducerFollowsOneRule_7 : ∃ (m : Master) (v w x : W32) (s : State), s.portLive m.code = true ∧ s.isOwner m.code = true ∧ s.domOn domAU = true ∧
    Producers s.pcmFrames s.aud.producer s.aud.consumed v w x :=
  ⟨.hostA, 0, 1024, 1025, { live with aud := { live.aud with ringBytes := 4096, ringChannels := 1 } }, by decide +kernel⟩
theorem wit_EveryProducerFollowsOneRule_4 : ∃ (m : Master) (s : State), s.portLive m.code = true ∧ s.isOwner m.code = true ∧ s.domOn domCMP = false ∧ s.domOn domAU = false :=
  ⟨.hostA, { live with pwr := { live.pwr with domains := [] } }, by decide +kernel⟩
theorem wit_EveryProducerFollowsOneRule_8 : ∃ (m : Master) (s : State), s.portLive m.code = false :=
  ⟨.svc, { live with pins := { live.pins with svcPresentN := true } }, by decide +kernel⟩
theorem wit_OwnerCommandsNeedOwnership_0 : ∃ (m : Master) (s : State), s.tp.state = .running ∧ s.front m.code 0x0006 = true ∧ s.isOwner m.code = false :=
  ⟨.svc, put live .svc 0x0006 0 (le 4 0xA5C3), by decide +kernel⟩
theorem wit_OwnerCommandsNeedOwnership_1 : ∃ (m : Master) (s : State), s.tp.state = .running ∧ s.front m.code 0x0906 = false ∧ s.isOwner m.code = false ∧ m ≠ .safe :=
  ⟨.svc, live, by decide +kernel⟩
theorem wit_OwnerCommandsNeedOwnership_2 : ∃ (m : Master) (s : State), s.tp.state = .running ∧ m ≠ .safe ∧ s.front m.code 0x0906 = true :=
  ⟨.hostA, cmd 0x0906 (le 2 2000), by decide +kernel⟩
theorem wit_WritesKeepTheMemoriesForm_0 : ∃ (m : Master) (addr n : Nat) (data : List W8) (v : W32) (ecc : Ecc) (s t : State) (i : Instr),
    (i = .bar2Write m addr data ∨ i = .hwPortData m v ∨ i = .memRequestIssue n ecc) ∧ exec i s = .next t ∧ s.memoriesWf :=
  ⟨.hostA, 0x10000, 0, [1, 2], 0, .clean, live, _, .bar2Write .hostA 0x10000 [1, 2], .inl rfl, rfl, by decide +kernel⟩
/-- RAY.CAL_LOAD of an identity map of a 64 by 32 panel of two subframes. -/
def calLoad : State :=
  (put { live with disp := { live.disp with panel := some ⟨64, 32, 2, 0, 50, 1, 0⟩ } } .hostA 0x801 1
    (le 5 cellarBase ++ [0, 0, 0] ++ le 4 17792 ++ le 4 0 ++ le 4 124760477)).devWrite cellarBase
    ([1, 0, 2, 0] ++ le 4 17792 ++ le 2 64 ++ le 2 32 ++ le 2 50 ++ [0, 0] ++ le 4 0 ++ le 4 65535 ++ le 4 131072)
theorem calLoad_read : (calLoad.takenBulk .hostA).devRead (calLoad.bulkAt .hostA) (calLoad.bulkLen .hostA) =
    memRead (calLoad.takenBulk .hostA).cellar.window 0 32 ++ List.replicate 17760 0 := by
  have e1 : calLoad.bulkAt .hostA = cellarBase + 0 := by decide +kernel
  have e2 : calLoad.bulkLen .hostA = 32 + 17760 := by decide +kernel
  rw [e1, e2, devRead_cellar _ 0 _ (by decide +kernel) (by decide +kernel), memRead_add _ 0 32 17760,
    memRead_tail _ (0 + 32) _ (by decide +kernel)]
theorem calLoad_map : (calLoad.takenBulk .hostA).mapError ((calLoad.takenBulk .hostA).devRead (calLoad.bulkAt .hostA) (calLoad.bulkLen .hostA))
    (u32At (calLoad.argsOf .hostA) 16) = none := by
  rw [calLoad_read]
  exact mapError_none (by decide +kernel)
theorem wit_RayEngine_1 : ∃ (m : Master) (s : State), Accepts s m { code := 0x0801, cls := 1, bulk := some 0, len := 20, args := [{ off := 16, n := 4 }] } ∧
    BulkFits s m { code := 0x0801, cls := 1, bulk := some 0, len := 20, args := [{ off := 16, n := 4 }] } ∧
    (s.takenBulk m).mapError ((s.takenBulk m).devRead (s.bulkAt m) (s.bulkLen m)) (u32At (s.argsOf m) 16) = none ∧
    (s.taken m).ray.load = none ∧ s.pendingCount m.code < 16 :=
  ⟨.hostA, calLoad, by decide +kernel, by decide +kernel, calLoad_map, by decide +kernel, by decide +kernel⟩
theorem wit_DepthRuns_12 : ∃ (layer : Nat) (s : State) (q : W32) (e : SliceSrc) (rows : Nat) (z : State),
    s.domOn domSL = true ∧ (s.slicer layer).stalled = false ∧ (s.slicer layer).cur = some q ∧ s.sliceSrc layer q = some (e, rows) ∧ s.held (s.slicer layer).halfBase (halfBytes (s.slicer layer).cfg) = false ∧
    min ((32 * (s.slicer layer).tileRow + 34) / e.scale + 1) (e.h / e.scale - 1) < rows ∧ (s.slicer layer).tileRow ≠ 0 ∧
    s.writeTiles layer e (s.slicer layer).tileRow = some z ∧ (s.slicer layer).tileRow + 1 < (e.h + 31) / 32 := by
  obtain ⟨z, hz⟩ := Option.isSome_iff_exists.1 (show (slicing.writeTiles 0 slicingSrc (slicing.slicer 0).tileRow).isSome = true by decide +kernel)
  exact ⟨0, slicing, 6, slicingSrc, 48, z, by decide +kernel, by decide +kernel, by decide +kernel, rfl, by decide +kernel, by decide +kernel, by decide +kernel, hz, by decide +kernel⟩

end Sys2Proof.Tests
end

section
/-! SUPPORT. Accesses through a master's port: what a port that does not reach the device lets happen (R67, R68), and where
a write is turned away from a register its master may not write (R13, R262). -/

namespace Sys2Proof.Machine

variable {k : Nat} {s : State}

/-! ### The meaning of each access -/

theorem exec_sceneProducer (m : Master) (v : W32) (s : State) : exec (.sceneProducer m v) s = execSceneProducer m v s := rfl
theorem exec_flipProducer (m : Master) (v : W32) (s : State) : exec (.flipProducer m v) s = execFlipProducer m v s := rfl
theorem exec_dispCommit (m : Master) (v : W32) (s : State) : exec (.dispCommit m v) s = execDispCommit m v s := rfl
theorem exec_churnProducer (m : Master) (q : Nat) (v : W32) (s : State) : exec (.churnProducer m q v) s = execChurnProducer m q v s := rfl
theorem exec_churnAbortWrite (m : Master) (q : Nat) (v : W32) (s : State) : exec (.churnAbortWrite m q v) s = execChurnAbortWrite m q v s := rfl
theorem exec_audioPcmProducer (m : Master) (v : W32) (s : State) : exec (.audioPcmProducer m v) s = execAudioPcmProducer m v s := rfl
theorem exec_hwPortData (m : Master) (v : W32) (s : State) : exec (.hwPortData m v) s = execHwPortData m v s := rfl
theorem exec_hwCommit (m : Master) (v : W32) (s : State) : exec (.hwCommit m v) s = execHwCommit m v s := rfl
theorem exec_hwRefresh (m : Master) (v : W32) (s : State) : exec (.hwRefresh m v) s = execHwRefresh m v s := rfl
theorem exec_hwFrameRead (m : Master) (s : State) : exec (.hwFrameRead m) s = execHwFrameRead m s := rfl

/-! ### Accesses that are turned away -/

theorem byPort_live {f : State → Result} (h : s.portLive k = true) : s.byPort k f = f s := by
  rw [State.byPort, if_pos h]

theorem byPort_not_live {f : State → Result} (h : s.portLive k = false) : s.byPort k f = done s := by
  rw [State.byPort, h, if_neg Bool.false_ne_true]

/-- An instruction that acts through a port changes nothing while the port does not reach the device (R67, R68). -/
theorem exec_of_not_portLive {i : Instr} {f : State → Result} (hi : exec i s = s.byPort k f) (h : s.portLive k = false) :
    exec i s = .next s.settle := by
  rw [hi, byPort_not_live h]
  rfl

/-- A write that a test turns away is dropped with its event (R13). -/
theorem exec_eq_dropWrite {i : Instr} {m : Master} {off : Nat} {turnedAway : State → Bool} {effect : State → State}
    (hi : exec i s = s.byPort m.code fun s => done (if turnedAway s then s.dropWrite m off else effect s))
    (hl : s.portLive m.code = true) (ht : turnedAway s = true) : exec i s = .next (s.dropWrite m off).settle := by
  rw [hi, byPort_live hl, if_pos ht]
  rfl

/-- A write to a register of the owner by another master (R13). -/
theorem exec_ownerRegister_foreign {i : Instr} {m : Master} {off : Nat} {effect : State → State}
    (hi : exec i s = s.byPort m.code fun s => done (if !s.isOwner m.code then s.dropWrite m off else effect s))
    (hl : s.portLive m.code = true) (ho : s.isOwner m.code = false) : exec i s = .next (s.dropWrite m off).settle :=
  exec_eq_dropWrite (turnedAway := fun s => !s.isOwner m.code) hi hl (by simp [ho])

/-- A write to a Heartwood register by a master other than SAFE (R13, R262). -/
theorem exec_hwRegister_foreign {i : Instr} {m : Master} {off : Nat} {effect : State → State}
    (hi : exec i s = s.byPort m.code fun s => done (if m != .safe then s.dropWrite m off else effect s))
    (hl : s.portLive m.code = true) (hm : m ≠ .safe) : exec i s = .next (s.dropWrite m off).settle :=
  exec_eq_dropWrite (turnedAway := fun _ => m != .safe) hi hl (by simp [hm])

/-- Settles O35: each access is turned away at the port, at the test for the owner, or at the test for SAFE. -/
theorem foreignWritesAreDropped : Obligations.ForeignWritesAreDropped := by
  intro m v q s
  refine ⟨fun hl => ?_, fun hl ho => ?_, fun hl hm => ?_⟩
  · simp only [List.forall_mem_cons]
    exact ⟨exec_of_not_portLive (exec_sceneProducer m v s) hl, exec_of_not_portLive (exec_flipProducer m v s) hl,
      exec_of_not_portLive (exec_dispCommit m v s) hl, exec_of_not_portLive (exec_churnProducer m q v s) hl,
      exec_of_not_portLive (exec_churnAbortWrite m q v s) hl, exec_of_not_portLive (exec_audioPcmProducer m v s) hl,
      exec_of_not_portLive (exec_hwPortData m v s) hl, exec_of_not_portLive (exec_hwCommit m v s) hl,
      exec_of_not_portLive (exec_hwRefresh m v s) hl, exec_of_not_portLive (exec_hwFrameRead m s) hl, nofun⟩
  · exact ⟨exec_ownerRegister_foreign (exec_sceneProducer m v s) hl ho, exec_ownerRegister_foreign (exec_flipProducer m v s) hl ho,
      exec_ownerRegister_foreign (exec_dispCommit m v s) hl ho, exec_ownerRegister_foreign (exec_churnProducer m q v s) hl ho,
      exec_ownerRegister_foreign (exec_churnAbortWrite m q v s) hl ho, exec_ownerRegister_foreign (exec_audioPcmProducer m v s) hl ho⟩
  · exact ⟨exec_hwRegister_foreign (exec_hwPortData m v s) hl hm, exec_hwRegister_foreign (exec_hwCommit m v s) hl hm,
      exec_hwRegister_foreign (exec_hwRefresh m v s) hl hm⟩

end Sys2Proof.Machine
end

section
/-! SUPPORT. The control registers of the event rings: EVR_CONSUMER, EVR_LOST and the end of a hold-off (R11, R81, R83, R84). -/

namespace Sys2Proof.Machine

variable {m : Master} {k : Nat} {v : W32} {s : State}

theorem exec_evrConsumer (m : Master) (k : Nat) (v : W32) (s : State) : exec (.evrConsumer m k v) s = execEvrConsumer m k v s := rfl

theorem exec_evrLostRead (m : Master) (k : Nat) (s : State) : exec (.evrLostRead m k) s = execEvrLostRead m k s := rfl

theorem exec_eventInterruptHoldoff (k : Nat) (s : State) : exec (.eventInterruptHoldoff k) s = execEventInterruptHoldoff k s := rfl

/-- A consumer within what the producer has written is taken, and the completions passed leave the pending count (R81, R83). -/
theorem exec_evrConsumer_within (hl : s.portLive m.code = true)
    (hv : (v - (s.ring m.code).consumer).toNat ≤ ((s.ring m.code).producer - (s.ring m.code).consumer).toNat) :
    exec (.evrConsumer m m.code v) s = .next
      ((s.modRing m.code fun x => { x with consumer := v }).modBox m.code fun b =>
        { b with completions := b.completions.filter fun p =>
          (v - (s.ring m.code).consumer).toNat ≤ (p - (s.ring m.code).consumer).toNat }).settle := by
  rw [exec_evrConsumer, execEvrConsumer, byPort_live hl]
  simp only [bne_self_eq_false, Bool.false_eq_true, if_false, if_pos hv, done]

/-- A consumer past the producer changes nothing (R83). -/
theorem exec_evrConsumer_beyond (hl : s.portLive m.code = true)
    (hv : ((s.ring m.code).producer - (s.ring m.code).consumer).toNat < (v - (s.ring m.code).consumer).toNat) :
    exec (.evrConsumer m m.code v) s = .next s.settle := by
  rw [exec_evrConsumer, execEvrConsumer, byPort_live hl]
  simp only [bne_self_eq_false, Bool.false_eq_true, if_false, if_neg (Nat.not_le.2 hv), done]

/-- The consumer of another master's ring is not written (R13). -/
theorem exec_evrConsumer_foreign (hl : s.portLive m.code = true) (hk : k ≠ m.code) :
    exec (.evrConsumer m k v) s = .next (s.dropWrite m (0x28004 + k * 0x100)).settle := by
  rw [exec_evrConsumer, execEvrConsumer, byPort_live hl]
  simp only [bne_iff_ne.2 hk.symm, if_true, done]

/-- A read of EVR_LOST answers the count and clears it (R11: access type RC). -/
theorem exec_evrLostRead_existing (hl : s.portLive m.code = true) (hk : s.masterExists k = true) :
    exec (.evrLostRead m k) s = .next
      ((s.emit (.readData m.code (le 4 (s.ring k).lost.toNat) false)).modRing k fun x => { x with lost := 0 }).settle := by
  rw [exec_evrLostRead, execEvrLostRead, byPort_live hl, if_pos hk]
  rfl

/-- At the end of a hold-off the vector held off is sent (R84). -/
theorem exec_eventInterruptHoldoff_heldOff (h : (s.ring k).heldOff = true) :
    exec (.eventInterruptHoldoff k) s = .next ((s.timeTo (s.ring k).holdUntil).ringVector k).settle := by
  rw [exec_eventInterruptHoldoff, execEventInterruptHoldoff, h, State.when_true]
  rfl

/-- Settles O31, a lemma for each clause. -/
theorem eventRingControl : Obligations.EventRingControl := fun _ _ _ =>
  ⟨fun hl _ => ⟨exec_of_not_portLive (exec_evrConsumer ..) hl, exec_of_not_portLive (exec_evrLostRead ..) hl⟩,
    exec_evrConsumer_within,
    exec_evrConsumer_beyond,
    fun _ => exec_evrConsumer_foreign,
    fun _ => exec_evrLostRead_existing,
    fun _ => exec_eventInterruptHoldoff_heldOff⟩

end Sys2Proof.Machine
end

section
/-! SUPPORT. Requests for a mode, SYS.RESET, SAFE_STOP_N and the prerequisites of FIELD (R22 to R24, R28, R60). -/

namespace Sys2Proof.Machine

variable {m : Master} {s t : State}

theorem exec_modeSet (m : Master) (s : State) : exec (.modeSet m) s = execModeSet m s := rfl
theorem exec_sysReset (m : Master) (s : State) : exec (.sysReset m) s = execSysReset m s := rfl
theorem exec_safeStopNLow (s : State) : exec .safeStopNLow s = execSafeStopNLow s := rfl
theorem exec_safeStopNHigh (s : State) : exec .safeStopNHigh s = execSafeStopNHigh s := rfl
theorem exec_fieldPrerequisitesMet (s : State) : exec .fieldPrerequisitesMet s = execFieldPrerequisitesMet s := rfl

theorem taken_mode (m : Master) (s : State) : (s.taken m).mode = s.mode := rfl
theorem taken_pwr (m : Master) (s : State) : (s.taken m).pwr = s.pwr := rfl

/-! ### MODE.SET: what it asks of the mode (R24, R28) -/

/-- The panel of a device that has not given it up stays as it is (R294). -/
theorem modPnl_of_not_gaveUp (h : s.pnl.gaveUp = false) (g : Pnl → Pnl) :
    s.modPnl (fun x => if x.gaveUp then g x else x) = s := by
  simp [State.modPnl, h]

section
variable (hop : s.opOn 0x201 = false) (hg : s.pnl.gaveUp = false)
include hop hg

/-- FIELD asked for in BOOT is pending for 5 s (R24). -/
theorem modeSet_field_of_boot (hm : s.mode.mode = .boot) (hs : s.stopActive = false) :
    s.modeSet .field = (s, .pend 5000000000 0) := by
  unfold State.modeSet
  simp [hm, hs, hop, modPnl_of_not_gaveUp hg, ms]
  rfl

/-- SAFE-VIEW asked for in a mode with another content waits for the latch point (R22). -/
theorem modeSet_safeView (hb : s.mode.mode ≠ .boot) (hv : s.mode.mode ≠ .safeView) :
    s.modeSet .safeView = (s.modMode fun x => { x with ownerReq := some .safeView }, .ok []) := by
  unfold State.modeSet
  simp [hb, Ne.symm hv, hop, modPnl_of_not_gaveUp hg]

/-- MAINTENANCE asked for in SAFE-VIEW waits for the latch point (R22). -/
theorem modeSet_maintenance_of_safeView (hm : s.mode.mode = .safeView) (hs : s.stopActive = false) :
    s.modeSet .maintenance = (s.modMode fun x => { x with ownerReq := some .maintenance }, .ok []) := by
  unfold State.modeSet
  simp [hm, hs, hop, modPnl_of_not_gaveUp hg]

/-- DORMANT asked for outside SAFE-VIEW goes through SAFE-VIEW (R24). -/
theorem modeSet_dormant (hb : s.mode.mode ≠ .boot) (hd : s.mode.mode ≠ .dormant) (hv : s.mode.mode ≠ .safeView) :
    s.modeSet .dormant = (s.modMode fun x => { x with ownerReq := some .safeView, thenDormant := true }, .ok []) := by
  unfold State.modeSet
  simp [hb, hv, Ne.symm hd, hop, modPnl_of_not_gaveUp hg]

end

/-- FIELD is refused while SAFE_STOP_N or FORCE_SAFE_VIEW asks for SAFE-VIEW (R28). -/
theorem modeSet_field_of_stop (hs : s.stopActive = true) : s.modeSet .field = (s, .fail stWrongMode) := by
  simp [State.modeSet, hs]

/-! ### MODE.SET: the command -/

/-- MODE.SET in the command catalogue (Table 4.2). -/
abbrev modeSetCmd : Cmd := { code := 0x0201, cls := 1, len := 1, args := [{ off := 0 }] }

/-- A MODE.SET that leaves no fresh request for DORMANT ends where its command ends. -/
theorem execModeSet_of_runCmd
    (hr : done (runCmd modeSetCmd noUnit (fun c _ => if (modeOf (c.u8 0)).isSome then none else some (0, 0))
      (fun c s => s.modeSet ((modeOf (c.u8 0)).getD .safeView)) m s) = .next t)
    (ht : t.mode.ownerReq = some .dormant → s.mode.ownerReq = some .dormant) :
    exec (.modeSet m) s = .next t := by
  rw [done_next] at hr
  subst hr
  rw [State.settle_mode] at ht
  rw [exec_modeSet, execModeSet, done_next]
  congr 1
  rw [State.when, if_neg]
  simpa using ht

section
variable {w : Mode} (h : Accepts s m modeSetCmd) (hw : modeOf (byteAt (s.argsOf m) 0) = some w)
include h hw

/-- A MODE.SET whose request waits for the latch point answers ST_OK. -/
theorem exec_modeSet_ok (hr : (s.taken m).modeSet w = (t, .ok [])) (hd : t.mode.ownerReq ≠ some .dormant) :
    exec (.modeSet m) s = .next (okAfter s m 0x0201 [] t) :=
  execModeSet_of_runCmd (exec_ok h rfl rfl (by simp [hw]) (by simp [hw, hr])) (by simp [okAfter, hd])

/-- A MODE.SET that answers another final status leaves the mode as it is. -/
theorem exec_modeSet_err {st o r u : Nat} (hr : (s.taken m).modeSet w = (t, .err st o r u)) :
    exec (.modeSet m) s = .next (errAfter s m 0x0201 st o r u) :=
  execModeSet_of_runCmd (exec_err h rfl rfl (by simp [hw]) (by simp [hw]; exact hr)) (by simp [errAfter, taken_mode])

/-- A pending MODE.SET that leaves the owner's request as it is. -/
theorem exec_modeSet_pend {l a : Nat} (hn : s.pendingCount m.code < 16) (hr : (s.taken m).modeSet w = (t, .pend l a))
    (hd : t.mode.ownerReq = s.mode.ownerReq) : exec (.modeSet m) s = .next (pendAfter s m 0x0201 l a t) :=
  execModeSet_of_runCmd (exec_pend h rfl hn rfl (by simp [hw]) (by simp [hw, hr])) (by simp [pendAfter, hd])

end

/-! ### SYS.RESET (R60, R96) -/

/-- The reset sequence leaves every rail enable low (Table 2.10). -/
theorem lossSteps_railsLow (s : State) :
    s.lossSteps.pins.coreEn = false ∧ s.lossSteps.pins.sdsEn = false ∧ s.lossSteps.pins.memEn = false := ⟨rfl, rfl, rfl⟩

/-- SYS.RESET answers ST_OK, and 1 ms later runs the sequence of SYS_RST_N. -/
theorem exec_sysReset_of_run
    (h : Accepts s m { code := 0x0006, cls := 1, len := 4, args := [{ off := 0, n := 4, lo := 0xA5C3, hi := 0xA5C3 }] })
    (hp : s.pwr.phase = .run) :
    exec (.sysReset m) s = .next ((((((s.taken m).modPwr fun p => { p with phase := .softReset }).releaseBulk m.code 0).answer
      m.code 0x0006 (s.tagOf m) stOk 0 []).modTime (· + 1000000)).lossSteps).settle := by
  rw [exec_sysReset, execSysReset, runCmd_body h rfl rfl rfl]
  simp [State.reply, hp, done, ms]

/-! ### SAFE_STOP_N and the prerequisites of FIELD (R23, R28) -/

/-- A trigger waits for the latch point, this one or one of a higher rank (R29). -/
theorem safeTrig_isSome (c : Nat) (s : State) : (s.safeTrig c).mode.safeTrigger.isSome = true := by
  simp only [State.safeTrig, State.modMode_mode]
  split
  · split <;> rfl
  · rfl

/-- An overtaken request to FIELD is gone from the mode; the rest of the mode stays (R29). -/
theorem overtakeField_mode (s : State) :
    s.overtakeField.mode = { s.mode with fieldIn := none, ownerReq := none, bootField := false } := by
  have hfold : ∀ l : List PendingOp,
      (l.foldl (fun t o => t.complete o stWrongMode (le 1 t.mode.mode.code)) s).mode = s.mode := fun l =>
    List.foldlRecOn (motive := fun t : State => t.mode = s.mode) _ _ rfl fun t ht o _ => by simpa using ht
  simp [State.overtakeField, hfold]

/-- The fall of SAFE_STOP_N is remembered for the latch point and overtakes a request to FIELD (R28). -/
theorem exec_safeStopNLow_of_high (h : s.pins.safeStopN = true) :
    exec .safeStopNLow s = .next (((s.modPins fun p => { p with safeStopN := false }).safeTrig 0x02).overtakeField).settle := by
  rw [exec_safeStopNLow, execSafeStopNLow, h]
  rfl

@[simp] theorem settle_safeStopN (s : State) : s.settle.pins.safeStopN = s.pins.safeStopN := by
  unfold State.settle
  split <;> rfl

/-- The last prerequisite met starts the two latch points of R23. -/
theorem exec_fieldPrerequisitesMet_of_met (hm : s.mode.mode = .safeView) (hw : s.fieldWanted = true) (hf : s.mode.fieldIn = none)
    (hu : s.unmet = none) : exec .fieldPrerequisitesMet s = .next (s.modMode fun m => { m with fieldIn := some 2 }).settle := by
  rw [exec_fieldPrerequisitesMet, execFieldPrerequisitesMet, hm, hw, hf, hu]
  rfl

/-- Settles O2: the clauses of MODE.SET by what each request asks of the mode, the others by what their command leaves. -/
theorem modeRequests : Obligations.ModeRequests := by
  refine ⟨fun m s => ⟨?field, ?safeView, ?maintenance, ?dormant, ?stopped, ?reset⟩, fun s => ⟨?low, rfl, exec_fieldPrerequisitesMet_of_met⟩⟩
  case field =>
    intro h ha hm hs hop hg hn
    exact exec_modeSet_pend h (by rw [ha]; rfl) hn (modeSet_field_of_boot hop hg hm hs) rfl
  case safeView =>
    intro h ha hb hv hop hg
    exact exec_modeSet_ok h (by rw [ha]; rfl) (modeSet_safeView hop hg hb hv) nofun
  case maintenance =>
    intro h ha hm hs hop hg
    exact exec_modeSet_ok h (by rw [ha]; rfl) (modeSet_maintenance_of_safeView hop hg hm hs) nofun
  case dormant =>
    intro h ha hb hd hv hop hg
    exact exec_modeSet_ok h (by rw [ha]; rfl) (modeSet_dormant hop hg hb hd hv) nofun
  case stopped =>
    intro h ha hs
    exact exec_modeSet_err h (by rw [ha]; rfl) (modeSet_field_of_stop hs)
  case reset =>
    intro h hp
    obtain ⟨hc, hd, hm⟩ := lossSteps_railsLow (((((s.taken m).modPwr fun p => { p with phase := .softReset }).releaseBulk m.code 0).answer
      m.code 0x0006 (s.tagOf m) stOk 0 []).modTime (· + 1000000))
    exact ⟨exec_sysReset_of_run h hp, by rw [settle_coreEn, hc], by rw [settle_sdsEn, hd], by rw [settle_memEn, hm]⟩
  case low =>
    intro h
    refine ⟨_, exec_safeStopNLow_of_high h, by simp [State.safeTrig], ?_⟩
    rw [State.settle_mode, overtakeField_mode]
    exact ⟨safeTrig_isSome _ _, rfl, rfl, rfl, rfl⟩

end Sys2Proof.Machine
end

section
/-! SUPPORT. Commits of the shadows by DISP_COMMIT and by the flip ring (R15, R248 to R250). -/

namespace Sys2Proof.Machine

variable {m : Master} {v : W32} {s : State} {mask r l : Nat} {irq : Bool}

theorem exec_flipEntryConsume (s : State) : exec .flipEntryConsume s = execFlipEntryConsume s := rfl

/-! ### A commit (R250) -/

/-- A commit that a check refuses leaves its REASON and its layer and raises vector 4 (R250). -/
def State.rejectCommit (r l : Nat) (s : State) : State :=
  (s.modLayers fun x => { x with rejected := true, lastReason := r, lastLayer := l }).ownerVector 4

theorem commit_of_no_reason (h : s.commitReason = none) : s.commit mask irq = (s.accept mask irq, none) := by
  rw [State.commit, h]

theorem commit_of_reason (h : s.commitReason = some (r, l)) : s.commit mask irq = (s.rejectCommit r l, some (r, l)) := by
  rw [State.commit, h]
  rfl

/-! ### DISP_COMMIT (R15, R249) -/

section
variable (hl : s.portLive m.code = true) (ho : s.isOwner m.code = true)
include hl ho

/-- With the compositor off an access is dropped with its event (R15). -/
theorem exec_dispCommit_off (hd : s.domOn domCMP = false) :
    exec (.dispCommit m v) s = .next (s.offAccess m domCMP 0x3F00C true).settle := by
  simp [exec_dispCommit, execDispCommit, byPort_live hl, ho, hd, done]

/-- With the compositor on, bit 0 commits the shadows, with the mask in bits [15:8]. -/
theorem exec_dispCommit_on (hd : s.domOn domCMP = true) :
    exec (.dispCommit m v) s = done (if v.getLsbD 0 then (s.commit (v.toNat / 256 % 256) false).1 else s) := by
  simp [exec_dispCommit, execDispCommit, byPort_live hl, ho, hd]

theorem exec_dispCommit_accepted (hd : s.domOn domCMP = true) (hv : v.getLsbD 0 = true) (hr : s.commitReason = none) :
    exec (.dispCommit m v) s = .next (s.accept (v.toNat / 256 % 256) false).settle := by
  rw [exec_dispCommit_on hl ho hd, if_pos hv, commit_of_no_reason hr, done]

theorem exec_dispCommit_rejected (hd : s.domOn domCMP = true) (hv : v.getLsbD 0 = true) (hr : s.commitReason = some (r, l)) :
    exec (.dispCommit m v) s = .next (s.rejectCommit r l).settle := by
  rw [exec_dispCommit_on hl ho hd, if_pos hv, commit_of_reason hr, done]

theorem exec_dispCommit_nothing (hd : s.domOn domCMP = true) (hv : v.getLsbD 0 = false) :
    exec (.dispCommit m v) s = .next s.settle := by
  rw [exec_dispCommit_on hl ho hd, hv, if_neg Bool.false_ne_true, done]

end

/-! ### The flip ring (R248) -/

/-- The oldest outstanding entry of the flip ring. -/
def State.flipEntry (s : State) : Bytes := memRead s.win (flipEntryAddr s.layers.consumed.toNat) 64

/-- The buffers of that entry are in the shadows, and its layers wait for the next commit (R248, R253). -/
def State.flipShadows (s : State) : State :=
  (s.flipBuffers s.flipEntry).modLayers fun x => { x with maskSince := x.maskSince ||| s.flipEntry.getD 1 0 }

/-- The entry at `a` gets its outcome in bytes 56 to 63, and CONSUMED moves past it. -/
def State.endFlip (a : Nat) (outcome : Bytes) (s : State) : State :=
  (s.modWin fun w => memWrite w (a + 56) outcome).modLayers fun x => { x with consumed := x.consumed + 1 }

/-- The same after the commit of the entry's shadows: the number of the commit accepted, or REASON and layer. -/
def endFlipCommit (a : Nat) : State × Option (Nat × Nat) → State
  | (x, none) => x.endFlip a (le 4 x.layers.last ++ [1, 0, 0xFF, 0])
  | (x, some (r, l)) => x.endFlip a (le 4 0 ++ [2, BitVec.ofNat 8 r, BitVec.ofNat 8 l, 0])

/-- Without an entry that may be consumed now nothing happens. -/
theorem exec_flipEntryConsume_idle (h : s.layers.producer = s.layers.consumed ∨ s.flipWaits = true) :
    exec .flipEntryConsume s = .next s.settle := by
  rw [exec_flipEntryConsume, execFlipEntryConsume]
  rcases h with h | h <;> simp [h, done]

section
variable (hd : s.domOn domCMP = true) (hp : s.layers.producer ≠ s.layers.consumed) (hw : s.flipWaits = false)
include hd hp hw

/-- What becomes of the oldest entry: consumed without effect where reserved bytes are set, its buffers left in the shadows, or
the shadows committed. -/
theorem exec_flipEntryConsume_due :
    exec .flipEntryConsume s =
      let a := flipEntryAddr s.layers.consumed.toNat
      done (if flipEntryBad s.flipEntry then s.endFlip a (le 4 0 ++ [3, 0, 0xFF, 0])
        else if !bit (byteAt s.flipEntry 0) 0 then s.flipShadows.endFlip a (le 4 0 ++ [0, 0, 0xFF, 0])
        else endFlipCommit a (s.flipShadows.commit 0 (bit (byteAt s.flipEntry 0) 1))) := by
  have hdue : (s.layers.producer != s.layers.consumed && !s.flipWaits && s.domOn domCMP) = true := by simp [hd, hp, hw]
  rw [exec_flipEntryConsume, execFlipEntryConsume, hdue]
  rfl

theorem exec_flipEntryConsume_bad (hb : flipEntryBad s.flipEntry = true) :
    exec .flipEntryConsume s = .next (s.endFlip (flipEntryAddr s.layers.consumed.toNat) (le 4 0 ++ [3, 0, 0xFF, 0])).settle := by
  rw [exec_flipEntryConsume_due hd hp hw, hb]
  rfl

theorem exec_flipEntryConsume_shadows (hb : flipEntryBad s.flipEntry = false) (hc : bit (byteAt s.flipEntry 0) 0 = false) :
    exec .flipEntryConsume s =
      .next (s.flipShadows.endFlip (flipEntryAddr s.layers.consumed.toNat) (le 4 0 ++ [0, 0, 0xFF, 0])).settle := by
  rw [exec_flipEntryConsume_due hd hp hw, hb, hc]
  rfl

theorem exec_flipEntryConsume_accepted (hb : flipEntryBad s.flipEntry = false) (hc : bit (byteAt s.flipEntry 0) 0 = true)
    (hr : s.flipShadows.commitReason = none) :
    let x := s.flipShadows.accept 0 (bit (byteAt s.flipEntry 0) 1)
    exec .flipEntryConsume s =
      .next (x.endFlip (flipEntryAddr s.layers.consumed.toNat) (le 4 x.layers.last ++ [1, 0, 0xFF, 0])).settle := by
  rw [exec_flipEntryConsume_due hd hp hw, hb, hc, commit_of_no_reason hr]
  rfl

theorem exec_flipEntryConsume_rejected (hb : flipEntryBad s.flipEntry = false) (hc : bit (byteAt s.flipEntry 0) 0 = true)
    (hr : s.flipShadows.commitReason = some (r, l)) :
    exec .flipEntryConsume s = .next ((s.flipShadows.rejectCommit r l).endFlip (flipEntryAddr s.layers.consumed.toNat)
      (le 4 0 ++ [2, BitVec.ofNat 8 r, BitVec.ofNat 8 l, 0])).settle := by
  rw [exec_flipEntryConsume_due hd hp hw, hb, hc, commit_of_reason hr]
  rfl

end

/-- Settles O37, a lemma for each clause. -/
theorem commitsAndFlips : Obligations.CommitsAndFlips := fun _ _ _ =>
  ⟨exec_dispCommit_off, fun hd =>
    ⟨fun hl ho hv => ⟨exec_dispCommit_accepted hl ho hd hv, fun _ _ => exec_dispCommit_rejected hl ho hd hv⟩,
      fun hl ho => exec_dispCommit_nothing hl ho hd,
      fun hp hw => ⟨exec_flipEntryConsume_bad hd hp hw,
        exec_flipEntryConsume_shadows hd hp hw,
        exec_flipEntryConsume_accepted hd hp hw,
        fun hb hc _ _ => exec_flipEntryConsume_rejected hd hp hw hb hc⟩,
      exec_flipEntryConsume_idle⟩⟩

end Sys2Proof.Machine
end

section
/-! SUPPORT. The latch point, the retire fence and the relink (R22, R201, R205, R250 to R252, R271, R277). -/

namespace Sys2Proof.Machine

variable {s : State}

theorem exec_latchPoint (s : State) : exec .latchPoint s = .next s.latchPoint.settle := rfl
theorem exec_retireFence (s : State) : exec .retireFence s = .next s.retireCommits.retireScenes.retireTiles.settle := rfl
theorem exec_relinkTrainingDone (s : State) : exec .relinkTrainingDone s = execRelinkTrainingDone s := rfl
theorem exec_relinkTimeout (s : State) : exec .relinkTimeout s = execRelinkTimeout s := rfl

/-! ### The latch point -/

/-- What a compositor restart takes up again: commit, timing, frame, panel and capture in force (R297). -/
def State.inForce (s : State) : Option Commit × Timing × W32 × Option PanelCfg × Capture :=
  (s.layers.force, s.disp.timing, s.disp.frame, s.disp.panel, s.layers.capture)

/-- The last things a latch point does: it keeps what is in force, and the panel clock returns from its backup (R66, R297). -/
theorem latchTaken_ends (s : State) :
    ∃ x : State, s.latchTaken =
      (x.modPnl fun y => { y with mirror := some x.inForce }).modClk fun c => { c with pnlBackup := c.pnlBackup && c.lost.getD 2 false } := by
  unfold State.latchTaken
  exact ⟨_, rfl⟩

theorem latchTaken_mirror (s : State) : s.latchTaken.pnl.mirror = some s.latchTaken.inForce := by
  obtain ⟨x, hx⟩ := latchTaken_ends s
  rw [hx]
  rfl

@[simp] theorem endHold_disp (s : State) : s.endHold.disp = s.disp := by
  unfold State.endHold
  split <;> simp

/-- With no hold in progress one starts now (R285). -/
theorem startHold_of_none (n : Nat) (h : s.scan.hold = none) :
    s.startHold n = (s.emit (.ctrl 0x33 [n, 16])).modScan fun x => { x with hold := some (n, s.time) } := by
  simp [State.startHold, h]

@[simp] theorem startHold_disp (n : Nat) (s : State) : (s.startHold n).disp = s.disp := by
  unfold State.startHold
  split <;> rfl

/-- A lane-rate change starts here: what a relink is under way from, with the rate of the timing that waits (R277). -/
def State.startRelink (s : State) : State :=
  ((s.endHold.startHold 0).modScan fun x => { x with relink := some (s.disp.timing, s.time), relinkBack := false }).dropStriping.modDisp
    fun d => { d with timing := { s.disp.timing with laneRate := (d.timingNext.getD s.disp.timing).laneRate } }

theorem startRelink_relink (s : State) : s.startRelink.scan.relink = some (s.disp.timing, s.time) := rfl

theorem startRelink_laneRate (s : State) :
    s.startRelink.disp.timing.laneRate = (s.disp.timingNext.getD s.disp.timing).laneRate := by
  simp [State.startRelink, State.dropStriping]

/-- Without panel, schedule or compositor, or in a hold that withholds it, there is no latch point. -/
theorem latchPoint_of_absent
    (h : s.disp.sched = false ∨ s.disp.panel = none ∨ s.domOn domCMP = false ∨ s.latchBlocked = true) : s.latchPoint = s := by
  rw [State.latchPoint, if_pos]
  rcases h with h | h | h | h <;> simp [h]

section
variable (hs : s.disp.sched = true) (hp : s.disp.panel.isSome = true) (hd : s.domOn domCMP = true) (hb : s.latchBlocked = false)
include hs hp hd hb

/-- What a latch point that is there does, at the state `s.toLatch` of its time. -/
theorem latchPoint_of_present :
    s.latchPoint =
      let u := s.toLatch
      if u.mode.thenDormant && u.mode.mode == .safeView then u.flushFrame.enterDormant
      else if u.relinkDue then u.startRelink
      else if u.disp.panelNext.isSome && u.disp.running && u.scan.hold.isNone then u.startHold 2
      else (u.when (u.disp.panelNext.isSome && u.scan.hold.isSome) State.nextSlot).flushFrame.latchTaken := by
  have hthere : (!(s.disp.sched && s.disp.panel.isSome && s.domOn domCMP && !s.latchBlocked)) = false := by simp [hs, hp, hd, hb]
  rw [State.latchPoint, hthere]
  rfl

/-- One frame of SAFE-VIEW before DORMANT is over (R24). -/
theorem latchPoint_dormant (hm : (s.toLatch.mode.thenDormant && s.toLatch.mode.mode == .safeView) = true) :
    s.latchPoint = s.toLatch.flushFrame.enterDormant := by
  rw [latchPoint_of_present hs hp hd hb]
  simp only [hm, if_true]

section
variable (hm : (s.toLatch.mode.thenDormant && s.toLatch.mode.mode == .safeView) = false)
include hm

/-- A changed lane rate starts its relink and latches nothing (R277). -/
theorem latchPoint_relink (hr : s.toLatch.relinkDue = true) : s.latchPoint = s.toLatch.startRelink := by
  rw [latchPoint_of_present hs hp hd hb]
  simp only [hm, hr, if_true, Bool.false_eq_true, if_false]

variable (hr : s.toLatch.relinkDue = false)
include hr

/-- A new panel on a running link starts its hold and latches nothing (R272). -/
theorem latchPoint_panelHold (hn : s.toLatch.disp.panelNext.isSome = true) (hh : s.toLatch.scan.hold = none)
    (hu : s.toLatch.disp.running = true) : s.latchPoint = s.toLatch.startHold 2 := by
  rw [latchPoint_of_present hs hp hd hb]
  simp [hm, hr, hn, hh, hu]

/-- A new panel whose hold stands is latched at the next slot boundary. -/
theorem latchPoint_panelHeld (hn : s.toLatch.disp.panelNext.isSome = true) (hh : s.toLatch.scan.hold.isSome = true) :
    s.latchPoint = s.toLatch.nextSlot.flushFrame.latchTaken := by
  rw [latchPoint_of_present hs hp hd hb]
  simp [hm, hr, hn, hh, Option.isSome_iff_ne_none.1 hh]

/-- Otherwise the frame ends and the next one is latched (R22, R250 to R252, R271). -/
theorem latchPoint_taken (hn : s.toLatch.disp.panelNext = none) : s.latchPoint = s.toLatch.flushFrame.latchTaken := by
  rw [latchPoint_of_present hs hp hd hb]
  simp [hm, hr, hn]

end

end

/-! ### The retire fence (R201, R205, R252) -/

/-- Vectors raised for members of a list leave the layers, leases, scenes, memory and ownership as they are. -/
theorem foldl_ownerVector_frame {α : Type} (p : α → Bool) (n : Nat) (l : List α) (s : State) :
    let t := l.foldl (fun t c => if p c then t.ownerVector n else t) s
    t.layers = s.layers ∧ t.leases = s.leases ∧ t.scene = s.scene ∧ t.mem = s.mem ∧ t.own = s.own := by
  refine List.foldlRecOn (motive := fun t : State =>
    t.layers = s.layers ∧ t.leases = s.leases ∧ t.scene = s.scene ∧ t.mem = s.mem ∧ t.own = s.own) _ _ (by simp) fun t ht c _ => ?_
  split <;> simpa using ht

/-- The parts of State that the fence for commits leaves unchanged, and what becomes of the two that it changes. -/
theorem retireCommits_frame (s : State) :
    s.retireCommits.layers = { s.layers with retiring := [] } ∧
    s.retireCommits.leases = { s.leases with
      holds := s.leases.holds.filter (s.modLayers fun x => { x with retiring := [] }).keepsHold, ending := [] } ∧
    s.retireCommits.scene = s.scene ∧ s.retireCommits.mem = s.mem ∧ s.retireCommits.own = s.own :=
  foldl_ownerVector_frame Commit.irqRetire 3 s.layers.retiring _

/-- A scene entry that retires leaves the list of live ones. -/
theorem retireEntry_live (sc k : Nat) (irq : Bool) (s : State) :
    (s.retireEntry sc k irq).scene.live = s.scene.live.filter (·.k != k) := by
  unfold State.retireEntry
  dsimp only
  split <;> simp [Scene.fence]

theorem retireEntry_frame (sc k : Nat) (irq : Bool) (s : State) :
    (s.retireEntry sc k irq).layers = s.layers ∧ (s.retireEntry sc k irq).leases = s.leases ∧ (s.retireEntry sc k irq).mem = s.mem ∧
      (s.retireEntry sc k irq).own = s.own := by
  unfold State.retireEntry
  dsimp only
  split <;> simp

/-- After the entries of a list have retired, those left live were live before and stand not in the list. -/
theorem foldl_retireEntry_live (l : List SceneLive) (s : State) {e : SceneLive}
    (h : e ∈ (l.foldl (fun t e => t.retireEntry e.scene e.k e.irqRetire) s).scene.live) : e ∈ s.scene.live ∧ e ∉ l := by
  induction l generalizing s with
  | nil => exact ⟨h, List.not_mem_nil⟩
  | cons c l ih =>
    obtain ⟨hlive, hnot⟩ := ih _ h
    rw [retireEntry_live, List.mem_filter] at hlive
    refine ⟨hlive.1, fun hmem => ?_⟩
    rcases List.mem_cons.1 hmem with rfl | hmem
    · simp at hlive
    · exact hnot hmem

theorem foldl_retireEntry_frame (l : List SceneLive) (s : State) :
    let t := l.foldl (fun t e => t.retireEntry e.scene e.k e.irqRetire) s
    t.layers = s.layers ∧ t.leases = s.leases ∧ t.mem = s.mem ∧ t.own = s.own := by
  refine List.foldlRecOn (motive := fun t : State => t.layers = s.layers ∧ t.leases = s.leases ∧ t.mem = s.mem ∧ t.own = s.own)
    _ _ (by simp) fun t ht e _ => ?_
  obtain ⟨h1, h2, h3, h4⟩ := retireEntry_frame e.scene e.k e.irqRetire t
  rwa [h1, h2, h3, h4]

/-- No entry that is due stays live past the fence (R201). -/
theorem retireScenes_live (s : State) : ∀ e ∈ s.retireScenes.scene.live, e.due = false := by
  intro e he
  obtain ⟨hlive, hdue⟩ := foldl_retireEntry_live (s.scene.live.filter (·.due)) s he
  simpa [hlive] using hdue

theorem retireScenes_frame (s : State) :
    s.retireScenes.layers = s.layers ∧ s.retireScenes.leases = s.leases ∧ s.retireScenes.mem = s.mem ∧ s.retireScenes.own = s.own :=
  foldl_retireEntry_frame (s.scene.live.filter (·.due)) s

/-- Commits and due scene entries have retired, ended holds are released, memory and ownership stay. -/
theorem exec_retireFence_frame (s : State) :
    ∃ t, exec .retireFence s = .next t ∧ t.layers.retiring = [] ∧ t.leases.ending = [] ∧ t.scene.prevPlanes = none ∧
      (∀ h ∈ t.leases.holds, h ∈ s.leases.holds) ∧ (∀ e ∈ t.scene.live, e.due = false) ∧ t.mem.dram = s.mem.dram ∧ t.own = s.own := by
  obtain ⟨clay, clea, -, cmem, cown⟩ := retireCommits_frame s
  obtain ⟨slay, slea, smem, sown⟩ := retireScenes_frame s.retireCommits
  refine ⟨_, exec_retireFence s, ?_, ?_, ?_, ?_, ?_, ?_, ?_⟩
  · simp [State.retireTiles, slay, clay]
  · simp [State.retireTiles, slea, clea]
  · simp [State.retireTiles, State.retireScenes]
  · intro h hh
    simp only [State.retireTiles, State.settle_leases, State.modCellar_leases, slea, clea] at hh
    exact List.mem_of_mem_filter hh
  · simpa [State.retireTiles] using retireScenes_live s.retireCommits
  · simp [State.retireTiles, smem, cmem]
  · simp [State.retireTiles, sown, cown]

/-! ### The relink (R277) -/

@[simp] theorem storePanel_scan (p : Option PanelCfg) (t : Timing) (s : State) : (s.storePanel p t).scan = s.scan := by
  unfold State.storePanel
  split <;> simp

@[simp] theorem storePanel_disp (p : Option PanelCfg) (t : Timing) (s : State) : (s.storePanel p t).disp = s.disp := by
  unfold State.storePanel
  split <;> simp

/-- The old rate is trained again, with no new timing waiting. -/
theorem relinkFail_back (old : Timing) (s : State) :
    (s.relinkFail old).scan.relinkBack = true ∧ (s.relinkFail old).disp.timing = old ∧ (s.relinkFail old).disp.timingNext = none := by
  simp [State.relinkFail, State.dropStriping]

@[simp] theorem joinTrained_scan (s : State) : s.joinTrained.scan = s.scan := by
  have hfold : ∀ l : List Nat,
      (l.foldl (fun t l => (t.modLane l fun x => { x with included := true }).laneState l 2) s).scan = s.scan := fun l =>
    List.foldlRecOn (motive := fun t : State => t.scan = s.scan) _ _ rfl fun t ht l _ => by
      simpa [State.laneState, State.modLane] using ht
  simp [State.joinTrained, hfold]

section
variable {old : Timing} {t0 : Nat} (h : s.scan.relink = some (old, t0))
include h

/-- No training within 50 ms: the old rate is trained again. -/
theorem exec_relinkTimeout_first (hb : s.scan.relinkBack = false) :
    exec .relinkTimeout s = .next ((s.timeTo (t0 + 50000000)).relinkFail old).settle := by
  simp [exec_relinkTimeout, execRelinkTimeout, h, hb, done, ms]

/-- Back at the old rate there is no limit. -/
theorem exec_relinkTimeout_back (hb : s.scan.relinkBack = true) : exec .relinkTimeout s = .next s.settle := by
  simp [exec_relinkTimeout, execRelinkTimeout, h, hb, done]

/-- While lanes are still being trained nothing has ended. -/
theorem exec_relinkTrainingDone_running (hr : s.trainingRuns = true) : exec .relinkTrainingDone s = .next s.settle := by
  simp [exec_relinkTrainingDone, execRelinkTrainingDone, h, hr, done]

/-- The relink is over: the frame is latched at the next slot boundary. -/
def State.relinkEnd (s : State) : State :=
  (s.modScan fun x => { x with relink := none, relinkBack := false }).nextSlot.flushFrame.latchTaken

section
variable (hr : s.trainingRuns = false) (hl : s.trainedLanes ≠ [])
include hr hl

/-- What the end of a training with trained lanes does. -/
theorem exec_relinkTrainingDone_trained :
    exec .relinkTrainingDone s =
      let u := s.joinTrained
      let v := u.relinkEnd
      done (if !u.scan.relinkBack && (u.disp.timingNext.getD u.disp.timing).lineNs < u.tMin then u.relinkFail old
        else v.when (u.scan.relinkBack && v.taprootUp) (·.completeAll 0x0A02 stTimeout (le 4 v.disp.frame.toNat))) := by
  have hnone : s.trainedLanes.isEmpty = false := by simpa using hl
  rw [exec_relinkTrainingDone, execRelinkTrainingDone, h]
  simp only [hr, hnone, Bool.false_and, Bool.or_self, Bool.false_eq_true, if_false]
  rfl

theorem exec_relinkTrainingDone_short (hb : s.scan.relinkBack = false)
    (hn : (s.joinTrained.disp.timingNext.getD s.joinTrained.disp.timing).lineNs < s.joinTrained.tMin) :
    exec .relinkTrainingDone s = .next (s.joinTrained.relinkFail old).settle := by
  rw [exec_relinkTrainingDone_trained h hr hl]
  simp [hb, hn, done]

theorem exec_relinkTrainingDone_enough (hb : s.scan.relinkBack = false)
    (hn : s.joinTrained.tMin ≤ (s.joinTrained.disp.timingNext.getD s.joinTrained.disp.timing).lineNs) :
    exec .relinkTrainingDone s = .next s.joinTrained.relinkEnd.settle := by
  rw [exec_relinkTrainingDone_trained h hr hl]
  simp [hb, Nat.not_lt.2 hn, done]

theorem exec_relinkTrainingDone_back (hb : s.scan.relinkBack = true) (ht : s.joinTrained.relinkEnd.taprootUp = true) :
    exec .relinkTrainingDone s =
      .next (s.joinTrained.relinkEnd.completeAll 0x0A02 stTimeout (le 4 s.joinTrained.relinkEnd.disp.frame.toNat)).settle := by
  rw [exec_relinkTrainingDone_trained h hr hl]
  simp [hb, ht, done]

end

end

/-- Settles O42: the latch point by its four outcomes, the retire fence by what each retirement leaves, the relink by whether the
new rate or the old one was trained. -/
theorem latchPoints : Obligations.LatchPoints := by
  refine ⟨fun s => ⟨fun hs hp hd hb => ⟨?taken, ?held, ?hold, ?relink, ?dormant⟩, ?absent⟩, exec_retireFence_frame,
    fun s old t0 h => ⟨?timeout, exec_relinkTimeout_back h, exec_relinkTrainingDone_running h, fun hr hl => ⟨?short, ?enough, ?back⟩⟩⟩
  case taken =>
    intro hm hr hn
    refine ⟨_, exec_latchPoint s, ?_⟩
    rw [latchPoint_taken hs hp hd hb hm hr hn]
    exact ⟨rfl, by rw [State.settle_disp], by simp [latchTaken_mirror, State.inForce]⟩
  case held =>
    intro hm hr hn hh
    rw [exec_latchPoint, latchPoint_panelHeld hs hp hd hb hm hr hn hh]
  case hold =>
    intro hm hr hn hh hu
    refine ⟨_, exec_latchPoint s, ?_⟩
    rw [latchPoint_panelHold hs hp hd hb hm hr hn hh hu, startHold_of_none 2 hh]
    simp
  case relink =>
    intro hm hr
    refine ⟨_, exec_latchPoint s, ?_⟩
    rw [latchPoint_relink hs hp hd hb hm hr, State.settle_scan, State.settle_disp]
    exact ⟨startRelink_relink _, startRelink_laneRate _⟩
  case dormant =>
    intro hm
    exact ⟨_, exec_latchPoint s, by rw [latchPoint_dormant hs hp hd hb hm]⟩
  case absent =>
    intro h
    rw [exec_latchPoint, latchPoint_of_absent h]
  case timeout =>
    intro hb
    refine ⟨_, exec_relinkTimeout_first h hb, ?_⟩
    rw [State.settle_scan, State.settle_disp]
    exact relinkFail_back old _
  case short => exact exec_relinkTrainingDone_short h hr hl
  case enough => exact fun hb hn _ => exec_relinkTrainingDone_enough h hr hl hb hn
  case back => exact fun hb => exec_relinkTrainingDone_back h hr hl (by simpa using hb)

end Sys2Proof.Machine
end

section
/-! SUPPORT. The service group, the commands of recovery, and codes that nothing defines (R51, R93, R98, R232, R356, R372,
R439). -/

namespace Sys2Proof.Machine

variable {m : Master} {s t : State} {code : Nat}

theorem exec_commandUndefined (m : Master) (s : State) : exec (.commandUndefined m) s = execCommandUndefined m s := rfl

/-! ### The service group (Table 4.8) -/

theorem when_decide_and {p q : Prop} [Decidable p] [Decidable q] (f : State → State) (s : State) :
    s.when (p && q) f = if p ∧ q then f s else s := by
  simp [State.when]

/-- A command of the service group: its argument is a domain (Table 4.8). -/
abbrev svcCmd (code cls : Nat) : Cmd := { code := code, cls := cls, len := 2, args := [svcArg] }

/-- The domain that the command at the front of mailbox m names. -/
abbrev State.svcDomain (s : State) (m : Master) : Nat := u16At (s.argsOf m) 0

/-- A domain that the part has is not absent (R5). -/
theorem absentDomain_none {c : Cmd} (h : t.hasDomain (s.svcDomain m) = true) :
    (c.ctx m.code (s.frontSlot m.code)).absentDomain t = none := by
  rw [Ctx.absentDomain, ctx_u16, h, Bool.not_true, Bool.and_false, if_neg Bool.false_ne_true]

/-- What a drain stops at once: the strips of a cluster, a channel's place in the interleave, the lists of Churn (R51). -/
def State.startDrain (d : Nat) (u : State) : State :=
  if d < 17 then (if !(u.cluster d).retired && u.domOn d then (u.retireCluster d 0x01).setUnit d fun x => { x with faulted := false, state := 5 } else u)
  else if d < 29 then u.removeChannel (d - 17) 0x01
  else if d == domCH then (if u.churn.run.isSome then u.modChurn fun x => { x with drainUntil := some (u.time + 100000000) } else u)
  else u

section
variable (hd : (s.taken m).hasDomain (s.svcDomain m) = true)
include hd

theorem exec_svcQuery_ok (h : Accepts s m (svcCmd 0x1500 0)) :
    let t := s.taken m
    let x := t.dom (s.svcDomain m)
    exec (.svcQuery m) s = .next (okAfter s m 0x1500 (le 1 (t.serviceState (s.svcDomain m)) ++ le 1 x.lastCause ++ [0, 0] ++ le 4 x.cycles.toNat) t) :=
  exec_ok h rfl (absentDomain_none hd) rfl rfl

theorem exec_svcDrain_busy (h : Accepts s m (svcCmd 0x1501 1))
    (hb : (s.taken m).svcBusy (s.svcDomain m) = true ∨ (s.taken m).drainRefused (s.svcDomain m) = true) :
    exec (.svcDrain m) s = .next (errAfter s m 0x1501 stBusy 0xFF 0 (s.svcDomain m)) :=
  exec_err h rfl (absentDomain_none hd) rfl (if_pos (by simpa using hb))

theorem exec_svcPowerCycle_busy (h : Accepts s m (svcCmd 0x1502 1))
    (hb : (s.taken m).svcBusy (s.svcDomain m) = true ∨ ((s.taken m).dom (s.svcDomain m)).service = 0) :
    exec (.svcPowerCycle m) s = .next (errAfter s m 0x1502 stBusy 0xFF 0 (s.svcDomain m)) :=
  exec_err h rfl (absentDomain_none hd) rfl (if_pos (by simpa using hb))

theorem exec_svcRetest_busy (h : Accepts s m (svcCmd 0x1503 1))
    (hb : (s.taken m).svcBusy (s.svcDomain m) = true ∨ ((s.taken m).dom (s.svcDomain m)).service = 0) :
    exec (.svcRetest m) s = .next (errAfter s m 0x1503 stBusy 0xFF 0 (s.svcDomain m)) :=
  exec_err h rfl (absentDomain_none hd) rfl (if_pos (by simpa using hb))

theorem exec_svcReturn_untested (h : Accepts s m (svcCmd 0x1504 1)) (hx : ((s.taken m).dom (s.svcDomain m)).service ≠ 3) :
    exec (.svcReturn m) s = .next (errAfter s m 0x1504 stFaulted 0xFF 0 (s.svcDomain m)) :=
  exec_err h rfl (absentDomain_none hd) rfl (if_pos (by simpa using hx))

section
variable (hn : s.pendingCount m.code < 16) (hb : (s.taken m).svcBusy (s.svcDomain m) = false)
include hn hb

theorem exec_svcDrain_pend (h : Accepts s m (svcCmd 0x1501 1)) (hr : (s.taken m).drainRefused (s.svcDomain m) = false) :
    exec (.svcDrain m) s = .next (pendAfter s m 0x1501 100000000 0
      (State.startDrain (s.svcDomain m)
        (if (s.taken m).domOn (s.svcDomain m) then (s.taken m).unitState (s.svcDomain m) 5 else s.taken m))) :=
  exec_pend h rfl hn (absentDomain_none hd) rfl (if_neg (by simp [hb, hr]))

theorem exec_svcPowerCycle_pend (h : Accepts s m (svcCmd 0x1502 1)) (hx : ((s.taken m).dom (s.svcDomain m)).service ≠ 0) :
    exec (.svcPowerCycle m) s = .next (pendAfter s m 0x1502 10000000 0
      (((s.taken m).dropDomain (s.svcDomain m) 2).reqDomain (s.svcDomain m) true 2)) :=
  exec_pend h rfl hn (absentDomain_none hd) rfl (if_neg (by simp [hb, hx]))

theorem exec_svcRetest_pend (h : Accepts s m (svcCmd 0x1503 1)) (hx : ((s.taken m).dom (s.svcDomain m)).service ≠ 0) :
    exec (.svcRetest m) s = .next (pendAfter s m 0x1503 2000000000 0
      (if (s.taken m).domOn (s.svcDomain m) then
        (s.taken m).setUnit (s.svcDomain m) fun u => { u with state := 6, flowing := false } else s.taken m)) :=
  exec_pend h rfl hn (absentDomain_none hd) rfl (if_neg (by simp [hb, hx]))

theorem exec_svcReturn_pend (h : Accepts s m (svcCmd 0x1504 1)) (hx : ((s.taken m).dom (s.svcDomain m)).service = 3) :
    exec (.svcReturn m) s = .next (pendAfter s m 0x1504 100000000 0
      (if 17 ≤ s.svcDomain m ∧ s.svcDomain m < 29 then
        (s.taken m).modChan (s.svcDomain m - 17) fun x => { x with joining := true } else s.taken m)) :=
  exec_pend h rfl hn (absentDomain_none hd) rfl
    ((if_neg (by simp [hx])).trans ((if_neg (by simp [hb])).trans (congrArg (·, _) (when_decide_and ..))))

end

end

/-! ### Recovery (R439, Table 18.7) -/

/-- The answer ST_OK of the ROM to SVC. -/
def recoveryOk (s : State) (code : Nat) (u : State) : State :=
  ((u.releaseBulk 2 0).answer 2 code (s.tagOf .svc) stOk 0 []).settle

/-- What the body of a recovery command sees of it. -/
def State.recoveryCtx (s : State) (code : Nat) (bulk : Option Nat) : Ctx where
  m := 2
  tag := s.tagOf .svc
  code := code
  args := s.argsOf .svc
  base := if bulk.isSome then s.bulkAt .svc else 0
  size := if bulk.isSome then s.bulkLen .svc else 0

/-- A command that the ROM takes in recovery and whose body answers ST_OK. -/
theorem recover_ok {len : Nat} {args : List Arg} {bulk : Option Nat} {body : Ctx → State → State × Reply}
    (hs : s.tp.state = .recovery) (hf : s.front 2 code = true)
    (ha : ({ code := code, cls := 0, bulk := bulk, len := len, args := args } : Cmd).argError (s.frontSlot 2) (s.argsOf .svc) = none)
    (hr : body (s.recoveryCtx code bulk) (s.taken .svc) = (t, .ok [])) :
    done (s.recover code len args bulk body) = .next (recoveryOk s code t) := by
  have hserved : (s.tp.state == .recovery && s.front 2 code) = true := by rw [hs, hf]; rfl
  simp only [State.frontSlot, State.argsOf, Master.code] at ha
  rw [State.recover, hserved, State.when_true]
  dsimp only
  rw [ha]
  exact congrArg (fun r => done (State.reply (s.recoveryCtx code bulk) (s.taken .svc) r)) hr

theorem exec_recoveryFwStage_chunk (hs : s.tp.state = .recovery) (hf : s.front 2 0x1302 = true)
    (ha : ({ code := 0x1302, cls := 0, bulk := some 0, len := 25, args := [{ off := 16, hi := 1 }, { off := 20, n := 4 }, { off := 24, hi := 1 }] } : Cmd).argError
      (s.frontSlot 2) (s.argsOf .svc) = none)
    (hb : s.bulkAt .svc = 0) (hl : 1 ≤ s.bulkLen .svc) (hl' : s.bulkLen .svc ≤ 2 ^ 20) (ho : u32At (s.argsOf .svc) 20 % 65536 = 0)
    (he : u32At (s.argsOf .svc) 20 + s.bulkLen .svc ≤ slotSize) (hm : byteAt (s.argsOf .svc) 24 = 0) :
    let slot := byteAt (s.argsOf .svc) 16
    exec .recoveryFwStage s = .next (recoveryOk s 0x1302 (((s.taken .svc).setSlot slot false none).flashProgram
      (slotBase slot + u32At (s.argsOf .svc) 20) (memRead (s.taken .svc).sec.staging 0 (s.bulkLen .svc)))) := by
  have hbuffer : ¬ (s.bulkAt .svc != 0 || s.bulkLen .svc == 0 || 2 ^ 20 < s.bulkLen .svc) = true := by
    simp
    omega
  have hplace : ¬ (u32At (s.argsOf .svc) 20 % 65536 != 0 || slotSize < u32At (s.argsOf .svc) 20 + s.bulkLen .svc) = true := by
    simp
    omega
  have hmore : (byteAt (s.argsOf .svc) 24 == 0) = true := by simp [hm]
  exact recover_ok hs hf ha ((if_neg hbuffer).trans ((if_neg hplace).trans (if_pos hmore)))

theorem exec_recoveryFwActivate_valid (hs : s.tp.state = .recovery) (hf : s.front 2 0x1303 = true)
    (ha : ({ code := 0x1303, cls := 0, len := 1, args := [{ off := 0, hi := 1 }] } : Cmd).argError (s.frontSlot 2) (s.argsOf .svc) = none)
    (hv : (s.taken .svc).slotValid (byteAt (s.argsOf .svc) 0) = true) :
    exec .recoveryFwActivate s = .next (recoveryOk s 0x1303
      (((s.taken .svc).setPreferred (byteAt (s.argsOf .svc) 0) false).modTp fun x => { x with state := .rom })) :=
  have hvalid : ¬ (!(s.taken .svc).slotValid (byteAt (s.argsOf .svc) 0)) = true := by simp [hv]
  recover_ok hs hf ha (if_neg hvalid)

/-! ### Codes that nothing defines (R93, R439) -/

theorem uAt_memRead {n k o a : Nat} {w : Memory} (h : o + n ≤ k) :
    uAt n (memRead w a k) o = ofLe ((List.range n).map fun i => memGet w (a + (o + i))) := by
  refine congrArg ofLe (List.map_congr_left fun i hi => memRead_getD w a k (o + i) ?_)
  have := List.mem_range.1 hi
  omega

/-- The head of the slot that is judged before the command is taken is the head of the slot. -/
theorem u16At_frontHead (h : s.front m.code code = true) :
    u16At (memRead s.win (slotAddr m.code (s.box m.code).dequeued.toNat) 4) 0 = code := by
  simp only [State.front, Bool.and_eq_true, beq_iff_eq] at h
  obtain ⟨-, hcode⟩ := h
  rw [← hcode, u16At, uAt_memRead (by omega), uAt_memRead (by omega)]

theorem byteAt_frontHead (m : Master) (s : State) :
    byteAt (memRead s.win (slotAddr m.code (s.box m.code).dequeued.toNat) 4) 2 = s.tagOf m := by
  rw [State.tagOf, State.frontSlot, byteAt, byteAt, memRead_getD _ _ _ _ (by omega), memRead_getD _ _ _ _ (by omega)]

/-- A code that neither the firmware nor, in recovery, the ROM defines answers ST_BAD_COMMAND. -/
theorem exec_commandUndefined_unknown (hf : s.front m.code code = true)
    (hr : s.tp.state = .running → code ∉ definedCodes)
    (hv : s.tp.state = .recovery → m = .svc → code ≠ 0 ∧ code ≠ 6 ∧ code ≠ 0x1300 ∧ code ≠ 0x1302 ∧ code ≠ 0x1303)
    (hs : s.tp.state = .running ∨ s.tp.state = .recovery) :
    exec (.commandUndefined m) s =
      .next ((s.taken m).answer m.code code (s.tagOf m) stBadCommand 0 [0xFF, 0, 0xFF, 0xFF]).settle := by
  rw [exec_commandUndefined, execCommandUndefined]
  simp only [u16At_frontHead hf, byteAt_frontHead, hf, Bool.and_true]
  rcases hs with hs | hs
  · have hunknown : (!definedCodes.contains code) = true := by simpa using hr hs
    simp only [hs, hunknown, State.when_true]
    rfl
  · have hunknown : (m.code != 2 || !(recoveryCode code || code == 0x1302 || code == 0x1303)) = true := by
      by_cases hm : m = .svc
      · simp [recoveryCode, hv hs hm]
      · cases m <;> simp_all [Master.code]
    simp only [hs, hunknown, State.when_true]
    rfl

/-- Settles O25, a lemma for each clause. -/
theorem serviceCommands : Obligations.ServiceCommands :=
  ⟨fun _ _ hd hn =>
    ⟨exec_svcQuery_ok hd,
      fun h hb => exec_svcDrain_pend hd hn hb h,
      fun h hb => exec_svcPowerCycle_pend hd hn hb h,
      exec_svcDrain_busy hd,
      exec_svcPowerCycle_busy hd,
      exec_svcRetest_busy hd,
      exec_svcReturn_untested hd,
      fun h hb => exec_svcRetest_pend hd hn hb h,
      fun h hb => exec_svcReturn_pend hd hn hb h⟩,
    fun _ => ⟨exec_recoveryFwStage_chunk, exec_recoveryFwActivate_valid, fun _ _ => exec_commandUndefined_unknown⟩⟩

end Sys2Proof.Machine
end

section
/-! SUPPORT. Power domains: what a request, a start, a loss and a completed switch leave (R49 to R51). -/

namespace Sys2Proof.Machine

variable {s : State} {d r : Nat}

theorem exec_domainSwitchRequest (d : Nat) (on : Bool) (r : Nat) (s : State) :
    exec (.domainSwitchRequest d on r) s = execDomainSwitchRequest d on r s := rfl
theorem exec_domainQueuedStart (s : State) : exec .domainQueuedStart s = execDomainQueuedStart s := rfl
theorem exec_domainOnComplete (d : Nat) (s : State) : exec (.domainOnComplete d) s = execDomainOnComplete d s := rfl
theorem exec_domainOffComplete (d : Nat) (s : State) : exec (.domainOffComplete d) s = execDomainOffComplete d s := rfl

/-! ### A domain's record -/

theorem dom_congr {t : State} (h : t.pwr = s.pwr) (d : Nat) : t.dom d = s.dom d := by rw [State.dom, State.dom, h]

@[simp] theorem settle_dom (s : State) (d : Nat) : s.settle.dom d = s.dom d := dom_congr s.settle_pwr d

@[simp] theorem unitState_dom (i n : Nat) (s : State) (d : Nat) : (s.unitState i n).dom d = s.dom d := dom_congr (by simp) d

@[simp] theorem setIntent_dom (i : Nat) (b : Bool) (s : State) (d : Nat) : (s.setIntent i b).dom d = s.dom d := dom_congr (by simp) d

theorem modDom_pwr (d : Nat) (g : Domain → Domain) (s : State) :
    (s.modDom d g).pwr = { s.pwr with domains := s.pwr.domains.modify d g } := rfl

theorem dom_modDom (h : d < s.pwr.domains.length) (g : Domain → Domain) : (s.modDom d g).dom d = g (s.dom d) := by
  simp [State.dom, State.modDom, State.modPwr, List.getD_eq_getElem?_getD, h]

/-- A domain whose record is not the default one is in the table. -/
theorem lt_domains_of_dom_ne (h : s.dom d ≠ {}) : d < s.pwr.domains.length := by
  by_contra hd
  exact h (List.getD_eq_default _ _ (Nat.not_lt.1 hd))

theorem setIntent_hasDomain (i : Nat) (b : Bool) (s : State) (d : Nat) : (s.setIntent i b).hasDomain d = s.hasDomain d := by
  simp [State.hasDomain, State.hasCluster, State.hasChannel, State.hasGroup, State.hasPort, State.hasPipe, State.is20]

theorem setIntent_startAllowed (i : Nat) (b : Bool) (s : State) (d : Nat) :
    (s.setIntent i b).startAllowed d = s.startAllowed d := by
  simp [State.startAllowed]

/-! ### Requests (R49, R51) -/

theorem startDomain_dom (h : d < s.pwr.domains.length) :
    (s.startDomain d r).dom d = { s.dom d with switching := some (true, s.time + domOnUs d * 1000), reason := r, queued := false } := by
  unfold State.startDomain
  rw [unitState_dom]
  split <;> exact dom_modDom h _

theorem startDomain_startQueue (d r : Nat) (s : State) : (s.startDomain d r).pwr.startQueue = s.pwr.startQueue := by
  unfold State.startDomain
  rw [State.unitState_pwr]
  split <;> rfl

section
variable (hd : s.hasDomain d = true) (hc : s.pins.coreEn = true)
include hd hc

/-- What becomes of a request for a domain of the part while VDD_SOC is on. -/
theorem reqDomain_eq (on : Bool) (r : Nat) :
    s.reqDomain d on r =
      let x := s.dom d
      let u := s.setIntent d on
      if x.switching.isSome then u.modDom d fun x => { x with held := some (on, r) }
      else if x.queued then
        if on then u else (u.modDom d fun x => { x with queued := false }).modPwr fun p => { p with startQueue := p.startQueue.filter fun q => q.1 != d }
      else if x.on == on then u
      else if !on then (u.modDom d fun x => { x with switching := some (false, s.time + domOffUs d * 1000), reason := r }).unitState d 5
      else if s.pwr.startQueue.isEmpty && s.startAllowed d then u.startDomain d r
      else (u.modDom d fun x => { x with queued := true }).modPwr fun p => { p with startQueue := p.startQueue ++ [(d, r)] } := by
  unfold State.reqDomain
  simp only [hd, hc, Bool.and_self, State.when_true, setIntent_hasDomain, State.setIntent_pins, Bool.not_true, Bool.or_self,
    Bool.false_eq_true, if_false, State.setIntent_pwr, setIntent_startAllowed, State.setIntent_time, us]

section
variable (hs : (s.dom d).switching = none) (hq : (s.dom d).queued = false)
include hs hq

theorem reqDomain_start (ho : (s.dom d).on = false) (he : s.pwr.startQueue = []) (ha : s.startAllowed d = true) :
    s.reqDomain d true r = (s.setIntent d true).startDomain d r := by
  rw [reqDomain_eq hd hc]
  simp [hs, hq, ho, he, ha]

theorem reqDomain_queue (ho : (s.dom d).on = false) (ha : s.pwr.startQueue ≠ [] ∨ s.startAllowed d = false) :
    s.reqDomain d true r = (((s.setIntent d true).modDom d fun x => { x with queued := true }).modPwr fun p =>
      { p with startQueue := p.startQueue ++ [(d, r)] }) := by
  rw [reqDomain_eq hd hc]
  rcases ha with ha | ha <;> simp [hs, hq, ho, ha]

theorem reqDomain_off (ho : (s.dom d).on = true) :
    s.reqDomain d false r = ((s.setIntent d false).modDom d fun x =>
      { x with switching := some (false, s.time + domOffUs d * 1000), reason := r }).unitState d 5 := by
  rw [reqDomain_eq hd hc]
  simp [hs, hq, ho]

end

theorem reqDomain_held {x : Bool × Nat} (hs : (s.dom d).switching = some x) (on : Bool) :
    s.reqDomain d on r = (s.setIntent d on).modDom d fun x => { x with held := some (on, r) } := by
  rw [reqDomain_eq hd hc]
  simp [hs]

end

/-- Taproot acts on a request that turns a domain on, or one off that the mode does not need (R51). -/
theorem exec_domainSwitchRequest_taken {on : Bool} (hr : s.tp.state = .running) (hn : on = true ∨ s.domNeeded d = false) :
    exec (.domainSwitchRequest d on r) s = .next (s.reqDomain d on r).settle := by
  have hact : (s.tp.state == .running && (on || !s.domNeeded d)) = true := by
    rw [hr]
    rcases hn with h | h <;> simp [h]
  rw [exec_domainSwitchRequest, execDomainSwitchRequest, hact]
  rfl

section
variable (hr : s.tp.state = .running) (hd : s.hasDomain d = true) (hc : s.pins.coreEn = true) (hl : d < s.pwr.domains.length)
include hr hd hc hl

section
variable (hs : (s.dom d).switching = none) (hq : (s.dom d).queued = false)
include hs hq

theorem exec_domainSwitchRequest_start (ho : (s.dom d).on = false) (he : s.pwr.startQueue = []) (ha : s.startAllowed d = true) :
    ∃ t, exec (.domainSwitchRequest d true r) s = .next t ∧
      (t.dom d).switching = some (true, s.time + domOnUs d * 1000) ∧ (t.dom d).on = false := by
  refine ⟨_, exec_domainSwitchRequest_taken hr (.inl rfl), ?_⟩
  rw [settle_dom, reqDomain_start hd hc hs hq ho he ha, startDomain_dom (by simpa using hl)]
  simp [ho]

theorem exec_domainSwitchRequest_queue (ho : (s.dom d).on = false) (ha : s.pwr.startQueue ≠ [] ∨ s.startAllowed d = false) :
    ∃ t, exec (.domainSwitchRequest d true r) s = .next t ∧
      (t.dom d).queued = true ∧ t.pwr.startQueue = s.pwr.startQueue ++ [(d, r)] := by
  refine ⟨_, exec_domainSwitchRequest_taken hr (.inl rfl), ?_⟩
  rw [settle_dom, State.settle_pwr, reqDomain_queue hd hc hs hq ho ha]
  refine ⟨?_, by simp [modDom_pwr]⟩
  exact congrArg Domain.queued (dom_modDom (s := s.setIntent d true) (by simpa using hl) _)

theorem exec_domainSwitchRequest_off (ho : (s.dom d).on = true) (hn : s.domNeeded d = false) :
    ∃ t, exec (.domainSwitchRequest d false r) s = .next t ∧
      (t.dom d).switching = some (false, s.time + domOffUs d * 1000) ∧ t.domOn d = false := by
  refine ⟨_, exec_domainSwitchRequest_taken hr (.inr hn), ?_⟩
  rw [State.domOn, settle_dom, reqDomain_off hd hc hs hq ho, unitState_dom, dom_modDom (by simpa using hl)]
  simp [Domain.leaving]

end

theorem exec_domainSwitchRequest_held {on : Bool} {x : Bool × Nat} (hs : (s.dom d).switching = some x)
    (hn : on = true ∨ s.domNeeded d = false) :
    ∃ t, exec (.domainSwitchRequest d on r) s = .next t ∧ (t.dom d).held = some (on, r) ∧ (t.dom d).switching = some x := by
  refine ⟨_, exec_domainSwitchRequest_taken hr hn, ?_⟩
  rw [settle_dom, reqDomain_held hd hc hs, dom_modDom (by simpa using hl)]
  simp [hs]

end

/-! ### The queue of starts (R49) -/

theorem exec_domainQueuedStart_empty (h : s.pwr.startQueue = []) : exec .domainQueuedStart s = .next s.settle := by
  rw [exec_domainQueuedStart, execDomainQueuedStart, h]
  rfl

/-- The first of the queue starts, at a time that the start limit gives. -/
theorem exec_domainQueuedStart_first {rest : List (Nat × Nat)} (hc : s.pins.coreEn = true) (h : s.pwr.startQueue = (d, r) :: rest) :
    ∃ n, exec .domainQueuedStart s =
      .next (((s.timeTo n).modPwr fun p => { p with startQueue := rest }).startDomain d r).settle := by
  rw [exec_domainQueuedStart, execDomainQueuedStart, h, hc]
  exact ⟨_, rfl⟩

/-! ### The loss of a domain's state (R50) -/

/-- The parts that stay in AON when a domain loses its state: supplies, records and pins. -/
def State.aon (s : State) : Pwr × Nvm × Pins := (s.pwr, s.nvm, s.pins)

theorem aon_pwr {t : State} (h : t.aon = s.aon) : t.pwr = s.pwr := congrArg (·.1) h
theorem aon_nvm {t : State} (h : t.aon = s.aon) : t.nvm = s.nvm := congrArg (·.2.1) h
theorem aon_pins {t : State} (h : t.aon = s.aon) : t.pins = s.pins := congrArg (·.2.2) h

theorem aon_eq {w : Pwr} {n : Nvm} {p : Pins} : s.aon = (w, n, p) ↔ s.pwr = w ∧ s.nvm = n ∧ s.pins = p := by
  rw [State.aon, Prod.mk.injEq, Prod.mk.injEq]

theorem emit_aon (o : Out) (s : State) : (s.emit o).aon = s.aon := rfl
theorem modMem_aon (g : Mem → Mem) (s : State) : (s.modMem g).aon = s.aon := rfl
theorem modCam_aon (g : Cam → Cam) (s : State) : (s.modCam g).aon = s.aon := rfl
theorem modLanes_aon (g : Lanes → Lanes) (s : State) : (s.modLanes g).aon = s.aon := rfl
theorem modFlow_aon (p : Nat) (g : CamFlow → CamFlow) (s : State) : (s.modFlow p g).aon = s.aon := rfl
theorem modIspPort_aon (p : Nat) (g : IspPort → IspPort) (s : State) : (s.modIspPort p g).aon = s.aon := rfl
theorem perFrame_aon (c u : Nat) (b : Bytes) (n : Nat) (s : State) : (s.perFrame c u b n).aon = s.aon := rfl
theorem dropFrame_aon (p : Nat) (q : W32) (s : State) : (s.dropFrame p q).aon = s.aon := rfl
theorem handOver_aon (p : Nat) (f : RawFrame) (b : Bool) (s : State) : (s.handOver p f b).aon = s.aon := rfl
theorem dropStrips_aon (c : Nat) (s : State) : (s.dropStrips c).aon = s.aon := rfl
theorem dropTiles_aon (g : Tile → Bool) (s : State) : (s.dropTiles g).aon = s.aon := rfl
theorem loseRegions_aon (d : Nat) (s : State) : (s.loseRegions d).aon = s.aon := rfl

theorem endFrame_aon (p : Nat) (cut : Bool) (s : State) : (s.endFrame p cut).aon = s.aon := by
  unfold State.endFrame
  split
  · rfl
  · dsimp only
    repeat' split
    all_goals simp only [modFlow_aon, modIspPort_aon, perFrame_aon, dropFrame_aon, handOver_aon]

theorem foldl_aon {α : Type} {f : State → α → State} (hf : ∀ t a, (f t a).aon = t.aon) (l : List α) (s : State) :
    (l.foldl f s).aon = s.aon :=
  List.foldlRecOn (motive := fun t : State => t.aon = s.aon) _ _ rfl fun t ht a _ => (hf t a).trans ht

theorem when_emit_aon (c : Bool) (o : Out) (s : State) : (s.when c (·.emit o)).aon = s.aon := by
  cases c <;> rfl

theorem ite_aon {c : Prop} [Decidable c] {t u : State} (ht : c → t.aon = s.aon) (hu : ¬ c → u.aon = s.aon) :
    (if c then t else u).aon = s.aon := by
  split
  · exact ht ‹_›
  · exact hu ‹_›

theorem modPins_aon {t : State} (h : t.aon = s.aon) (g : Pins → Pins) : (t.modPins g).aon = (s.pwr, s.nvm, g s.pins) := by
  rw [← aon_pwr h, ← aon_nvm h, ← aon_pins h]
  rfl

/-- The pins after a loss: FRAME_OUT falls unless `a`, PLC_OE_N rises if `b`. -/
def Pins.dropped (a b : Bool) (p : Pins) : Pins := { p with frameOut := p.frameOut && a, plcOeN := p.plcOeN || b }

theorem dropped_dropped (a b a' b' : Bool) (p : Pins) : (p.dropped a b).dropped a' b' = p.dropped (a && a') (b || b') := by
  simp [Pins.dropped, Bool.and_assoc, Bool.or_assoc]

theorem dropped_nothing (p : Pins) : p.dropped true false = p := by
  simp [Pins.dropped]

/-- The compositor lets FRAME_OUT fall and the placard port raises PLC_OE_N; no other domain drives a pin in AON (R50). -/
theorem loseDomain_aon (d : Nat) (s : State) : (s.loseDomain d).aon = (s.pwr, s.nvm, s.pins.dropped (d != 53) (d == 55)) := by
  by_cases hcmp : d = 53
  · rw [hcmp]
    calc (s.loseDomain 53).aon
        = ((s.when s.pins.frameOut (·.emit (.pin .frameOut false 0))).modPins fun p => { p with frameOut := false }).aon := rfl
      _ = _ := modPins_aon (when_emit_aon ..) _
      _ = _ := by simp [Pins.dropped]
  by_cases hpl : d = 55
  · rw [hpl]
    calc (s.loseDomain 55).aon
        = ((s.when (!s.pins.plcOeN) (·.emit (.pin .plcOeN true 0))).modPins fun p => { p with plcOeN := true }).aon := rfl
      _ = _ := modPins_aon (when_emit_aon ..) _
      _ = _ := by simp [Pins.dropped]
  rw [bne_iff_ne.2 hcmp, beq_eq_false_iff_ne.2 hpl, dropped_nothing]
  change _ = s.aon
  unfold State.loseDomain
  refine ite_aon (fun _ => ?_) fun _ => ?_  -- clusters
  · exact (loseRegions_aon _ _).trans ((dropTiles_aon _ _).trans (dropStrips_aon _ _))
  refine ite_aon (fun _ => ?_) fun _ => ?_  -- memory channels
  · exact (modMem_aon _ _).trans (foldl_aon (fun t _ => emit_aon _ t) _ s)
  refine ite_aon (fun _ => ?_) fun _ => ?_  -- Sapline groups
  · rfl
  refine ite_aon (fun _ => ?_) fun _ => ?_  -- Rootline groups
  · exact (modLanes_aon _ _).trans ((modCam_aon _ _).trans (foldl_aon (fun t i => endFrame_aon _ _ t) _ s))
  refine ite_aon (fun _ => ?_) fun _ => ?_  -- host ports
  · rfl
  refine ite_aon (fun _ => ?_) fun _ => ?_  -- pipelines
  · rfl
  refine ite_aon (fun _ => ?_) fun _ => ?_  -- depth
  · rfl
  refine ite_aon (fun _ => ?_) fun _ => ?_  -- slicer
  · rfl
  refine ite_aon (fun h => absurd (eq_of_beq h) hcmp) fun _ => ?_
  refine ite_aon (fun _ => ?_) fun _ => ?_  -- churn
  · rfl
  refine ite_aon (fun h => absurd (eq_of_beq h) hpl) fun _ => ?_
  refine ite_aon (fun _ => ?_) fun _ => ?_  -- audio
  · rfl
  exact ite_aon (fun _ => rfl) fun _ => rfl

theorem wakeDomain_aon (d : Nat) (s : State) : (s.wakeDomain d).aon = s.aon := by
  unfold State.wakeDomain
  split
  · rfl
  split
  · rfl
  split
  · refine foldl_aon (fun t i => ?_) _ s
    dsimp only
    split
    · simp [State.aon]
    · rfl
  · rfl

@[simp] theorem post_lossMarker (c v : Nat) (p : Bytes) (s : State) : (s.post c v p).nvm.lossMarker = s.nvm.lossMarker := by
  unfold State.post State.toLog
  split <;> simp

@[simp] theorem post_recs (c v : Nat) (p : Bytes) (s : State) : (s.post c v p).nvm.recs = s.nvm.recs := by
  unfold State.post State.toLog
  split <;> simp

/-- `t` is `s` after domains have gone off: of supplies, pins and records only the queue of starts, the domains, FRAME_OUT,
a risen PLC_OE_N and the queue of the log can differ. -/
def DomainsDropped (s t : State) : Prop :=
  (∃ q ds, t.pwr = { s.pwr with startQueue := q, domains := ds }) ∧
    (∃ a b, t.pins = s.pins.dropped a b) ∧ t.nvm.lossMarker = s.nvm.lossMarker

theorem DomainsDropped.refl (s : State) : DomainsDropped s s := ⟨⟨_, _, rfl⟩, ⟨true, false, (dropped_nothing _).symm⟩, rfl⟩

theorem DomainsDropped.trans {t u : State} (h : DomainsDropped s t) (h' : DomainsDropped t u) : DomainsDropped s u := by
  obtain ⟨⟨q, ds, hw⟩, ⟨a, b, hp⟩, hn⟩ := h
  obtain ⟨⟨q', ds', hw'⟩, ⟨a', b', hp'⟩, hn'⟩ := h'
  exact ⟨⟨q', ds', by rw [hw', hw]⟩, ⟨a && a', b || b', by rw [hp', hp, dropped_dropped]⟩, hn'.trans hn⟩

theorem DomainsDropped.of_aon {t : State} (h : t.aon = s.aon) : DomainsDropped s t :=
  ⟨⟨_, _, aon_pwr h⟩, ⟨true, false, by rw [aon_pins h, dropped_nothing]⟩, by rw [aon_nvm h]⟩

theorem modDom_dropped (d : Nat) (g : Domain → Domain) (s : State) : DomainsDropped s (s.modDom d g) :=
  ⟨⟨_, _, rfl⟩, ⟨true, false, (dropped_nothing _).symm⟩, rfl⟩

theorem startQueue_dropped (l : List (Nat × Nat) → List (Nat × Nat)) (s : State) :
    DomainsDropped s (s.modPwr fun p => { p with startQueue := l p.startQueue }) :=
  ⟨⟨_, _, rfl⟩, ⟨true, false, (dropped_nothing _).symm⟩, rfl⟩

theorem loseDomain_dropped (d : Nat) (s : State) : DomainsDropped s (s.loseDomain d) := by
  obtain ⟨hw, hn, hp⟩ := aon_eq.1 (loseDomain_aon d s)
  exact ⟨⟨_, _, hw⟩, ⟨_, _, hp⟩, congrArg Nvm.lossMarker hn⟩

theorem unitState_dropped (i n : Nat) (s : State) : DomainsDropped s (s.unitState i n) :=
  .of_aon (by simp [State.aon])

theorem post_dropped (c v : Nat) (p : Bytes) (s : State) : DomainsDropped s (s.post c v p) :=
  ⟨⟨_, _, s.post_pwr c v p⟩, ⟨true, false, by rw [State.post_pins, dropped_nothing]⟩, by simp⟩

theorem dropDomain_dropped (d r : Nat) (s : State) : DomainsDropped s (s.dropDomain d r) := by
  unfold State.dropDomain
  have hqueue := startQueue_dropped (·.filter fun q => q.1 != d) s
  dsimp only
  split
  · exact hqueue.trans (modDom_dropped ..)
  · exact ((hqueue.trans (loseDomain_dropped d _)).trans (modDom_dropped ..)).trans
      ((unitState_dropped ..).trans (post_dropped ..))

theorem allOff_dropped (r : Nat) (s : State) : DomainsDropped s (s.allOff r) :=
  List.foldlRecOn (motive := DomainsDropped s) _ _ (.refl s) fun t ht _ _ => ht.trans (dropDomain_dropped _ _ t)

/-! ### The end of a switch (R50, R51) -/

@[simp] theorem settle_sdsPg (s : State) : s.settle.pins.sdsPg = s.pins.sdsPg := by unfold State.settle; split <;> rfl
@[simp] theorem settle_memPg (s : State) : s.settle.pins.memPg = s.pins.memPg := by unfold State.settle; split <;> rfl

@[simp] theorem post_dom (c v : Nat) (p : Bytes) (s : State) (d : Nat) : (s.post c v p).dom d = s.dom d := dom_congr (by simp) d
@[simp] theorem setUnit_dom (i : Nat) (g : UnitRec → UnitRec) (s : State) (d : Nat) : (s.setUnit i g).dom d = s.dom d :=
  dom_congr (by simp) d
@[simp] theorem loseDomain_dom (i : Nat) (s : State) (d : Nat) : (s.loseDomain i).dom d = s.dom d :=
  dom_congr (aon_eq.1 (loseDomain_aon i s)).1 d
@[simp] theorem wakeDomain_dom (i : Nat) (s : State) (d : Nat) : (s.wakeDomain i).dom d = s.dom d :=
  dom_congr (aon_pwr (wakeDomain_aon i s)) d
@[simp] theorem wakeDomain_pins (i : Nat) (s : State) : (s.wakeDomain i).pins = s.pins := aon_pins (wakeDomain_aon i s)

theorem actHeld_of_none (h : (s.dom d).held = none) : s.actHeld d = s := by rw [State.actHeld, h]

theorem lt_domains_of_switching {x : Bool × Nat} (h : (s.dom d).switching = some x) : d < s.pwr.domains.length :=
  lt_domains_of_dom_ne fun h' => by simp [h'] at h

theorem modDom_dom_of_fixed {g : Domain → Domain} (h : g (s.dom d) = s.dom d) : (s.modDom d g).dom d = s.dom d := by
  by_cases hl : d < s.pwr.domains.length
  · rw [dom_modDom hl, h]
  · simp [State.dom, State.modDom, State.modPwr, List.getD_eq_getElem?_getD, Nat.not_lt.1 hl]

/-- A domain in the midst of a switch goes off with no switch and no request left. -/
theorem dropDomain_dom {x : Bool × Nat} (h : (s.dom d).switching = some x) :
    (s.dropDomain d r).dom d = { s.dom d with on := false, switching := none, held := none, queued := false } := by
  let u := s.modPwr fun p => { p with startQueue := p.startQueue.filter fun q => q.1 != d }
  have hu : u.dom d = s.dom d := rfl
  have hl : d < (u.loseDomain d).pwr.domains.length := lt_domains_of_switching (x := x) (by rw [loseDomain_dom, hu, h])
  have hon : ¬ (!(u.dom d).on && (u.dom d).switching.isNone) = true := by simp [hu, h]
  unfold State.dropDomain
  dsimp only
  rw [if_neg hon, post_dom, unitState_dom, dom_modDom hl, loseDomain_dom, hu]

/-- The domain is on; the power-good of its rail is known high. -/
def State.switchedOn (d t0 : Nat) (s : State) : State :=
  ((s.timeTo t0).modDom d fun x => { x with on := true, switching := none }).modPins fun p =>
    { p with sdsPg := p.sdsPg || (29 ≤ d && d < 47), memPg := p.memPg || (17 ≤ d && d < 29) }

theorem switchedOn_dom {x : Bool × Nat} (h : (s.dom d).switching = some x) (t0 : Nat) :
    (s.switchedOn d t0).dom d = { s.dom d with on := true, switching := none } :=
  dom_modDom (s := s.timeTo t0) (lt_domains_of_switching (s := s) h) _

section
variable {t0 : Nat} (hh : (s.dom d).held = none)
include hh

/-- A completed switch-on with no request held leaves the domain on (R49). -/
theorem exec_domainOnComplete_switching (hs : (s.dom d).switching = some (true, t0)) :
    ∃ t, exec (.domainOnComplete d) s = .next t ∧ t.dom d = { s.dom d with on := true, switching := none } ∧
      t.pins.sdsPg = (s.pins.sdsPg || (29 ≤ d && d < 47)) ∧ t.pins.memPg = (s.pins.memPg || (17 ≤ d && d < 29)) := by
  let u := (((s.switchedOn d t0).setUnit d fun u => { u with state := 4, flowing := true, faulted := false }).wakeDomain d).post 0x380 0
    (evDomain d true ((s.switchedOn d t0).dom d).reason)
  have hdom : u.dom d = { s.dom d with on := true, switching := none } := by simp [u, switchedOn_dom hs]
  have hpins : u.pins = (s.switchedOn d t0).pins := by simp [u]
  have hexec : exec (.domainOnComplete d) s = .next (u.actHeld d).settle := by
    rw [exec_domainOnComplete, execDomainOnComplete, hs]
    rfl
  rw [actHeld_of_none (by rw [hdom, hh])] at hexec
  exact ⟨_, hexec, by rw [settle_dom, hdom], by rw [settle_sdsPg, hpins]; rfl, by rw [settle_memPg, hpins]; rfl⟩

/-- A completed switch-off with no request held leaves the domain off (R50). -/
theorem exec_domainOffComplete_switching (hs : (s.dom d).switching = some (false, t0)) :
    ∃ t, exec (.domainOffComplete d) s = .next t ∧ t.dom d = { s.dom d with on := false, switching := none, held := none, queued := false } := by
  let u := ((s.timeTo t0).dropDomain d (s.dom d).reason).modDom d fun x => { x with held := none }
  have hdrop : ((s.timeTo t0).dropDomain d (s.dom d).reason).dom d =
      { s.dom d with on := false, switching := none, held := none, queued := false } := dropDomain_dom (s := s.timeTo t0) hs
  have hdom : u.dom d = { s.dom d with on := false, switching := none, held := none, queued := false } :=
    (modDom_dom_of_fixed (by rw [hdrop])).trans hdrop
  have hexec : exec (.domainOffComplete d) s = .next (u.actHeld d).settle := by
    rw [exec_domainOffComplete, execDomainOffComplete, hs]
    dsimp only
    rw [hh]
    rfl
  rw [actHeld_of_none (by rw [hdom])] at hexec
  exact ⟨_, hexec, by rw [settle_dom, hdom]⟩

end

end Sys2Proof.Machine
end

section
/-! SUPPORT. The AVS loops, droop and the power governor (R35 to R37, R46, R47, R416). -/

namespace Sys2Proof.Machine

variable {s : State} {r d need : Nat} {ack : Bool} {failing : List Nat}

theorem exec_avsUpdate (r need : Nat) (ack : Bool) (failing : List Nat) (s : State) :
    exec (.avsUpdate r need ack failing) s = execAvsUpdate r need ack failing s := rfl
theorem exec_droopDetect (d mv : Nat) (s : State) : exec (.droopDetect d mv) s = execDroopDetect d mv s := rfl
theorem exec_governorPeriod (n : Nat) (s : State) : exec (.governorPeriod n) s = execGovernorPeriod n s := rfl

/-! ### The record of a rail -/

theorem rail_congr {t : State} (h : t.pwr = s.pwr) (r : Nat) : t.rail r = s.rail r := by rw [State.rail, State.rail, h]

@[simp] theorem settle_rail (s : State) (r : Nat) : s.settle.rail r = s.rail r := rail_congr s.settle_pwr r
@[simp] theorem post_rail (c v : Nat) (p : Bytes) (s : State) (r : Nat) : (s.post c v p).rail r = s.rail r := rail_congr (by simp) r
@[simp] theorem modDom_rail (d : Nat) (g : Domain → Domain) (s : State) (r : Nat) : (s.modDom d g).rail r = s.rail r := rfl
@[simp] theorem modGov_rail (g : Gov → Gov) (s : State) (r : Nat) : (s.modGov g).rail r = s.rail r := rfl

theorem rail_modRail_same (r : Nat) (g : AvsRail → AvsRail) (s : State) : (s.modRail r g).rail r = g (s.rail r) := by
  unfold State.modRail State.rail
  cases h : r == 0 <;> rfl

theorem rail_modRail_other (h : r < 2) (g : AvsRail → AvsRail) (s : State) : (s.modRail r g).rail (1 - r) = s.rail (1 - r) := by
  unfold State.modRail State.rail
  obtain rfl | rfl : r = 0 ∨ r = 1 := by omega
  · rfl
  · rfl

@[simp] theorem modRail_dom (r : Nat) (g : AvsRail → AvsRail) (s : State) (d : Nat) : (s.modRail r g).dom d = s.dom d := by
  unfold State.modRail
  cases h : r == 0 <;> rfl

theorem pmb_pwr (r : Nat) (c : PmbCommand) (mv : Nat) (s : State) : (s.pmb r c mv).pwr = s.pwr :=
  aon_pwr (when_emit_aon ..)

@[simp] theorem pmb_rail (k : Nat) (c : PmbCommand) (mv : Nat) (s : State) (r : Nat) : (s.pmb k c mv).rail r = s.rail r :=
  rail_congr (pmb_pwr ..) r
@[simp] theorem pmb_dom (k : Nat) (c : PmbCommand) (mv : Nat) (s : State) (d : Nat) : (s.pmb k c mv).dom d = s.dom d :=
  dom_congr (pmb_pwr ..) d

/-! ### Lost frequency steps and frozen rails (R37, R46) -/

@[simp] theorem freqDown_rail (k : Nat) (l : List Nat) (s : State) (r : Nat) : (s.freqDown k l).rail r = s.rail r := by
  refine List.foldlRecOn (motive := fun t : State => t.rail r = s.rail r) _ _ rfl fun t ht d _ => ?_
  split
  · exact ht
  · dsimp only
    split <;> simpa using ht

theorem freqDown_nil (r : Nat) (s : State) : s.freqDown r [] = s := rfl

/-- An island of the rail that runs loses one frequency step. -/
theorem freqDown_freqSteps (hr : onRail r d = true) (hd : s.domOn d = true) :
    ((s.freqDown r [d]).dom d).freqSteps = (s.dom d).freqSteps + 1 := by
  have hl : d < s.pwr.domains.length := lt_domains_of_dom_ne fun h => by simp [State.domOn, h] at hd
  simp only [State.freqDown, List.filter_cons, hr, if_true, List.filter_nil, List.foldl_cons, List.foldl_nil, hd, Bool.not_true,
    Bool.false_eq_true, if_false]
  split
  · rw [post_dom]
    exact congrArg Domain.freqSteps (dom_modDom hl _)
  · exact congrArg Domain.freqSteps (dom_modDom hl _)

theorem freezeRail_mv (k c die : Nat) (l : List Nat) (s : State) (r : Nat) :
    ((s.freezeRail k c die l).rail r).mv = (s.rail r).mv := by
  rw [State.freezeRail, freqDown_rail, post_rail]
  unfold State.modRail State.rail
  cases h : k == 0 <;> cases h' : r == 0 <;> rfl

theorem freezeRail_rail_other (h : r < 2) (c die : Nat) (l : List Nat) (s : State) :
    (s.freezeRail r c die l).rail (1 - r) = s.rail (1 - r) := by
  rw [State.freezeRail, freqDown_rail, post_rail, rail_modRail_other h]

theorem freezeRail_dom (r c die : Nat) (s : State) (d : Nat) : (s.freezeRail r c die []).dom d = s.dom d := by
  rw [State.freezeRail, freqDown_nil, post_dom, modRail_dom]

/-! ### The 1 ms update (R37, R46) -/

/-- An island of the rail stretched its clock more than 16 times in the period. -/
def State.stretchesTooOften (r : Nat) (s : State) : Bool :=
  (List.range 59).any fun d => onRail r d && 16 < (s.dom d).stretchPeriod

/-- The stretch counts of the period end. -/
def State.endStretchPeriod (r : Nat) (s : State) : State :=
  s.modPwr fun p => { p with domains := p.domains.mapIdx fun d z => if onRail r d then { z with stretchPeriod := 0 } else z }

/-- The update of VDD_RAY moves the timebase, that of VDD_SOC follows it. -/
def State.avsTick (r : Nat) (s : State) : State := if r == 0 then s.nextPeriod (ms 1) else s

/-- The voltage that an update commands. -/
def State.avsMv (r need : Nat) (s : State) : Nat := avsStep r (s.rail r).mv need (s.stretchesTooOften r) s.gov.cap

/-- The transfers to the regulator in an update. -/
def State.avsTransfers (r mv : Nat) (ack : Bool) (s : State) : State :=
  let t := if mv != (s.rail r).mv then s.pmb r .voutCommand mv else s
  if ack then t else t.pmb r .statusWord 0

/-- An update up to its measurement: the period ends, the voltage is commanded, and at the ceiling failing islands slow down. -/
def State.avsCommand (r need : Nat) (ack : Bool) (failing : List Nat) (s : State) : State :=
  let t := (s.endStretchPeriod r).avsTransfers r (s.avsMv r need) ack
  if (s.rail r).mv == 850 && 850 < need then t.freqDown r failing else t

/-- The voltage on the die that an update measures. -/
def State.avsDie (r need : Nat) (ack : Bool) (failing : List Nat) (s : State) : Nat :=
  ((s.avsCommand r need ack failing).dieMv r).getD (s.rail r).mv

/-- The record of a rail after an update, before a freeze. -/
def State.avsNext (r need : Nat) (ack : Bool) (failing : List Nat) (s : State) : AvsRail :=
  let x := s.rail r
  let die := s.avsDie r need ack failing
  { x with
    mv := s.avsMv r need
    mismatches := if 25 < max x.mv die - min x.mv die then x.mismatches + 1 else 0
    naks := if ack then 0 else x.naks + 1 }

/-- An update of a rail that is not frozen, before it may freeze it. -/
def State.avsLoop (r need : Nat) (ack : Bool) (failing : List Nat) (s : State) : State :=
  (s.avsCommand r need ack failing).modRail r fun _ => s.avsNext r need ack failing

/-- An update freezes a loop whose voltage is off or whose regulator does not answer, too often in a row (R46). -/
def State.avsFreeze (r need : Nat) (ack : Bool) (failing : List Nat) (s : State) : State :=
  let y := s.avsNext r need ack failing
  let t := s.avsLoop r need ack failing
  if 5 ≤ y.mismatches then t.freezeRail r 0 (s.avsDie r need ack failing) failing
  else if 3 ≤ y.naks then t.freezeRail r 1 (s.avsDie r need ack failing) failing
  else t

@[simp] theorem avsTick_pwr (r : Nat) (s : State) : (s.avsTick r).pwr = s.pwr := by unfold State.avsTick; split <;> rfl
@[simp] theorem avsTick_gov (r : Nat) (s : State) : (s.avsTick r).gov = s.gov := by unfold State.avsTick; split <;> rfl
@[simp] theorem avsTick_dom (r : Nat) (s : State) (d : Nat) : (s.avsTick r).dom d = s.dom d := dom_congr (by simp) d
@[simp] theorem avsTick_rail (k : Nat) (s : State) (r : Nat) : (s.avsTick k).rail r = s.rail r := rail_congr (by simp) r

theorem avsTick_avsMv (k r need : Nat) (s : State) : (s.avsTick k).avsMv r need = s.avsMv r need := by
  simp [State.avsMv, State.stretchesTooOften]

theorem stretchesTooOften_of (hd : d < 59) (ho : onRail r d = true) (h : 16 < (s.dom d).stretchPeriod) :
    s.stretchesTooOften r = true :=
  List.any_eq_true.2 ⟨d, List.mem_range.2 hd, by simp [ho, h]⟩

theorem not_stretchesTooOften_of (h : ∀ d < 59, onRail r d = true → (s.dom d).stretchPeriod ≤ 16) : s.stretchesTooOften r = false := by
  simpa [State.stretchesTooOften] using h

theorem avsMv_of_need (h : (s.rail r).mv < need) : s.avsMv r need = min 850 ((s.rail r).mv + 5) := by
  simp [State.avsMv, avsStep, h]

theorem avsMv_of_stretch (h : s.stretchesTooOften r = true) : s.avsMv r need = min 850 ((s.rail r).mv + 5) := by
  simp [State.avsMv, avsStep, h]

theorem avsMv_lower (hn : need + 5 ≤ (s.rail r).mv) (hc : s.gov.cap = false) (hs : s.stretchesTooOften r = false) :
    s.avsMv r need = max (if r = 0 then 550 else 600) ((s.rail r).mv - 5) := by
  have hpass : ¬ (s.rail r).mv < need := by omega
  simp [State.avsMv, avsStep, railFloor, hpass, hn, hc, hs]

@[simp] theorem endStretchPeriod_rail (k : Nat) (s : State) (r : Nat) : (s.endStretchPeriod k).rail r = s.rail r := rfl

theorem endStretchPeriod_dom (r : Nat) (s : State) (d : Nat) :
    (s.endStretchPeriod r).dom d = if onRail r d then { s.dom d with stretchPeriod := 0 } else s.dom d := by
  simp only [State.endStretchPeriod, State.dom, State.modPwr, List.getD_eq_getElem?_getD, List.getElem?_mapIdx]
  cases s.pwr.domains[d]? with
  | none => split <;> rfl
  | some x => split <;> simp [*]

@[simp] theorem avsTransfers_rail (k mv : Nat) (ack : Bool) (s : State) (r : Nat) : (s.avsTransfers k mv ack).rail r = s.rail r := by
  unfold State.avsTransfers
  split <;> (dsimp only; split) <;> simp

@[simp] theorem avsTransfers_dom (k mv : Nat) (ack : Bool) (s : State) (d : Nat) : (s.avsTransfers k mv ack).dom d = s.dom d := by
  unfold State.avsTransfers
  split <;> (dsimp only; split) <;> simp

theorem avsCommand_rail (k need : Nat) (ack : Bool) (failing : List Nat) (s : State) (r : Nat) :
    (s.avsCommand k need ack failing).rail r = s.rail r := by
  unfold State.avsCommand
  dsimp only
  split <;> simp

theorem avsCommand_dom (r need : Nat) (ack : Bool) (s : State) (d : Nat) :
    (s.avsCommand r need ack []).dom d = (s.endStretchPeriod r).dom d := by
  rw [State.avsCommand, freqDown_nil, ite_self, avsTransfers_dom]

theorem avsFreeze_mv (r need : Nat) (ack : Bool) (failing : List Nat) (s : State) :
    ((s.avsFreeze r need ack failing).rail r).mv = s.avsMv r need := by
  have hloop : ((s.avsLoop r need ack failing).rail r).mv = s.avsMv r need := by rw [State.avsLoop, rail_modRail_same]; rfl
  unfold State.avsFreeze
  dsimp only
  split
  · rw [freezeRail_mv, hloop]
  split
  · rw [freezeRail_mv, hloop]
  · exact hloop

theorem avsFreeze_rail_other (h : r < 2) (need : Nat) (ack : Bool) (failing : List Nat) (s : State) :
    (s.avsFreeze r need ack failing).rail (1 - r) = s.rail (1 - r) := by
  have hloop : (s.avsLoop r need ack failing).rail (1 - r) = s.rail (1 - r) := by
    rw [State.avsLoop, rail_modRail_other h, avsCommand_rail]
  unfold State.avsFreeze
  dsimp only
  split
  · rw [freezeRail_rail_other h, hloop]
  split
  · rw [freezeRail_rail_other h, hloop]
  · exact hloop

/-- With no failing island the domains change by the end of the period of the stretch counts alone. -/
theorem avsFreeze_dom (r need : Nat) (ack : Bool) (s : State) (d : Nat) :
    (s.avsFreeze r need ack []).dom d = (s.endStretchPeriod r).dom d := by
  have hloop : (s.avsLoop r need ack []).dom d = (s.endStretchPeriod r).dom d := by
    rw [State.avsLoop, modRail_dom, avsCommand_dom]
  unfold State.avsFreeze
  dsimp only
  split
  · rw [freezeRail_dom, hloop]
  split
  · rw [freezeRail_dom, hloop]
  · exact hloop

/-- An update that the regulator acknowledges does not freeze a loop short of its fifth mismatch. -/
theorem avsFreeze_of_few (h : (s.rail r).mismatches < 4) (need : Nat) (failing : List Nat) :
    s.avsFreeze r need true failing = s.avsLoop r need true failing := by
  have hm : ¬ 5 ≤ (s.avsNext r need true failing).mismatches := by
    simp only [State.avsNext]
    split <;> omega
  have hn : ¬ 3 ≤ (s.avsNext r need true failing).naks := by simp [State.avsNext]
  rw [State.avsFreeze, if_neg hm, if_neg hn]

section
variable (hp : s.pwr.phase = .run) (hr : r < 2)
include hp hr

theorem exec_avsUpdate_of_run :
    exec (.avsUpdate r need ack failing) s = .next (if (s.rail r).frozen then (s.avsTick r).endStretchPeriod r
      else (s.avsTick r).avsFreeze r need ack failing).settle := by
  have hact : ((s.avsTick r).pwr.phase == .run && decide (r < 2)) = true := by simp [hp, hr]
  rw [exec_avsUpdate, execAvsUpdate]
  change done (State.when ((s.avsTick r).pwr.phase == .run && decide (r < 2)) _ (s.avsTick r)) = _
  rw [hact, State.when_true, ← avsTick_rail r s r]
  rfl

section
variable (hf : (s.rail r).frozen = false)
include hf

/-- An acknowledged update with no failing island: the rail takes the voltage commanded, the other rail stays, and the period of the
stretch counts ends. -/
theorem exec_avsUpdate_passing :
    ∃ t, exec (.avsUpdate r need true []) s = .next t ∧ (t.rail r).mv = s.avsMv r need ∧ t.rail (1 - r) = s.rail (1 - r) ∧
      ∀ d, t.dom d = if onRail r d then { s.dom d with stretchPeriod := 0 } else s.dom d := by
  refine ⟨_, exec_avsUpdate_of_run hp hr, ?_, ?_, fun d => ?_⟩
  · rw [hf, if_neg Bool.false_ne_true, settle_rail, avsFreeze_mv, avsTick_avsMv]
  · rw [hf, if_neg Bool.false_ne_true, settle_rail, avsFreeze_rail_other hr, avsTick_rail]
  · rw [hf, if_neg Bool.false_ne_true, settle_dom, avsFreeze_dom, endStretchPeriod_dom, avsTick_dom]

/-- At the ceiling a failing island that runs loses a frequency step (R37). -/
theorem exec_avsUpdate_ceiling (hv : (s.rail r).mv = 850) (hn : 850 < need) (hm : (s.rail r).mismatches < 4) (ho : onRail r d = true)
    (hd : s.domOn d = true) :
    ∃ t, exec (.avsUpdate r need true [d]) s = .next t ∧ (t.dom d).freqSteps = (s.dom d).freqSteps + 1 := by
  refine ⟨_, exec_avsUpdate_of_run hp hr, ?_⟩
  let u := ((s.avsTick r).endStretchPeriod r).avsTransfers r ((s.avsTick r).avsMv r need) true
  have hdom : u.dom d = { s.dom d with stretchPeriod := 0 } := by
    rw [avsTransfers_dom, endStretchPeriod_dom, ho, if_pos rfl, avsTick_dom]
  have hon : u.domOn d = true := by
    rw [State.domOn, hdom]
    exact hd
  have hcommand : (s.avsTick r).avsCommand r need true [d] = u.freqDown r [d] :=
    if_pos (by rw [avsTick_rail, hv]; simp [hn])
  rw [hf, if_neg Bool.false_ne_true, settle_dom, avsFreeze_of_few (by rwa [avsTick_rail]), State.avsLoop, modRail_dom, hcommand,
    freqDown_freqSteps ho hon, hdom]

end

theorem exec_avsUpdate_frozen (hf : (s.rail r).frozen = true) :
    ∃ t, exec (.avsUpdate r need ack failing) s = .next t ∧ t.rail r = s.rail r := by
  refine ⟨_, exec_avsUpdate_of_run hp hr, ?_⟩
  rw [hf, if_pos rfl, settle_rail, endStretchPeriod_rail, avsTick_rail]

end

/-! ### Droop (R47) -/

theorem exec_droopDetect_stretch {mv : Nat} (hd : s.domOn d = true) (hl : d < s.pwr.domains.length) (hm : s.pwr.droopMv < mv) :
    ∃ t, exec (.droopDetect d mv) s = .next t ∧ (t.dom d).stretchPeriod = (s.dom d).stretchPeriod + 1 ∧ t.time = s.time := by
  have hact : (s.domOn d && decide (s.pwr.droopMv < mv)) = true := by simp [hd, hm]
  rw [exec_droopDetect, execDroopDetect, hact, State.when_true]
  refine ⟨_, rfl, ?_, ?_⟩
  · rw [settle_dom, dom_modDom hl]
  · rw [State.settle_time, State.modDom_time]

theorem exec_droopDetect_within {mv : Nat} (hm : mv ≤ s.pwr.droopMv) : exec (.droopDetect d mv) s = .next s.settle := by
  have hact : (s.domOn d && decide (s.pwr.droopMv < mv)) = false := by simp [Nat.not_lt.2 hm]
  rw [exec_droopDetect, execDroopDetect, hact]
  rfl

/-! ### The power governor (R35, R36, R416) -/

section
variable {measured : Nat} (hp : s.pwr.phase = .run)
include hp

/-- What a governor period makes of the measured power. -/
theorem exec_governorPeriod_of_run :
    exec (.governorPeriod measured) s =
      let u := s.nextPeriod (us 10)
      .next (u.modGov fun g =>
        let g := { g with measured := measured }
        if s.powerLimit * 10 < measured then { g with cap := true, capSteps := min capLimit (g.capSteps + 1), exceeded := true, belowSince := none }
        else if s.hk.selfHeating then
          let n := if s.heatLimit < measured then min capLimit (g.capSteps + 1) else g.capSteps - 1
          { g with cap := n != 0, capSteps := n, belowSince := none }
        else if measured * 100 < 85 * (s.powerLimit * 10) then { g with belowSince := some (g.belowSince.getD u.time) }
        else { g with belowSince := none }).settle := by
  have hact : ((s.nextPeriod (us 10)).pwr.phase == .run) = true := by
    rw [State.nextPeriod, State.modTime_pwr, hp]
    rfl
  rw [exec_governorPeriod, execGovernorPeriod, hact]
  rfl

theorem exec_governorPeriod_above (hm : s.powerLimit * 10 < measured) :
    ∃ t, exec (.governorPeriod measured) s = .next t ∧ t.gov.measured = measured ∧ t.gov.cap = true ∧
      t.gov.capSteps = min 27 (s.gov.capSteps + 1) ∧ t.gov.exceeded = true := by
  refine ⟨_, exec_governorPeriod_of_run hp, ?_⟩
  simp [hm, capLimit, State.nextPeriod]

section
variable (hm : measured ≤ s.powerLimit * 10)
include hm

theorem exec_governorPeriod_within (hh : s.hk.selfHeating = false) :
    ∃ t, exec (.governorPeriod measured) s = .next t ∧ t.gov.measured = measured ∧ t.gov.capSteps = s.gov.capSteps ∧
      (measured * 100 < 85 * (s.powerLimit * 10) ↔ t.gov.belowSince.isSome = true) := by
  refine ⟨_, exec_governorPeriod_of_run hp, ?_⟩
  simp only [State.settle_gov, State.modGov_gov, if_neg (Nat.not_lt.2 hm), hh, Bool.false_eq_true, if_false]
  split
  · exact ⟨rfl, rfl, by simp [*]⟩
  · exact ⟨rfl, rfl, by simp [*]⟩

theorem exec_governorPeriod_heating (hh : s.hk.selfHeating = true) :
    ∃ t, exec (.governorPeriod measured) s = .next t ∧ t.gov.measured = measured ∧
      t.gov.capSteps = (if s.heatLimit < measured then min 27 (s.gov.capSteps + 1) else s.gov.capSteps - 1) := by
  refine ⟨_, exec_governorPeriod_of_run hp, ?_⟩
  simp [Nat.not_lt.2 hm, hh, capLimit, State.nextPeriod]

end

end

/-- Settles O40: a domain by what becomes of a request or of a completed switch, a rail by the voltage that the update commands, the
governor by the measured power. -/
theorem domainsAndPower : Obligations.DomainsAndPower := by
  refine ⟨fun d r s hr hd hc hl => ⟨exec_domainSwitchRequest_start hr hd hc hl, exec_domainSwitchRequest_queue hr hd hc hl,
      exec_domainSwitchRequest_off hr hd hc hl, fun _ _ => exec_domainSwitchRequest_held hr hd hc hl, ?on, ?off, ?queued,
      exec_domainQueuedStart_empty⟩,
    fun s hp => ⟨?need, ?stretch, ?lower, fun _ _ _ _ => exec_avsUpdate_frozen hp,
      fun _ _ _ hr hf hv hn _ => exec_avsUpdate_ceiling hp hr hf hv hn, fun _ _ => exec_droopDetect_stretch,
      fun _ _ => exec_droopDetect_within, fun _ => exec_governorPeriod_above hp, fun _ => exec_governorPeriod_within hp,
      fun _ => exec_governorPeriod_heating hp⟩⟩
  case on =>
    intro t0 hs hh
    obtain ⟨t, he, hdom, hsds, hmem⟩ := exec_domainOnComplete_switching hh hs
    refine ⟨t, he, by simp [State.domOn, hdom, Domain.leaving], by rw [hdom], fun h h' => ?_, fun h h' => ?_⟩
    · simp [hsds, h, h']
    · simp [hmem, h, h']
  case off =>
    intro t0 hs hh
    obtain ⟨t, he, hdom⟩ := exec_domainOffComplete_switching hh hs
    exact ⟨t, he, by simp [State.domOn, hdom], by rw [hdom]⟩
  case queued =>
    intro r rest h
    obtain ⟨n, he⟩ := exec_domainQueuedStart_first hc h
    have hdom := startDomain_dom (s := (s.timeTo n).modPwr fun p => { p with startQueue := rest }) (r := r) hl
    refine ⟨_, he, ?_⟩
    rw [settle_dom, State.settle_pwr, State.settle_time, startDomain_startQueue, hdom, State.startDomain_time]
    exact ⟨rfl, rfl, rfl⟩
  case need =>
    intro r need hr hf hn _
    obtain ⟨t, he, hmv, hother, -⟩ := exec_avsUpdate_passing hp hr hf (need := need)
    exact ⟨t, he, by rw [hmv, avsMv_of_need hn], hother⟩
  case stretch =>
    intro r d need hr hf hd ho hs
    obtain ⟨t, he, hmv, -, hdom⟩ := exec_avsUpdate_passing hp hr hf (need := need)
    exact ⟨t, he, by rw [hmv, avsMv_of_stretch (stretchesTooOften_of hd ho hs)], by rw [hdom, if_pos ho]⟩
  case lower =>
    intro r need hr hf hn hc hs
    obtain ⟨t, he, hmv, -⟩ := exec_avsUpdate_passing hp hr hf (need := need)
    exact ⟨t, he, by rw [hmv, avsMv_lower hn hc (not_stretchesTooOften_of hs)]⟩

end Sys2Proof.Machine
end

section
/-! SUPPORT. Losses of power, resets, wake events and PERST (R55 to R57, R60, R61). -/

namespace Sys2Proof.Machine

variable {s : State}

theorem exec_perstRise (l : Nat) (b : Bool) (s : State) : exec (.perstRise l b) s = execPerstRise l b s := rfl

/-! ### The sequence of Table 2.10 -/

theorem displayPinsFall_aon (t0 : Nat) (s : State) : (s.displayPinsFall t0).aon = s.aon :=
  (when_emit_aon ..).trans (when_emit_aon ..)

/-- The pins of a panel that has been powered down (R295). -/
def Pins.panelDown (p : Pins) : Pins :=
  { p with pnlPwrEn := [false, false, false, false], pnlDischN := false, safeOk := false, frameOut := false }

theorem panelDown_aon (t0 : Nat) (s : State) : (s.panelDown t0).aon = (s.pwr, s.nvm, s.pins.panelDown) :=
  have hdown : (if s.pnl.up || s.pnl.rail.isSome then
      let s := (s.emit (.ctrl 0x2D [16])).emit (.pin .pnlDischN false (t0 + 500000))
      let rails := [3, 2, 1, 0].filter fun i => s.pins.pnlPwrEn.getD i false
      (rails.zipIdx).foldl (fun t x => t.emit (.pin (.pnlPwrEn x.1) false (t0 + 600000 + 200000 * x.2))) s
    else s).aon = s.aon := ite_aon (fun _ => foldl_aon (fun t _ => emit_aon _ t) _ _) fun _ => rfl
  modPins_aon hdown Pins.panelDown

/-- PLC_OE_N is high. -/
def Pins.placardOff (p : Pins) : Pins := { p with plcOeN := true }

theorem placardCut_aon (t0 : Nat) (s : State) : (s.placardCut t0).aon = (s.pwr, s.nvm, s.pins.placardOff) :=
  modPins_aon (when_emit_aon (!s.pins.plcOeN) (.pin .plcOeN true t0) s) Pins.placardOff

/-- The sequence up to the loss of the domains: writes are torn, the panel and the placard go dark. -/
def State.lossDark (s : State) : State := ((s.cutWrites.displayPinsFall 2000).panelDown 2000).placardCut 50000

/-- The pins with every enable low. -/
def Pins.enablesLow (p : Pins) : Pins :=
  { p with coreEn := false, sdsEn := false, memEn := false, corePg := false, sdsPg := false, memPg := false }

theorem enablesLow_aon (t0 : Nat) (g : Nat → Nat) (s : State) :
    ((s.enablesLow t0).modTime g).aon = (s.pwr, s.nvm, s.pins.enablesLow) := rfl

theorem lossSteps_aon (s : State) :
    s.lossSteps.aon = ((s.lossDark.allOff 4).pwr, (s.lossDark.allOff 4).nvm, (s.lossDark.allOff 4).pins.enablesLow) :=
  enablesLow_aon 1500000 (· + 1500000) (s.lossDark.allOff 4)

theorem lossDark_aon (s : State) : s.lossDark.aon = (s.pwr, s.cutWrites.nvm, s.pins.panelDown.placardOff) := by
  have hfall := displayPinsFall_aon 2000 s.cutWrites
  obtain ⟨hw, hn, hp⟩ := aon_eq.1 (panelDown_aon 2000 (s.cutWrites.displayPinsFall 2000))
  rw [State.lossDark, placardCut_aon, hw, hn, hp, aon_pwr hfall, aon_nvm hfall, aon_pins hfall]
  rfl

/-- Of the supplies the sequence changes the domains and their queue alone. -/
theorem lossSteps_pwr (s : State) : ∃ q ds, s.lossSteps.pwr = { s.pwr with startQueue := q, domains := ds } := by
  obtain ⟨⟨q, ds, hoff⟩, -, -⟩ := allOff_dropped 4 s.lossDark
  obtain ⟨hsteps, -, -⟩ := aon_eq.1 (lossSteps_aon s)
  obtain ⟨hdark, -, -⟩ := aon_eq.1 (lossDark_aon s)
  exact ⟨q, ds, by rw [hsteps, hoff, hdark]⟩

theorem lossSteps_lossMarker (s : State) : s.lossSteps.nvm.lossMarker = s.nvm.lossMarker := by
  obtain ⟨-, -, hoff⟩ := allOff_dropped 4 s.lossDark
  obtain ⟨-, hsteps, -⟩ := aon_eq.1 (lossSteps_aon s)
  obtain ⟨-, hdark, -⟩ := aon_eq.1 (lossDark_aon s)
  rw [hsteps, hoff, hdark]
  rfl

/-- The pins after the sequence: what the panel, the placard and the domains let fall, and every enable low. -/
theorem lossSteps_pins (s : State) : ∃ a b, s.lossSteps.pins = (s.pins.panelDown.placardOff.dropped a b).enablesLow := by
  obtain ⟨-, ⟨a, b, hoff⟩, -⟩ := allOff_dropped 4 s.lossDark
  obtain ⟨-, -, hsteps⟩ := aon_eq.1 (lossSteps_aon s)
  obtain ⟨-, -, hdark⟩ := aon_eq.1 (lossDark_aon s)
  exact ⟨a, b, by rw [hsteps, hoff, hdark]⟩

theorem lossSteps_allEnablesLow (s : State) : AllEnablesLow s.lossSteps := by
  obtain ⟨a, b, hp⟩ := lossSteps_pins s
  rw [AllEnablesLow, hp]
  exact ⟨rfl, rfl, rfl, Bool.true_or b, rfl, rfl⟩

theorem lossSteps_resetCause (s : State) : s.lossSteps.pwr.resetCause = s.pwr.resetCause := by
  obtain ⟨q, ds, hw⟩ := lossSteps_pwr s
  rw [hw]

theorem lossSteps_sysRstN (s : State) : s.lossSteps.pins.sysRstN = s.pins.sysRstN := by
  obtain ⟨a, b, hp⟩ := lossSteps_pins s
  rw [hp]
  rfl

theorem allEnablesLow_settle (h : AllEnablesLow s) : AllEnablesLow s.settle := by
  obtain ⟨hc, hd, hm, ho, hs, hp⟩ := h
  exact ⟨by simpa, by simpa, by simpa, by simpa, settle_safeOk_low hs, by simpa⟩

/-! ### Losses (R56, R57) -/

/-- The input that a trigger confirms (R56). -/
def Pins.triggered (trigger : Nat) (p : Pins) : Pins :=
  match trigger with
  | 0 => { p with vinOk := false }
  | 1 => { p with holdupN := false }
  | 2 => { p with pwrOk := false }
  | _ => { p with corePg := false }

/-- The AON time of the power-loss marker, in µs (R428). -/
def State.lossTime (s : State) : Nat := (s.pwr.aonBase + s.time + 10000) / 1000

/-- The event of the loss, while Taproot is there to post it. -/
def State.reportLoss (trigger : Nat) (s : State) : State :=
  s.when (s.tp.state == .running || s.tp.state == .draining) (·.post 0xA83 3 (le 1 trigger))

/-- What a trigger leaves, by the phase that it meets (R56, R59). -/
theorem exec_abruptLossTrigger_eq (trigger : Nat) (s : State) :
    exec (.abruptLossTrigger trigger) s =
      let u := s.modPins (Pins.triggered trigger)
      .next (if s.pwr.phase == .trip then
          (u.modNvm fun n => { n with lossMarker := some s.lossTime }).modPwr fun p => { p with lossSeq := true }
        else if !s.pwr.phase.lossRuns || (trigger == 3 && !s.pins.coreEn) then u
        else ((u.reportLoss trigger).lossSteps.modNvm fun n => { n with lossMarker := some s.lossTime }).modPwr fun p =>
          { p with phase := .lossWait, lossSeq := true, resetCause := if trigger == 3 then p.resetCause ||| 64 else p.resetCause }).settle := rfl

@[simp] theorem reportLoss_pwr (trigger : Nat) (s : State) : (s.reportLoss trigger).pwr = s.pwr :=
  s.when_pwr _ _ (s.post_pwr ..)

theorem exec_abruptLossTrigger_runs {trigger : Nat} (hr : s.pwr.phase.lossRuns = true) (hc : trigger = 3 → s.pins.coreEn = true) :
    ∃ t, exec (.abruptLossTrigger trigger) s = .next t ∧ AllEnablesLow t ∧ t.pwr.phase = .lossWait ∧ t.pwr.lossSeq = true ∧
      t.nvm.lossMarker.isSome = true ∧ t.pwr.resetCause = (if trigger = 3 then s.pwr.resetCause ||| 64 else s.pwr.resetCause) := by
  have htrip : ¬ (s.pwr.phase == .trip) = true := fun h => by simp [eq_of_beq h, PwrPhase.lossRuns, PwrPhase.up] at hr
  have hnone : ¬ (!s.pwr.phase.lossRuns || (trigger == 3 && !s.pins.coreEn)) = true := by simpa [hr] using hc
  rw [exec_abruptLossTrigger_eq]
  dsimp only
  rw [if_neg htrip, if_neg hnone]
  refine ⟨_, rfl, allEnablesLow_settle (lossSteps_allEnablesLow ((s.modPins (Pins.triggered trigger)).reportLoss trigger)), ?_⟩
  simp [lossSteps_resetCause]

theorem exec_abruptLossTrigger_railOff (ht : s.pwr.phase ≠ .trip) (hc : s.pins.coreEn = false) :
    exec (.abruptLossTrigger 3) s = .next (s.modPins fun p => { p with corePg := false }).settle := by
  rw [exec_abruptLossTrigger_eq]
  dsimp only
  rw [if_neg (by simpa using ht), if_pos (by simp [hc])]
  rfl

/-- In the trip state only the marker is written (R59). -/
theorem exec_abruptLossTrigger_trip (trigger : Nat) (h : s.pwr.phase = .trip) :
    ∃ t, exec (.abruptLossTrigger trigger) s = .next t ∧ t.pwr.phase = .trip ∧ t.pwr.lossSeq = true ∧ t.nvm.lossMarker.isSome = true := by
  rw [exec_abruptLossTrigger_eq]
  dsimp only
  rw [if_pos (by rw [h]; rfl)]
  exact ⟨_, rfl, by simp [h]⟩

theorem exec_abruptLossTrigger_dormant (trigger : Nat) (h : s.pwr.phase = .dormant) :
    ∃ t, exec (.abruptLossTrigger trigger) s = .next t ∧ t.pwr = s.pwr ∧ t.nvm = s.nvm := by
  rw [exec_abruptLossTrigger_eq]
  dsimp only
  rw [if_neg (by rw [h]; decide), if_pos (by rw [h]; rfl)]
  exact ⟨_, rfl, by simp⟩

/-! ### Resets (R60) -/

theorem exec_sysRstNLow_up (h : s.pwr.phase.up = true) :
    ∃ t, exec .sysRstNLow s = .next t ∧ AllEnablesLow t ∧ t.pwr.phase = .heldReset ∧ t.pins.sysRstN = false ∧
      t.nvm.lossMarker = s.nvm.lossMarker := by
  let u := s.modPins fun p => { p with sysRstN := false }
  have hexec : exec .sysRstNLow s = .next (u.lossSteps.modPwr fun p => { p with phase := .heldReset, resetCause := 2 }).settle :=
    congrArg done (if_pos h)
  refine ⟨_, hexec, allEnablesLow_settle (lossSteps_allEnablesLow u), ?_⟩
  simp [lossSteps_sysRstN, lossSteps_lossMarker, u]

theorem exec_sysRstNLow_dormant (h : s.pwr.phase = .dormant) :
    ∃ t, exec .sysRstNLow s = .next t ∧ t.pwr.phase = .heldReset ∧ t.pwr.resetCause = 2 ∧ t.pins.sysRstN = false := by
  have hup : ¬ s.pwr.phase.up = true := by rw [h]; decide
  have hexec : exec .sysRstNLow s = .next ((s.modPins fun p => { p with sysRstN := false }).modPwr fun p =>
      { p with phase := .heldReset, resetCause := 2 }).settle :=
    congrArg done ((if_neg hup).trans (if_pos (by rw [State.modPins_pwr, h]; rfl)))
  exact ⟨_, hexec, by simp⟩

theorem exec_sysRstNLow_down (h : s.pwr.phase.up = false) (hd : s.pwr.phase ≠ .dormant) :
    exec .sysRstNLow s = .next (s.modPins fun p => { p with sysRstN := false }).settle :=
  congrArg done ((if_neg (by simp [h])).trans (if_neg (by simpa using hd)))

theorem exec_brownout_reset (s : State) :
    ∃ t, exec .brownout s = .next t ∧ AllEnablesLow t ∧ t.pwr.phase = .waitPwrOk ∧ t.pwr.resetCause = 4 ∧ t.own.owner = 7 ∧
      t.pins.pwrOk = false := by
  refine ⟨_, rfl, allEnablesLow_settle ?_, ?_⟩
  · exact ⟨rfl, rfl, rfl, rfl, rfl, rfl⟩
  · simp

/-! ### Wake and PERST (R55, R61) -/

/-- A wake event in DORMANT boots, with the level of LINK_SPLIT at the event (R55). -/
theorem wake_booted (split : Bool) (hp : s.pwr.phase = .dormant) (ho : s.pins.pwrOk = true) (hm : s.nvm.lossMarker = none) :
    Booted s (s.wake split).settle 128 ∧ (s.wake split).pwr.linkSplit = split ∧ (s.wake split).pins.wakeN = s.pins.wakeN ∧
      (s.wake split).pins.perstAN = s.pins.perstAN := by
  have hact : (s.pwr.phase == .dormant && s.pins.pwrOk) = true := by rw [hp, ho]; rfl
  rw [State.wake, State.wakeFrom, if_pos hact]
  refine ⟨⟨?_, ?_, ?_, ?_, ?_, ?_, settle_safeOk_low ?_, ?_, ?_, ?_, ?_, ?_⟩, ?_⟩ <;> simp [hm]

theorem wake_held (split : Bool) (hp : s.pwr.phase ≠ .dormant) (hd : s.mode.thenDormant = true) :
    s.wake split = s.modPwr fun p => { p with wakeHeld := some (s.time, split) } := by
  have hact : ¬ (s.pwr.phase == .dormant && s.pins.pwrOk) = true := by simp [hp]
  rw [State.wake, State.wakeFrom, if_neg hact, if_pos hd]

section
variable (hp : s.pwr.phase = .dormant) (ho : s.pins.pwrOk = true) (hm : s.nvm.lossMarker = none) (split : Bool)
include hp ho hm

theorem exec_wakeNLow_dormant :
    ∃ t, exec (.wakeNLow split) s = .next t ∧ Booted s t 128 ∧ t.pwr.linkSplit = split ∧ t.pins.wakeN = false := by
  obtain ⟨hboot, hsplit, hwake, -⟩ := wake_booted (s := s.modPins fun p => { p with wakeN := false }) split hp ho hm
  exact ⟨_, rfl, hboot, by rw [State.settle_pwr, hsplit], by rw [settle_wakeN, hwake, State.modPins_pins]⟩

theorem exec_perstRise_dormant (hr : s.perstHigh 0 = false) :
    ∃ t, exec (.perstRise 0 split) s = .next t ∧ Booted s t 128 ∧ t.pins.perstAN = true := by
  obtain ⟨hboot, -, -, hperst⟩ := wake_booted (s := s.modPins fun p => { p with perstAN := true }) split hp ho hm
  have hexec : exec (.perstRise 0 split) s = .next ((s.modPins fun p => { p with perstAN := true }).wake split).settle := by
    rw [exec_perstRise, execPerstRise, hr]
    rfl
  exact ⟨_, hexec, hboot, by rw [settle_perstAN, hperst, State.modPins_pins]⟩

end

/-- With LINK_SPLIT 0 PERST of link B wakes nothing (R55). -/
theorem exec_perstRise_linkB (split : Bool) (hr : s.perstHigh 1 = false) (hl : s.pwr.linkSplit = false) :
    exec (.perstRise 1 split) s = .next (s.modPins fun p => { p with perstBN := true }).settle := by
  rw [exec_perstRise, execPerstRise, hr]
  exact congrArg done (if_neg (by simp [hl]))

theorem exec_wakeNLow_held (split : Bool) (hp : s.pwr.phase ≠ .dormant) (hd : s.mode.thenDormant = true) :
    ∃ t, exec (.wakeNLow split) s = .next t ∧ t.pwr.wakeHeld = some (s.time, split) ∧ t.pwr.phase = s.pwr.phase := by
  refine ⟨_, congrArg done (wake_held (s := s.modPins fun p => { p with wakeN := false }) split hp hd), ?_⟩
  simp

/-- PERST of link A resets its host half and its link alone (R61). -/
theorem exec_perstLow_linkA (s : State) :
    ∃ t, exec (.perstLow 0) s = .next t ∧ t.pins.perstAN = false ∧ t.own = s.own ∧ t.mode = s.mode ∧ t.mem = s.mem ∧ t.pwr = s.pwr := by
  refine ⟨_, rfl, ?_⟩
  simp [State.when]

/-- With LINK_SPLIT 0 PERST of link B is ignored (R61). -/
theorem exec_perstLow_linkB (hl : s.pwr.linkSplit = false) :
    exec (.perstLow 1) s = .next (s.modPins fun p => { p with perstBN := false }).settle :=
  congrArg done (if_neg (by simp [hl]))

/-- Settles O39: a trigger and SYS_RST_N by the phase that they meet, wake events by whether DORMANT has been reached, PERST by its
link. -/
theorem lossesAndWake : Obligations.LossesAndWake :=
  ⟨fun s => ⟨fun _ => exec_abruptLossTrigger_runs, exec_abruptLossTrigger_railOff, exec_abruptLossTrigger_trip,
      exec_abruptLossTrigger_dormant, exec_sysRstNLow_up, exec_sysRstNLow_dormant, exec_sysRstNLow_down, exec_brownout_reset s⟩,
    fun split s => ⟨fun hp ho hm => ⟨exec_wakeNLow_dormant hp ho hm split, exec_perstRise_dormant hp ho hm split,
      exec_perstRise_linkB split⟩, exec_wakeNLow_held split, exec_perstLow_linkA s, exec_perstLow_linkB⟩⟩

end Sys2Proof.Machine
end

section
/-! SUPPORT. Commands that the class check of R95 turns away: ST_NOT_OWNER and no effect (R78, R93, R94). -/

namespace Sys2Proof.Machine

variable {m : Master} {s : State} {i : Instr} {code : Nat} {c : Cmd} {present : Ctx → State → Option Nat}
  {pre : Ctx → State → Option (Nat × Nat)} {body : Ctx → State → State × Reply}

/-- The instruction `i` of master m, which takes commands of this code, is denied to m: the oldest one completes with
ST_NOT_OWNER (R78, R95), and without one nothing changes. -/
abbrev Denied (s : State) (m : Master) (i : Instr) (code : Nat) : Prop :=
  (s.front m.code code = true → exec i s = .next (errAfter s m code stNotOwner 0xFF 0 0xFFFF)) ∧
    (s.front m.code code = false → exec i s = .next s.settle)

/-- The state that a command turned away for its class leaves: answered, and nothing else. -/
def State.notOwnerAnswered (s : State) (m : Master) (code : Nat) : State :=
  ((s.taken m).releaseBulk m.code 0).answer m.code code (s.tagOf m) stNotOwner 0 (failData 0xFF 0 0xFFFF)

/-- The class is the first of the checks of R94. -/
theorem runCmd_class_refused (hr : s.tp.state = .running) (hc : s.classOk c.cls m.code = false) (hf : s.front m.code c.code = true) :
    runCmd c present pre body m s = s.notOwnerAnswered m c.code := by
  have hs : s.serves m.code c.code = true := by simp [State.serves, hr]
  simp [runCmd, hs, hf, State.refusal, classOk_dequeue, hc]
  rfl

theorem runCmd_not_front (hf : s.front m.code c.code = false) : runCmd c present pre body m s = s :=
  runCmd_not_served (by simp [hf])

/-- An instruction that runs its command and then acts only on what the command has changed. -/
theorem denied_of_runCmd_then {f : State → State} (hi : exec i s = done (f (runCmd c present pre body m s))) (hk : c.code = code)
    (hr : s.tp.state = .running) (hc : s.classOk c.cls m.code = false) (h0 : f s = s)
    (h1 : f (s.notOwnerAnswered m code) = s.notOwnerAnswered m code) : Denied s m i code := by
  subst hk
  constructor
  · intro hf
    rw [hi, runCmd_class_refused hr hc hf, h1]
    rfl
  · intro hf
    rw [hi, runCmd_not_front hf, h0]
    rfl

theorem classOk_owner (hr : s.tp.state = .running) (ho : s.isOwner m.code = false) : s.classOk 1 m.code = false := by
  simp [State.classOk, hr, ho]

theorem classOk_safe (hr : s.tp.state = .running) (hm : m ≠ .safe) : s.classOk 2 m.code = false := by
  cases m <;> simp_all [State.classOk, Master.code]

/-- An instruction that runs its command and nothing more. -/
theorem denied_of_runCmd (hi : exec i s = done (runCmd c present pre body m s)) (hk : c.code = code)
    (hr : s.tp.state = .running) (hc : s.classOk c.cls m.code = false) : Denied s m i code :=
  denied_of_runCmd_then (f := id) hi hk hr hc rfl rfl

section
variable (hr : s.tp.state = .running) (ho : s.isOwner m.code = false)
include hr ho

/-- A changing command of a master that is not the owner. -/
theorem denied_owner (hi : exec i s = done (runCmd c present pre body m s)) (hk : c.code = code) (hc : c.cls = 1) : Denied s m i code :=
  denied_of_runCmd hi hk hr (hc ▸ classOk_owner hr ho)

/-- SYS.RESET resets the device only when its command has asked for it. -/
theorem denied_sysReset : Denied s m (.sysReset m) 0x0006 := by
  refine denied_of_runCmd_then (f := fun t => if t.pwr.phase == .softReset && s.pwr.phase != .softReset then (t.modTime (· + ms 1)).lossSteps else t)
    rfl rfl hr (classOk_owner hr ho) ?_ ?_
  · simp
  · simp [State.notOwnerAnswered, taken_pwr]

/-- MODE.SET enters DORMANT only when its command has asked for it. -/
theorem denied_modeSet : Denied s m (.modeSet m) 0x0201 := by
  have hno : (s.mode.ownerReq == some .dormant && s.mode.ownerReq != some .dormant) = false := by simp [bne]
  refine denied_of_runCmd_then (f := fun t => t.when (t.mode.ownerReq == some .dormant && s.mode.ownerReq != some .dormant) State.enterDormant)
    rfl rfl hr (classOk_owner hr ho) ?_ ?_
  · simp only [hno, State.when_false]
  · simp only [State.notOwnerAnswered, State.answer_mode, State.releaseBulk_mode, taken_mode, hno, State.when_false]

/-- SEC.SEAL samples SEAL_EN, here the level the pin has already. -/
theorem denied_secSeal {b : Bool} (hb : s.pins.sealEn = b) : Denied s m (.secSeal m b) 0x1305 := by
  subst hb
  exact denied_owner hr ho rfl rfl rfl

end

/-- Settles O52: every command of these classes is judged by `runCmd`, whose first check turns it away; SYS.RESET, MODE.SET and
SEC.SEAL do more than run their command, and here do not. -/
theorem ownerCommandsNeedOwnership : Obligations.OwnerCommandsNeedOwnership := by
  intro m b s hr denied
  refine ⟨fun ho => ?_, fun hm => denied_of_runCmd rfl rfl hr (classOk_safe hr hm)⟩
  constructorm* _ ∧ _
  on_goal -1 => exact denied_secSeal hr ho
  on_goal 3 => exact denied_modeSet hr ho
  on_goal 1 => exact denied_sysReset hr ho
  all_goals exact denied_owner hr ho rfl rfl rfl

end Sys2Proof.Machine
end

section
/-! SUPPORT. Claims, heartbeats, handover and the ownership tick (R67, R68, R72 to R76, R79). -/

namespace Sys2Proof.Machine

variable {m : Master} {k : Nat} {token : W32} {s : State}

theorem exec_ownClaim (m : Master) (token : W32) (s : State) : exec (.ownClaim m token) s = execOwnClaim m token s := rfl
theorem exec_ownershipTick (s : State) : exec .ownershipTick s = execOwnershipTick s := rfl
theorem exec_ownHeartbeat (m : Master) (token : W32) (s : State) : exec (.ownHeartbeat m token) s = execOwnHeartbeat m token s := rfl
theorem exec_heartbeatLapse (s : State) : exec .heartbeatLapse s = execHeartbeatLapse s := rfl
theorem exec_ownHandoverToken (m : Master) (token : W32) (s : State) :
    exec (.ownHandoverToken m token) s = execOwnHandoverToken m token s := rfl
theorem exec_ownHandover (m : Master) (v : W32) (s : State) : exec (.ownHandover m v) s = execOwnHandover m v s := rfl
theorem exec_ownRelease (m : Master) (s : State) : exec (.ownRelease m) s = execOwnRelease m s := rfl
theorem exec_handoverExpiry (s : State) : exec .handoverExpiry s = execHandoverExpiry s := rfl
theorem exec_svcPresentChange (l : Bool) (s : State) : exec (.svcPresentChange l) s = execSvcPresentChange l s := rfl

/-! ### What the operations of ownership leave of it -/

theorem masterExists_of_portLive (h : s.portLive k = true) : s.masterExists k = true := by
  simp only [State.portLive, Bool.and_eq_true] at h
  exact h.1.1

/-- No heartbeat is over: ownership is vacant, or its period still runs (R74). -/
theorem lapseIfDue_of_not_due (h : s.own.owner = 7 ∨ s.time < s.own.hbDeadline) : s.lapseIfDue = s := by
  have hdue : (s.own.owner != 7 && decide (s.own.hbDeadline ≤ s.time)) = false := by
    rcases h with h | h
    · simp [h]
    · simp [Nat.not_le.2 h]
  rw [State.lapseIfDue, hdue, State.when_false]

/-- No handover window is over (R75). -/
theorem expireIfDue_of_not_due (h : ∀ w, s.own.handover = some w → s.time < w.deadline) : s.expireIfDue = s := by
  unfold State.expireIfDue
  split
  case h_1 w hw => rw [decide_eq_false (Nat.not_le.2 (h w hw)), State.when_false]
  case h_2 => rfl

@[simp] theorem breakPair_own (m : Master) (s : State) : (s.breakPair m).own = { s.own with pairs := s.own.pairs.set m.code none } := rfl
@[simp] theorem breakPair_time (m : Master) (s : State) : (s.breakPair m).time = s.time := rfl
@[simp] theorem breakPair_masterExists (m : Master) (s : State) (k : Nat) : (s.breakPair m).masterExists k = s.masterExists k := rfl
@[simp] theorem breakPair_canOwn (m : Master) (s : State) (k : Nat) : (s.breakPair m).canOwn k = s.canOwn k := rfl
@[simp] theorem setResult_own (k r : Nat) (s : State) : (s.setResult k r).own = { s.own with results := s.own.results.set k r } := rfl
@[simp] theorem setResult_time (k r : Nat) (s : State) : (s.setResult k r).time = s.time := rfl

/-- A dropped write leaves ownership but for the token pair that a write to the ownership block breaks (R13). -/
theorem dropWrite_own (m : Master) (off : Nat) (s : State) :
    (s.dropWrite m off).own = if 0x1000 ≤ off && off < 0x2000 then (s.breakPair m).own else s.own := by
  unfold State.dropWrite
  split <;> split <;> simp

/-- A change of ownership: cause, count, a new heartbeat period, and no handover but after a token replacement (R72, R73, R75). -/
@[simp] theorem changeOwner_own (new cause : Nat) (t : W32) (s : State) : (s.changeOwner new cause t).own = { s.own with
    owner := new, token := t, lastCause := cause, changes := s.own.changes + 1, handover := if cause == 6 then s.own.handover else none,
    hbDeadline := s.time + s.own.hbInForce * 1000000, hbLast := s.time } := by
  simp [State.changeOwner, ms]

@[simp] theorem changeOwner_time (new cause : Nat) (t : W32) (s : State) : (s.changeOwner new cause t).time = s.time := by
  simp [State.changeOwner]

@[simp] theorem safeTrig_own (c : Nat) (s : State) : (s.safeTrig c).own = s.own := rfl
@[simp] theorem safeTrig_time (c : Nat) (s : State) : (s.safeTrig c).time = s.time := rfl

/-- A lapse makes ownership vacant with cause 3 (R74). -/
theorem lapse_own (s : State) : s.lapse.own = { s.own with
    owner := 7, token := 0, lastCause := 3, changes := s.own.changes + 1, handover := none,
    hbDeadline := s.time + s.own.hbInForce * 1000000, hbLast := s.time } := by
  unfold State.lapse
  dsimp only
  split <;> simp [State.vacate]

theorem lapse_time (s : State) : s.lapse.time = s.time := by
  unfold State.lapse
  dsimp only
  split <;> simp [State.vacate]

/-! ### OWN_CLAIM (R72, R73, R75) -/

theorem exec_ownClaim_live (hl : s.portLive m.code = true) : exec (.ownClaim m token) s = .next (s.claim m token).settle := by
  rw [exec_ownClaim, execOwnClaim, byPort_live hl]
  rfl

section
variable (hd : s.own.owner = 7 ∨ s.time < s.own.hbDeadline) (hw : ∀ h, s.own.handover = some h → s.time < h.deadline)
include hd hw

/-- SAFE cannot own the device (R72). -/
theorem claim_safe : s.claim .safe token = ((s.breakPair .safe).setResult 3 6).dropWrite .safe 0x1008 := by
  rw [State.claim, lapseIfDue_of_not_due hd, expireIfDue_of_not_due hw]
  rfl

section
variable (hm : m ≠ .safe)
include hm

theorem claim_zero : s.claim m 0 = (s.breakPair m).setResult m.code 6 := by
  rw [State.claim, lapseIfDue_of_not_due hd, expireIfDue_of_not_due hw]
  simp [hm]

variable (ht : token ≠ 0) (he : s.masterExists m.code = true)
include ht he

/-- A claim that R72 does not refuse: it waits, takes an open window, or is held (R73, R75). -/
theorem claim_judged : s.claim m token =
    if s.own.owner = 7 ∨ s.own.owner = m.code then (s.breakPair m).keepClaim m.code token
    else if s.own.handover.any (·.target == m.code) then ((s.breakPair m).changeOwner m.code 2 token).setResult m.code 5
    else (s.breakPair m).setResult m.code 3 := by
  have hz : (token == 0 || !(s.breakPair m).masterExists m.code) = false := by simpa [he] using ht
  rw [State.claim, lapseIfDue_of_not_due hd, expireIfDue_of_not_due hw]
  simp only [beq_iff_eq, hm, hz, Bool.false_eq_true, if_false, breakPair_own, Bool.or_eq_true]
  cases s.own.handover <;> simp

end

variable (hl : s.portLive m.code = true)
include hl

section
variable (hm : m ≠ .safe) (ht : token ≠ 0)
include hm ht

theorem exec_ownClaim_kept (ho : s.own.owner = 7 ∨ s.own.owner = m.code) :
    exec (.ownClaim m token) s = .next ((s.breakPair m).modOwn fun o => { o with
      claims := o.claims.filter (·.master != m.code) ++ [{ master := m.code, token := token, arrival := s.time }],
      results := o.results.set m.code 1 }).settle := by
  rw [exec_ownClaim_live hl, claim_judged hd hw hm ht (masterExists_of_portLive hl), if_pos ho]
  rfl

variable (h7 : s.own.owner ≠ 7) (ho : s.own.owner ≠ m.code)
include h7 ho

/-- In an open window its target takes ownership at once (R75). -/
theorem exec_ownClaim_target {h : Handover} (hh : s.own.handover = some h) (htg : h.target = m.code) :
    exec (.ownClaim m token) s = .next (((s.breakPair m).changeOwner m.code 2 token).setResult m.code 5).settle := by
  rw [exec_ownClaim_live hl, claim_judged hd hw hm ht (masterExists_of_portLive hl), if_neg (by tauto), if_pos (by simp [hh, htg])]

theorem exec_ownClaim_held (hh : ∀ h, s.own.handover = some h → h.target ≠ m.code) :
    exec (.ownClaim m token) s = .next ((s.breakPair m).setResult m.code 3).settle := by
  rw [exec_ownClaim_live hl, claim_judged hd hw hm ht (masterExists_of_portLive hl), if_neg (by tauto),
    if_neg (by simpa [Option.any_eq_true] using hh)]

end

theorem exec_ownClaim_zero (hm : m ≠ .safe) (ht : token = 0) :
    exec (.ownClaim m token) s = .next ((s.breakPair m).setResult m.code 6).settle := by
  rw [exec_ownClaim_live hl, ht, claim_zero hd hw hm]

theorem exec_ownClaim_safe (hm : m = .safe) :
    exec (.ownClaim m token) s = .next (((s.breakPair m).setResult 3 6).dropWrite m 0x1008).settle := by
  rw [exec_ownClaim_live hl, hm, claim_safe hd hw]

end

/-! ### The ownership tick (R73) -/

/-- Several results at once. -/
theorem foldl_setResult (cs : List Claim) (r : Nat) (s : State) : cs.foldl (fun t c => t.setResult c.master r) s =
    s.modOwn fun o => { o with results := cs.foldl (fun l c => l.set c.master r) o.results } := by
  induction cs generalizing s with
  | nil => rfl
  | cons c cs ih => exact ih (s.setResult c.master r)

/-- The claims on a vacant ownership: the winner is granted, the others lose. -/
def State.granted (cs : List Claim) (w : Claim) (s : State) : State :=
  ((s.modOwn fun o => { o with results := cs.foldl (fun l c => l.set c.master 4) o.results }).changeOwner w.master 1 w.token).setResult w.master 2

theorem judgeClaims_of_no_winner {cs : List Claim} (ho : s.own.owner = 7) (hw : winner s.own.prio cs = none) : s.judgeClaims cs = s := by
  simp [State.judgeClaims, ho, hw]

theorem judgeClaims_of_winner {cs : List Claim} {w : Claim} (ho : s.own.owner = 7) (hw : winner s.own.prio cs = some w) :
    s.judgeClaims cs = s.granted cs w := by
  simp [State.judgeClaims, ho, hw, foldl_setResult, State.granted]

/-- The tick's own time, and the claims that wait for the next one. -/
def State.tickJudges (s : State) : State :=
  (s.nextPeriod 1000000).modOwn fun o => { o with claims := o.claims.filter fun c => (s.time / 1000000 + 1) * 1000000 ≤ c.arrival }

theorem exec_ownershipTick_vacant (ho : s.own.owner = 7)
    (hw : ∀ h, s.own.handover = some h → (s.time / 1000000 + 1) * 1000000 < h.deadline) :
    exec .ownershipTick s = .next
      (s.tickJudges.judgeClaims (s.own.claims.filter fun c => c.arrival < (s.time / 1000000 + 1) * 1000000)).settle := by
  have hd : (s.nextPeriod (ms 1)).lapseIfDue = s.nextPeriod (ms 1) := lapseIfDue_of_not_due (.inl ho)
  have he : (s.nextPeriod (ms 1)).expireIfDue = s.nextPeriod (ms 1) := expireIfDue_of_not_due hw
  rw [exec_ownershipTick, execOwnershipTick, hd, he]
  rfl

/-- Settles O26: a claim by its place in the order of R73 and R75, the tick by whether a claim wins. -/
theorem claimsOfOwnership : Obligations.ClaimsOfOwnership := by
  refine ⟨fun m token s => ⟨exec_of_not_portLive (exec_ownClaim m token s), fun hl hd hw =>
    ⟨exec_ownClaim_kept hd hw hl, ?target, exec_ownClaim_held hd hw hl, exec_ownClaim_zero hd hw hl, ?safe⟩⟩, fun s ho hw => ?tick⟩
  case target =>
    intro hm ht h7 ho h hh htg
    exact ⟨_, exec_ownClaim_target hd hw hl hm ht h7 ho hh htg, by simp⟩
  case safe =>
    intro hm
    exact ⟨_, exec_ownClaim_safe hd hw hl hm, by simp [dropWrite_own]⟩
  case tick =>
    refine ⟨_, exec_ownershipTick_vacant ho hw, ?_⟩
    cases hc : winner s.own.prio (s.own.claims.filter fun c => c.arrival < (s.time / 1000000 + 1) * 1000000) with
    | none =>
      rw [judgeClaims_of_no_winner (s := s.tickJudges) ho hc]
      simp [State.tickJudges, State.nextPeriod, ho]
    | some w =>
      rw [judgeClaims_of_winner (s := s.tickJudges) ho hc]
      simp [State.granted, State.tickJudges, State.nextPeriod]

end Sys2Proof.Machine
end

section
/-! SUPPORT. Heartbeats, handover, release and the presence of SVC (R68, R74 to R76, R79). -/

namespace Sys2Proof.Machine

variable {m : Master} {token value : W32} {s : State}

/-! ### OWN_HEARTBEAT and OWN_HANDOVER_TOKEN (R74) -/

section
variable (hm : m ≠ .safe) (hl : s.portLive m.code = true) (hd : s.own.owner = 7 ∨ s.time < s.own.hbDeadline)
include hm hl hd

theorem exec_ownHeartbeat_owner (ho : s.own.owner = m.code) (ht : s.own.token = token) :
    exec (.ownHeartbeat m token) s = .next ((s.breakPair m).modOwn fun o =>
      { o with hbLast := s.time, hbInForce := s.own.hbPeriodMs, hbDeadline := s.time + s.own.hbPeriodMs * 1000000 }).settle := by
  rw [exec_ownHeartbeat, execOwnHeartbeat, byPort_live hl, lapseIfDue_of_not_due hd]
  simp [hm, ho, ht, done, ms, State.modOwn]

theorem exec_ownHeartbeat_wrongToken (ho : s.own.owner = m.code) (ht : s.own.token ≠ token) :
    exec (.ownHeartbeat m token) s = .next ((s.breakPair m).badToken m 0 0).settle := by
  rw [exec_ownHeartbeat, execOwnHeartbeat, byPort_live hl, lapseIfDue_of_not_due hd]
  simp [hm, ho, ht, done]

theorem exec_ownHeartbeat_other (ho : s.own.owner ≠ m.code) :
    exec (.ownHeartbeat m token) s = .next ((s.breakPair m).badToken m 0 1).settle := by
  rw [exec_ownHeartbeat, execOwnHeartbeat, byPort_live hl, lapseIfDue_of_not_due hd]
  simp [hm, ho, done]

theorem exec_ownHandoverToken_owner (ho : s.own.owner = m.code) :
    exec (.ownHandoverToken m token) s = .next ((s.breakPair m).modOwn fun o =>
      { o with pairs := o.pairs.set m.code (some (token, s.time)) }).settle := by
  rw [exec_ownHandoverToken, execOwnHandoverToken, byPort_live hl, lapseIfDue_of_not_due hd]
  simp [hm, ho, done]

theorem exec_ownHandoverToken_other (ho : s.own.owner ≠ m.code) :
    exec (.ownHandoverToken m token) s = .next ((s.breakPair m).badToken m 1 1).settle := by
  rw [exec_ownHandoverToken, execOwnHandoverToken, byPort_live hl, lapseIfDue_of_not_due hd]
  simp [hm, ho, done]

end

theorem exec_heartbeatLapse_owned (ho : s.own.owner ≠ 7) :
    exec .heartbeatLapse s = .next (s.timeTo s.own.hbDeadline).lapse.settle := by
  rw [exec_heartbeatLapse, execHeartbeatLapse, bne_iff_ne.2 ho]
  rfl

/-! ### OWN_HANDOVER (R75, R76) -/

theorem exec_ownHandover_live (hl : s.portLive m.code = true) : exec (.ownHandover m value) s = .next (s.handover m value).settle := by
  rw [exec_ownHandover, execOwnHandover, byPort_live hl]
  rfl

section
variable {at_ : Nat} (hm : m ≠ .safe) (hl : s.portLive m.code = true) (ho : s.own.owner = m.code) (hd : s.time < s.own.hbDeadline)
  (hw : ∀ h, s.own.handover = some h → s.time < h.deadline) (hp : s.own.pairs.getD m.code none = some (s.own.token, at_))
  (ha : s.time ≤ at_ + 1000000)
include hm ho hd hw hp ha

/-- The owner's handover within 1 ms of its current token is decided by its target. -/
theorem handover_paired (value : W32) : s.handover m value =
    if value.toNat % 8 = 7 then (s.breakPair m).vacate 4
    else if value.toNat % 8 = m.code ∨ s.canOwn (value.toNat % 8) = false then (s.breakPair m).badToken m 1 3
    else (s.breakPair m).modOwn fun o => { o with handover := some { target := value.toNat % 8, deadline := s.time + 100000000 } } := by
  rw [State.handover, lapseIfDue_of_not_due (.inr hd), expireIfDue_of_not_due hw, hp]
  simp [hm, ho, ms, Nat.not_lt.2 ha]

include hl

/-- TARGET 7 releases ownership at once (R76). -/
theorem exec_ownHandover_release (hv : value.toNat % 8 = 7) :
    exec (.ownHandover m value) s = .next ((s.breakPair m).vacate 4).settle := by
  rw [exec_ownHandover_live hl, handover_paired hm ho hd hw hp ha, if_pos hv]

theorem exec_ownRelease_paired : exec (.ownRelease m) s = .next ((s.breakPair m).vacate 4).settle := by
  rw [exec_ownRelease, execOwnRelease, byPort_live hl, handover_paired hm ho hd hw hp ha]
  rfl

theorem exec_ownHandover_window (hv : value.toNat % 8 ≠ m.code) (hc : s.canOwn (value.toNat % 8) = true) :
    exec (.ownHandover m value) s = .next ((s.breakPair m).modOwn fun o =>
      { o with handover := some { target := value.toNat % 8, deadline := s.time + 100000000 } }).settle := by
  have h7 : value.toNat % 8 ≠ 7 := by
    intro h7
    simp [h7, State.canOwn] at hc
  rw [exec_ownHandover_live hl, handover_paired hm ho hd hw hp ha, if_neg h7, if_neg (by simp [hv, hc])]

theorem exec_ownHandover_badTarget (h7 : value.toNat % 8 ≠ 7) (hv : value.toNat % 8 = m.code ∨ s.canOwn (value.toNat % 8) = false) :
    exec (.ownHandover m value) s = .next ((s.breakPair m).badToken m 1 3).settle := by
  rw [exec_ownHandover_live hl, handover_paired hm ho hd hw hp ha, if_neg h7, if_pos hv]

end

theorem exec_handoverExpiry_open {h : Handover} (hh : s.own.handover = some h) :
    exec .handoverExpiry s = .next ((s.timeTo h.deadline).modOwn fun o => { o with handover := none }).settle := by
  rw [exec_handoverExpiry, execHandoverExpiry, hh]
  rfl

/-- A release leaves ownership vacant with cause 4, and no handover open. -/
theorem vacate_released (m : Master) (s : State) : let t := ((s.breakPair m).vacate 4).settle
    t.own.owner = 7 ∧ t.own.lastCause = 4 ∧ t.own.changes = s.own.changes + 1 ∧ t.own.handover = none ∧ t.time = s.time := by
  simp [State.vacate]

/-! ### SVC_PRESENT_N (R68, Table 3.5) -/

theorem exec_svcPresentChange_same {l : Bool} (h : s.pins.svcPresentN = l) : exec (.svcPresentChange l) s = .next s.settle := by
  rw [exec_svcPresentChange, execSvcPresentChange, h, beq_self_eq_true]
  rfl

theorem exec_svcPresentChange_comes (h : s.pins.svcPresentN = true) :
    exec (.svcPresentChange false) s = .next ((s.modPins fun p => { p with svcPresentN := false }).post 0x1580 0 []).settle := by
  rw [exec_svcPresentChange, execSvcPresentChange, h]
  rfl

/-- SVC has left: an owner SVC has left ownership vacant with cause 5 (R68). -/
def State.svcLeft (s : State) : State :=
  let t := (s.modPins fun p => { p with svcPresentN := true }).post 0x1581 1 [if s.own.owner == 2 then 1 else 0]
  if s.own.owner == 2 then t.vacate 5 else t

/-- What SVC, once it has left, had waiting: no claim of it and no window for it stays (log 55). -/
def Own.forgetSvc (o : Own) : Own :=
  { o with claims := o.claims.filter (·.master != 2), handover := match o.handover with
    | some h => if h.target == 2 then none else some h
    | none => none }

theorem forgetSvc_claims {o : Own} {c : Claim} (hc : c ∈ o.forgetSvc.claims) : c.master ≠ 2 := by
  simpa using (List.mem_filter.1 hc).2

theorem forgetSvc_handover {o : Own} {h : Handover} (hh : o.forgetSvc.handover = some h) : h.target ≠ 2 := by
  unfold Own.forgetSvc at hh
  cases hc : o.handover with
  | none => simp [hc] at hh
  | some w =>
    simp only [hc, beq_iff_eq, Option.ite_none_left_eq_some, Option.some.injEq] at hh
    exact hh.2 ▸ hh.1

theorem exec_svcPresentChange_leaves (h : s.pins.svcPresentN = false) :
    exec (.svcPresentChange true) s = .next (s.svcLeft.modOwn Own.forgetSvc).settle := by
  rw [exec_svcPresentChange, execSvcPresentChange, h]
  rfl

theorem svcLeft_pins (s : State) : s.svcLeft.pins = { s.pins with svcPresentN := true } := by
  unfold State.svcLeft
  dsimp only
  split <;> simp [State.vacate, State.changeOwner]

theorem svcLeft_owner (ho : s.own.owner = 2) : s.svcLeft.own.owner = 7 ∧ s.svcLeft.own.lastCause = 5 := by
  simp [State.svcLeft, ho, State.vacate]

theorem svcLeft_other (ho : s.own.owner ≠ 2) : s.svcLeft.own.owner = s.own.owner := by
  simp [State.svcLeft, ho]

@[simp] theorem settle_svcPresentN (s : State) : s.settle.pins.svcPresentN = s.pins.svcPresentN := by
  unfold State.settle
  split <;> rfl

/-- Settles O27: heartbeats and tokens by whose they are, a handover by its target, SVC_PRESENT_N by its direction. -/
theorem holdingOwnership : Obligations.HoldingOwnership := by
  refine ⟨fun m token s hm hl hd => ⟨exec_ownHeartbeat_owner hm hl hd, exec_ownHeartbeat_wrongToken hm hl hd,
      exec_ownHeartbeat_other hm hl hd, ?lapse, exec_ownHandoverToken_owner hm hl hd, exec_ownHandoverToken_other hm hl hd⟩,
    fun m value s at_ hm hl ho hd hw hp ha => ?handover,
    fun s => ⟨exec_svcPresentChange_comes, ?leaves, fun _ => exec_svcPresentChange_same⟩⟩
  case lapse =>
    intro h7
    have hlt : s.time < s.own.hbDeadline := hd.resolve_left h7
    refine ⟨_, exec_heartbeatLapse_owned h7, ?_⟩
    simp [lapse_own, lapse_time, State.timeTo, Nat.max_eq_left hlt.le]
  case handover =>
    obtain ⟨hown, hcause, hcount, hno, -⟩ := vacate_released m s
    exact ⟨⟨_, exec_ownRelease_paired hm hl ho hd hw hp ha, hown, hcause, hcount, hno⟩,
      fun hk => ⟨_, exec_ownHandover_release hm hl ho hd hw hp ha hk, hown, hcause, hcount, hno⟩,
      exec_ownHandover_window hm hl ho hd hw hp ha, exec_ownHandover_badTarget hm hl ho hd hw hp ha, fun _ => exec_handoverExpiry_open⟩
  case leaves =>
    intro h
    refine ⟨_, exec_svcPresentChange_leaves h, by simp [svcLeft_pins], fun ho => ?_, fun ho => ?_, fun w hw => ?_, fun c hc => ?_⟩
    · rw [State.settle_own]
      exact svcLeft_owner ho
    · rw [State.settle_own]
      exact svcLeft_other ho
    · exact forgetSvc_handover (by simpa using hw)
    · exact forgetSvc_claims (by simpa using hc)

/-- Settles O28: the release of a handover to TARGET 7. -/
theorem releaseMakesOwnershipVacant : Obligations.ReleaseMakesOwnershipVacant := by
  intro m value at_ s hl hm ho hd hw hp ha hv
  obtain ⟨hown, hcause, -, -, htime⟩ := vacate_released m s
  exact ⟨_, exec_ownHandover_release hm hl ho hd hw hp ha hv, hown, hcause, htime⟩

end Sys2Proof.Machine
end

section
/-! SUPPORT. SAFE_CTRL: FORCE_SAFE_VIEW, HW_RELEASE and the alarm tone (R13, R80, R404). -/

namespace Sys2Proof.Machine

variable {m : Master} {s : State}

theorem exec_forceSafeViewSet (m : Master) (s : State) : exec (.forceSafeViewSet m) s = execForceSafeViewSet m s := rfl
theorem exec_forceSafeViewClear (m : Master) (s : State) : exec (.forceSafeViewClear m) s = execForceSafeViewClear m s := rfl
theorem exec_hwRelease (m : Master) (s : State) : exec (.hwRelease m) s = execHwRelease m s := rfl
theorem exec_alarmToneOn (m : Master) (s : State) : exec (.alarmToneOn m) s = execAlarmToneOn m s := rfl
theorem exec_alarmToneOff (m : Master) (s : State) : exec (.alarmToneOff m) s = execAlarmToneOff m s := rfl

/-- SAFE_CTRL written by SAFE. -/
theorem exec_safeCtrl_safe {i : Instr} {effect : State}
    (hi : exec i s = done (if m != .safe then s.dropWrite m 0x1040 else effect)) (hm : m = .safe) : exec i s = .next effect.settle := by
  rw [hi, if_neg (by simp [hm])]
  rfl

/-- SAFE_CTRL written by another master (R13). -/
theorem exec_safeCtrl_foreign {i : Instr} {effect : State}
    (hi : exec i s = done (if m != .safe then s.dropWrite m 0x1040 else effect)) (hm : m ≠ .safe) :
    exec i s = .next (s.dropWrite m 0x1040).settle := by
  rw [hi, if_pos (by simp [hm])]
  rfl

/-- Settles O29: every write of SAFE_CTRL acts for SAFE and is dropped for another master. -/
theorem safeControlBelongsToSafe : Obligations.SafeControlBelongsToSafe := by
  intro m s
  refine ⟨fun hm => ⟨_, exec_safeCtrl_safe (exec_forceSafeViewSet m s) hm, by simp, ?_⟩,
    exec_safeCtrl_safe (exec_forceSafeViewClear m s), exec_safeCtrl_safe (exec_hwRelease m s),
    exec_safeCtrl_safe (exec_alarmToneOn m s), exec_safeCtrl_safe (exec_alarmToneOff m s), fun hm => ?_⟩
  · rw [State.settle_mode, overtakeField_mode]
    exact ⟨safeTrig_isSome _ _, rfl, rfl⟩
  · simp only [List.forall_mem_cons]
    exact ⟨exec_safeCtrl_foreign (exec_forceSafeViewSet m s) hm, exec_safeCtrl_foreign (exec_forceSafeViewClear m s) hm,
      exec_safeCtrl_foreign (exec_hwRelease m s) hm, exec_safeCtrl_foreign (exec_alarmToneOn m s) hm,
      exec_safeCtrl_foreign (exec_alarmToneOff m s) hm, List.forall_mem_nil _⟩

end Sys2Proof.Machine
end

section
/-! SUPPORT. The producer registers and MB_DOORBELL: one rule for every ring (R15, R81, R88, R472). -/

namespace Sys2Proof.Machine

variable {m : Master} {k : Nat} {v : W32} {s : State} {i : Instr} {takes overrun : State}

theorem exec_mbDoorbell (m : Master) (k : Nat) (v : W32) (s : State) : exec (.mbDoorbell m k v) s = execMbDoorbell m k v s := rfl

/-! ### The rule (R472) -/

/-- The state that a producer write leaves: that of a write that takes effect, the one before, or that of an overrun. -/
def ProducerWrite.leaves (takes before overrun : State) : ProducerWrite → State
  | .takes => takes
  | .nothing => before
  | .overrun => overrun

/-- A write of V = `v` by the instruction `i` follows the rule for a ring of capacity `cap`, producer `p` and consumer `q`. -/
abbrev FollowsProducerRule {n : Nat} (s : State) (i : Instr) (cap : Nat) (p q v : BitVec n) (takes overrun : State) : Prop :=
  (v = p → exec i s = .next s.settle) ∧
    (v ≠ p → (v - q).toNat ≤ cap → (v - p).toNat ≤ (v - q).toNat → exec i s = .next takes.settle) ∧
    (v ≠ p → (cap < (v - q).toNat ∨ (v - q).toNat < (v - p).toNat) → exec i s = .next overrun.settle)

theorem followsProducerRule {n cap : Nat} {p q v : BitVec n}
    (hi : exec i s = done ((producerRule cap p q v).leaves takes s overrun)) : FollowsProducerRule s i cap p q v takes overrun := by
  refine ⟨fun he => ?_, fun hne hc hp => ?_, fun hne hv => ?_⟩
  · rw [hi, producerRule, if_pos he]
    rfl
  · rw [hi, producerRule, if_neg hne, if_pos ⟨hc, hp⟩]
    rfl
  · rw [hi, producerRule, if_neg hne, if_neg (by omega)]
    rfl

/-! ### The producer registers of the owner -/

section
variable (hl : s.portLive m.code = true) (ho : s.isOwner m.code = true)
include hl ho

theorem sceneProducer_follows : FollowsProducerRule s (.sceneProducer m v) 256 s.scene.producer s.scene.consumed v
    (s.modScene fun x => { x with producer := v }) (s.modScene fun x => { x with overrun := true }) := by
  refine followsProducerRule ?_
  rw [exec_sceneProducer, execSceneProducer, byPort_live hl, ho]
  cases producerRule 256 s.scene.producer s.scene.consumed v <;> rfl

theorem flipProducer_follows (hd : s.domOn domCMP = true) :
    FollowsProducerRule s (.flipProducer m v) 256 s.layers.producer s.layers.consumed v
      (s.modLayers fun x => { x with producer := v }) (s.modLayers fun x => { x with overrun := true }) := by
  refine followsProducerRule ?_
  rw [exec_flipProducer, execFlipProducer, byPort_live hl, ho, hd]
  cases producerRule 256 s.layers.producer s.layers.consumed v <;> rfl

theorem churnProducer_follows (q : Nat) :
    FollowsProducerRule s (.churnProducer m q v) (s.chq q).entries (s.chq q).producer (s.chq q).completed v
      (s.modChq q fun x => { x with producer := v }) (s.modChq q fun x => { x with overrun := true }) := by
  refine followsProducerRule ?_
  rw [exec_churnProducer, execChurnProducer, byPort_live hl, ho]
  cases hr : producerRule (s.chq q).entries (s.chq q).producer (s.chq q).completed v <;> simp [hr, ProducerWrite.leaves]

theorem audioPcmProducer_follows (hd : s.domOn domAU = true) :
    FollowsProducerRule s (.audioPcmProducer m v) s.pcmFrames s.aud.producer s.aud.consumed v
      (s.modAud fun x => { x with producer := v }) (s.modAud fun x => { x with pcmOverrun := true }) := by
  refine followsProducerRule ?_
  rw [exec_audioPcmProducer, execAudioPcmProducer, byPort_live hl, ho, hd]
  cases producerRule s.pcmFrames s.aud.producer s.aud.consumed v <;> rfl

/-- A write to a domain that is off is logged and discarded (R15). -/
theorem exec_flipProducer_off (hd : s.domOn domCMP = false) :
    exec (.flipProducer m v) s = .next (s.offAccess m domCMP 0x3F000 true).settle := by
  rw [exec_flipProducer, execFlipProducer, byPort_live hl, ho, hd]
  rfl

theorem exec_audioPcmProducer_off (hd : s.domOn domAU = false) :
    exec (.audioPcmProducer m v) s = .next (s.offAccess m domAU 0xF40 true).settle := by
  rw [exec_audioPcmProducer, execAudioPcmProducer, byPort_live hl, ho, hd]
  rfl

end

/-! ### MB_DOORBELL (R81, R88) -/

section
variable (hl : s.portLive m.code = true)
include hl

/-- While Taproot serves mailboxes the doorbell of the mailbox's own master only moves its producer. -/
theorem mbDoorbell_follows (hr : s.tp.state = .running) :
    FollowsProducerRule s (.mbDoorbell m m.code v) 32 (s.box m.code).producer (s.box m.code).responded (v.setWidth 8)
      (s.modBox m.code fun x => { x with producer := v.setWidth 8 }) (s.modBox m.code fun x => { x with overrun := true }) := by
  have hown : (m.code != m.code || !s.masterExists m.code) = false := by simp [masterExists_of_portLive hl]
  refine followsProducerRule ?_
  rw [exec_mbDoorbell, execMbDoorbell, byPort_live hl, hown]
  cases hp : producerRule 32 (s.box m.code).producer (s.box m.code).responded (v.setWidth 8) <;> simp [hp, hr, ProducerWrite.leaves]

/-- The mailbox of another master is not rung (R13). -/
theorem exec_mbDoorbell_foreign (hk : k ≠ m.code) :
    exec (.mbDoorbell m k v) s = .next (s.dropWrite m (0x12000 + k * 0x4000)).settle := by
  rw [exec_mbDoorbell, execMbDoorbell, byPort_live hl, if_pos (by simp [hk.symm])]
  rfl

end

/-- Settles O30: each producer follows the one rule with its own capacity and consumer. -/
theorem everyProducerFollowsOneRule : Obligations.EveryProducerFollowsOneRule := by
  refine ⟨fun m v s hl ho => ⟨sceneProducer_follows hl ho, flipProducer_follows hl ho, exec_flipProducer_off hl ho,
      exec_audioPcmProducer_off hl ho, churnProducer_follows hl ho, audioPcmProducer_follows hl ho⟩,
    fun m v s => ⟨fun hl k => exec_of_not_portLive (exec_mbDoorbell m k v s) hl, fun hl hr => ?_⟩⟩
  obtain ⟨hsame, htakes, hover⟩ := mbDoorbell_follows (v := v) hl hr
  exact ⟨htakes, hsame, hover, fun _ => exec_mbDoorbell_foreign hl⟩

end Sys2Proof.Machine
end

section
/-! SUPPORT. The queries of the groups SYS, OWN, MODE and PWR, and the commands that set what they name (Table 4.2, R24, R35, R46,
R79, R86). -/

namespace Sys2Proof.Machine

variable {m : Master} {s : State}

/-! ### Queries -/

theorem deviceId_eq (s : State) : s.deviceId = if s.id.part = .lv9620 then 0x9620 else 0x9640 := by
  simp [State.deviceId, State.is20]

theorem exec_sysIdentify_ok (h : Accepts s m { code := 0x0000, cls := 0 }) : let t := s.taken m
    exec (.sysIdentify m) s = .next (okAfter s m 0x0000
      (le 4 (if t.id.part = .lv9620 then 0x9620 else 0x9640) ++ le 4 t.id.siliconRev.toNat
        ++ le 4 (if t.tp.state = .recovery then 0 else t.fwActive) ++ le 8 t.id.serial.toNat ++ le 4 t.id.nvmLayout.toNat) t) :=
  exec_ok h rfl rfl rfl (by simp [deviceId_eq])

theorem exec_sysCapability_ok (h : Accepts s m { code := 0x0001, cls := 0 }) :
    exec (.sysCapability m) s = .next (okAfter s m 0x0001 (s.taken m).capability (s.taken m)) :=
  exec_ok h rfl rfl rfl rfl

theorem exec_sysTime_ok (h : Accepts s m { code := 0x0002, cls := 0 }) : let t := s.taken m
    exec (.sysTime m) s = .next (okAfter s m 0x0002
      (le 8 t.time ++ le 4 t.disp.frame.toNat ++ le 1 t.disp.subframe ++ [0] ++ le 2 t.disp.slot) t) :=
  exec_ok h rfl rfl rfl rfl

/-- The flags of SYS.UNIT_STATE: bit 0 stale, bit 1 a mismatch (R86). -/
def State.unitFlags (i : Nat) (s : State) : Nat := bitOf (s.stale i) 0 + bitOf (s.unit i).mismatchSince.isSome 1

theorem bit_bitOf_pair (a b : Bool) : bit (bitOf a 0 + bitOf b 1) 0 = a ∧ bit (bitOf a 0 + bitOf b 1) 1 = b := by
  cases a <;> cases b <;> decide

theorem unitFlags_stale (i : Nat) (s : State) :
    bit (s.unitFlags i) 0 = true ↔ ∀ c, (s.unit i).checked = some c → c + 10000000 < s.time := by
  rw [State.unitFlags, (bit_bitOf_pair _ _).1, State.stale]
  cases (s.unit i).checked with
  | none => simp
  | some c =>
    have hms : ms 10 = 10000000 := by simp [ms]
    rw [Option.all_some, decide_eq_true_eq, hms]
    simp

theorem unitFlags_mismatch (i : Nat) (s : State) : bit (s.unitFlags i) 1 = true ↔ (s.unit i).mismatchSince ≠ none := by
  rw [State.unitFlags, (bit_bitOf_pair _ _).2, Option.isSome_iff_ne_none]

/-- For how long a unit has mismatched, in ms. -/
def State.mismatchMs (i : Nat) (s : State) : Nat := match (s.unit i).mismatchSince with
  | some t => min 65535 ((s.time - t) / 1000000)
  | none => 0

theorem exec_sysUnitState_ok (h : Accepts s m { code := 0x0003, cls := 0, len := 2, args := [{ off := 0, n := 2 }] }) :
    let t := s.taken m
    let i := u16At (s.argsOf m) 0
    (unitDomain i).isSome = true → t.unitPresent i = true →
      exec (.sysUnitState m) s = .next (okAfter s m 0x0003
        (le 2 i ++ le 2 (t.unit i).intent.toNat ++ le 4 (t.unitWord i) ++ le 1 (t.unitFlags i) ++ le 1 (t.unit i).attempts
          ++ le 2 (t.mismatchMs i)) t) := by
  intro t i hu hp
  exact exec_ok h rfl (if_pos (by simpa using ⟨hu, hp⟩)) rfl rfl

theorem exec_ownQuery_ok (h : Accepts s m { code := 0x0100, cls := 0 }) : let t := s.taken m
    exec (.ownQuery m) s = .next (okAfter s m 0x0100
      (le 4 (t.ownStatus m.code) ++ le 4 t.ownConfig ++ le 1 (t.own.results.getD m.code 0)) t) :=
  exec_ok h rfl rfl rfl rfl

theorem exec_modeQuery_ok (h : Accepts s m { code := 0x0200, cls := 0 }) : let t := s.taken m
    exec (.modeQuery m) s = .next (okAfter s m 0x0200
      (le 1 t.mode.mode.code ++ le 1 t.mode.bootTarget ++ le 1 t.mode.lastCause
        ++ le 1 (min 255 (t.mode.reductions.length + t.mode.detected.length)) ++ le 4 t.mode.lastFrame.toNat) t) :=
  exec_ok h rfl rfl rfl rfl

theorem exec_pwrQuery_ok (h : Accepts s m { code := 0x0300, cls := 0, len := 1, args := [{ off := 0, hi := 2 }] })
    (hp : byteAt (s.argsOf m) 0 ≤ 2) : let t := s.taken m
    exec (.pwrQuery m) s = .next (okAfter s m 0x0300
      (if byteAt (s.argsOf m) 0 = 0 then
        le 2 t.powerLimit ++ le 2 t.gov.ownerLimit ++ le 2 t.gov.measured ++ le 1 t.govStage ++ le 1 t.hk.step ++ le 2 t.pwr.avsRay.mv
          ++ le 2 t.pwr.avsSoc.mv ++ le 1 (bitOf t.pwr.avsRay.frozen 0 + bitOf t.pwr.avsSoc.frozen 1) ++ [if t.gov.cap then 1 else 0]
      else if byteAt (s.argsOf m) 0 = 1 then (List.range 32).flatMap fun i => le 4 (t.dom i).stretches.toNat
      else (List.range 27).flatMap fun i => le 4 (t.dom (32 + i)).stretches.toNat) t) := by
  refine exec_ok h rfl rfl rfl ?_
  have hpage : byteAt (s.argsOf m) 0 = 0 ∨ byteAt (s.argsOf m) 0 = 1 ∨ byteAt (s.argsOf m) 0 = 2 := by omega
  rcases hpage with hb | hb | hb <;> simp [hb]

/-! ### Settings -/

theorem exec_ownConfig_ok (h : Accepts s m { code := 0x0101, cls := 1, len := 5, args := [{ off := 0, n := 2, lo := 50, hi := 2000 },
      { off := 2, hi := 2 }, { off := 3, hi := 2 }, { off := 4, hi := 2 }] })
    (h23 : byteAt (s.argsOf m) 2 ≠ byteAt (s.argsOf m) 3) (h24 : byteAt (s.argsOf m) 2 ≠ byteAt (s.argsOf m) 4)
    (h34 : byteAt (s.argsOf m) 3 ≠ byteAt (s.argsOf m) 4) : let a := s.argsOf m
    let u := (s.taken m).modOwn fun o => { o with hbPeriodMs := u16At a 0, prio := [byteAt a 2, byteAt a 3, byteAt a 4] }
    exec (.ownConfig m) s = .next (okAfter s m 0x0101 [] (u.deferRecord 3 (le 4 u.ownConfig))) :=
  exec_ok h rfl rfl (by simp [h23, h24, h34]) rfl

theorem exec_modeBootTarget_ok (h : Accepts s m { code := 0x0202, cls := 1, len := 1, args := [{ off := 0, lo := 2, hi := 3 }] }) :
    let b := byteAt (s.argsOf m) 0
    exec (.modeBootTarget m) s = .next (okAfter s m 0x0202 []
      (((s.taken m).modMode fun x => { x with bootTarget := b }).deferRecord 1 (pad 16 (le 1 b)))) :=
  exec_ok h rfl rfl rfl rfl

/-- PWR.SET_LIMIT in the command catalogue (Table 4.2). -/
abbrev pwrSetLimitCmd : Cmd := { code := 0x0301, cls := 1, len := 3, args := [{ off := 0, n := 2, lo := 65, hi := 150 }, { off := 2, mask := 1 }] }

/-- The owner's limit taken. -/
def State.limited (n : Nat) (s : State) : State := s.modGov fun g => { g with ownerLimit := n }

/-- CLEAR_FAULTS goes to the regulator of a frozen rail (log 52). -/
def State.clearRailFaults (r : Nat) (s : State) : State := s.when (s.rail r).frozen (·.pmb r .clearFaults 0)

/-- The loop of a rail whose regulator the board names runs again (R46). -/
def AvsRail.resumed (addr : W8) (x : AvsRail) : AvsRail := if addr == 0 then x else { x with frozen := false, mismatches := 0, naks := 0 }

/-- AVS_RESUME: both rails (R46). -/
def State.avsResumed (s : State) : State :=
  ((s.clearRailFaults 0).clearRailFaults 1).modPwr fun p =>
    { p with avsRay := p.avsRay.resumed s.nvm.board.pmbRay, avsSoc := p.avsSoc.resumed s.nvm.board.pmbSoc }

theorem resumed_frozen (addr : W8) (x : AvsRail) : (x.resumed addr).frozen = (x.frozen && addr == 0) := by
  unfold AvsRail.resumed
  split <;> simp_all

theorem clearRailFaults_aon (r : Nat) (s : State) : (s.clearRailFaults r).aon = s.aon := by
  rw [State.clearRailFaults, State.when]
  split
  · exact when_emit_aon _ _ s
  · rfl

theorem clearRailFaults_gov (r : Nat) (s : State) : (s.clearRailFaults r).gov = s.gov := by
  rw [State.clearRailFaults, State.when]
  split
  · rw [State.pmb, State.when]
    split <;> rfl
  · rfl

theorem avsResumed_gov (s : State) : s.avsResumed.gov = s.gov :=
  (clearRailFaults_gov 1 _).trans (clearRailFaults_gov 0 s)

theorem avsResumed_rails (s : State) :
    s.avsResumed.pwr.avsRay = s.pwr.avsRay.resumed s.nvm.board.pmbRay ∧ s.avsResumed.pwr.avsSoc = s.pwr.avsSoc.resumed s.nvm.board.pmbSoc := by
  have haon := (clearRailFaults_aon 1 _).trans (clearRailFaults_aon 0 s)
  simp [State.avsResumed, aon_pwr haon]

theorem exec_pwrSetLimit_limit (h : Accepts s m pwrSetLimitCmd) (ha : byteAt (s.argsOf m) 2 = 0) :
    exec (.pwrSetLimit m) s = .next (okAfter s m 0x0301 [] ((s.taken m).limited (u16At (s.argsOf m) 0))) :=
  exec_ok h rfl rfl rfl (by simp [ha, State.limited])

theorem exec_pwrSetLimit_resume (h : Accepts s m pwrSetLimitCmd) (ha : byteAt (s.argsOf m) 2 = 1) :
    exec (.pwrSetLimit m) s = .next (okAfter s m 0x0301 [] ((s.taken m).limited (u16At (s.argsOf m) 0)).avsResumed) :=
  exec_ok h rfl rfl rfl (congrArg (·, Reply.ok []) (if_pos (beq_iff_eq.2 ha)))

/-- Settles O1, a lemma for each command. -/
theorem systemCommands : Obligations.SystemCommands := by
  refine ⟨fun m s => ⟨exec_sysIdentify_ok, exec_sysCapability_ok, exec_sysTime_ok, ?unit, exec_ownQuery_ok, exec_modeQuery_ok,
    exec_pwrQuery_ok⟩, fun m s => ⟨exec_ownConfig_ok, exec_modeBootTarget_ok, exec_pwrSetLimit_limit, ?resume⟩⟩
  case unit =>
    intro h hu hp
    exact ⟨_, _, _, exec_sysUnitState_ok h hu hp, unitFlags_stale _ _, unitFlags_mismatch _ _⟩
  case resume =>
    intro h ha
    obtain ⟨hray, hsoc⟩ := avsResumed_rails ((s.taken m).limited (u16At (s.argsOf m) 0))
    refine ⟨_, exec_pwrSetLimit_resume h ha, by rw [avsResumed_gov]; rfl, ?_, ?_⟩
    · rw [hray, resumed_frozen]
      rfl
    · rw [hsoc, resumed_frozen]
      rfl

end Sys2Proof.Machine
end

section
/-! SUPPORT. What an event posted leaves in each ring (R83). -/

namespace Sys2Proof.Machine

variable {j k : Nat} {e : EvEntry} {r : EvRing} {s : State}

/-! ### A ring -/

theorem ring_modRing_same (hk : k < s.ctl.rings.length) (g : EvRing → EvRing) : (s.modRing k g).ring k = g (s.ring k) := by
  simp [State.ring, State.modRing, List.getD_eq_getElem?_getD, hk]

theorem ring_modRing_other (hj : j ≠ k) (g : EvRing → EvRing) : (s.modRing j g).ring k = s.ring k := by
  simp [State.ring, State.modRing, List.getD_eq_getElem?_getD, hj]

@[simp] theorem modRing_rings_length (j : Nat) (g : EvRing → EvRing) (s : State) :
    (s.modRing j g).ctl.rings.length = s.ctl.rings.length := by
  simp [State.modRing]

@[simp] theorem vector_rings (f v : Nat) (s : State) : (s.vector f v).ctl.rings = s.ctl.rings := by
  unfold State.vector
  split
  · rfl
  · split <;> rfl

@[simp] theorem vector_ring (f v : Nat) (s : State) (k : Nat) : (s.vector f v).ring k = s.ring k := by
  rw [State.ring, vector_rings, State.ring]

/-- A ring with its hold-off in another place. -/
def EvRing.withHold (u : Nat) (h : Bool) (r : EvRing) : EvRing := { r with holdUntil := u, heldOff := h }

/-- The vector of a ring moves its hold-off, and is raised or held off (R84). -/
theorem ringVector_cases (k : Nat) (s : State) : ∃ g : EvRing → EvRing, (∀ r, ∃ u h, g r = r.withHold u h) ∧
    (s.ringVector k = s.modRing k g ∨ s.ringVector k = (s.modRing k g).vector k 1) := by
  unfold State.ringVector
  dsimp only
  split
  · exact ⟨_, fun r => ⟨r.holdUntil, true, rfl⟩, .inl rfl⟩
  · exact ⟨_, fun r => ⟨_, _, rfl⟩, .inr rfl⟩

theorem modRing_modRing (k : Nat) (f g : EvRing → EvRing) (s : State) : (s.modRing k f).modRing k g = s.modRing k (g ∘ f) := by
  simp [State.modRing, State.modCtl, List.modify_modify_eq]

/-! ### An offer to a ring -/

/-- An event is offered to its ring alone; besides, the ring's hold-off may move and a vector be raised (R83, R84). -/
theorem offer_cases (k : Nat) (e : EvEntry) (s : State) : ∃ g : EvRing → EvRing, (∀ r, ∃ u h, g r = (ringOffer e r).withHold u h) ∧
    (s.offer k e = s.modRing k g ∨ ∃ v, s.offer k e = (s.modRing k g).vector k v) := by
  have hoffer : ∀ r, ∃ u h, ringOffer e r = (ringOffer e r).withHold u h := fun _ => ⟨_, _, rfl⟩
  unfold State.offer
  dsimp only
  split
  · exact ⟨_, hoffer, .inl rfl⟩
  split
  · split
    · exact ⟨_, hoffer, .inr ⟨2, rfl⟩⟩
    · obtain ⟨g, hg, hv⟩ := ringVector_cases k (s.modRing k (ringOffer e))
      rw [modRing_modRing] at hv
      exact ⟨g ∘ ringOffer e, fun r => hg _, hv.imp_right fun h => ⟨1, h⟩⟩
  · exact ⟨_, hoffer, .inl rfl⟩

@[simp] theorem offer_rings_length (j : Nat) (e : EvEntry) (s : State) : (s.offer j e).ctl.rings.length = s.ctl.rings.length := by
  obtain ⟨g, -, h | ⟨v, h⟩⟩ := offer_cases j e s <;> simp [h]

theorem offer_ring_same (hk : k < s.ctl.rings.length) : ∃ u h, (s.offer k e).ring k = (ringOffer e (s.ring k)).withHold u h := by
  obtain ⟨g, hg, h | ⟨v, h⟩⟩ := offer_cases k e s
  · rw [h, ring_modRing_same hk]
    exact hg _
  · rw [h, vector_ring, ring_modRing_same hk]
    exact hg _

theorem offer_ring_other (hj : j ≠ k) : (s.offer j e).ring k = s.ring k := by
  obtain ⟨g, -, h | ⟨v, h⟩⟩ := offer_cases j e s
  · rw [h, ring_modRing_other hj]
  · rw [h, vector_ring, ring_modRing_other hj]

theorem ringOffer_room (h : r.unconsumed < 240) : ringOffer e r = { r with
    offered := r.offered + 1, producer := r.producer + 1, gap := false,
    entries := (r.entries ++ [{ e with seq := r.offered, gap := r.gap }]).drop (r.entries.length + 1 - 256) } := by
  simp [ringOffer, Nat.not_le.2 h]

theorem ringOffer_full (hc : e.completion = false) (h : 240 ≤ r.unconsumed) :
    ringOffer e r = { r with offered := r.offered + 1, lost := satInc r.lost, gap := true } := by
  simp [ringOffer, hc, h]

/-- The entry written is the ring's newest. -/
theorem ringOffer_newest (h : r.unconsumed < 240) : (ringOffer e r).entries.getLast? = some { e with seq := r.offered, gap := r.gap } := by
  rw [ringOffer_room h, List.getLast?_drop, if_neg (by simp), List.getLast?_concat]

theorem ringOffer_unconsumed (h : r.unconsumed < 240) : (ringOffer e r).unconsumed = r.unconsumed + 1 := by
  rw [ringOffer_room h]
  simp only [EvRing.unconsumed] at h ⊢
  bv_omega

theorem ringOffer_consumer (e : EvEntry) (r : EvRing) : (ringOffer e r).consumer = r.consumer := by
  unfold ringOffer
  dsimp only
  split <;> rfl

/-! ### A post -/

/-- Offered to some rings in turn, an event meets each ring as it was. -/
theorem foldl_offer_ring (p : Nat → Bool) {l : List Nat} (hn : l.Nodup) (hm : k ∈ l) (hk : k < s.ctl.rings.length) :
    ∃ t : State, t.ring k = s.ring k ∧ k < t.ctl.rings.length ∧
      (l.foldl (fun (u : State) j => if p j then u.offer j e else u) s).ring k = (if p k then t.offer k e else t).ring k := by
  have hother : ∀ (l : List Nat), k ∉ l → ∀ t : State, (l.foldl (fun (u : State) j => if p j then u.offer j e else u) t).ring k = t.ring k := by
    intro l hl t
    refine List.foldlRecOn (motive := fun u : State => u.ring k = t.ring k) _ _ rfl fun u hu j hj => ?_
    have hjk : j ≠ k := fun h => hl (h ▸ hj)
    split
    · rw [offer_ring_other hjk, hu]
    · exact hu
  induction l generalizing s with
  | nil => simp at hm
  | cons j l ih =>
    obtain ⟨hj, hn⟩ := List.nodup_cons.1 hn
    rw [List.foldl_cons]
    by_cases hjk : j = k
    · subst hjk
      exact ⟨s, rfl, hk, hother l hj _⟩
    · have hstep : (if p j then s.offer j e else s).ring k = s.ring k := by
        split
        · exact offer_ring_other hjk
        · rfl
      obtain ⟨t, hr, ht, hf⟩ := ih (s := if p j then s.offer j e else s) hn ((List.mem_cons.1 hm).resolve_left (Ne.symm hjk))
        (by split <;> simpa using hk)
      exact ⟨t, hr.trans hstep, ht, hf⟩

theorem toLog_ring (e : EvEntry) (s : State) (k : Nat) : (s.toLog e).ring k = s.ring k := by
  rw [State.ring, State.toLog_ctl, State.ring]

section
variable {code sev : Nat} {payload : Bytes} (hm : k < 4) (hr : s.ctl.rings.length = 4)
include hm hr

/-- The ring takes the event: it is offered it, whatever becomes of the vector. -/
theorem post_ring_taken (ht : s.ringTakes code sev k = true) :
    ∃ u h, (s.post code sev payload).ring k = (ringOffer (mkEvent code sev s.time payload false) (s.ring k)).withHold u h := by
  obtain ⟨t, hring, hlen, hf⟩ := foldl_offer_ring (e := mkEvent code sev s.time payload false) (s.ringTakes code sev)
    List.nodup_range (List.mem_range.2 hm) (hr ▸ hm)
  rw [State.post, toLog_ring, State.postRings, hf, if_pos ht, ← hring]
  exact offer_ring_same hlen

theorem post_ring_passed (ht : s.ringTakes code sev k = false) : (s.post code sev payload).ring k = s.ring k := by
  obtain ⟨t, hring, -, hf⟩ := foldl_offer_ring (e := mkEvent code sev s.time payload false) (s.ringTakes code sev)
    List.nodup_range (List.mem_range.2 hm) (hr ▸ hm)
  rw [State.post, toLog_ring, State.postRings, hf, if_neg (by simp [ht]), hring]

end

/-- Settles O53: a ring that takes the event is offered it once, any other stays. -/
theorem eventsGoToTheirRings : Obligations.EventsGoToTheirRings := by
  intro code sev m payload s hm hlen
  refine ⟨fun ht hroom => ?room, fun ht hfull => ?full, post_ring_passed hm hlen, ?consumer⟩
  case room =>
    obtain ⟨u, h, hq⟩ := post_ring_taken (payload := payload) hm hlen ht
    rw [hq]
    refine ⟨?_, ringOffer_unconsumed hroom, ?_, ?_, _, ringOffer_newest hroom, rfl, rfl, rfl, rfl, rfl, rfl⟩ <;>
      simp [EvRing.withHold, ringOffer_room hroom]
  case full =>
    obtain ⟨u, h, hq⟩ := post_ring_taken (payload := payload) hm hlen ht
    rw [hq, ringOffer_full rfl hfull]
    exact ⟨rfl, rfl, rfl, rfl⟩
  case consumer =>
    cases ht : s.ringTakes code sev m with
    | false => exact congrArg _ (post_ring_passed hm hlen ht)
    | true =>
      obtain ⟨u, h, hq⟩ := post_ring_taken (payload := payload) hm hlen ht
      rw [hq]
      exact ringOffer_consumer _ _

end Sys2Proof.Machine
end

section
/-! SUPPORT. The PEC of R71. -/

namespace Sys2Proof.Machine

/-- The register is 0 once a string and its own PEC have gone through it. -/
theorem pec_append_pec (b : Bytes) : pec (b ++ [pec b]) = 0 := by
  have hstep : pec (b ++ [pec b]) = pecBits 8 (pec b ^^^ pec b) := by simp [pec]
  rw [hstep, BitVec.xor_self]
  rfl

/-- A string whose PEC is 0 does not count in what follows it. -/
theorem pec_append_of_pec_zero {b : Bytes} (h : pec b = 0) (c : Bytes) : pec (b ++ c) = pec c := by
  simp only [pec] at h ⊢
  rw [List.foldl_append, h]

/-- Settles O55. -/
theorem pecOfItsOwnPecIsZero : Obligations.PecOfItsOwnPecIsZero := fun b c =>
  ⟨pec_append_pec b, pec_append_of_pec_zero (pec_append_pec b) c⟩

end Sys2Proof.Machine
end

section
/-! SUPPORT. Device memory: what is written is read back and every other byte stays (R69, R330), and the memories keep their
canonical form (log 6). -/

namespace Sys2Proof.Machine

variable {a b : Nat} {v : W8} {s t : State}

/-! ### The address map: no two addresses of DRAM share a place (R330) -/

/-- The rotation of R330 among the channels of a row of granules. -/
def granuleHash (q : Nat) : Nat := (List.range 5).foldl (fun x k => x ^^^ (q / 16 ^ k % 16)) 0

theorem dramPlace_eq (s : State) (a : Nat) : s.dramPlace a =
    (s.mem.map.getD ((a / 2048 % s.mem.map.length + granuleHash (a / 2048 / s.mem.map.length)) % s.mem.map.length) 0,
      a / 2048 / s.mem.map.length * 2048 + a % 2048) := rfl

theorem chanBytes_eq (s : State) : ∃ k, chanBytes s = 2048 * k ∧ k ≤ 2 ^ 19 := by
  unfold chanBytes
  split
  · exact ⟨2 ^ 19, by norm_num, le_rfl⟩
  · exact ⟨2 ^ 18, by norm_num, by norm_num⟩

/-- The local address lies in its channel. -/
theorem dramPlace_local_lt (h : a < s.dramTop) : (s.dramPlace a).2 < 2 ^ 30 := by
  obtain ⟨k, hk, hle⟩ := chanBytes_eq s
  rw [State.dramTop, hk] at h
  have hg : a / 2048 < s.mem.map.length * k := Nat.div_lt_of_lt_mul (by rwa [Nat.mul_left_comm] at h)
  have hq : a / 2048 / s.mem.map.length < k := Nat.div_lt_of_lt_mul hg
  rw [dramPlace_eq]
  simp only
  omega

theorem dramKey_inj {p q : Nat × Nat} (hp : p.2 < 2 ^ 30) (hq : q.2 < 2 ^ 30) (h : dramKey p = dramKey q) : p = q := by
  simp only [dramKey] at h
  exact Prod.ext (by omega) (by omega)

/-- A granule's place in its row is what the rotation leaves of it. -/
theorem rotate_inj {n x y r : Nat} (hx : x < n) (hy : y < n) (h : (x + r) % n = (y + r) % n) : x = y := by
  have hmod : x ≡ y [MOD n] := Nat.ModEq.add_right_cancel' r h
  rwa [Nat.ModEq, Nat.mod_eq_of_lt hx, Nat.mod_eq_of_lt hy] at hmod

theorem dramPlace_inj (hm : s.mem.map.Pairwise (· < ·)) (ha : a < s.dramTop) (h : s.dramPlace a = s.dramPlace b) : a = b := by
  have hn : 0 < s.mem.map.length := by
    by_contra h0
    rw [State.dramTop, Nat.eq_zero_of_not_pos h0, Nat.zero_mul] at ha
    exact Nat.not_lt_zero _ ha
  rw [dramPlace_eq, dramPlace_eq, Prod.mk.injEq] at h
  obtain ⟨hchan, hlocal⟩ := h
  have hq : a / 2048 / s.mem.map.length = b / 2048 / s.mem.map.length := by omega
  have hbyte : a % 2048 = b % 2048 := by omega
  rw [hq] at hchan
  have hg : a / 2048 % s.mem.map.length = b / 2048 % s.mem.map.length := by
    have hnodup : s.mem.map.Nodup := hm.imp fun h => Nat.ne_of_lt h
    rw [List.getD_eq_getElem _ _ (Nat.mod_lt _ hn), List.getD_eq_getElem _ _ (Nat.mod_lt _ hn), hnodup.getElem_inj_iff] at hchan
    exact rotate_inj (Nat.mod_lt _ hn) (Nat.mod_lt _ hn) hchan
  have hgran : a / 2048 = b / 2048 := by
    rw [← Nat.div_add_mod (a / 2048) s.mem.map.length, hq, hg, Nat.div_add_mod]
  omega

/-- Two addresses of DRAM lie at one key only when they are one. -/
theorem dramKey_dramPlace_inj (hm : s.mem.map.Pairwise (· < ·)) (ha : a < s.dramTop) (hb : b < s.dramTop) :
    dramKey (s.dramPlace a) = dramKey (s.dramPlace b) ↔ a = b :=
  ⟨fun h => dramPlace_inj hm ha (dramKey_inj (dramPlace_local_lt ha) (dramPlace_local_lt hb) h), fun h => h ▸ rfl⟩

/-! ### A write keeps the address map -/

/-- What the address map is made of: the channels in it and the configuration of memory. -/
def State.memLayout (s : State) : List Nat × MemCfg := (s.mem.map, s.mem.cfg)

theorem dramPlace_congr (h : t.memLayout = s.memLayout) (a : Nat) : t.dramPlace a = s.dramPlace a := by
  rw [dramPlace_eq, dramPlace_eq, show t.mem.map = s.mem.map from congrArg (·.1) h]

theorem inDram_congr (h : t.memLayout = s.memLayout) (a : Nat) : t.inDram a = s.inDram a := by
  have hmap : t.mem.map = s.mem.map := congrArg (·.1) h
  have hcfg : t.mem.cfg = s.mem.cfg := congrArg (·.2) h
  rw [State.inDram, State.inDram, State.dramTop, State.dramTop, chanBytes, chanBytes, hmap, hcfg]

theorem populated_congr (h : t.memLayout = s.memLayout) (a : Nat) : t.populated a = s.populated a := by
  rw [State.populated, State.populated, inDram_congr h]

theorem devSet_memLayout (a : Nat) (v : W8) (s : State) : (s.devSet a v).memLayout = s.memLayout := by
  unfold State.devSet
  split
  · rfl
  · split <;> rfl

/-! ### The memories -/

/-- The parts of the state that hold the block's memories: DRAM, the windows, the Cellar, SEC and Heartwood. -/
def State.stores (s : State) : Memory × Memory × Cellar × Sec × Heartwood := (s.mem.dram, s.win, s.cellar, s.sec, s.hw)

theorem stores_eq {x : Memory × Memory × Cellar × Sec × Heartwood} :
    s.stores = x ↔ s.mem.dram = x.1 ∧ s.win = x.2.1 ∧ s.cellar = x.2.2.1 ∧ s.sec = x.2.2.2.1 ∧ s.hw = x.2.2.2.2 := by
  simp [State.stores, Prod.ext_iff]

theorem memoriesWf_of_stores (h : t.stores = s.stores) (hs : s.memoriesWf) : t.memoriesWf := by
  obtain ⟨hdram, hwin, hcellar, hsec, hhw⟩ := stores_eq.1 h
  rw [State.memoriesWf, hdram, hwin, hcellar, hsec, hhw]
  exact hs

theorem healBurst_stores (a : Nat) (s : State) : (s.healBurst a).stores = s.stores := by
  unfold State.healBurst
  split <;> rfl

theorem healBurst_memLayout (a : Nat) (s : State) : (s.healBurst a).memLayout = s.memLayout := by
  unfold State.healBurst
  split <;> rfl

theorem devSet_memoriesWf (hs : s.memoriesWf) (a : Nat) (v : W8) : (s.devSet a v).memoriesWf := by
  obtain ⟨hdram, hwin, hcellar, hrest⟩ := hs
  unfold State.devSet
  split
  · exact ⟨memSet_wf hdram _ v, hwin, hcellar, hrest⟩
  · split
    · exact ⟨hdram, hwin, memSet_wf hcellar _ v, hrest⟩
    · exact ⟨hdram, hwin, hcellar, hrest⟩

theorem devSets_memoriesWf (hs : s.memoriesWf) (a : Nat) (d : Bytes) : (s.devSets a d).memoriesWf := by
  induction d generalizing s a with
  | nil => exact hs
  | cons v d ih => exact ih (devSet_memoriesWf hs a v) (a + 1)

/-- The bursts that a write covers whole lose their poison, and nothing else of memory changes (R348). -/
theorem devWrite_stores (a : Nat) (d : Bytes) (s : State) :
    (s.devWrite a d).stores = (s.devSets a d).stores ∧ (s.devWrite a d).memLayout = (s.devSets a d).memLayout :=
  List.foldlRecOn (motive := fun t : State => t.stores = (s.devSets a d).stores ∧ t.memLayout = (s.devSets a d).memLayout)
    _ _ ⟨rfl, rfl⟩ fun _ ⟨hm, hl⟩ _ _ => ⟨(healBurst_stores ..).trans hm, (healBurst_memLayout ..).trans hl⟩

theorem devWrite_memoriesWf (hs : s.memoriesWf) (a : Nat) (d : Bytes) : (s.devWrite a d).memoriesWf :=
  memoriesWf_of_stores (devWrite_stores a d s).1 (devSets_memoriesWf hs a d)

/-! ### Reading back -/

theorem devByte_congr (hm : t.stores = s.stores) (hl : t.memLayout = s.memLayout) (a : Nat) : t.devByte a = s.devByte a := by
  obtain ⟨hdram, -, hcellar, -, -⟩ := stores_eq.1 hm
  rw [State.devByte, State.devByte, inDram_congr hl, dramPlace_congr hl, hdram, hcellar]
  rfl

theorem populated_iff : s.populated a = true ↔ a < s.dramTop ∨ inCellar a = true := by
  simp [State.populated, State.inDram]

theorem devByte_devSet (hm : s.mem.map.Pairwise (· < ·)) (hs : s.memoriesWf) (ha : s.populated a = true) (hb : s.populated b = true)
    (v : W8) : (s.devSet a v).devByte b = if b = a then v else s.devByte b := by
  obtain ⟨hdram, -, hcellar, -⟩ := hs
  have hl := devSet_memLayout a v s
  rw [State.devByte, State.devByte, inDram_congr hl, dramPlace_congr hl]
  by_cases hda : a < s.dramTop <;> by_cases hdb : b < s.dramTop
  · simp only [State.devSet, State.inDram, hda, hdb, decide_true, if_true, State.modMem_mem, memGet_memSet hdram,
      dramKey_dramPlace_inj hm hdb hda]
  · have hne : b ≠ a := fun h => hdb (h ▸ hda)
    simp [State.devSet, State.inDram, hda, hdb, hne]
  · have hne : b ≠ a := fun h => hda (h ▸ hdb)
    have hca : inCellar a = true := (populated_iff.1 ha).resolve_left hda
    simp [State.devSet, State.inDram, hda, hdb, hne, hca]
  · have hca : inCellar a = true := (populated_iff.1 ha).resolve_left hda
    have hcb : inCellar b = true := (populated_iff.1 hb).resolve_left hdb
    have hsub : b - cellarBase = a - cellarBase ↔ b = a := by
      simp only [inCellar, Bool.and_eq_true, decide_eq_true_eq] at hca hcb
      omega
    simp [State.devSet, State.inDram, hda, hdb, hca, hcb, memGet_memSet hcellar, hsub]

theorem devByte_devSets (hm : s.mem.map.Pairwise (· < ·)) (hs : s.memoriesWf) (d : Bytes)
    (ha : ∀ i < d.length, s.populated (a + i) = true) (hb : s.populated b = true) :
    (s.devSets a d).devByte b = if a ≤ b ∧ b < a + d.length then d.getD (b - a) 0 else s.devByte b := by
  induction d generalizing s a with
  | nil => simp [State.devSets]
  | cons v d ih =>
    have hl := devSet_memLayout a v s
    have hmap : (s.devSet a v).mem.map = s.mem.map := congrArg (·.1) hl
    have htail : ∀ i < d.length, (s.devSet a v).populated (a + 1 + i) = true := fun i hi => by
      rw [populated_congr hl, Nat.add_assoc, Nat.add_comm 1]
      exact ha (i + 1) (by simpa using hi)
    have hfirst : s.populated a = true := by simpa using ha 0 (by simp)
    rw [State.devSets, ih (hmap ▸ hm) (devSet_memoriesWf hs a v) htail (by rw [populated_congr hl, hb]),
      devByte_devSet hm hs hfirst hb, List.length_cons]
    by_cases hba : b = a
    · simp [hba]
    · by_cases hin : a + 1 ≤ b ∧ b < a + 1 + d.length
      · rw [if_pos hin, if_pos (by omega), show b - a = b - (a + 1) + 1 by omega, List.getD_cons_succ]
      · rw [if_neg hin, if_neg hba, if_neg (by omega)]

theorem devByte_devWrite (hm : s.mem.map.Pairwise (· < ·)) (hs : s.memoriesWf) (d : Bytes)
    (ha : ∀ i < d.length, s.populated (a + i) = true) (hb : s.populated b = true) :
    (s.devWrite a d).devByte b = if a ≤ b ∧ b < a + d.length then d.getD (b - a) 0 else s.devByte b := by
  obtain ⟨hstores, hl⟩ := devWrite_stores a d s
  rw [devByte_congr hstores hl, devByte_devSets hm hs d ha hb]

/-- A range that lies in memory is populated throughout. -/
theorem populated_of_inMemory {n : Nat} (h : s.inMemory a n = true) : ∀ i < n, s.populated (a + i) = true := by
  intro i hi
  simp only [State.inMemory, Bool.or_eq_true, Bool.and_eq_true, decide_eq_true_eq] at h
  rw [populated_iff]
  simp only [inCellar, Bool.and_eq_true, decide_eq_true_eq]
  omega

theorem devRead_eq_of_devByte {d : Bytes} (h : ∀ i < d.length, s.devByte (a + i) = d.getD i 0) : s.devRead a d.length = d := by
  induction d generalizing a with
  | nil => rfl
  | cons v d ih =>
    rw [List.length_cons, State.devRead, show s.devByte a = v from h 0 (by simp), ih fun i hi => ?_]
    rw [Nat.add_assoc, Nat.add_comm 1, h (i + 1) (by simpa using hi), List.getD_cons_succ]

/-- Settles O60: byte by byte, by the address map that sends no two populated addresses to one place. -/
theorem deviceMemoryReadsBack : Obligations.DeviceMemoryReadsBack := by
  intro a data s hm hs hin
  have hpop := populated_of_inMemory hin
  refine ⟨devRead_eq_of_devByte fun i hi => ?_, fun b hb hout => ?_⟩
  · rw [devByte_devWrite hm hs data hpop (hpop i hi), if_pos (by omega), Nat.add_sub_cancel_left]
  · rw [devByte_devWrite hm hs data hpop hb, if_neg (by omega)]

end Sys2Proof.Machine
end

section
/-! SUPPORT. Commands that write the block's memories keep their canonical form (log 6). -/

namespace Sys2Proof.Machine

variable {m : Master} {n : Nat} {s t : State}

theorem exec_bar2Write (m : Master) (a : Nat) (d : Bytes) (s : State) : exec (.bar2Write m a d) s = execBar2Write m a d s := rfl
theorem exec_memRequestIssue (n : Nat) (e : Ecc) (s : State) : exec (.memRequestIssue n e) s = execMemRequestIssue n e s := rfl

/-! ### Operations that write no memory -/

theorem settle_stores (s : State) : s.settle.stores = s.stores := by simp [State.stores]
theorem post_stores (c v : Nat) (p : Bytes) (s : State) : (s.post c v p).stores = s.stores := by simp [State.stores]
theorem dropWrite_stores (m : Master) (off : Nat) (s : State) : (s.dropWrite m off).stores = s.stores := by
  unfold State.dropWrite
  rw [post_stores]
  split <;> split <;> rfl
theorem setWriteDropped_stores (m : Master) (s : State) : (s.setWriteDropped m).stores = s.stores := by
  unfold State.setWriteDropped
  split <;> rfl
theorem leaseEvent_stores (m policy a id n : Nat) (s : State) : (s.leaseEvent m policy a id n).stores = s.stores := by
  unfold State.leaseEvent
  dsimp only
  split <;> simp [State.stores]
theorem offLog_stores (m : Master) (a n : Nat) (w : Bool) (s : State) : (s.offLog m a n w).stores = s.stores := by
  unfold State.offLog
  split
  · exact post_stores ..
  · rfl
theorem emit_stores (o : Out) (s : State) : (s.emit o).stores = s.stores := rfl
theorem modChan_stores (n : Nat) (g : MemCh → MemCh) (s : State) : (s.modChan n g).stores = s.stores := rfl
theorem modMemQ_stores (n : Nat) (g : MemQ → MemQ) (s : State) : (s.modMemQ n g).stores = s.stores := rfl

theorem when_stores {f : State → State} (h : (f s).stores = s.stores) (c : Bool) : (s.when c f).stores = s.stores := by
  cases c
  · rfl
  · exact h

theorem foldl_emit_stores {α : Type} (p : α → Bool) (o : α → Out) (l : List α) (s : State) :
    (l.foldl (fun t x => if p x then t.emit (o x) else t) s).stores = s.stores :=
  List.foldlRecOn (motive := fun t : State => t.stores = s.stores) _ _ rfl fun t ht x _ => by split <;> exact ht

/-- Neighbours of a row activated too often are refreshed; what they hold stays (R346). -/
theorem hammer_stores (n bank group : Nat) (s : State) : (s.hammer n bank group).stores = s.stores := by
  unfold State.hammer
  dsimp only
  split
  · rfl
  · rw [post_stores, modChan_stores, modMemQ_stores]
    exact foldl_emit_stores _ _ _ s

theorem eccCorrected_stores (n l : Nat) (s : State) : (s.eccCorrected n l).stores = s.stores := by
  unfold State.eccCorrected
  dsimp only
  rw [when_stores (modChan_stores ..)]
  split
  · rw [modMemQ_stores, modChan_stores]
  · rw [post_stores, modChan_stores, modMemQ_stores, modChan_stores]

theorem eccPoison_stores (n l : Nat) (s : State) : (s.eccPoison n l).stores = s.stores := by
  unfold State.eccPoison
  dsimp only
  split
  · rfl
  · rw [when_stores (modChan_stores ..), post_stores, modChan_stores]

theorem eccRead_stores (n l : Nat) (e : Ecc) (s : State) : (s.eccRead n l e).stores = s.stores := by
  cases e
  · rfl
  · exact eccCorrected_stores ..
  · exact eccPoison_stores ..

/-! ### What the three commands write -/

/-- The bytes of a write that reach a memory whose domain is on (R15). -/
theorem devWriteOn_memoriesWf (hs : s.memoriesWf) (a : Nat) (d : Bytes) : (s.devWriteOn a d).memoriesWf := by
  unfold State.devWriteOn
  split
  · exact devWrite_memoriesWf hs a d
  · refine List.foldlRecOn (motive := State.memoriesWf) _ _ hs fun t ht i _ => ?_
    dsimp only
    split
    · exact ht
    · exact devWrite_memoriesWf ht _ _

theorem memWriteBy_memoriesWf (hs : s.memoriesWf) (m : Master) (a : Nat) (d : Bytes) : (s.memWriteBy m a d).memoriesWf := by
  have hwritten : ∀ t : State, t.stores = s.stores → ((t.devWriteOn a d).offLog m a d.length true).memoriesWf := fun t ht =>
    memoriesWf_of_stores (offLog_stores ..) (devWriteOn_memoriesWf (memoriesWf_of_stores ht hs) a d)
  have hdropped : ∀ c p, ((s.setWriteDropped m).post c 1 p).memoriesWf := fun _ _ =>
    memoriesWf_of_stores ((post_stores ..).trans (setWriteDropped_stores ..)) hs
  unfold State.memWriteBy
  dsimp only
  split
  · exact hs
  split
  · exact hdropped ..
  split
  · exact hdropped ..
  split
  · exact memoriesWf_of_stores (leaseEvent_stores ..) hs
  split
  · exact hwritten s rfl
  split
  · exact hwritten _ (leaseEvent_stores ..)
  · exact memoriesWf_of_stores (leaseEvent_stores ..) hs

/-- An access of a master ends in `f s`, or in `s` where its port does not reach the device (R67, R68). -/
theorem byPort_memoriesWf {k : Nat} {f : State → State} (hs : s.memoriesWf) (hf : (f s).memoriesWf)
    (h : s.byPort k (fun s => done (f s)) = .next t) : t.memoriesWf := by
  unfold State.byPort at h
  split at h
  · exact done_next.1 h ▸ memoriesWf_of_stores (settle_stores _) hf
  · exact done_next.1 h ▸ memoriesWf_of_stores (settle_stores _) hs

theorem exec_bar2Write_memoriesWf {a : Nat} {d : Bytes} (hs : s.memoriesWf) (h : exec (.bar2Write m a d) s = .next t) : t.memoriesWf :=
  byPort_memoriesWf hs (memWriteBy_memoriesWf hs m a d) h

/-- A word of Heartwood content goes into both copies (R262). -/
theorem exec_hwPortData_memoriesWf {v : W32} (hs : s.memoriesWf) (h : exec (.hwPortData m v) s = .next t) : t.memoriesWf := by
  rw [exec_hwPortData, execHwPortData] at h
  refine byPort_memoriesWf hs ?_ h
  dsimp only
  split
  · exact memoriesWf_of_stores (dropWrite_stores ..) hs
  split
  · exact hs
  obtain ⟨hdram, hwin, hcellar, hflash, hstaging, hcopies⟩ := hs
  refine ⟨hdram, hwin, hcellar, hflash, hstaging, fun c hc => ?_⟩
  obtain ⟨c', hc', rfl⟩ := List.mem_map.1 hc
  exact memWrite_wf (hcopies c' hc') _ _

/-- The bytes of an issued write reach DRAM one by one (R341). -/
theorem memPut_memoriesWf (hs : s.memoriesWf) (n : Nat) (r : MemReq) : (s.memPut n r).memoriesWf := by
  obtain ⟨hdram, hrest⟩ := hs
  have hput : ∀ f : Nat → Nat, (r.data.foldl (fun d x => memSet d (f x.1) x.2) s.mem.dram).wf := fun f =>
    List.foldlRecOn (motive := Memory.wf) _ _ hdram fun d hd x _ => memSet_wf hd _ _
  unfold State.memPut
  dsimp only
  split <;> exact ⟨hput fun o => dramKey (n, r.addr / 64 * 64 + o), hrest⟩

theorem exec_memRequestIssue_memoriesWf {e : Ecc} (hs : s.memoriesWf) (h : exec (.memRequestIssue n e) s = .next t) : t.memoriesWf := by
  have hissued : ∀ (r : MemReq) (u : State), u.stores = s.stores → (if r.write then u.memPut n r else u).memoriesWf := by
    intro r u hu
    split
    · exact memPut_memoriesWf (memoriesWf_of_stores hu hs) n r
    · exact memoriesWf_of_stores hu hs
  rw [exec_memRequestIssue, execMemRequestIssue, done_next] at h
  refine h ▸ memoriesWf_of_stores (settle_stores _) ?_
  rw [State.when]
  split
  case isFalse => exact hs
  split
  case h_1 => exact memoriesWf_of_stores (modMemQ_stores ..) hs
  case h_2 r b _ =>
    dsimp only
    refine memoriesWf_of_stores ((hammer_stores ..).trans (when_stores (eccRead_stores ..) _)) ?_
    refine hissued r _ ?_
    rw [emit_stores]
    split <;> rfl

/-- Settles O59, a lemma for each of the three commands. -/
theorem writesKeepTheMemoriesForm : Obligations.WritesKeepTheMemoriesForm := by
  rintro m addr n data v ecc s t i (rfl | rfl | rfl) h hs
  · exact exec_bar2Write_memoriesWf hs h
  · exact exec_hwPortData_memoriesWf hs h
  · exact exec_memRequestIssue_memoriesWf hs h

end Sys2Proof.Machine
end

section
/-! SUPPORT. SPI frames, two-wire transactions and the test access port (R70, R71, R463, R464, Table 18.10). -/

namespace Sys2Proof.Machine

variable {a : Nat} {d : Bytes} {p : W8} {s : State}

theorem exec_spiWriteFrame (b : Bytes) (s : State) : exec (.spiWriteFrame b) s = execSpiWriteFrame b s := rfl
theorem exec_spiReadFrame (b : Bytes) (n : Nat) (l : List Nat) (s : State) : exec (.spiReadFrame b n l) s = execSpiReadFrame b n l s := rfl
theorem exec_spiStatusFrame (s : State) : exec .spiStatusFrame s = execSpiStatusFrame s := rfl
theorem exec_twoWireWrite (b : Bytes) (s : State) : exec (.twoWireWrite b) s = execTwoWireWrite b s := rfl
theorem exec_twoWireRead (b : Bytes) (n : Nat) (l : List Nat) (s : State) : exec (.twoWireRead b n l) s = execTwoWireRead b n l s := rfl
theorem exec_twoWireStatus (b : Bytes) (s : State) : exec (.twoWireStatus b) s = execTwoWireStatus b s := rfl
theorem exec_testAccessPortOperation (op : TapOp) (s : State) :
    exec (.testAccessPortOperation op) s = execTestAccessPortOperation op s := rfl

/-! ### A frame's bytes -/

@[simp] theorem le_length (n v : Nat) : (le n v).length = n := by
  induction n generalizing v with
  | zero => rfl
  | succ n ih => simp [le, ih]

/-- The address of a frame: the four bytes after its opcode. -/
theorem u32At_frame (ha : a < 2 ^ 32) (x : W8) (e : Bytes) : u32At (x :: (le 4 a ++ e)) 1 = a := by
  simp [u32At, uAt, List.range_succ, le, ofLe]
  omega

/-- The data of a frame: what follows its opcode and address. -/
theorem drop_frame (x : W8) (a : Nat) (e : Bytes) : (x :: (le 4 a ++ e)).drop 5 = e := by
  simp [le]

theorem pecGood_concat (b : Bytes) (p : W8) : pecGood (b ++ [p]) = (p == pec (0x94 :: b)) := by
  simp [pecGood, twoWireW]

/-! ### One word through a window -/

theorem winWrites_one (ha : a < 2 ^ 32) (hd : d.length = 4) (m : Master) (e : Bytes) (s : State) :
    s.winWrites m a (d ++ e) 1 = s.winWrite m a d := by
  have haddr : winAddr a 0 = a := Nat.mod_eq_of_lt ha
  have hslice : slice (d ++ e) (4 * 0) 4 = d := by simp [slice, ← hd]
  rw [State.winWrites, State.winWrites, haddr, hslice]

theorem winReads_one (ha : a < 2 ^ 32) (m : Master) (s : State) : s.winReads m a [] 1 = s.winRead m a := by
  have haddr : winAddr a 0 = a := Nat.mod_eq_of_lt ha
  simp [State.winReads, haddr]

/-- Two words in order, the second at the address after the first (R70). -/
theorem winReads_two (ha : a < 2 ^ 32) (m : Master) (s : State) : let r := s.winRead m a
    let q := r.2.winRead m ((a + 4) % 2 ^ 32)
    s.winReads m a [] (1 + 1) = (r.1 ++ q.1, q.2) := by
  rw [State.winReads, winReads_one ha]
  rfl

/-! ### The SVC port (R68, R70) -/

theorem exec_spiWriteFrame_absent (b : Bytes) (h : s.pins.svcPresentN = true) : exec (.spiWriteFrame b) s = .next s.settle := by
  rw [exec_spiWriteFrame, execSpiWriteFrame, h]
  rfl

theorem exec_spiReadFrame_absent (b : Bytes) (n : Nat) (l : List Nat) (h : s.pins.svcPresentN = true) :
    exec (.spiReadFrame b n l) s = .next s.settle := by
  rw [exec_spiReadFrame, execSpiReadFrame, h]
  rfl

theorem exec_spiStatusFrame_absent (h : s.pins.svcPresentN = true) : exec .spiStatusFrame s = .next s.settle := by
  rw [exec_spiStatusFrame, execSpiStatusFrame, h]
  rfl

theorem exec_spiWriteFrame_word (ha : a < 2 ^ 32) (hd : d.length = 4) (h : s.pins.svcPresentN = false) :
    exec (.spiWriteFrame (2 :: (le 4 a ++ d))) s = .next ((s.winWrite .svc a d).emit (.spi (List.replicate 9 0))).settle := by
  have hword := winWrites_one ha hd .svc [] s
  rw [List.append_nil] at hword
  rw [exec_spiWriteFrame, execSpiWriteFrame, h, u32At_frame ha, drop_frame]
  simp [hd, byteAt, hword, done]

theorem exec_spiReadFrame_word (ha : a < 2 ^ 32) (h : s.pins.svcPresentN = false) : let r := s.winRead .svc a
    let q := r.2.winRead .svc ((a + 4) % 2 ^ 32)
    exec (.spiReadFrame (0x0B :: le 4 a) 1 []) s = .next (q.2.emit (.spi (List.replicate 13 0 ++ (r.1 ++ q.1).take 4))).settle := by
  have haddr := u32At_frame ha 0x0B []
  rw [List.append_nil] at haddr
  rw [exec_spiReadFrame, execSpiReadFrame, h, haddr]
  simp [byteAt, done, winReads_two ha]

theorem exec_spiStatusFrame_present (h : s.pins.svcPresentN = false) :
    exec .spiStatusFrame s = .next ((s.readStatus .svc).2.emit (.spi (0 :: le 1 (s.readStatus .svc).1))).settle := by
  rw [exec_spiStatusFrame, execSpiStatusFrame, h]
  rfl

/-! ### The SAFE port (R70, R71) -/

theorem vector_ports (f v : Nat) (s : State) : (s.vector f v).ctl.ports = s.ctl.ports := by
  unfold State.vector
  split
  · rfl
  · split <;> rfl

theorem offer_ports (k : Nat) (e : EvEntry) (s : State) : (s.offer k e).ctl.ports = s.ctl.ports := by
  obtain ⟨g, -, h | ⟨v, h⟩⟩ := offer_cases k e s
  · rw [h]
    rfl
  · rw [h, vector_ports]
    rfl

theorem post_ports (c v : Nat) (b : Bytes) (s : State) : (s.post c v b).ctl.ports = s.ctl.ports := by
  rw [State.post, State.toLog_ctl]
  refine List.foldlRecOn (motive := fun t : State => t.ctl.ports = s.ctl.ports) _ _ rfl fun t ht k _ => ?_
  split
  · rw [offer_ports, ht]
  · exact ht

/-- A faulty transaction sets PEC_ERR, and of memory and ownership it changes nothing (R71). -/
theorem pecError_frame (o r : Nat) (s : State) : let t := s.pecError o r
    t.mem = s.mem ∧ t.own = s.own ∧ t.win = s.win ∧ (s.ctl.ports.length = 2 → (t.ctl.ports.getD 1 {}).pecErr = true) := by
  refine ⟨by simp [State.pecError], by simp [State.pecError], by simp [State.pecError], fun h => ?_⟩
  rw [State.pecError, post_ports]
  simp [List.getD_eq_getElem?_getD, h]

/-- The bytes of a WRITE of one word. -/
abbrev writeFrame (a : Nat) (d : Bytes) : Bytes := 2 :: (le 4 a ++ d)

/-- A WRITE of one word acts when its last byte is its PEC, and is discarded when it is another (R71). -/
theorem exec_twoWireWrite_frame (ha : a < 2 ^ 32) (hd : d.length = 4) (p : W8) :
    exec (.twoWireWrite (writeFrame a d ++ [p])) s = done (if p = pec (0x94 :: writeFrame a d) then (s.acks 9 true).winWrite .safe a d
      else (s.acks 9 true).pecError 2 0) := by
  have hdrop : (writeFrame a d ++ [p]).drop 5 = d ++ [p] := by simp [le]
  have haddr : u32At (writeFrame a d ++ [p]) 1 = a := by
    rw [List.cons_append, List.append_assoc, u32At_frame ha]
  rw [exec_twoWireWrite, execTwoWireWrite, pecGood_concat, hdrop, haddr]
  by_cases hp : p = pec (0x94 :: writeFrame a d) <;> simp [hp, byteAt, hd, winWrites_one ha hd]

theorem exec_twoWireWrite_word (ha : a < 2 ^ 32) (hd : d.length = 4) :
    exec (.twoWireWrite (writeFrame a d ++ [pec (0x94 :: writeFrame a d)])) s = .next ((s.acks 9 true).winWrite .safe a d).settle := by
  rw [exec_twoWireWrite_frame ha hd, if_pos rfl]
  rfl

theorem exec_twoWireWrite_wrongPec (ha : a < 2 ^ 32) (hd : d.length = 4) (hp : p ≠ pec (0x94 :: writeFrame a d)) :
    exec (.twoWireWrite (writeFrame a d ++ [p])) s = .next ((s.acks 9 true).pecError 2 0).settle := by
  rw [exec_twoWireWrite_frame ha hd, if_neg hp]
  rfl

/-- The bytes of a READ request. -/
abbrev readFrame (a : Nat) : Bytes := 0x0B :: le 4 a

theorem exec_twoWireRead_word (ha : a < 2 ^ 32) : let q := (s.acks 6 true).winRead .safe a
    exec (.twoWireRead (readFrame a ++ [pec (0x94 :: readFrame a)]) 1 []) s =
      .next (q.2.emit (.twoWire (q.1 ++ [pec (0x95 :: q.1)]))).settle := by
  have haddr : u32At (readFrame a ++ [pec (0x94 :: readFrame a)]) 1 = a := by rw [List.cons_append, u32At_frame ha]
  rw [exec_twoWireRead, execTwoWireRead, pecGood_concat, haddr]
  simp [byteAt, winReads_one ha, State.twoWireReply, twoWireR, done]

theorem exec_twoWireStatus_right : let q := (s.acks 2 true).readStatus .safe
    exec (.twoWireStatus [5, pec [0x94, 5]]) s = .next (q.2.emit (.twoWire (le 1 q.1 ++ [pec (0x95 :: le 1 q.1)]))).settle := by
  have hgood : pecGood [5, pec [0x94, 5]] = true := by simpa using pecGood_concat [5] (pec [0x94, 5])
  rw [exec_twoWireStatus, execTwoWireStatus, hgood]
  rfl

/-! ### The test access port (R464, Table 18.10) -/

/-- A vendor instruction writes device memory in space 1 while the seal lets it (Table 18.10). -/
theorem exec_testAccessPort_writeDevice (hv : s.tapVendor = true) (addr : Nat) (data : W32) :
    exec (.testAccessPortOperation (.vendor true 1 addr data)) s = .next (s.devWrite addr (le 4 data.toNat)).settle := by
  rw [exec_testAccessPortOperation, execTestAccessPortOperation]
  simp [hv, State.tapWrite, done]

/-- Settles O34, a lemma for each frame and transaction. -/
theorem serialPorts : Obligations.SerialPorts := by
  refine ⟨fun a d s ha hd => ⟨fun h => ⟨exec_spiWriteFrame_absent _ h, exec_spiReadFrame_absent _ _ _ h, exec_spiStatusFrame_absent h⟩,
      exec_spiWriteFrame_word ha hd, exec_spiReadFrame_word ha, exec_spiStatusFrame_present⟩,
    fun a d s ha hd => ⟨exec_twoWireWrite_word ha hd, fun p hp => ⟨_, exec_twoWireWrite_wrongPec ha hd hp, ?_⟩,
      exec_twoWireRead_word ha, exec_twoWireStatus_right, rfl, rfl⟩,
    fun s => ⟨rfl, fun _ => rfl, fun _ => rfl, fun addr data hv => exec_testAccessPort_writeDevice hv addr data⟩⟩
  rw [State.settle_mem, State.settle_own, State.settle_win, State.settle_ctl]
  exact pecError_frame 2 0 (s.acks 9 true)

end Sys2Proof.Machine
end

section
/-! SUPPORT. The end of a pending operation (R96, R97, Table 13.8) and the PENDING_ID of a new one (R97). -/

namespace Sys2Proof.Machine

variable {m : Master} {pid : Nat} {obs : Obs} {s : State} {o : PendingOp}

theorem exec_pendingCompletion (m : Master) (pid : Nat) (obs : Obs) (s : State) :
    exec (.pendingCompletion m pid obs) s = execPendingCompletion m pid obs s := rfl
theorem exec_pendingTimeout (m : Master) (pid : Nat) (s : State) : exec (.pendingTimeout m pid) s = execPendingTimeout m pid s := rfl

theorem taprootUp_of_running (hr : s.tp.state = .running) : s.taprootUp = true := by
  rw [State.taprootUp, hr]
  rfl

/-! ### The bulk buffer of an operation (Table 13.8) -/

theorem withBulk_clean {f : Bytes → State → State × Nat × Bytes} (hp : s.poisoned (a40At o.args 0) (u32At o.args 8) = false) :
    s.withBulk o f = (let r := f (s.devRead (a40At o.args 0) (u32At o.args 8)) s; r.1.complete o r.2.1 r.2.2) := by
  have hbulk : s.opBulk o = some (s.devRead (a40At o.args 0) (u32At o.args 8)) := by
    rw [State.opBulk, hp]
    rfl
  rw [State.withBulk, hbulk]

theorem withBulk_poisoned {f : Bytes → State → State × Nat × Bytes} (hp : s.poisoned (a40At o.args 0) (u32At o.args 8) = true) :
    s.withBulk o f = s.complete o stFaulted [] := by
  have hbulk : s.opBulk o = none := by
    rw [State.opBulk, hp]
    rfl
  rw [State.withBulk, hbulk]

/-! ### The hardware has done what the operation asked -/

theorem exec_pendingCompletion_running (hr : s.tp.state = .running) (ho : s.findOp m.code pid = some o) :
    exec (.pendingCompletion m pid obs) s = .next (s.finish o obs).settle := by
  rw [exec_pendingCompletion, execPendingCompletion, ho]
  simp only [taprootUp_of_running hr, State.when_true, done]

theorem finish_profile (hc : o.code = 0x0404) :
    s.finish o obs = s.withBulk o fun b t => (t.profileStored (byteAt o.args 16) b, stOk, []) := by
  simp only [State.finish, hc]

theorem finish_waveform (hc : o.code = 0x0E03) :
    s.finish o obs = s.withBulk o fun b t => (t.plcStoreWave (byteAt o.args 16) b, stOk, []) := by
  simp only [State.finish, hc]

theorem finish_record (hc : o.code = 0x1201) :
    s.finish o obs = s.withBulk o fun b t => (t.writeRecord o.aux b, stOk, []) := by
  simp only [State.finish, hc]

theorem finish_rotation (hc : o.code = 0x1304) : s.finish o obs = s.withBulk o fun b t => (t.rotateDone b, stOk, []) := by
  simp only [State.finish, hc]

/-- CAL.RUN of one index of an item that needs no isothermal die stores the trim found, as far as its bits hold it. -/
theorem finish_calibration (hc : o.code = 0x1101) (hk : byteAt o.args 0 ≠ 1) (hi : u16At o.args 2 ≠ 0xFFFF) :
    s.finish o obs = (s.calibrate (byteAt o.args 0) (u16At o.args 2) (sext 16 obs.a)).complete o stOk
      (le 2 (wrap 16 (trimClamp (byteAt o.args 0) (sext 16 obs.a)))) := by
  have hruns : (byteAt o.args 0 != 1 || s.calRuns 1) = true := by simp [hk]
  have hone : (u16At o.args 2 != 0xFFFF) = true := by simpa using hi
  simp only [State.finish, hc, hruns, State.when_true, State.calDone, hone, if_true]

theorem finish_attestation (hc : o.code = 0x1301) :
    s.finish o obs = (s.devWrite (a40At o.args 0) (s.attestReport (slice o.args 16 32))).complete o stOk
      (le 4 (s.attestReport (slice o.args 16 32)).length) := by
  simp only [State.finish, hc]

/-! ### The limit of an operation passes -/

/-- Every operation has its limit, except the activation of R451, a memory test and a mode request, which end by rules of their own. -/
theorem exec_pendingTimeout_running (hr : s.tp.state = .running) (ho : s.findOp m.code pid = some o)
    (hactivation : o.code ≠ 0x1303) (htest : o.code ≠ 0x0C02) (hmode : o.code ≠ 0x0201) :
    exec (.pendingTimeout m pid) s =
      .next ((((s.timeTo o.deadline).giveUp o).complete o stTimeout ((s.timeTo o.deadline).progress o)).settle) := by
  have hlimit : (s.taprootUp && o.code != 0x1303 && !s.noLimit o) = true := by
    simp [taprootUp_of_running hr, State.noLimit, hactivation, hmode]
  rw [exec_pendingTimeout, execPendingTimeout, ho]
  simp [hlimit, done, htest, hmode]

/-- Settles O32: a completion by the code of its operation and, with a bulk buffer, by whether it reads back poisoned; a limit by
the rule that the codes share. -/
theorem operationsEnd : Obligations.OperationsEnd := by
  intro m pid obs s o hr ho
  have hfinish := exec_pendingCompletion_running (obs := obs) hr ho
  refine ⟨fun hclean => ⟨fun hc => ?profile, fun hc => ?waveform, fun hc => ?record, fun hc => ?rotation⟩,
    fun hpoisoned hc => ?poisoned, fun hc hk hi => ?calibration, fun hc => ?attestation, exec_pendingTimeout_running hr ho⟩
  case profile => rw [hfinish, finish_profile hc, withBulk_clean hclean]
  case waveform => rw [hfinish, finish_waveform hc, withBulk_clean hclean]
  case record => rw [hfinish, finish_record hc, withBulk_clean hclean]
  case rotation => rw [hfinish, finish_rotation hc, withBulk_clean hclean]
  case poisoned => rw [hfinish, finish_record hc, withBulk_poisoned hpoisoned]
  case calibration => rw [hfinish, finish_calibration hc hk hi]
  case attestation => rw [hfinish, finish_attestation hc]

/-! ### The PENDING_ID of a new operation (R97) -/

/-- The PENDING_ID that the search from `i` tries after `k` others: they run from 1 and wrap from 0xFFFF to 1. -/
def pidTried (i k : Nat) : Nat := (i - 1 + k) % 0xFFFF + 1

theorem pidTried_zero {i : Nat} (h1 : 1 ≤ i) (hmax : i ≤ 0xFFFF) : pidTried i 0 = i := by
  unfold pidTried
  omega

/-- The search goes on as one from the id after `i`. -/
theorem pidTried_succ {i : Nat} (h1 : 1 ≤ i) (hmax : i ≤ 0xFFFF) (k : Nat) :
    pidTried i (k + 1) = pidTried (if i < 0xFFFF then i + 1 else 1) k := by
  unfold pidTried
  split <;> omega

/-- The first 0xFFFF ids that a search tries differ. -/
theorem pidTried_injOn (i : Nat) : Set.InjOn (pidTried i) {k | k < 0xFFFF} := by
  intro j (hj : j < 0xFFFF) k (hk : k < 0xFFFF) (h : (i - 1 + j) % 0xFFFF + 1 = (i - 1 + k) % 0xFFFF + 1)
  omega

theorem nextPid_range (used : List Nat) {i : Nat} (h1 : 1 ≤ i) (hmax : i ≤ 0xFFFF) (n : Nat) :
    1 ≤ nextPid used i n ∧ nextPid used i n ≤ 0xFFFF := by
  induction n generalizing i with
  | zero => exact ⟨h1, hmax⟩
  | succ n ih =>
    rw [nextPid]
    split
    · exact ih (by split <;> omega) (by split <;> omega)
    · exact ⟨h1, hmax⟩

/-- A search that ends on an id in use has found every id it tried in use. -/
theorem pidTried_mem_of_nextPid_mem {used : List Nat} {i n : Nat} (h1 : 1 ≤ i) (hmax : i ≤ 0xFFFF)
    (h : nextPid used i n ∈ used) : ∀ k < n, pidTried i k ∈ used := by
  induction n generalizing i with
  | zero => exact fun _ hk => absurd hk (Nat.not_lt_zero _)
  | succ n ih =>
    intro k hk
    have hi : i ∈ used := by
      by_contra hi
      rw [nextPid, if_neg (by simpa using hi)] at h
      exact hi h
    rw [nextPid, if_pos (by simpa using hi)] at h
    cases k with
    | zero => rwa [pidTried_zero h1 hmax]
    | succ k =>
      rw [pidTried_succ h1 hmax]
      exact ih (by split <;> omega) (by split <;> omega) h k (by omega)

/-- A search that may try more ids than are in use ends on a free one. -/
theorem nextPid_not_mem {used : List Nat} {i n : Nat} (h1 : 1 ≤ i) (hmax : i ≤ 0xFFFF) (hn : n ≤ 0xFFFF)
    (hused : used.length < n) : nextPid used i n ∉ used := by
  intro h
  have htried := pidTried_mem_of_nextPid_mem h1 hmax h
  have hcard : (Finset.range n).card ≤ used.toFinset.card :=
    Finset.card_le_card_of_injOn (pidTried i) (fun k hk => by simpa using htried k (Finset.mem_range.1 hk))
      ((pidTried_injOn i).mono fun k hk => Nat.lt_of_lt_of_le (Finset.mem_range.1 hk) hn)
  have hlength := used.toFinset_card_le
  rw [Finset.card_range] at hcard
  omega

/-- The PENDING_IDs of a master's operations in progress. -/
def State.pidsInUse (s : State) (m : Master) : List Nat := (s.ctl.pendingOps.filter fun p => p.master == m.code).map (·.id)

theorem newPid_eq (s : State) (m : Master) : s.newPid m = nextPid (s.pidsInUse m) (s.box m.code).nextId 17 := rfl

theorem mem_pidsInUse {p : PendingOp} (hp : p ∈ s.ctl.pendingOps) (hm : p.master = m.code) : p.id ∈ s.pidsInUse m :=
  List.mem_map_of_mem (List.mem_filter.2 ⟨hp, by simpa using hm⟩)

/-- Settles O54: the search tries 17 ids, and at most 16 are in use. -/
theorem pendingIdsAreFresh : Obligations.PendingIdsAreFresh := by
  intro m s hpending h1 hmax
  have hused : (s.pidsInUse m).length < 17 := by
    rw [State.pidsInUse, List.length_map]
    omega
  rw [newPid_eq]
  obtain ⟨hlow, hhigh⟩ := nextPid_range (s.pidsInUse m) h1 hmax 17
  refine ⟨hlow, hhigh, fun p hp hm hid => nextPid_not_mem h1 hmax (by omega) hused ?_⟩
  rw [← hid]
  exact mem_pidsInUse hp hm

end Sys2Proof.Machine
end

section
/-! SUPPORT. The CAM commands: the query, the register commands of a head, CAM.CONFIG and CAM.PROFILE_SET (Table 4.2, R92, R103, R109,
R115 to R117). -/

namespace Sys2Proof.Machine

variable {m : Master} {s : State}

theorem exec_camQuery_ok (h : Accepts s m { code := 0x0400, cls := 0, len := 1, args := [{ off := 0, hi := 15 }] }) :
    let t := s.taken m
    let x := t.camPort (byteAt (s.argsOf m) 0)
    let f := t.camFlow (byteAt (s.argsOf m) 0)
    t.hasPort (byteAt (s.argsOf m) 0) = true → exec (.camQuery m) s = .next (okAfter s m 0x0400
      (le 1 x.state ++ le 1 x.runLanes ++ le 1 x.runRate ++ le 1 (x.profile.getD 0xFF) ++ le 4 x.headId.toNat ++ le 4 f.frames.toNat
        ++ le 4 f.short.toNat ++ le 4 f.long.toNat ++ le 4 f.truncated.toNat ++ le 4 f.dropped.toNat ++ le 4 f.retrains.toNat) t) :=
  fun hp => exec_ok h rfl (absentIn_none hp) rfl rfl

/-! ### Register commands (R92, R109) -/

/-- What a register command does once it is judged: its message goes to a link that takes it, else the answer is ST_TIMEOUT. -/
def requestHead (kind : Nat) (payload : Ctx → Bytes) (x : Ctx) (s : State) : State × Reply :=
  if !s.linkIdleUp (x.u8 0) then (s, .err stTimeout 0xFF 1 (unitPort (x.u8 0)))
  else (s.sendReq (x.u8 0) kind (payload x) (s.time + ms 2), .wait (ms 2))

/-- CAM.HEAD_READ and CAM.HEAD_WRITE in the command catalogue (Table 4.4). -/
abbrev camHeadReadCmd : Cmd := { code := 0x0402, cls := 0, len := 4, args := [{ off := 0, hi := 15 }, { off := 1, lo := 1, hi := 64 }, { off := 2, n := 2 }] }
abbrev camHeadWriteCmd : Cmd := { code := 0x0403, cls := 1, len := 68, args := [{ off := 0, hi := 15 }, { off := 1, lo := 1, hi := 64 },
  { off := 2, n := 2 }, { off := 4, n := 64 }] }

theorem exec_camHeadRead (m : Master) (s : State) :
    exec (.camHeadRead m) s = done (runCmd camHeadReadCmd (absentIn 0 64 15 State.hasPort) noPre
      (requestHead 2 fun x => le 2 (x.u16 2) ++ le 1 (x.u8 1)) m s) := rfl

theorem exec_camHeadWrite (m : Master) (s : State) :
    exec (.camHeadWrite m) s = done (runCmd camHeadWriteCmd (absentIn 0 64 15 State.hasPort)
      (fun x _ => ((List.range 68).find? fun o => 4 + x.u8 1 ≤ o && byteAt x.args o != 0).map fun o => (o, 0))
      (requestHead 1 fun x => le 2 (x.u16 2) ++ slice x.args 4 (x.u8 1)) m s) := rfl

/-- Both register commands: the link decides between the 2 ms of R109 and ST_TIMEOUT. -/
theorem exec_requestHead {i : Instr} {c : Cmd} {pre : Ctx → State → Option (Nat × Nat)} {kind : Nat} {payload : Ctx → Bytes} {d : Bytes}
    (hi : exec i s = done (runCmd c (absentIn 0 64 15 State.hasPort) pre (requestHead kind payload) m s))
    (h : Accepts s m c) (hb : c.bulk = none) (hp : (s.taken m).hasPort (byteAt (s.argsOf m) 0) = true)
    (hq : pre (c.ctx m.code (s.frontSlot m.code)) (s.taken m) = none)
    (hd : payload (c.ctx m.code (s.frontSlot m.code)) = d) :
    let t := s.taken m
    let p := byteAt (s.argsOf m) 0
    (t.linkIdleUp p = true → exec i s = .next (waitAfter s m c.code 2000000
      (t.sendReq p kind d (t.time + 2000000)))) ∧
    (t.linkIdleUp p = false → exec i s = .next (errAfter s m c.code stTimeout 0xFF 1 (unitPort p))) := by
  rw [hi, ← hd]
  refine ⟨fun hl => exec_wait h hb (absentIn_none hp) hq ?_, fun hl => exec_err (t := s.taken m) h hb (absentIn_none hp) hq ?_⟩
  · simp [requestHead, hl, ms]
  · rw [requestHead, ctx_u8, hl]
    rfl

/-- CAM.HEAD_WRITE is not refused when its arguments beyond the bytes to write are 0 (R91). -/
theorem camHeadWrite_argsZero {x : Ctx} (hzero : ∀ o, 4 + x.u8 1 ≤ o → o < 68 → byteAt x.args o = 0) :
    ((List.range 68).find? fun o => 4 + x.u8 1 ≤ o && byteAt x.args o != 0).map (fun o => (o, 0)) = none := by
  rw [Option.map_eq_none_iff, List.find?_eq_none]
  intro o ho hbad
  simp only [Bool.and_eq_true, decide_eq_true_eq, bne_iff_ne] at hbad
  exact hbad.2 (hzero o hbad.1 (List.mem_range.1 ho))

/-! ### CAM.CONFIG (R103, R117) -/

/-- CAM.CONFIG in the command catalogue (Table 4.4). -/
abbrev camConfigCmd : Cmd := { code := 0x0401, cls := 1, len := 17, args := [{ off := 0, hi := 15 }, { off := 1, lo := 1, hi := 2 },
  { off := 2, hi := 2 }, { off := 3, hi := 3 }, { off := 4 }, { off := 5, mask := 15 }, { off := 6, n := 2 }, { off := 8, n := 2 },
  { off := 10, lo := 1, hi := 4 }, { off := 12, n := 5 }] }

/-- A configuration for a port that streams: its head is told to stop, and the end of its frame applies it (R117). -/
def State.configAfterFrame (p : Nat) (cfg : CamCfg) (s : State) : State :=
  let u := ((s.headByte p 0x10 0).modPort p fun x => { x with nextCfg := some cfg }).awaitFrame p
  if (s.camFlow p).frame.isSome then u else u.finishConfig p

/-- An update of a port's flow that leaves its frame alone. -/
theorem modFlow_frame {p : Nat} {g : CamFlow → CamFlow} (hg : ∀ f, (g f).frame = f.frame) (s : State) :
    ((s.modFlow p g).camFlow p).frame = (s.camFlow p).frame := by
  simp only [State.camFlow, State.modFlow, State.modCam_cam, List.getD_eq_getElem?_getD, List.getElem?_modify_eq]
  cases s.cam.flows[p]? with
  | none => rfl
  | some f => exact hg f

theorem awaitFrame_frame (p : Nat) (s : State) : ((s.awaitFrame p).camFlow p).frame = (s.camFlow p).frame := by
  rw [State.awaitFrame, modFlow_frame]
  exact fun _ => rfl

theorem sendReq_frame (p kind : Nat) (payload : Bytes) (limit : Nat) (s : State) :
    ((s.sendReq p kind payload limit).camFlow p).frame = (s.camFlow p).frame := by
  rw [State.sendReq, modFlow_frame]
  · rfl
  · exact fun _ => rfl

/-- A port whose head is told to stop keeps the frame it receives. -/
theorem stopHead_frame (p : Nat) (cfg : CamCfg) (s : State) :
    ((((s.headByte p 0x10 0).modPort p fun x => { x with nextCfg := some cfg }).awaitFrame p).camFlow p).frame = (s.camFlow p).frame :=
  (awaitFrame_frame p _).trans (sendReq_frame p 1 _ 0 s)

section
variable (h : Accepts s m camConfigCmd) (hp : (s.taken m).hasPort (byteAt (s.argsOf m) 0) = true)
  (hd : byteAt (s.argsOf m) 4 ∈ dataTypes)
  (hc : capacityOk (byteAt (s.argsOf m) 1) (byteAt (s.argsOf m) 2) (u16At (s.argsOf m) 6) (u16At (s.argsOf m) 8) (byteAt (s.argsOf m) 4)
    ((s.taken m).framePeriod0 * byteAt (s.argsOf m) 10) = true)
  (hr : a40At (s.argsOf m) 12 = 0 ∨ ((s.taken m).regionAt (a40At (s.argsOf m) 12)).isSome = true)
include h hp hd hc hr

/-- A configuration that fits is taken according to what the port does. -/
theorem exec_camConfig_fits : let t := s.taken m
    let p := byteAt (s.argsOf m) 0
    let cfg := camCfgOf (s.argsOf m) 1 6 (a40At (s.argsOf m) 12)
    exec (.camConfig m) s = done (State.reply (camConfigCmd.ctx m.code (s.frontSlot m.code)) t
      (if t.configRuns p then (t, .busy (unitPort p))
        else if (t.camPort p).state == 5 then (t.configAfterFrame p cfg, .ok []) else (t.configPort p cfg, .ok []))) := by
  have hregion : (a40At (s.argsOf m) 12 != 0 && ((s.taken m).regionAt (a40At (s.argsOf m) 12)).isNone) = false := by
    rcases hr with hr | hr <;> simp [hr]
  refine congrArg done ((runCmd_body h rfl (absentIn_none hp) (by simp [hd, hc, hregion])).trans ?_)
  simp only [ctx_u8, ctx_args, ctx_a40, stopHead_frame]
  rfl

theorem exec_camConfig_busy (hb : (s.taken m).configRuns (byteAt (s.argsOf m) 0) = true) :
    exec (.camConfig m) s = .next (errAfter s m 0x0401 stBusy 0xFF 0 (unitPort (byteAt (s.argsOf m) 0))) := by
  rw [exec_camConfig_fits h hp hd hc hr, if_pos hb]
  rfl

theorem exec_camConfig_idle (hb : (s.taken m).configRuns (byteAt (s.argsOf m) 0) = false)
    (hs : ((s.taken m).camPort (byteAt (s.argsOf m) 0)).state ≠ 5) :
    exec (.camConfig m) s = .next (okAfter s m 0x0401 []
      ((s.taken m).configPort (byteAt (s.argsOf m) 0) (camCfgOf (s.argsOf m) 1 6 (a40At (s.argsOf m) 12)))) := by
  rw [exec_camConfig_fits h hp hd hc hr, hb, if_neg Bool.false_ne_true, if_neg (mt eq_of_beq hs)]
  rfl

theorem exec_camConfig_streaming (hb : (s.taken m).configRuns (byteAt (s.argsOf m) 0) = false)
    (hs : ((s.taken m).camPort (byteAt (s.argsOf m) 0)).state = 5) :
    exec (.camConfig m) s = .next (okAfter s m 0x0401 []
      ((s.taken m).configAfterFrame (byteAt (s.argsOf m) 0) (camCfgOf (s.argsOf m) 1 6 (a40At (s.argsOf m) 12)))) := by
  rw [exec_camConfig_fits h hp hd hc hr, hb, if_neg Bool.false_ne_true, if_pos (beq_iff_eq.2 hs)]
  rfl

end

/-! ### CAM.PROFILE_SET (R115) -/

/-- CAM.PROFILE_SET in the command catalogue (Table 4.4). -/
abbrev camProfileSetCmd : Cmd := { code := 0x0404, cls := 1, bulk := some 0, len := 17, args := [{ off := 16, hi := 31 }] }

/-- A well-formed profile that no change of a port and no operation on its slot stands against is pending for 50 ms. -/
theorem exec_camProfileSet_pend (h : Accepts s m camProfileSetCmd) (hf : BulkFits s m camProfileSetCmd) (hlen : s.bulkLen m = 512)
    (hbad : profileBad ((s.takenBulk m).devRead (s.bulkAt m) 512) = false)
    (hop : ((s.taken m).opOn 0x0404 fun x => byteAt x 16 == byteAt (s.argsOf m) 16) = false)
    (hports : ∀ q < 16, (s.taken m).configRuns q = true →
      profileMatches ((s.taken m).camPort q).headId ((s.takenBulk m).devRead (s.bulkAt m) 512) = false)
    (hn : s.pendingCount m.code < 16) :
    exec (.camProfileSet m) s = .next (pendAfter s m 0x0404 50000000 0 (s.takenBulk m)) := by
  have hsize : u32At (s.argsOf m) 8 = 512 := hlen
  have hchange : ((List.range 16).find? fun q => (s.takenBulk m).configRuns q &&
      profileMatches ((s.takenBulk m).camPort q).headId ((s.takenBulk m).devRead (s.bulkAt m) 512)) = none := by
    refine List.find?_eq_none.2 fun q hq hmatch => ?_
    rw [Bool.and_eq_true] at hmatch
    exact absurd hmatch.2 (Bool.eq_false_iff.1 (hports q (List.mem_range.1 hq) hmatch.1))
  have hslot : ((s.takenBulk m).opOn 0x0404 fun x => byteAt x 16 == byteAt (s.argsOf m) 16) = false := hop
  exact exec_pend_bulk h hf rfl hn rfl (by simp [hsize]) (by simp [ctx_bulk, hlen, hbad, hslot, hchange, ms])

/-- Settles O4: the register commands by whether the link takes messages, CAM.CONFIG by what its port does. -/
theorem headCommands : Obligations.HeadCommands := by
  refine ⟨fun m s => ⟨exec_camQuery_ok, ?read, ?write⟩, fun m s => ⟨?config, exec_camProfileSet_pend⟩⟩
  case read =>
    intro h hp
    exact exec_requestHead (exec_camHeadRead m s) h rfl hp rfl rfl
  case write =>
    intro h hp hzero
    exact exec_requestHead (exec_camHeadWrite m s) h rfl hp (camHeadWrite_argsZero (by simpa using hzero)) rfl
  case config =>
    intro h hp hd hc hr
    exact ⟨exec_camConfig_busy h hp hd hc hr, exec_camConfig_idle h hp hd hc hr, exec_camConfig_streaming h hp hd hc hr⟩

end Sys2Proof.Machine
end

section
/-! SUPPORT. Requests to a head and their answers, the frames a camera sends, ALIGN and the FSYNC generator (R106 to R112, R121,
R123). -/

namespace Sys2Proof.Machine

variable {port tag index status : Nat} {number : W16} {data : List W8} {credits : Bool} {r : RevReq} {f : CamFrame} {s : State}

theorem exec_headAck (port tag status : Nat) (s : State) : exec (.headAck port tag status) s = execHeadAck port tag status s := rfl
theorem exec_regResp (port tag index status : Nat) (data : List W8) (s : State) :
    exec (.regResp port tag index status data) s = execRegResp port tag index status data s := rfl
theorem exec_headAnswerTimeout (port : Nat) (s : State) : exec (.headAnswerTimeout port) s = execHeadAnswerTimeout port s := rfl
theorem exec_csi2FrameStart (port : Nat) (number : W16) (credits : Bool) (s : State) :
    exec (.csi2FrameStart port number credits) s = execCsi2FrameStart port number credits s := rfl
theorem exec_csi2FrameEnd (port : Nat) (number : W16) (s : State) : exec (.csi2FrameEnd port number) s = execCsi2FrameEnd port number s := rfl
theorem exec_csi2ImageLine (port vc : Nat) (crcOk credits : Bool) (data : List W8) (s : State) :
    exec (.csi2ImageLine port vc crcOk credits data) s = execCsi2ImageLine port vc crcOk credits data s := rfl
theorem exec_csi2EmbeddedLine (port : Nat) (crcOk : Bool) (data : List W8) (s : State) :
    exec (.csi2EmbeddedLine port crcOk data) s = execCsi2EmbeddedLine port crcOk data s := rfl
theorem exec_alignBlock (port lane : Nat) (count : W16) (skew : Nat) (s : State) :
    exec (.alignBlock port lane count skew) s = execAlignBlock port lane count skew s := rfl
theorem exec_fsyncTick (s : State) : exec .fsyncTick s = execFsyncTick s := rfl

/-! ### The flow of a port -/

theorem camFlow_modFlow_same (hp : port < s.cam.flows.length) (g : CamFlow → CamFlow) :
    (s.modFlow port g).camFlow port = g (s.camFlow port) := by
  simp [State.camFlow, State.modFlow, List.getD_eq_getElem?_getD, hp]

/-- A port that is not there has no request. -/
theorem lt_flows_of_findReq (h : s.findReq port tag = some r) : port < s.cam.flows.length := by
  by_contra hp
  have hnone : s.camFlow port = {} := List.getD_eq_default _ _ (not_lt.1 hp)
  rw [State.findReq, hnone] at h
  exact nomatch h

/-! ### Answers of a head (R108, R109) -/

/-- An answer to no request changes nothing. -/
theorem exec_headAck_unknown (h : s.findReq port tag = none) : exec (.headAck port tag status) s = .next s.settle := by
  rw [exec_headAck, execHeadAck, h]
  rfl

theorem exec_regResp_unknown (h : s.findReq port tag = none) : exec (.regResp port tag index status data) s = .next s.settle := by
  rw [exec_regResp, execRegResp, h]
  rfl

/-- A block of a read's data replaces the one of its index. -/
def RevReq.withBlock (index : Nat) (data : List W8) (q : RevReq) : RevReq :=
  { q with data := q.data.filter (·.1 != index) ++ [(index, pad 4 data)] }

theorem find_withBlock (q : RevReq) : (q.withBlock index data).data.find? (·.1 == index) = some (index, pad 4 data) := by
  rw [RevReq.withBlock, List.find?_append, List.find?_filter, List.find?_eq_none.2]
  · simp
  · simp

section
variable (h : s.findReq port tag = some r)
include h

/-- What an ACK does to a request other than a read, by its status. -/
theorem exec_headAck_request (hk : r.kind ≠ 2) :
    exec (.headAck port tag status) s = done (match status with
      | 0 => if r.limit != 0 then (s.dropReq port tag).answerHead stOk [] else s.dropReq port tag
      | 1 => s.retryReq port r
      | _ => s.retryReq port { r with resends := 2 }) := by
  rw [exec_headAck, execHeadAck, h]
  exact congrArg done (if_neg (mt eq_of_beq hk))

theorem exec_headAck_command (hk : r.kind ≠ 2) (hl : r.limit ≠ 0) :
    exec (.headAck port tag 0) s = .next ((s.dropReq port tag).answerHead stOk []).settle := by
  rw [exec_headAck_request h hk, done_next]
  simp [hl]

theorem exec_headAck_own (hk : r.kind ≠ 2) (hl : r.limit = 0) : exec (.headAck port tag 0) s = .next (s.dropReq port tag).settle := by
  rw [exec_headAck_request h hk, done_next]
  simp [hl]

/-- A request that came corrupted is sent again. -/
theorem exec_headAck_again (hk : r.kind ≠ 2) : exec (.headAck port tag 1) s = .next (s.retryReq port r).settle := by
  rw [exec_headAck_request h hk]
  rfl

/-- No attempt can mend any other answer. -/
theorem exec_headAck_badAddress (hk : r.kind ≠ 2) (hs : 1 < status) :
    exec (.headAck port tag status) s = .next (s.retryReq port { r with resends := 2 }).settle := by
  rw [exec_headAck_request h hk]
  match status, hs with
  | _ + 2, _ => rfl

/-- A read whose answer says that the request came corrupted is sent again. -/
theorem exec_regResp_again (hk : r.kind = 2) : exec (.regResp port tag index 1 data) s = .next (s.retryReq port r).settle := by
  rw [exec_regResp, execRegResp, h]
  exact congrArg done (if_neg (by simp [hk]))

/-- The request of a tag after an update that keeps the tags. -/
theorem findReq_modReq {g : RevReq → RevReq} (hg : ∀ q, (g q).tag = q.tag) : (s.modReq port tag g).findReq port tag = some (g r) := by
  have htag : r.tag = tag := by simpa using List.find?_some h
  have hkeep : (fun q : RevReq => (if q.tag == tag then g q else q).tag == tag) = fun q => q.tag == tag := by
    funext q
    split <;> simp [hg]
  rw [State.findReq, State.modReq, camFlow_modFlow_same (lt_flows_of_findReq h), List.find?_map]
  change (((s.camFlow port).req.find? fun q => (if q.tag == tag then g q else q).tag == tag).map _) = _
  rw [hkeep, show (s.camFlow port).req.find? (fun q => q.tag == tag) = some r from h]
  simp [htag]

/-- A read of `n` bytes ends once every block of it is there. -/
def State.endReadIfWhole (port tag n : Nat) (s : State) : State :=
  let got := match s.findReq port tag with | some q => q.data | none => []
  if (List.range ((n + 3) / 4)).all fun i => got.any (·.1 == i) then
    (s.dropReq port tag).answerHead stOk (((List.range ((n + 3) / 4)).flatMap fun i =>
      match got.find? (·.1 == i) with | some d => d.2 | none => []).take n)
  else s

/-- A block of a read joins those that have come. -/
theorem exec_regResp_block (hk : r.kind = 2) : exec (.regResp port tag index 0 data) s =
    done ((s.modReq port tag (RevReq.withBlock index data)).endReadIfWhole port tag (byteAt r.msg 5)) := by
  rw [exec_regResp, execRegResp, h]
  exact congrArg done (if_neg (by simp [hk]))

/-- A read of at most four bytes is whole with its block 0. -/
theorem endReadIfWhole_of_block {n : Nat} {d : List W8} (hmax : n ≤ 4) (hmin : 1 ≤ n) (hdata : r.data.find? (·.1 == 0) = some (0, d)) :
    s.endReadIfWhole port tag n = (s.dropReq port tag).answerHead stOk (d.take n) := by
  have hblocks : (n + 3) / 4 = 1 := by omega
  have hany : r.data.any (·.1 == 0) = true := List.any_eq_true.2 ⟨_, List.mem_of_find?_eq_some hdata, rfl⟩
  simp [State.endReadIfWhole, h, hblocks, hany, hdata]

theorem exec_regResp_complete (hk : r.kind = 2) (hmax : byteAt r.msg 5 ≤ 4) (hmin : 1 ≤ byteAt r.msg 5) :
    exec (.regResp port tag 0 0 data) s = .next (((s.modReq port tag (RevReq.withBlock 0 data)).dropReq port tag).answerHead
      stOk ((pad 4 data).take (byteAt r.msg 5))).settle := by
  have hnew : (s.modReq port tag (RevReq.withBlock 0 data)).findReq port tag = some (r.withBlock 0 data) :=
    findReq_modReq h fun _ => rfl
  rw [exec_regResp_block h hk, endReadIfWhole_of_block hnew hmax hmin (find_withBlock r), done]

end

/-- The earliest of the answer windows, where it is the first. -/
theorem foldl_earliest {rest : List RevReq} (h : ∀ x ∈ rest, r.window ≤ x.window) :
    rest.foldl (fun b x => if x.window < b.window then x else b) r = r :=
  List.foldlRecOn (motive := (· = r)) _ _ rfl fun b hb x hx => by rw [hb, if_neg (not_lt.2 (h x hx))]

/-- A request whose answer stays out is sent again at the end of the earliest window. -/
theorem exec_headAnswerTimeout_due {rest : List RevReq} (hr : (s.camFlow port).req = r :: rest) (h : ∀ x ∈ rest, r.window ≤ x.window) :
    exec (.headAnswerTimeout port) s = .next ((s.timeTo r.window).retryReq port r).settle := by
  rw [exec_headAnswerTimeout, execHeadAnswerTimeout, hr]
  simp only [foldl_earliest h, done]

theorem exec_headAnswerTimeout_idle (hr : (s.camFlow port).req = []) : exec (.headAnswerTimeout port) s = .next s.settle := by
  rw [exec_headAnswerTimeout, execHeadAnswerTimeout, hr]
  rfl

/-! ### The start and the end of a frame (R112, R121, R123) -/

/-- A port without a frame in progress has none to end. -/
theorem portFrameEnd_of_none (h : (s.camFlow port).frame = none) (cut : Bool) : s.portFrameEnd port cut = s := by
  rw [State.portFrameEnd, h]

theorem exec_csi2FrameStart_notStreaming (h : (s.camPort port).state ≠ 5) :
    exec (.csi2FrameStart port number credits) s = .next s.settle := by
  rw [exec_csi2FrameStart, execCsi2FrameStart, beq_eq_false_iff_ne.2 h]
  rfl

/-- The header of a frame start is noted. -/
def State.noteStart (port : Nat) (number : W16) (s : State) : State :=
  s.modFlow port fun f => { f with lastFrameNum := number, lastStart := s.time }

/-- A frame start that is the second after its tick, on a port that ticks drive. -/
def State.secondStart (port : Nat) (s : State) : Bool := (s.camPort port).cfg.fsyncEn && (s.camFlow port).startSeen

/-- The pipeline that an in-line frame of a port goes to, none for the second frame after a tick. -/
def State.frameInline (port : Nat) (s : State) : State × Option Nat := if s.secondStart port then (s, none) else s.inlineAt port

/-- The frame that starts on a port, in stream `gen`. -/
def State.newFrame (port : Nat) (credits : Bool) (gen : Nat) (s : State) : CamFrame :=
  let c := (s.camPort port).cfg
  let u := (s.frameInline port).1
  { seq := if c.fsyncEn then (s.camFlow port).lastTick.getD 0 else (s.camFlow port).freeSeq + 1, start := u.time,
    dropped := s.secondStart port || !credits, extra := s.secondStart port, gen := gen, buf := u.rawBuf port,
    inline := (s.frameInline port).2, fed := u.maskPipe port, w := c.width, h := c.height, dt := c.dataType, pad := c.shortPad }

/-- The flow of a port whose frame starts. -/
def State.openFrame (port : Nat) (credits : Bool) (s : State) : State :=
  (s.frameInline port).1.modFlow port fun y =>
    { y with startSeen := true, freeSeq := y.freeSeq + 1, frame := some (s.newFrame port credits y.gen) }

theorem exec_csi2FrameStart_streaming (h : (s.camPort port).state = 5) (hz : (s.camFlow port).frame = none) :
    exec (.csi2FrameStart port number credits) s = .next ((s.noteStart port number).openFrame port credits).settle := by
  have hnote : ((s.noteStart port number).camPort port).state = 5 := h
  rw [exec_csi2FrameStart, execCsi2FrameStart, beq_iff_eq.2 h, State.when_true, portFrameEnd_of_none hz]
  change done ((s.noteStart port number).when (((s.noteStart port number).camPort port).state == 5) _) = _
  rw [hnote]
  rfl

/-- The choice of the in-line pipeline leaves the ports, their flows and the time. -/
theorem inlineAt_cam_time (port : Nat) (s : State) : (s.inlineAt port).1.cam = s.cam ∧ (s.inlineAt port).1.time = s.time := by
  unfold State.inlineAt
  dsimp only
  split <;> exact ⟨rfl, rfl⟩

theorem frameInline_cam_time (port : Nat) (s : State) : (s.frameInline port).1.cam = s.cam ∧ (s.frameInline port).1.time = s.time := by
  unfold State.frameInline
  split
  · exact ⟨rfl, rfl⟩
  · exact inlineAt_cam_time port s

/-- A frame that starts is the flow's, with the header's number. -/
theorem openFrame_flow (hp : port < s.cam.flows.length) : let z := s.camFlow port
    (s.openFrame port credits).camFlow port =
      { z with startSeen := true, freeSeq := z.freeSeq + 1, frame := some (s.newFrame port credits z.gen) } := by
  have hcam := (frameInline_cam_time port s).1
  rw [State.openFrame, camFlow_modFlow_same (by rwa [hcam])]
  simp only [State.camFlow, hcam]

theorem noteStart_flow (hp : port < s.cam.flows.length) :
    (s.noteStart port number).camFlow port = { s.camFlow port with lastFrameNum := number, lastStart := s.time } :=
  camFlow_modFlow_same hp _

/-- A settled state has the flows it had. -/
theorem settle_camFlow (port : Nat) (s : State) : s.settle.camFlow port = s.camFlow port := by
  rw [State.camFlow, State.settle_cam, State.camFlow]

/-- The frame and the flow after a frame start of a port that streams. -/
theorem csi2FrameStart_begins (h : (s.camPort port).state = 5) (hz : (s.camFlow port).frame = none) (hp : port < s.cam.flows.length) :
    let z := s.camFlow port
    ∃ t, exec (.csi2FrameStart port number credits) s = .next t ∧ (t.camFlow port).lastFrameNum = number ∧
      (t.camFlow port).startSeen = true ∧ ∃ f, (t.camFlow port).frame = some f ∧ f.start = s.time ∧
        f.seq = (if (s.camPort port).cfg.fsyncEn then z.lastTick.getD 0 else z.freeSeq + 1) ∧
        f.dropped = (((s.camPort port).cfg.fsyncEn && z.startSeen) || !credits) := by
  have hnote := noteStart_flow (number := number) hp
  have hopen : ((s.noteStart port number).openFrame port credits).camFlow port = _ :=
    openFrame_flow (by simpa [State.noteStart, State.modFlow] using hp)
  refine ⟨_, exec_csi2FrameStart_streaming h hz, ?_⟩
  rw [settle_camFlow, hopen, hnote]
  refine ⟨rfl, rfl, _, rfl, (frameInline_cam_time port _).2, ?_, ?_⟩
  · rw [State.newFrame, hnote]
    rfl
  · rw [State.newFrame, State.secondStart, hnote]
    rfl

/-- The number of a frame end is noted. -/
def State.noteNumber (port : Nat) (number : W16) (s : State) : State := s.modFlow port fun f => { f with lastFrameNum := number }

theorem exec_csi2FrameEnd_orphan (h : ((s.noteNumber port number).camFlow port).frame = none) :
    exec (.csi2FrameEnd port number) s =
      .next ((s.noteNumber port number).modFlow port fun f => { f with orphanEnds := f.orphanEnds + 1 }).settle := by
  rw [State.noteNumber] at h
  rw [exec_csi2FrameEnd, execCsi2FrameEnd]
  simp only [h, done, State.noteNumber]

theorem exec_csi2FrameEnd_frame (h : ((s.noteNumber port number).camFlow port).frame.isSome = true) :
    exec (.csi2FrameEnd port number) s = .next ((s.noteNumber port number).portFrameEnd port false).settle := by
  obtain ⟨f, hf⟩ := Option.isSome_iff_exists.1 h
  rw [State.noteNumber] at hf
  rw [exec_csi2FrameEnd, execCsi2FrameEnd]
  simp only [hf, done, State.noteNumber]

/-! ### Lines and packets (R107, R121, R123) -/

/-- `f` becomes the frame in progress of a port. -/
def State.setFrame (port : Nat) (f : CamFrame) (s : State) : State := s.modFlow port fun y => { y with frame := some f }

theorem exec_csi2ImageLine_otherChannel {vc : Nat} {crcOk : Bool} (h : vc ≠ (s.camPort port).cfg.vc) :
    exec (.csi2ImageLine port vc crcOk credits data) s = .next (s.modFlow port fun f => { f with discarded := f.discarded + 1 }).settle := by
  rw [exec_csi2ImageLine, execCsi2ImageLine, if_pos (bne_iff_ne.2 h)]
  rfl

section
variable (hf : (s.camFlow port).frame = some f) (hd : f.dropped = false) (he : f.ended = false)
include hf hd he

/-- What a good line of a frame's channel does while the frame's data are valid. -/
theorem exec_csi2ImageLine_valid : exec (.csi2ImageLine port (s.camPort port).cfg.vc true credits data) s = done
    (if data.length != lineBytes f.w f.dt then s.setFrame port { f with ended := true }
      else if f.h ≤ f.lines then s.setFrame port { f with lines := f.lines + 1 }
      else if !credits then (s.setFrame port { f with dropped := true, rows := [] }).dropFrame port f.seq
      else
        let g := { f with lines := f.lines + 1, rows := f.rows ++ [unpackLine f.w f.dt data] }
        let u := s.rawWrite port f data
        if g.lines == g.h then (u.setFrame port { g with given := true }).handOver port (g.toRaw port 0) true else u.setFrame port g) := by
  rw [exec_csi2ImageLine, execCsi2ImageLine, if_neg (by simp)]
  simp only [State.countCrc, if_true, hf, hd, he, Bool.or_self, Bool.false_eq_true, if_false]
  rfl

/-- A line of another length ends the valid lines. -/
theorem exec_csi2ImageLine_badLength (hl : data.length ≠ lineBytes f.w f.dt) :
    exec (.csi2ImageLine port (s.camPort port).cfg.vc true credits data) s = .next (s.setFrame port { f with ended := true }).settle := by
  rw [exec_csi2ImageLine_valid hf hd he, if_pos (bne_iff_ne.2 hl), done]

/-- A line that is not the frame's last goes to the raw buffer of a memory-fed frame and into the frame. -/
theorem exec_csi2ImageLine_taken (hl : data.length = lineBytes f.w f.dt) (hh : f.lines + 1 < f.h) :
    exec (.csi2ImageLine port (s.camPort port).cfg.vc true true data) s = .next ((s.rawWrite port f data).setFrame port
      { f with lines := f.lines + 1, rows := f.rows ++ [unpackLine f.w f.dt data] }).settle := by
  rw [exec_csi2ImageLine_valid hf hd he, if_neg (by simp [hl]), if_neg (by omega), if_neg (by simp)]
  simp only [beq_eq_false_iff_ne.2 hh.ne, Bool.false_eq_true, if_false, done]

/-- A line without write credits drops its frame. -/
theorem exec_csi2ImageLine_noCredits (hl : data.length = lineBytes f.w f.dt) (hh : f.lines < f.h) :
    exec (.csi2ImageLine port (s.camPort port).cfg.vc true false data) s =
      .next ((s.setFrame port { f with dropped := true, rows := [] }).dropFrame port f.seq).settle := by
  rw [exec_csi2ImageLine_valid hf hd he, if_neg (by simp [hl]), if_neg (not_le.2 hh)]
  rfl

end

/-- The first embedded line before the image lines is kept. -/
theorem exec_csi2EmbeddedLine_first (hf : (s.camFlow port).frame = some f) (hl : f.lines = 0) (he : f.embedded = none) :
    exec (.csi2EmbeddedLine port true data) s = .next (s.setFrame port { f with embedded := some data }).settle := by
  rw [exec_csi2EmbeddedLine, execCsi2EmbeddedLine]
  simp only [State.countCrc, if_true, hf, hl, he]
  rfl

/-! ### ALIGN (R106) -/

/-- The ALIGN count of a lane is noted. -/
def State.noteAlign (port lane : Nat) (count : W16) (s : State) : State :=
  s.modFlow port fun f => { f with laneCount := f.laneCount.set lane (some count), alignCount := count }

/-- The other lane of two shows a gap: its last ALIGN lies two counts or more back, or has not come by this lane's second. -/
def State.alignGap (port lane : Nat) (count : W16) (before : Option W16) (s : State) : Bool :=
  match (s.camFlow port).laneCount.getD (1 - lane) none with
  | some c => (s.camPort port).runLanes == 2 && 2 ≤ (count - c).toNat && (count - c).toNat < 32768
  | none => (s.camPort port).runLanes == 2 && before.isSome

section
variable {lane skew : Nat} {count : W16} (h : s.linkIdleUp port = true)
include h

theorem exec_alignBlock_up : exec (.alignBlock port lane count skew) s =
    let u := s.noteAlign port lane count
    done (if 16 * 66 < skew then u.lockFault port lane 0
      else if u.alignGap port lane count ((s.camFlow port).laneCount.getD lane none) then u.lockFault port (1 - lane) 0 else u) := by
  rw [exec_alignBlock, execAlignBlock, h]
  rfl

theorem exec_alignBlock_skew (hs : 16 * 66 < skew) :
    exec (.alignBlock port lane count skew) s = .next ((s.noteAlign port lane count).lockFault port lane 0).settle := by
  rw [exec_alignBlock_up h]
  exact congrArg done (if_pos hs)

theorem exec_alignBlock_noGap (hs : skew ≤ 16 * 66)
    (hg : (s.noteAlign port lane count).alignGap port lane count ((s.camFlow port).laneCount.getD lane none) = false) :
    exec (.alignBlock port lane count skew) s = .next (s.noteAlign port lane count).settle := by
  rw [exec_alignBlock_up h]
  simp only [if_neg (not_lt.2 hs), hg, Bool.false_eq_true, if_false, done]

theorem exec_alignBlock_gap (hs : skew ≤ 16 * 66)
    (hg : (s.noteAlign port lane count).alignGap port lane count ((s.camFlow port).laneCount.getD lane none) = true) :
    exec (.alignBlock port lane count skew) s = .next ((s.noteAlign port lane count).lockFault port (1 - lane) 0).settle := by
  rw [exec_alignBlock_up h]
  simp only [if_neg (not_lt.2 hs), hg, if_true, done]

end

/-- One lane shows no gap. -/
theorem alignGap_oneLane {lane : Nat} {count : W16} {before : Option W16} (h : (s.camPort port).runLanes = 1) :
    s.alignGap port lane count before = false := by
  rw [State.alignGap, h]
  split <;> rfl

/-- A lane whose ALIGN never came shows at the second of the other. -/
theorem alignGap_missing {lane : Nat} {count c : W16} (h : (s.camPort port).runLanes = 2) (hlane : lane < 2) (hp : port < s.cam.flows.length)
    (hcount : (s.camFlow port).laneCount = [some c, none] ∨ (s.camFlow port).laneCount = [none, some c])
    (hc : (s.camFlow port).laneCount.getD lane none = some c) :
    (s.noteAlign port lane count).alignGap port lane count (some c) = true := by
  have hother : ((s.noteAlign port lane count).camFlow port).laneCount.getD (1 - lane) none = none := by
    rw [State.noteAlign, camFlow_modFlow_same hp]
    interval_cases lane
    · rcases hcount with hcount | hcount
      · simp [hcount]
      · simp [hcount] at hc
    · rcases hcount with hcount | hcount
      · simp [hcount] at hc
      · simp [hcount]
  rw [State.alignGap, hother]
  exact congrArg (· == 2 && true) h

/-! ### The FSYNC generator (R110, R111) -/

/-- A tick at one port leaves the generator and the time. -/
theorem tickPort_keeps (n : W32) (sent : Bool) (port : Nat) (s : State) :
    (s.tickPort n sent port).cam.tickAt = s.cam.tickAt ∧ (s.tickPort n sent port).time = s.time := by
  unfold State.tickPort
  dsimp only
  split
  · exact ⟨rfl, rfl⟩
  · split <;> exact ⟨rfl, rfl⟩

theorem reserveOwn_cam_time (s : State) : s.reserveOwn.cam = s.cam ∧ s.reserveOwn.time = s.time := ⟨rfl, rfl⟩

/-- A new epoch leaves the camera ports and the time. -/
theorem newEpoch_cam_time (n : W32) (s : State) : (s.newEpoch n).cam = s.cam ∧ (s.newEpoch n).time = s.time := by
  rw [State.newEpoch, (reserveOwn_cam_time _).1, (reserveOwn_cam_time _).2]
  induction List.range 16 using List.reverseRecOn with
  | nil => exact ⟨rfl, rfl⟩
  | append_singleton l port ih =>
    rw [List.foldl_append, List.foldl_cons, List.foldl_nil]
    split <;> exact ih

/-- A new epoch begins only at a tick that is sent. -/
theorem when_newEpoch_cam_time (sent : Bool) (n : W32) (s : State) :
    (s.when sent (·.newEpoch n)).cam = s.cam ∧ (s.when sent (·.newEpoch n)).time = s.time := by
  cases sent with
  | true => exact newEpoch_cam_time n s
  | false => exact ⟨rfl, rfl⟩

/-- The ports take the tick `n` of time `t0`. -/
def State.tickAll (n : W32) (t0 p : Nat) (s : State) : State :=
  (List.range 16).foldl (fun u port => u.tickPort n ((s.timeTo t0).tickSent t0 p) port) (s.timeTo t0)

theorem tickAll_keeps (n : W32) (t0 p : Nat) (s : State) :
    (s.tickAll n t0 p).cam.tickAt = s.cam.tickAt ∧ (s.tickAll n t0 p).time = max t0 s.time := by
  rw [State.tickAll]
  induction List.range 16 using List.reverseRecOn with
  | nil => exact ⟨rfl, rfl⟩
  | append_singleton l port ih =>
    obtain ⟨hat, htime⟩ := ih
    rw [List.foldl_append, List.foldl_cons, List.foldl_nil, (tickPort_keeps ..).1, (tickPort_keeps ..).2]
    exact ⟨hat, htime⟩

theorem exec_fsyncTick_due {n : W32} {t0 p : Nat} (h : s.nextTick = some (n, t0, p)) :
    exec .fsyncTick s = .next (((s.tickAll n t0 p).modCam fun c => { c with tick := n, tickAt := max t0 c.tickAt, ticked := true }).when
      ((s.timeTo t0).tickSent t0 p) (·.newEpoch n)).settle := by
  rw [exec_fsyncTick, execFsyncTick, h]
  rfl

/-- The generator's next tick moves its number and its time. -/
theorem fsyncTick_moves {n : W32} {t0 p : Nat} (h : s.nextTick = some (n, t0, p)) :
    ∃ t, exec .fsyncTick s = .next t ∧ t.cam.tick = n ∧ t.cam.ticked = true ∧ t.cam.tickAt = max t0 s.cam.tickAt ∧ t.time = max t0 s.time := by
  obtain ⟨hat, htime⟩ := tickAll_keeps n t0 p s
  obtain ⟨hcam, hnow⟩ := when_newEpoch_cam_time ((s.timeTo t0).tickSent t0 p) n
    ((s.tickAll n t0 p).modCam fun c => { c with tick := n, tickAt := max t0 c.tickAt, ticked := true })
  refine ⟨_, exec_fsyncTick_due h, ?_⟩
  rw [State.settle_cam, State.settle_time, hcam, hnow, State.modCam_cam, State.modCam_time, hat, htime]
  exact ⟨rfl, rfl, rfl, rfl⟩

/-- Settles O7, a lemma for each clause. -/
theorem cameraTraffic : Obligations.CameraTraffic := by
  refine ⟨fun port tag index status data s => ⟨fun h => ⟨exec_headAck_unknown h, exec_regResp_unknown h⟩, fun r h hk => ?ack,
      fun r h hk hmax hmin => exec_regResp_complete h hk hmax hmin, fun r h hk => exec_regResp_again h hk,
      fun r rest => exec_headAnswerTimeout_due, exec_headAnswerTimeout_idle⟩,
    fun port number data s => ⟨fun h _ => exec_csi2FrameStart_notStreaming h, fun h hz hp _ => csi2FrameStart_begins h hz hp,
      ⟨exec_csi2FrameEnd_orphan, exec_csi2FrameEnd_frame⟩, fun _ _ _ => exec_csi2ImageLine_otherChannel,
      fun f _ => exec_csi2ImageLine_badLength, fun f => exec_csi2ImageLine_taken, fun f => exec_csi2ImageLine_noCredits,
      fun f => exec_csi2EmbeddedLine_first, fun why => rfl, fun lane count skew hl h1 hs => exec_alignBlock_noGap hl hs (alignGap_oneLane h1),
      fun lane count skew => exec_alignBlock_skew, ?missing, fun f t0 p => fsyncTick_moves⟩⟩
  case ack =>
    exact ⟨exec_headAck_command h hk, exec_headAck_own h hk, exec_headAck_again h hk, exec_headAck_badAddress h hk⟩
  case missing =>
    intro lane count skew c hl h2 hs hlane hp hcount hc
    exact exec_alignBlock_gap hl hs (by rw [hc]; exact alignGap_missing h2 hlane hp hcount hc)

end Sys2Proof.Machine
end

section
/-! SUPPORT. The ISP commands: the query, the statistics, the loop's settings, contexts, slot masks and taps (Table 4.2, R132, R135,
R136, R144, R148, R150). -/

namespace Sys2Proof.Machine

variable {m : Master} {s : State}

/-! ### Queries and the loop's settings (R148, R150) -/

theorem exec_ispQuery_ok (h : Accepts s m { code := 0x0500, cls := 0, len := 1, args := [{ off := 0, hi := 3 }] })
    (hi : (s.taken m).hasPipe (byteAt (s.argsOf m) 0) = true) : let t := s.taken m
    let y := t.pipe (byteAt (s.argsOf m) 0)
    exec (.ispQuery m) s = .next (okAfter s m 0x0500
      (le 1 y.inline ++ le 1 (match y.tap with | some t => t.point | none => 255) ++ le 2 y.mask.toNat ++ le 4 t.isp.epoch.toNat
        ++ (List.range 4).flatMap (fun j => le 4 (y.processed.getD j 0).toNat) ++ le 4 y.missedTaps.toNat) t) :=
  exec_ok h rfl (absentIn_none hi) rfl rfl

/-- ISP.STATS in the command catalogue (Table 4.4). -/
abbrev ispStatsCmd : Cmd := { code := 0x0504, cls := 0, bulk := some 1, len := 18, args := [{ off := 16, hi := 15 }, { off := 17, mask := 7 }] }

theorem exec_ispStats_ok (h : Accepts s m ispStatsCmd) (hf : BulkFits s m ispStatsCmd)
    (hp : (s.taken m).hasPort (byteAt (s.argsOf m) 16) = true) (hlen : 12608 ≤ s.bulkLen m) :
    let r := ((s.takenBulk m).ispPort (byteAt (s.argsOf m) 16)).stats.headD {}
    exec (.ispStats m) s = .next (okAfter s m 0x0504 (le 4 r.seq.toNat ++ le 1 r.settingsId ++ [r.flags] ++ le 2 r.lines)
      ((s.takenBulk m).devWrite (s.bulkAt m) (r.bytes (byteAt (s.argsOf m) 16) (byteAt (s.argsOf m) 17)))) :=
  exec_ok_bulk h hf rfl (absentIn_none hp) (if_neg (Nat.not_lt.2 hlen)) rfl

/-- ISP.AE_CONFIG in the command catalogue (Table 4.4). -/
abbrev ispAeConfigCmd : Cmd := { code := 0x0505, cls := 1, len := 8, args := [{ off := 0, hi := 15 }, { off := 1, mask := 3 },
  { off := 2, n := 2, hi := 4095 }, { off := 4, n := 2 }, { off := 6, n := 2 }] }

theorem exec_ispAeConfig_ok (h : Accepts s m ispAeConfigCmd) (hp : (s.taken m).hasPort (byteAt (s.argsOf m) 0) = true) :
    let a := s.argsOf m
    exec (.ispAeConfig m) s = .next (okAfter s m 0x0505 [] ((s.taken m).modIspPort (byteAt a 0) fun x =>
      { x with aeOn := bit (byteAt a 1) 0, awbOn := bit (byteAt a 1) 1, target := u16At a 2, maxExposure := u16At a 4, maxGain := u16At a 6 })) :=
  exec_ok h rfl (absentIn_none hp) rfl rfl

/-! ### Contexts (R135, R136) -/

/-- ISP.CONTEXT_SET in the command catalogue (Table 4.4). -/
abbrev ispContextSetCmd : Cmd := { code := 0x0501, cls := 1, bulk := some 0, len := 18, args := [{ off := 16, hi := 15 }, { off := 17, mask := 1 }] }

theorem exec_ispContextSet_ok (h : Accepts s m ispContextSetCmd) (hf : BulkFits s m ispContextSetCmd)
    (hp : (s.taken m).hasPort (byteAt (s.argsOf m) 16) = true) (hlen : s.bulkLen m = 9760)
    (hbad : ctxBad ((s.takenBulk m).devRead (s.bulkAt m) 9760) = false) : let a := s.argsOf m
    let t := s.takenBulk m
    let next := match (t.ispPort (byteAt a 16)).lastStarted with | some q => q + 1 | none => 0
    exec (.ispContextSet m) s = .next (okAfter s m 0x0501 (le 4 (if byteAt a 17 = 1 then next.toNat else 0))
      (t.setContext (byteAt a 16) (t.devRead (s.bulkAt m) 9760) (byteAt a 17 == 1))) := by
  have hsize : u32At (s.argsOf m) 8 = 9760 := hlen
  refine exec_ok_bulk h hf rfl (absentIn_none hp) (by simp [hsize]) ?_
  simp only [ctx_bulk, Option.isSome_some, hlen, hbad, ctx_u8, beq_iff_eq]
  rfl

/-! ### Slot masks (R132, R133) -/

/-- ISP.SLOT_MASK in the command catalogue (Table 4.4). -/
abbrev ispSlotMaskCmd : Cmd := { code := 0x0502, cls := 1, len := 4, args := [{ off := 0, hi := 3 }, { off := 1, hi := 3 }, { off := 2, n := 2 }] }

/-- A mask whose ports are all there names no absent unit. -/
theorem absentPort_none {mask : Nat} {t : State} (h : ∀ p < 16, bit mask p = true → t.hasPort p = true) :
    (List.range 16).find? (fun p => bit mask p && !t.hasPort p) = none := by
  refine List.find?_eq_none.2 fun p hp habsent => ?_
  obtain ⟨hbit, hno⟩ := Bool.and_eq_true_iff.1 habsent
  simp [h p (List.mem_range.1 hp) hbit] at hno

theorem exec_ispSlotMask_ok (h : Accepts s m ispSlotMaskCmd) (hi : (s.taken m).hasPipe (byteAt (s.argsOf m) 0) = true)
    (hports : ∀ p < 16, bit (u16At (s.argsOf m) 2) p = true → (s.taken m).hasPort p = true)
    (hmask : (s.taken m).maskBad (byteAt (s.argsOf m) 0) (byteAt (s.argsOf m) 1) (BitVec.ofNat 16 (u16At (s.argsOf m) 2)) = none) :
    let t := s.taken m
    let a := s.argsOf m
    exec (.ispSlotMask m) s = .next (okAfter s m 0x0502 (le 4 t.nextEpoch.toNat)
      (t.modPipe (byteAt a 0) fun y => { y with next := some (byteAt a 1, BitVec.ofNat 16 (u16At a 2)) })) :=
  exec_ok h rfl (by simp [absentIn_none hi, absentPort_none hports]) hmask rfl

/-! ### Taps (R144) -/

/-- ISP.TAP in the command catalogue (Table 4.4). -/
abbrev ispTapCmd : Cmd := { code := 0x0503, cls := 1, len := 16, args := [{ off := 0, hi := 3 }, { off := 1 }, { off := 2, hi := 15 },
  { off := 4, n := 5 }, { off := 12, n := 4 }] }

section
variable (h : Accepts s m ispTapCmd) (hi : (s.taken m).hasPipe (byteAt (s.argsOf m) 0) = true)
  (hp : (s.taken m).hasPort (byteAt (s.argsOf m) 2) = true)
include h hi hp

theorem exec_ispTap_off (hoff : byteAt (s.argsOf m) 1 = 255) :
    exec (.ispTap m) s = .next (okAfter s m 0x0503 [] ((s.taken m).modPipe (byteAt (s.argsOf m) 0) fun y => { y with tapNext := some none })) :=
  exec_ok h rfl (by simp [absentIn_none hi, absentIn_none hp]) (by simp [hoff]) (by simp [hoff])

theorem exec_ispTap_on (hpoint : byteAt (s.argsOf m) 1 ≤ 4)
    (hfed : (s.taken m).inlinePort (byteAt (s.argsOf m) 0) = byteAt (s.argsOf m) 2 ∨
      (s.taken m).maskPipe (byteAt (s.argsOf m) 2) = some (byteAt (s.argsOf m) 0))
    (hregion : (s.taken m).inRegion (a40At (s.argsOf m) 4) (u32At (s.argsOf m) 12) = true)
    (hheld : (s.taken m).held (a40At (s.argsOf m) 4) (u32At (s.argsOf m) 12) = false)
    (hslot : let cam := ((s.taken m).camPort (byteAt (s.argsOf m) 2)).cfg
      tapSlot (byteAt (s.argsOf m) 1) cam.width cam.height cam.dataType ≤ u32At (s.argsOf m) 12) : let a := s.argsOf m
    exec (.ispTap m) s = .next (okAfter s m 0x0503 [] ((s.taken m).modPipe (byteAt a 0) fun y =>
      { y with tapNext := some (some { point := byteAt a 1, port := byteAt a 2, base := a40At a 4, len := u32At a 12 }) })) := by
  have hon : byteAt (s.argsOf m) 1 ≠ 255 := by omega
  exact exec_ok h rfl (by simp [absentIn_none hi, absentIn_none hp])
    (by simpa [hon, Nat.not_lt.2 hpoint, hregion, Nat.not_lt.2 hslot] using hfed.resolve_left) (by simp [hon, hheld])

end

/-- Settles O5, a lemma for each command, and for ISP.TAP by whether it stops or starts the tap. -/
theorem ispCommands : Obligations.IspCommands :=
  ⟨fun _ _ => ⟨exec_ispQuery_ok, exec_ispStats_ok, exec_ispAeConfig_ok⟩,
    fun _ _ => ⟨exec_ispContextSet_ok, exec_ispSlotMask_ok, fun h hi hp => ⟨exec_ispTap_off h hi hp, exec_ispTap_on h hi hp⟩⟩⟩

end Sys2Proof.Machine
end

section
/-! SUPPORT. The DEPTH commands: the query, the pair settings, the warp maps and the slicing settings (R158, R160 to R162, R178). -/

namespace Sys2Proof.Machine

variable {m : Master} {s : State}

theorem exec_depthQuery_ok (h : Accepts s m { code := 0x0600, cls := 0, len := 1, args := [{ off := 0, hi := 7 }] })
    (hu : (s.taken m).hasPair (byteAt (s.argsOf m) 0) = true) : let t := s.taken m
    let u := t.pairUnit (byteAt (s.argsOf m) 0)
    exec (.depthQuery m) s = .next (okAfter s m 0x0600
      (le 1 (if t.domOn domDE then u.state else 0) ++ le 1 u.cfg.refPort ++ le 1 u.cfg.other ++ [0] ++ le 4 u.frames.toNat ++ le 1 u.meanConf) t) :=
  exec_ok h rfl (absentIn_none hu) rfl rfl

/-! ### Pair settings (R158, R160) -/

/-- DEPTH.PAIR_SET in the command catalogue (Table 4.4). -/
abbrev depthPairSetCmd : Cmd := { code := 0x0601, cls := 1, len := 14, args := [{ off := 0, hi := 7 }, { off := 1, hi := 15 }, { off := 2, hi := 15 },
  { off := 3, mask := 7 }, { off := 4, n := 4 }, { off := 8, n := 4 }, { off := 12 }, { off := 13 }] }

/-- The setting that the arguments of DEPTH.PAIR_SET give. -/
abbrev pairCfgOf (a : Bytes) : PairCfg :=
  { refPort := byteAt a 1, other := byteAt a 2, temporal := bit (byteAt a 3) 1, lrCheck := bit (byteAt a 3) 2,
    baselineUm := u32At a 4, focalPx := u32At a 8, lrTol := byteAt a 12, weight := byteAt a 13 }

/-- The new setting, none where the command disables the unit. -/
abbrev pairSettingOf (a : Bytes) : Option PairCfg := if bit (byteAt a 3) 0 then some (pairCfgOf a) else none

/-- Unit `u` is given a setting: applied between two pair frames, kept as the next one during a pair frame, and refused when a
setting or a map already waits for the end of that frame (R160). -/
def State.setPair (u : Nat) (new : Option PairCfg) (s : State) : State × Reply :=
  if (s.pairUnit u).cur.isSome && ((s.pairUnit u).next.isSome || (s.pairUnit u).mapWaits) then (s, .busy (unitPair u))
  else if (s.pairUnit u).cur.isSome then (s.modPair u fun x => { x with next := some new }, .ok [])
  else (s.applyPair u new, .ok [])

theorem setPair_between_frames {u : Nat} {new : Option PairCfg} (hc : (s.pairUnit u).cur = none) :
    s.setPair u new = (s.applyPair u new, .ok []) := by
  simp [State.setPair, hc]

theorem setPair_in_frame {u : Nat} {new : Option PairCfg} (hc : (s.pairUnit u).cur.isSome = true) (hn : (s.pairUnit u).next = none)
    (hw : (s.pairUnit u).mapWaits = false) : s.setPair u new = (s.modPair u fun x => { x with next := some new }, .ok []) := by
  simp [State.setPair, hc, hn, hw]

theorem setPair_waiting {u : Nat} {new : Option PairCfg} (hc : (s.pairUnit u).cur.isSome = true)
    (hw : (s.pairUnit u).next.isSome = true ∨ (s.pairUnit u).mapWaits = true) : s.setPair u new = (s, .busy (unitPair u)) := by
  rw [State.setPair, if_pos]
  simpa [hc] using hw

section
variable (h : Accepts s m depthPairSetCmd) (hu : (s.taken m).hasPair (byteAt (s.argsOf m) 0) = true)
  (hr : (s.taken m).hasPort (byteAt (s.argsOf m) 1) = true) (ho : (s.taken m).hasPort (byteAt (s.argsOf m) 2) = true)
  (hbad : bit (byteAt (s.argsOf m) 3) 0 = true → (s.taken m).pairBad (byteAt (s.argsOf m) 0) (pairCfgOf (s.argsOf m)) = none)
include h hu hr ho hbad

/-- A setting of present ports that Table 7.1 permits is given to its unit. -/
theorem exec_depthPairSet_reply :
    exec (.depthPairSet m) s = done (State.reply (depthPairSetCmd.ctx m.code (s.frontSlot m.code)) (s.taken m)
      ((s.taken m).setPair (byteAt (s.argsOf m) 0) (pairSettingOf (s.argsOf m)))) :=
  congrArg done (runCmd_body h rfl (by simp [absentIn_none hu, absentIn_none hr, absentIn_none ho]) (ite_eq_right_iff.2 hbad))

theorem exec_depthPairSet_between_frames (hc : ((s.taken m).pairUnit (byteAt (s.argsOf m) 0)).cur = none) :
    exec (.depthPairSet m) s =
      .next (okAfter s m 0x0601 [] ((s.taken m).applyPair (byteAt (s.argsOf m) 0) (pairSettingOf (s.argsOf m)))) := by
  rw [exec_depthPairSet_reply h hu hr ho hbad, setPair_between_frames hc]
  rfl

theorem exec_depthPairSet_in_frame (hc : ((s.taken m).pairUnit (byteAt (s.argsOf m) 0)).cur.isSome = true)
    (hn : ((s.taken m).pairUnit (byteAt (s.argsOf m) 0)).next = none) (hw : ((s.taken m).pairUnit (byteAt (s.argsOf m) 0)).mapWaits = false) :
    exec (.depthPairSet m) s = .next (okAfter s m 0x0601 []
      ((s.taken m).modPair (byteAt (s.argsOf m) 0) fun x => { x with next := some (pairSettingOf (s.argsOf m)) })) := by
  rw [exec_depthPairSet_reply h hu hr ho hbad, setPair_in_frame hc hn hw]
  rfl

theorem exec_depthPairSet_waiting (hc : ((s.taken m).pairUnit (byteAt (s.argsOf m) 0)).cur.isSome = true)
    (hw : ((s.taken m).pairUnit (byteAt (s.argsOf m) 0)).next.isSome = true ∨ ((s.taken m).pairUnit (byteAt (s.argsOf m) 0)).mapWaits = true) :
    exec (.depthPairSet m) s = .next (errAfter s m 0x0601 stBusy 0xFF 0 (unitPair (byteAt (s.argsOf m) 0))) := by
  rw [exec_depthPairSet_reply h hu hr ho hbad, setPair_waiting hc hw]
  rfl

end

/-! ### Warp maps (R160 to R162) -/

/-- DEPTH.WARP_LOAD in the command catalogue (Table 4.4). -/
abbrev depthWarpLoadCmd : Cmd := { code := 0x0602, cls := 1, bulk := some 0, len := 17, args := [{ off := 16, hi := 15 }] }

/-- Units with a pair frame in progress that uses port `p`. -/
abbrev State.runningPairs (s : State) (p : Nat) : List Nat := (s.pairsOf p).filter fun v => (s.pairUnit v).cur.isSome

/-- A map that is good for its depth input, or whose port has no size yet, is loaded when nothing waits for a pair frame of its
port. -/
theorem exec_depthWarpLoad_ok (h : Accepts s m depthWarpLoadCmd) (hf : BulkFits s m depthWarpLoadCmd) : let t := s.takenBulk m
    let p := byteAt (s.argsOf m) 16
    let map := t.devRead (s.bulkAt m) 18432
    (s.taken m).hasPort p = true → s.bulkLen m = 18432 →
      ((t.depthInput p).1 = 0 ∨ warpBad (warpNodes map) (t.depthInput p).1 (t.depthInput p).2 = none) →
      (∀ v ∈ t.runningPairs p, (t.pairUnit v).next = none ∧ (t.pairUnit v).mapWaits = false) →
      exec (.depthWarpLoad m) s = .next (okAfter s m 0x0602 []
        ((((t.runningPairs p).foldl (fun x v => x.modPair v fun y => { y with mapWaits := true })
          (t.modDepth fun d => { d with warps := d.warps.set p (some (warpNodes map)) })).recheckPairs p).deferRecord (0x60 + p) map)) := by
  intro t p map hp hlen hgood hfree
  have hsize : u32At (s.argsOf m) 8 = 18432 := hlen
  have hnodes : (if (t.depthInput p).1 = 0 then none else warpBad (warpNodes map) (t.depthInput p).1 (t.depthInput p).2) = none :=
    ite_eq_left_iff.2 hgood.resolve_left
  have hidle : (t.runningPairs p).find? (fun v => (t.pairUnit v).next.isSome || (t.pairUnit v).mapWaits) = none :=
    List.find?_eq_none.2 fun v hv => by simp [hfree v hv]
  refine exec_ok_bulk h hf rfl (absentIn_none hp) (by simp [hsize]) ?_
  simp only [ctx_bulk, Option.isSome_some, hlen, ctx_u8, beq_iff_eq]
  rw [hnodes]
  dsimp only
  rw [hidle]

/-! ### Slicing settings (R178) -/

/-- DEPTH.SLICE_SET in the command catalogue (Table 4.4). -/
abbrev depthSliceSetCmd : Cmd := { code := 0x0603, cls := 1, len := 148, args := [{ off := 0, hi := 3 }, { off := 1, hi := 15 },
  { off := 2, lo := 1, hi := 16 }, { off := 3, mask := 1 }, { off := 4, n := 5 }, { off := 12, n := 4 }, { off := 16, n := 132 }] }

/-- The setting that the arguments of DEPTH.SLICE_SET give. -/
abbrev sliceCfgOf (a : Bytes) : SliceCfg :=
  { port := byteAt a 1, slices := byteAt a 2, pool := a40At a 4, bytes := u32At a 12,
    curve := (List.range 33).map fun i => (u16At a (16 + 4 * i), s16At a (18 + 4 * i)) }

section
variable (h : Accepts s m depthSliceSetCmd) (hp : (s.taken m).hasPort (byteAt (s.argsOf m) 1) = true)
  (hbad : (s.taken m).sliceBad (byteAt (s.argsOf m) 0) (sliceCfgOf (s.argsOf m)) = none)
include h hp hbad

theorem exec_depthSliceSet_held (hc : (s.taken m).commitTouched (sliceCfgOf (s.argsOf m)).pool (sliceCfgOf (s.argsOf m)).bytes = true) :
    exec (.depthSliceSet m) s = .next (errAfter s m 0x0603 stLeaseHeld 0xFF 0 0xFFFF) :=
  exec_err h rfl (absentIn_none hp) hbad (if_pos hc)

section
variable (hc : (s.taken m).commitTouched (sliceCfgOf (s.argsOf m)).pool (sliceCfgOf (s.argsOf m)).bytes = false)
include hc

theorem exec_depthSliceSet_on (hon : bit (byteAt (s.argsOf m) 3) 0 = true) : let t := s.taken m
    let l := byteAt (s.argsOf m) 0
    exec (.depthSliceSet m) s = .next (okAfter s m 0x0603 []
      (if (t.slicer l).cur.isSome then t.modSlicer l fun x => { x with next := some (some (sliceCfgOf (s.argsOf m))) }
       else (t.modSlicer l fun x => { x with enabled := true, cfg := sliceCfgOf (s.argsOf m), next := none, half := 0 }).noteFlat l)) := by
  refine exec_ok h rfl (absentIn_none hp) hbad ?_
  simp only [ctx_u8, ctx_a40, ctx_u32, hc, hon, Bool.false_eq_true, if_false, if_true]
  split <;> rfl

theorem exec_depthSliceSet_off (hoff : bit (byteAt (s.argsOf m) 3) 0 = false) : let t := s.taken m
    let l := byteAt (s.argsOf m) 0
    exec (.depthSliceSet m) s = .next (okAfter s m 0x0603 []
      (if (t.slicer l).cur.isSome then t.modSlicer l fun x => { x with next := some none }
       else t.modSlicer l fun x => { x with enabled := false, next := none })) := by
  refine exec_ok h rfl (absentIn_none hp) hbad ?_
  simp only [ctx_u8, ctx_a40, ctx_u32, hc, hoff, Bool.false_eq_true, if_false]
  split <;> rfl

end

end

/-- Settles O9, a lemma for each command, and for the two settings by whether a frame is in progress. -/
theorem depthCommands : Obligations.DepthCommands :=
  ⟨fun _ _ => ⟨exec_depthQuery_ok,
      fun h hu hr ho hbad => ⟨exec_depthPairSet_between_frames h hu hr ho hbad, exec_depthPairSet_in_frame h hu hr ho hbad,
        exec_depthPairSet_waiting h hu hr ho hbad⟩,
      exec_depthWarpLoad_ok⟩,
    fun _ _ h hp hbad => ⟨exec_depthSliceSet_held h hp hbad, fun hon hc => exec_depthSliceSet_on h hp hbad hc hon,
      fun hoff hc => exec_depthSliceSet_off h hp hbad hc hoff⟩⟩

end Sys2Proof.Machine
end

section
/-! SUPPORT. The runs of the depth units and of the slicer (R159, R160, R168 to R170, R181, R182, R185, R207). -/

namespace Sys2Proof.Machine

variable {s : State} {unit layer : Nat} {err : Option Nat} {q : W32}

theorem exec_pairFrameStart (unit : Nat) (s : State) : exec (.pairFrameStart unit) s = execPairFrameStart unit s := rfl
theorem exec_disparityRowEmit (unit : Nat) (err : Option Nat) (s : State) :
    exec (.disparityRowEmit unit err) s = execDisparityRowEmit unit err s := rfl
theorem exec_slicerTileRow (layer : Nat) (s : State) : exec (.slicerTileRow layer) s = execSlicerTileRow layer s := rfl
theorem exec_slicerHalfRelease (layer : Nat) (s : State) : exec (.slicerHalfRelease layer) s = execSlicerHalfRelease layer s := rfl

/-! ### Reads and writes of a pair unit -/

theorem pairUnit_modPair (h : unit < s.depth.units.length) (g : PairUnit → PairUnit) :
    (s.modPair unit g).pairUnit unit = g (s.pairUnit unit) := by
  simp [State.modPair, State.pairUnit, h]

theorem settle_pairUnit (s : State) (unit : Nat) : s.settle.pairUnit unit = s.pairUnit unit :=
  congrArg (fun d : Depth => d.units.getD unit {}) s.settle_depth

theorem setUnit_pairUnit (i : Nat) (g : UnitRec → UnitRec) (s : State) (unit : Nat) : (s.setUnit i g).pairUnit unit = s.pairUnit unit :=
  congrArg (fun d : Depth => d.units.getD unit {}) (s.setUnit_depth i g)

/-! ### The start of a pair frame (R159, R160) -/

/-- Busy, disabled, off or faulted, a unit starts no frame. -/
theorem exec_pairFrameStart_shut (h : (s.pairUnit unit).cur.isSome = true ∨ (s.pairUnit unit).enabled = false ∨ s.domOn domDE = false ∨
    (s.pairUnit unit).state = 4) : exec (.pairFrameStart unit) s = .next s.settle := by
  rw [exec_pairFrameStart, execPairFrameStart]
  dsimp only
  rw [if_pos, done]
  rcases h with h | h | h | h <;> simp [h]

/-- Unit `unit` takes pair frame `q` with the maps in force (R159, R160). -/
def State.beginPair (unit : Nat) (q : W32) (s : State) : State :=
  (s.modPair unit fun x => { x with
    state := 2, cur := some (q, s.time), rows := 0, codes := [], conf := [], lastSeq := some q, mapWaits := false,
    maps := (s.depth.warps.getD x.cfg.refPort none, s.depth.warps.getD x.cfg.other none) }).setUnit (unitPair unit) fun x =>
      { x with state := 4, flowing := true }

theorem beginPair_pairUnit (h : unit < s.depth.units.length) : let u := (s.beginPair unit q).pairUnit unit
    u.cur = some (q, s.time) ∧ u.rows = 0 ∧ u.state = 2 := by
  rw [State.beginPair, setUnit_pairUnit, pairUnit_modPair h]
  exact ⟨rfl, rfl, rfl⟩

section
variable (hc : (s.pairUnit unit).cur = none) (he : (s.pairUnit unit).enabled = true) (hd : s.domOn domDE = true)
  (hs : (s.pairUnit unit).state ≠ 4) (hn : (s.pairUnit unit).next = none) (hf : s.allFlat (s.pairUnit unit).cfg.refPort = false)
include hc he hd hs hn hf

/-- Without a pair of frames a unit waits in IDLE. -/
theorem exec_pairFrameStart_waits (hr : s.pairReady (s.pairUnit unit) = none) :
    exec (.pairFrameStart unit) s = .next (s.modPair unit fun x => { x with state := 1 }).settle := by
  simp [exec_pairFrameStart, execPairFrameStart, hc, he, hd, hs, hn, hf, hr, done]

theorem exec_pairFrameStart_begins (hr : s.pairReady (s.pairUnit unit) = some q) :
    exec (.pairFrameStart unit) s = .next (s.beginPair unit q).settle := by
  simp [exec_pairFrameStart, execPairFrameStart, hc, he, hd, hs, hn, hf, hr, done, State.beginPair]

theorem pairFrameStart_begins (hu : unit < s.depth.units.length) (hr : s.pairReady (s.pairUnit unit) = some q) :
    ∃ t, exec (.pairFrameStart unit) s = .next t ∧
      (t.pairUnit unit).cur = some (q, s.time) ∧ (t.pairUnit unit).rows = 0 ∧ (t.pairUnit unit).state = 2 := by
  refine ⟨_, exec_pairFrameStart_begins hc he hd hs hn hf hr, ?_⟩
  rw [settle_pairUnit]
  exact beginPair_pairUnit hu

end

/-! ### Disparity rows (R168 to R170, R185) -/

theorem exec_disparityRowEmit_idle (hc : (s.pairUnit unit).cur = none) : exec (.disparityRowEmit unit err) s = .next s.settle := by
  rw [exec_disparityRowEmit, execDisparityRowEmit, hc]
  rfl

/-- A pair frame one of whose buffers is gone is abandoned (R159). -/
theorem exec_disparityRowEmit_gone {t0 : Nat} (hc : (s.pairUnit unit).cur = some (q, t0))
    (hb : s.bufOf (s.pairUnit unit).cfg.refPort q = none ∨ s.bufOf (s.pairUnit unit).cfg.other q = none) :
    exec (.disparityRowEmit unit err) s = .next (s.abandonPair unit).settle := by
  rw [exec_disparityRowEmit, execDisparityRowEmit, hc]
  dsimp only
  rcases hb with hb | hb <;> rw [hb]
  · rfl
  · cases s.bufOf (s.pairUnit unit).cfg.refPort q <;> rfl

section
variable {t0 : Nat} {a b : OutBuf} (hc : (s.pairUnit unit).cur = some (q, t0)) (ha : s.bufOf (s.pairUnit unit).cfg.refPort q = some a)
  (hb : s.bufOf (s.pairUnit unit).cfg.other q = some b)
include hc ha hb

theorem exec_disparityRowEmit_flagged (hf : a.flagged = true ∨ b.flagged = true) :
    exec (.disparityRowEmit unit err) s = .next (s.abandonPair unit).settle := by
  simp [exec_disparityRowEmit, execDisparityRowEmit, hc, ha, hb, hf, done]

section
variable (hfa : a.flagged = false) (hfb : b.flagged = false)
include hfa hfb

/-- A row that needs an input line that one of the two views does not have yet waits (R170). -/
theorem exec_disparityRowEmit_waits (hl : a.depthPlane.length ≤ min (2 * (s.pairUnit unit).rows + 40) (a.depthSize.2 - 1) ∨
    b.depthPlane.length ≤ min (2 * (s.pairUnit unit).rows + 40) (a.depthSize.2 - 1)) :
    exec (.disparityRowEmit unit err) s = .next s.settle := by
  simp only [exec_disparityRowEmit, execDisparityRowEmit, hc, ha, hb, hfa, hfb, Bool.or_self, Bool.false_eq_true, if_false, done]
  rw [if_pos (by simpa using hl)]

/-- A row that both views cover goes to the ring and to the unit's disparity, and the last one ends the pair frame. -/
theorem exec_disparityRowEmit_covered (hla : min (2 * (s.pairUnit unit).rows + 40) (a.depthSize.2 - 1) < a.depthPlane.length)
    (hlb : min (2 * (s.pairUnit unit).rows + 40) (a.depthSize.2 - 1) < b.depthPlane.length) :
    let u := s.pairUnit unit
    let z := s.depthRead err
    let row := if err.isSome then List.replicate (a.depthSize.1 / 2) (0xFFF, 0) else State.disparityRow u a b u.rows
    let codes := z.rowCodes unit q (row.map (·.1))
    let w := (z.ringWrite unit u.rows (a.depthSize.1 / 2) (a.depthSize.2 / 2) codes (row.map (·.2))).modPair unit fun x => { x with
      codes := x.codes ++ [codes], conf := x.conf ++ [row.map (·.2)], rows := x.rows + 1 }
    exec (.disparityRowEmit unit err) s = .next (if u.rows + 1 = a.depthSize.2 / 2 then w.pairDone unit q else w).settle := by
  simp only [exec_disparityRowEmit, execDisparityRowEmit, hc, ha, hb, hfa, hfb, Bool.or_self, Bool.false_eq_true, if_false, done]
  rw [if_neg (by simp only [Bool.or_eq_true, decide_eq_true_eq]; omega)]
  simp only [beq_iff_eq]

end

end

/-! ### Tile rows of the slicer (R180 to R182) -/

theorem slicer_modSlicer (h : layer < s.depth.layers.length) (g : SliceLayer → SliceLayer) :
    (s.modSlicer layer g).slicer layer = g (s.slicer layer) := by
  simp [State.modSlicer, State.slicer, h]

/-- A slicer that an update leaves as it is leaves the state. -/
theorem modSlicer_eq_self {g : SliceLayer → SliceLayer} (h : g (s.slicer layer) = s.slicer layer) : s.modSlicer layer g = s := by
  have hlayers : s.depth.layers.modify layer g = s.depth.layers := by
    rcases Nat.lt_or_ge layer s.depth.layers.length with hl | hl
    · have hg : g s.depth.layers[layer] = s.depth.layers[layer] := by simpa [State.slicer, hl] using h
      rw [List.modify_eq_set_get g hl, List.get_eq_getElem, hg, List.set_getElem_self]
    · exact List.modify_eq_self hl
  rw [State.modSlicer, State.modDepth, hlayers]

/-- A slicer with a frame in progress is one of the part's slicers. -/
theorem lt_layers_of_cur (h : (s.slicer layer).cur.isSome = true) : layer < s.depth.layers.length := by
  by_contra hl
  rw [State.slicer, List.getD_eq_default _ _ (Nat.not_lt.1 hl)] at h
  exact Bool.false_ne_true h

theorem exec_slicerTileRow_off (hd : s.domOn domSL = false) : exec (.slicerTileRow layer) s = .next s.settle := by
  simp [exec_slicerTileRow, execSlicerTileRow, hd, done]

/-- A frame whose half is held stalls (R182). -/
theorem exec_slicerTileRow_held (hd : s.domOn domSL = true) (hc : (s.slicer layer).cur.isSome = true)
    (hh : s.held (s.slicer layer).halfBase (halfBytes (s.slicer layer).cfg) = true) :
    exec (.slicerTileRow layer) s = .next (s.modSlicer layer fun y => { y with stalled := y.cur.isSome }).settle := by
  have hslicer := slicer_modSlicer (lt_layers_of_cur hc) fun y => { y with stalled := y.cur.isSome }
  simp [exec_slicerTileRow, execSlicerTileRow, hd, Option.isSome_iff_ne_none.1 hc, hh, hslicer, hc, done]

/-- A frame that has stalled stays as it is until its half is released (R182). -/
theorem exec_slicerTileRow_stalled (hst : (s.slicer layer).stalled = true) (hc : (s.slicer layer).cur.isSome = true) :
    exec (.slicerTileRow layer) s = .next s.settle := by
  cases hd : s.domOn domSL with
  | false => exact exec_slicerTileRow_off hd
  | true =>
    cases hh : s.held (s.slicer layer).halfBase (halfBytes (s.slicer layer).cfg) with
    | false => simp [exec_slicerTileRow, execSlicerTileRow, hd, Option.isSome_iff_ne_none.1 hc, hh, hst, done]
    | true =>
      have hsame : s.modSlicer layer (fun y => { y with stalled := y.cur.isSome }) = s := modSlicer_eq_self (by rw [hc, ← hst])
      rw [exec_slicerTileRow_held hd hc hh, hsame]

section
variable (hd : s.domOn domSL = true) (hst : (s.slicer layer).stalled = false) (hc : (s.slicer layer).cur = some q)
  (hh : s.held (s.slicer layer).halfBase (halfBytes (s.slicer layer).cfg) = false)
include hd hst hc hh

/-- A frame whose sources are gone is given up (R180). -/
theorem exec_slicerTileRow_gone (he : s.sliceSrc layer q = none) :
    exec (.slicerTileRow layer) s = .next (s.abandonSlices layer).settle := by
  simp [exec_slicerTileRow, execSlicerTileRow, hd, hst, hc, hh, he, done]

/-- A tile row between the first and the last one is written, and the next one follows. -/
theorem exec_slicerTileRow_written {e : SliceSrc} {rows : Nat} {z : State} (he : s.sliceSrc layer q = some (e, rows))
    (hr : min ((32 * (s.slicer layer).tileRow + 34) / e.scale + 1) (e.h / e.scale - 1) < rows) (h0 : (s.slicer layer).tileRow ≠ 0)
    (hz : s.writeTiles layer e (s.slicer layer).tileRow = some z) (hl : (s.slicer layer).tileRow + 1 < (e.h + 31) / 32) :
    exec (.slicerTileRow layer) s = .next (z.modSlicer layer fun y => { y with tileRow := y.tileRow + 1 }).settle := by
  have hcovered : ¬ rows ≤ min ((32 * (s.slicer layer).tileRow + 34) / e.scale + 1) (e.h / e.scale - 1) := Nat.not_le.2 hr
  simp [exec_slicerTileRow, execSlicerTileRow, hd, hst, hc, hh, he, hcovered, h0, hz, hl, done]

end

/-! ### The release of a half (R182) -/

theorem exec_slicerHalfRelease_goesOn (hst : (s.slicer layer).stalled = true)
    (hh : s.held (s.slicer layer).halfBase (halfBytes (s.slicer layer).cfg) = false) :
    exec (.slicerHalfRelease layer) s = .next (s.modSlicer layer fun y => { y with stalled := false }).settle := by
  simp [exec_slicerHalfRelease, execSlicerHalfRelease, hst, hh, done]

theorem exec_slicerHalfRelease_nothing (h : (s.slicer layer).stalled = false ∨
    s.held (s.slicer layer).halfBase (halfBytes (s.slicer layer).cfg) = true) :
    exec (.slicerHalfRelease layer) s = .next s.settle := by
  rcases h with h | h <;> simp [exec_slicerHalfRelease, execSlicerHalfRelease, h, done]

/-- Settles O10, a lemma for each clause. -/
theorem depthRuns : Obligations.DepthRuns := fun _ _ _ =>
  ⟨exec_pairFrameStart_shut, exec_pairFrameStart_waits,
    fun _ hu hc he hd hs hn hf hr => pairFrameStart_begins hc he hd hs hn hf hu hr,
    fun _ => exec_disparityRowEmit_idle,
    fun _ _ _ => exec_disparityRowEmit_gone,
    fun _ _ _ _ _ hc ha hb => ⟨exec_disparityRowEmit_flagged hc ha hb, exec_disparityRowEmit_waits hc ha hb,
      exec_disparityRowEmit_covered hc ha hb⟩,
    exec_slicerTileRow_off, exec_slicerTileRow_stalled,
    fun _ hd hc hh _ => exec_slicerTileRow_held hd (Option.isSome_of_eq_some hc) hh,
    fun _ => exec_slicerTileRow_gone,
    fun _ _ _ _ hd hst hc he hh hr h0 hz hl => exec_slicerTileRow_written hd hst hc hh he hr h0 hz hl,
    exec_slicerHalfRelease_goesOn, exec_slicerHalfRelease_nothing⟩

end Sys2Proof.Machine
end

section
/-! SUPPORT. The SCENE commands on pools and leases, and the parsing of the oldest scene entry (R186, R198 to R200, R202, R203, R209). -/

namespace Sys2Proof.Machine

variable {m : Master} {s : State}

/-! ### The query and the lease policy (Table 4.5, R208) -/

/-- SCENE_RETIRED of the scenes that have an entry in force (R201). -/
def State.sceneFences (s : State) : List Nat :=
  (List.range 4).filterMap fun i => if s.scene.applied.getD i 0 != 0 then some (s.scene.retired.getD i 0).toNat else none

/-- RETIRE_FENCE of SCENE.QUERY: the lowest of them, 0 while no scene has an entry in force. -/
def State.lowestFence (s : State) : Nat := s.sceneFences.min?.getD 0

theorem lowestFence_of_nil (h : s.sceneFences = []) : s.lowestFence = 0 := by
  rw [State.lowestFence, h]
  rfl

theorem lowestFence_least (h : s.sceneFences ≠ []) : s.lowestFence ∈ s.sceneFences ∧ ∀ f ∈ s.sceneFences, s.lowestFence ≤ f := by
  obtain ⟨low, hlow⟩ := Option.isSome_iff_exists.1 (List.isSome_min?_of_ne_nil h)
  rw [State.lowestFence, hlow]
  exact List.min?_eq_some_iff.1 hlow

theorem exec_sceneQuery_ok (h : Accepts s m { code := 0x0700, cls := 0 }) : let t := s.taken m
    exec (.sceneQuery m) s = .next (okAfter s m 0x0700
      (le 1 (t.scene.planes.filter Option.isSome).length ++ le 1 (if t.leases.allow then 1 else 0) ++ le 2 (t.leases.regions.filter (·.id ≤ 256)).length
        ++ le 4 t.scene.lastSf.toNat ++ le 4 t.lowestFence ++ le 4 t.leases.violations.toNat) t) := by
  refine exec_ok h rfl rfl rfl ?_
  dsimp only
  rw [State.lowestFence, ← State.sceneFences]
  cases (s.taken m).sceneFences <;> rfl

theorem exec_sceneLeasePolicy_ok (h : Accepts s m { code := 0x0702, cls := 1, len := 1, args := [{ off := 0, hi := 1 }] }) :
    exec (.sceneLeasePolicy m) s =
      .next (okAfter s m 0x0702 [] ((s.taken m).modLeases fun l => { l with allow := byteAt (s.argsOf m) 0 == 1 })) :=
  exec_ok h rfl rfl rfl rfl

/-! ### Pools (R186) -/

/-- SCENE.POOL_SET in the command catalogue (Table 4.5). -/
abbrev scenePoolSetCmd : Cmd := { code := 0x0701, cls := 1, len := 13, args := [{ off := 0, n := 5 }, { off := 8, n := 4 }, { off := 12, hi := 3 }] }

/-- Whole pages of pool `q`. -/
def State.poolPages (s : State) (q : Nat) : Nat := match s.scene.pools.getD q none with
  | some (_, len) => len / pageSize
  | none => 0

section
variable (h : Accepts s m scenePoolSetCmd) (hb : a40At (s.argsOf m) 0 % 65536 = 0)
  (hfree : ∀ k < (s.taken m).poolPages (byteAt (s.argsOf m) 12), (s.taken m).pageHeld (byteAt (s.argsOf m) 12) k = false)
include h hb hfree

/-- A range that R186 permits, empty or of whole units in memory, becomes the pool once no page of the old one is held. -/
theorem exec_scenePoolSet_ok (hn : u32At (s.argsOf m) 8 = 0 ∨ u32At (s.argsOf m) 8 % 65536 = 0 ∧
    (s.taken m).inRegion (a40At (s.argsOf m) 0) (u32At (s.argsOf m) 8) (some 0) = true) : let a := s.argsOf m
    exec (.scenePoolSet m) s = .next (okAfter s m 0x0701 [] ((s.taken m).modScene fun x =>
      { x with pools := x.pools.set (byteAt a 12) (if u32At a 8 == 0 then none else some (a40At a 0, u32At a 8)) })) := by
  have hheld : ¬ ((List.range ((s.taken m).poolPages (byteAt (s.argsOf m) 12))).any
      fun k => (s.taken m).pageHeld (byteAt (s.argsOf m) 12) k) = true := by
    simpa using hfree
  refine exec_ok h rfl rfl ?_ (if_neg hheld)
  rcases hn with hn | ⟨hunits, hin⟩
  · simp [hb, hn]
  · simp [hb, hunits, hin]

theorem exec_scenePoolSet_none (hn : u32At (s.argsOf m) 8 = 0) :
    exec (.scenePoolSet m) s =
      .next (okAfter s m 0x0701 [] ((s.taken m).modScene fun x => { x with pools := x.pools.set (byteAt (s.argsOf m) 12) none })) := by
  rw [exec_scenePoolSet_ok h hb hfree (.inl hn), hn]
  rfl

theorem exec_scenePoolSet_some (hn : u32At (s.argsOf m) 8 ≠ 0) (hunits : u32At (s.argsOf m) 8 % 65536 = 0)
    (hin : (s.taken m).inRegion (a40At (s.argsOf m) 0) (u32At (s.argsOf m) 8) (some 0) = true) : let a := s.argsOf m
    exec (.scenePoolSet m) s = .next (okAfter s m 0x0701 [] ((s.taken m).modScene fun x =>
      { x with pools := x.pools.set (byteAt a 12) (some (a40At a 0, u32At a 8)) })) := by
  rw [exec_scenePoolSet_ok h hb hfree (.inr ⟨hunits, hin⟩), beq_eq_false_iff_ne.2 hn]
  rfl

end

/-! ### The lowest free LEASE_ID (R203) -/

theorem le_freeLease (used : List Nat) (i n : Nat) : i ≤ freeLease used i n := by
  induction n generalizing i with
  | zero => exact Nat.le_refl i
  | succ n ih =>
    rw [freeLease]
    split
    · exact Nat.le_of_succ_le (ih (i + 1))
    · exact Nat.le_refl i

theorem mem_of_lt_freeLease {used : List Nat} {i n : Nat} : ∀ j, i ≤ j → j < freeLease used i n → j ∈ used := by
  induction n generalizing i with
  | zero => exact fun j hij hj => absurd hj (Nat.not_lt.2 hij)
  | succ n ih =>
    intro j hij hj
    rw [freeLease] at hj
    split at hj
    case isTrue hi =>
      rcases Nat.eq_or_lt_of_le hij with rfl | hlt
      · simpa using hi
      · exact ih j hlt hj
    case isFalse => exact absurd hj (Nat.not_lt.2 hij)

/-- A search that ends on an id in use has tried all `n` from `i`. -/
theorem freeLease_eq_of_mem {used : List Nat} {i n : Nat} (h : freeLease used i n ∈ used) : freeLease used i n = i + n := by
  induction n generalizing i with
  | zero => rfl
  | succ n ih =>
    rw [freeLease] at h ⊢
    split at h
    case isTrue hi =>
      rw [if_pos hi, ih h]
      omega
    case isFalse hi => exact absurd h (by simpa using hi)

/-- With fewer ids up to `n` in use than there are, the search from 1 ends on a free one. -/
theorem freeLease_not_mem {used : List Nat} {n : Nat} (hused : (used.filter (· ≤ n)).length < n) : freeLease used 1 n ∉ used := by
  intro hmem
  have hend := freeLease_eq_of_mem hmem
  have htaken : Finset.Icc 1 n ⊆ (used.filter (· ≤ n)).toFinset := fun j hj => by
    obtain ⟨hlow, hhigh⟩ := Finset.mem_Icc.1 hj
    simpa [hhigh] using mem_of_lt_freeLease j hlow (hend ▸ Nat.lt_one_add_iff.2 hhigh)
  have hcard := (Finset.card_le_card htaken).trans (List.toFinset_card_le _)
  rw [Nat.card_Icc] at hcard
  omega

/-! ### Lease regions (R203, R209) -/

/-- SCENE.LEASE_ADD in the command catalogue (Table 4.5). -/
abbrev sceneLeaseAddCmd : Cmd := { code := 0x0703, cls := 1, len := 13, args := [{ off := 0, n := 5 }, { off := 8, n := 4 }, { off := 12, hi := 4 }] }

/-- LEASE_IDs of the regions. -/
abbrev State.leaseIds (s : State) : List Nat := s.leases.regions.map (·.id)

/-- The LEASE_ID that a new region gets. -/
abbrev State.newLeaseId (s : State) : Nat := freeLease s.leaseIds 1 256

theorem newLeaseId_lowest {t : State} (hroom : (t.leaseIds.filter (· ≤ 256)).length < 256) :
    1 ≤ t.newLeaseId ∧ (∀ r ∈ t.leases.regions, r.id ≠ t.newLeaseId) ∧
      ∀ j, 1 ≤ j → j < t.newLeaseId → ∃ r ∈ t.leases.regions, r.id = j := by
  refine ⟨le_freeLease _ 1 256, fun r hr hid => freeLease_not_mem hroom ?_, fun j hlow hj => List.mem_map.1 (mem_of_lt_freeLease j hlow hj)⟩
  exact List.mem_map.2 ⟨r, hr, hid⟩

theorem exec_sceneLeaseAdd_ok (h : Accepts s m sceneLeaseAddCmd) (hb : a40At (s.argsOf m) 0 % 64 = 0) (hn : u32At (s.argsOf m) 8 ≠ 0)
    (hunits : u32At (s.argsOf m) 8 % 64 = 0) (hin : (s.taken m).inMemory (a40At (s.argsOf m) 0) (u32At (s.argsOf m) 8) = true)
    (hapart : ∀ r ∈ (s.taken m).leases.regions, overlaps (a40At (s.argsOf m) 0) (u32At (s.argsOf m) 8) r.base r.len = false)
    (hroom : ((s.taken m).leaseIds.filter (· ≤ 256)).length < 256) : let t := s.taken m
    let a := s.argsOf m
    exec (.sceneLeaseAdd m) s = .next (okAfter s m 0x0703 (le 2 t.newLeaseId) (t.modLeases fun l =>
      { l with regions := l.regions ++ [{ id := t.newLeaseId, base := a40At a 0, len := u32At a 8, cls := byteAt a 12 }] })) :=
  exec_ok h rfl rfl (by simpa [hb, hn, hunits, hin] using hapart) (if_neg (Nat.not_le.2 hroom))

theorem exec_sceneLeaseRemove_ok (h : Accepts s m { code := 0x0704, cls := 1, len := 2, args := [{ off := 0, n := 2 }] })
    (hid : u16At (s.argsOf m) 0 ≤ 256) {r : Lease} (hr : (s.taken m).leases.regions.find? (·.id == u16At (s.argsOf m) 0) = some r)
    (hheld : (s.taken m).held r.base r.len = false) (hconfig : (s.taken m).configIn r = false) :
    exec (.sceneLeaseRemove m) s =
      .next (okAfter s m 0x0704 [] ((s.taken m).modLeases fun l => { l with regions := l.regions.filter (·.id != r.id) })) := by
  have hthere : (s.taken m).leases.regions.any (·.id == u16At (s.argsOf m) 0) = true :=
    List.isSome_find?.symm.trans (Option.isSome_of_eq_some hr)
  refine exec_ok h rfl rfl (by simp [hid, hthere]) ?_
  simp only [ctx_u16, hr, hheld, hconfig, Bool.or_self, Bool.false_eq_true, if_false]

/-! ### The oldest scene entry (R198 to R200) -/

theorem exec_sceneEntryParse (s : State) : exec .sceneEntryParse s = execSceneEntryParse s := rfl

/-- The slot of the oldest outstanding entry. -/
abbrev State.oldestEntry (s : State) : Bytes := memRead s.win (sceneEntryAddr s.scene.consumed.toNat) 32

/-- Base of the stream that an entry names. -/
abbrev entryBase (e : Bytes) : Nat := a40At e 0
/-- Length of that stream. -/
abbrev entryLen (e : Bytes) : Nat := u32At e 8

/-- An entry is outstanding, and the block can read and parse it. -/
structure State.EntryDue (s : State) : Prop where
  outstanding : s.scene.producer ≠ s.scene.consumed
  mapped : s.mem.map.isEmpty = false
  powered : s.domOn domCMP = true

/-- The fields of an entry keep their layout, and its stream is aligned (R198, R199). -/
structure EntryWellFormed (e : Bytes) : Prop where
  flags : byteAt e 6 ≤ 3
  reserved : byteAt e 7 = 0
  rest : ∀ b ∈ slice e 16 16, b = 0
  scene : byteAt e 5 ≤ 3
  base : entryBase e % 16 = 0
  len : entryLen e % 16 = 0

/-- The stream of the oldest entry, in pool `q` whose base is `b`. -/
def State.entryStream (q b : Nat) (s : State) : Stream :=
  { b := s.devRead (entryBase s.oldestEntry) (entryLen s.oldestEntry), scene := byteAt s.oldestEntry 5,
    entry := q * 2 ^ 30 + (entryBase s.oldestEntry - b) / 16, bad := fun o len => s.poisoned (entryBase s.oldestEntry + o) len }

/-- The oldest entry is rejected (R198). -/
def State.rejectOldest (er : StreamError) (sf : Nat) (s : State) : State :=
  s.rejectEntry s.scene.consumed.toNat (byteAt s.oldestEntry 5) (bit (byteAt s.oldestEntry 6) 1) er sf

/-- The oldest entry has been parsed: its planes are pending, and wait for their latch point (R199, R200). -/
def State.acceptOldest (pl : Planes) (sf : Nat) (s : State) : State :=
  let k := s.scene.consumed.toNat
  let e := s.oldestEntry
  s.modScene fun y => Scene.fence (sc := byteAt e 5) { y with
    consumed := y.consumed + 1, pend := pl,
    waiting := y.waiting ++ [{ k := k, scene := byteAt e 5, irqApply := bit (byteAt e 6) 0, irqRetire := bit (byteAt e 6) 1,
                               notBefore := BitVec.ofNat 32 (u32At e 12), sceneFrame := BitVec.ofNat 32 sf, planes := pl }],
    live := y.live ++ [{ k := k, scene := byteAt e 5, irqRetire := bit (byteAt e 6) 1 }] }

/-- The outcome of the oldest entry whose stream lies in pool `q` with base `b` (R198, R199). -/
def State.parseOldest (q b : Nat) (s : State) : State := match parseStream (s.entryStream q b) s.scene.pend with
  | (.error er, sf) => s.rejectOldest er sf
  | (.ok pl, sf) => s.acceptOldest pl sf

/-- The outcome of a well-formed entry: its stream must lie in a pool (R198). -/
def State.judgeOldest (s : State) : State := match s.poolOf (entryBase s.oldestEntry) (entryLen s.oldestEntry) with
  | none => s.rejectOldest { err := 11, off := 0 } 0
  | some q => s.parseOldest q (match s.scene.pools.getD q none with | some (b, _) => b | none => 0)

theorem judgeOldest_noPool (hp : s.poolOf (entryBase s.oldestEntry) (entryLen s.oldestEntry) = none) :
    s.judgeOldest = s.rejectOldest { err := 11, off := 0 } 0 := by
  rw [State.judgeOldest, hp]

theorem judgeOldest_pool {q b len : Nat} (hp : s.poolOf (entryBase s.oldestEntry) (entryLen s.oldestEntry) = some q)
    (hq : s.scene.pools.getD q none = some (b, len)) : s.judgeOldest = s.parseOldest q b := by
  rw [State.judgeOldest, hp]
  dsimp only
  rw [hq]

theorem acceptOldest_scene (pl : Planes) (sf : Nat) (s : State) : let x := (s.acceptOldest pl sf).scene
    x.consumed = s.scene.consumed + 1 ∧ x.pend = pl ∧ x.planes = s.scene.planes ∧ (x.waiting.getLast?.map (·.planes)) = some pl ∧
      x.waiting.length = s.scene.waiting.length + 1 := by
  simp [State.acceptOldest, Scene.fence]

section
variable (hdue : s.EntryDue) (hwf : EntryWellFormed s.oldestEntry)
include hdue hwf

/-- A well-formed entry has the outcome of its stream. -/
theorem exec_sceneEntryParse_wellFormed : exec .sceneEntryParse s = .next s.judgeOldest.settle := by
  obtain ⟨hout, hmapped, hon⟩ := hdue
  obtain ⟨hflags, hreserved, hrest, hscene, hbase, hlen⟩ := hwf
  have hparse : (s.scene.producer != s.scene.consumed && !s.mem.map.isEmpty && s.domOn domCMP) = true := by
    simp [hout, hmapped, hon]
  have hgood : ¬ (decide (3 < byteAt s.oldestEntry 6) || byteAt s.oldestEntry 7 != 0 || !(slice s.oldestEntry 16 16).all (· == 0) ||
      decide (3 < byteAt s.oldestEntry 5)) = true := by
    simpa [hreserved, and_assoc] using ⟨hflags, hrest, hscene⟩
  have haligned : ¬ (entryBase s.oldestEntry % 16 != 0 || entryLen s.oldestEntry % 16 != 0) = true := by
    simp [hbase, hlen]
  rw [exec_sceneEntryParse, execSceneEntryParse, hparse, State.when_true]
  exact congrArg done ((if_neg hgood).trans (if_neg haligned))

theorem exec_sceneEntryParse_noPool (hp : s.poolOf (entryBase s.oldestEntry) (entryLen s.oldestEntry) = none) :
    exec .sceneEntryParse s = .next (s.rejectOldest { err := 11, off := 0 } 0).settle := by
  rw [exec_sceneEntryParse_wellFormed hdue hwf, judgeOldest_noPool hp]

section
variable {q b len : Nat} (hp : s.poolOf (entryBase s.oldestEntry) (entryLen s.oldestEntry) = some q)
  (hq : s.scene.pools.getD q none = some (b, len))
include hp hq

theorem exec_sceneEntryParse_error {er : StreamError} {sf : Nat} (hx : parseStream (s.entryStream q b) s.scene.pend = (.error er, sf)) :
    exec .sceneEntryParse s = .next (s.rejectOldest er sf).settle := by
  rw [exec_sceneEntryParse_wellFormed hdue hwf, judgeOldest_pool hp hq, State.parseOldest, hx]

theorem exec_sceneEntryParse_parsed {pl : Planes} {sf : Nat} (hx : parseStream (s.entryStream q b) s.scene.pend = (.ok pl, sf)) :
    exec .sceneEntryParse s = .next (s.acceptOldest pl sf).settle := by
  rw [exec_sceneEntryParse_wellFormed hdue hwf, judgeOldest_pool hp hq, State.parseOldest, hx]

theorem sceneEntryParse_waits {pl : Planes} {sf : Nat} (hx : parseStream (s.entryStream q b) s.scene.pend = (.ok pl, sf)) :
    ∃ t, exec .sceneEntryParse s = .next t ∧ t.scene.consumed = s.scene.consumed + 1 ∧ t.scene.pend = pl ∧ t.scene.planes = s.scene.planes ∧
      (t.scene.waiting.getLast?.map (·.planes)) = some pl ∧ t.scene.waiting.length = s.scene.waiting.length + 1 := by
  refine ⟨_, exec_sceneEntryParse_parsed hdue hwf hp hq hx, ?_⟩
  rw [State.settle_scene]
  exact acceptOldest_scene pl sf s

end

end

/-- Settles O11: each command by a lemma of its own, the oldest entry by the outcome of its stream. -/
theorem sceneStream : Obligations.SceneStream := by
  refine ⟨fun m s => ⟨?query, ?poolSet, exec_sceneLeasePolicy_ok, ?leaseAdd, fun h hid _ => exec_sceneLeaseRemove_ok h hid⟩, ?entry⟩
  case query => exact fun h => ⟨(s.taken m).lowestFence, lowestFence_of_nil, lowestFence_least, exec_sceneQuery_ok h⟩
  case poolSet => exact fun h hb hfree => ⟨exec_scenePoolSet_none h hb hfree, exec_scenePoolSet_some h hb hfree⟩
  case leaseAdd =>
    intro h hb hn hunits hin hapart hroom
    obtain ⟨hlow, hfresh, hlowest⟩ := newLeaseId_lowest hroom
    exact ⟨_, hlow, hfresh, hlowest, exec_sceneLeaseAdd_ok h hb hn hunits hin hapart hroom⟩
  case entry =>
    intro s hout hmapped hon k e a n hflags hreserved hrest hscene hbase hlen
    have hdue : s.EntryDue := ⟨hout, hmapped, hon⟩
    have hwf : EntryWellFormed s.oldestEntry := ⟨hflags, hreserved, hrest, hscene, hbase, hlen⟩
    exact ⟨exec_sceneEntryParse_noPool hdue hwf,
      fun _ _ _ hp hq => ⟨fun _ _ => exec_sceneEntryParse_error hdue hwf hp hq, fun _ _ => sceneEntryParse_waits hdue hwf hp hq⟩⟩

end Sys2Proof.Machine
end

section
/-! SUPPORT. What leaves the tile cache when it makes room (R228, R247). -/

namespace Sys2Proof.Machine

variable {slots : Nat} {l : List Tile} {t u v : Tile}

/-- A tile of a flat layer's plane, which eviction spares (R247). -/
def Tile.isFlat (t : Tile) : Bool := match t.key with | .flat .. => true | _ => false

/-- A candidate for eviction, as `evictTile` picks it. -/
def Tile.evictable (t : Tile) : Bool := match t.key with | .flat .. => false | _ => true

theorem Tile.evictable_iff : t.evictable = true ↔ t.isFlat = false := by
  unfold Tile.evictable Tile.isFlat
  cases t.key <;> simp

/-- The tile that may leave first: of the candidates, one whose last sample came in the lowest strip (R228). -/
def evictionVictim (l : List Tile) : Option Tile := (l.filter Tile.evictable).argmin Tile.last

theorem mem_candidates : t ∈ l.filter Tile.evictable ↔ t ∈ l ∧ t.isFlat = false := by
  rw [List.mem_filter, Tile.evictable_iff]

/-- The scan of `evictTile` is the library's `argmin`. -/
theorem argmin_last_cons (c : Tile) (t : List Tile) :
    (c :: t).argmin Tile.last = some (t.foldl (fun a b => if b.last < a.last then b else a) c) := by
  change t.foldl (List.argAux fun b c => b.last < c.last) (some c) = _
  exact List.foldl_hom some fun a b => (apply_ite some _ _ _).symm

theorem evictTile_of_room (h : l.length < slots) : evictTile slots l = l := if_pos h

theorem evictTile_of_full (h : slots ≤ l.length) (hv : evictionVictim l = some v) : evictTile slots l = l.erase v := by
  rw [evictTile, if_neg h.not_gt]
  dsimp only
  split
  next hnil =>
    have hnone : evictionVictim l = none := List.argmin_eq_none.mpr hnil
    exact absurd (hv.symm.trans hnone) (Option.some_ne_none v)
  next c rest hcons =>
    have hscan := (congrArg (List.argmin Tile.last) hcons).trans (argmin_last_cons c rest)
    exact congrArg l.erase (Option.some.inj (hscan.symm.trans hv))

theorem exists_evictionVictim (h : ∃ t ∈ l, t.isFlat = false) : ∃ v, evictionVictim l = some v := by
  obtain ⟨t, ht⟩ := h
  refine Option.ne_none_iff_exists'.mp fun hnone => ?_
  exact List.ne_nil_of_mem (mem_candidates.mpr ht) (List.argmin_eq_none.mp hnone)

theorem evictionVictim_mem (hv : evictionVictim l = some v) : v ∈ l ∧ v.isFlat = false :=
  mem_candidates.mp (List.argmin_mem hv)

theorem evictionVictim_last_le (hv : evictionVictim l = some v) (hu : u ∈ l) (hflat : u.isFlat = false) : v.last ≤ u.last :=
  List.le_of_mem_argmin (mem_candidates.mpr ⟨hu, hflat⟩) hv

/-- Only the victim can leave the cache. -/
theorem eq_of_evicted (hv : evictionVictim l = some v) (ht : t ∈ l) (hgone : t ∉ evictTile slots l) : t = v := by
  by_contra hne
  refine hgone ?_
  rcases Nat.lt_or_ge l.length slots with hroom | hfull
  · exact (evictTile_of_room hroom).symm ▸ ht
  · rw [evictTile_of_full hfull hv]
    exact (List.mem_erase_of_ne hne).mpr ht

theorem evictTile_length_lt (hl : l.length ≤ slots) (hv : evictionVictim l = some v) : (evictTile slots l).length < slots := by
  rcases Nat.lt_or_ge l.length slots with hroom | hfull
  · rwa [evictTile_of_room hroom]
  · have hmem : v ∈ l := (evictionVictim_mem hv).1
    have hpos : 0 < l.length := List.length_pos_of_mem hmem
    rw [evictTile_of_full hfull hv, List.length_erase_of_mem hmem]
    omega

/-- Settles O58: all three parts follow from the one tile that may leave. -/
theorem evictionSparesFlatTiles : Obligations.EvictionSparesFlatTiles := by
  intro slots l flat hl hsome
  obtain ⟨v, hv⟩ := exists_evictionVictim hsome
  obtain ⟨-, hvflat⟩ := evictionVictim_mem hv
  refine ⟨evictTile_length_lt hl hv, fun t ht hflat => ?spared, fun t ht hgone => ?evicted⟩
  case spared =>
    by_contra hgone
    obtain rfl := eq_of_evicted hv ht hgone
    exact Bool.false_ne_true (hvflat.symm.trans hflat)
  case evicted =>
    obtain rfl := eq_of_evicted hv ht hgone
    exact ⟨hvflat, fun _ hu hflat => evictionVictim_last_le hv hu hflat⟩

end Sys2Proof.Machine
end

section
/-! SUPPORT. SAFE_OK after every step and every command (R266). -/

namespace Sys2Proof.Machine

variable {s : State}

theorem safeMode_iff : s.safeMode = true ↔
    s.mode.mode = .safeView ∨ s.mode.mode = .field ∨ s.mode.mode = .degraded ∨ (s.mode.mode = .maintenance ∧ s.own.hwRelease = false) := by
  unfold State.safeMode
  cases s.mode.mode <;> simp

theorem safeConds_iff : s.safeConds = true ↔
    s.safeMode = true ∧ s.ageOk = true ∧ s.hw.misses < 2 ∧ s.scan.holdExceeded = false ∧ s.hw.geomInvalid = false ∧
      ∃ c ∈ s.hw.copies, c.usable = true := by
  simp [State.safeConds, and_assoc]

theorem settle_safeInv (s : State) : s.settle.SafeInv := fun hok => (settle_safeConds s).trans (settle_safeOk hok)

/-- With a command at the front of its queue a step is that command's, else the block idles (log 4): either ends in the settling of
SAFE_OK. -/
theorem step_done (s : State) : ∃ t, step s = done t := by
  unfold step
  split
  case h_1 => exact ⟨_, rfl⟩
  case h_2 c rest _ => exact exec_done c _

/-- What ends in the settling of SAFE_OK completes, and keeps SAFE_OK low where a condition of R266 fails. -/
theorem next_safeInv_of_done {r : Result} (h : ∃ t, r = done t) : ∃ t, r = .next t ∧ t.SafeInv := by
  obtain ⟨t, rfl⟩ := h
  exact ⟨t.settle, rfl, settle_safeInv t⟩

/-- Settles O50: every step and every command ends in the settling of SAFE_OK, after which the conditions of R266 hold while it is high. -/
theorem safeOkNeedsItsConditions : Obligations.SafeOkNeedsItsConditions := by
  unfold Obligations.SafeOkNeedsItsConditions
  intro safe
  have hsafe : ∀ t : State, t.SafeInv → safe t := by
    intro t hinv hok
    obtain ⟨hmode, hrest⟩ := safeConds_iff.1 (hinv hok)
    exact ⟨safeMode_iff.1 hmode, hrest⟩
  exact ⟨fun s => (next_safeInv_of_done (step_done s)).imp fun t => And.imp_right (hsafe t),
    fun i s => (next_safeInv_of_done (exec_done i s)).imp fun t => And.imp_right (hsafe t)⟩

end Sys2Proof.Machine
end

section
/-! SUPPORT. The LAYER commands (Table 4.5, R249, R250, R258, R265, R268). -/

namespace Sys2Proof.Machine

variable {m : Master} {s : State}

theorem exec_layerQuery_ok (h : Accepts s m { code := 0x0900, cls := 0, len := 1, args := [{ off := 0, hi := 7 }] }) :
    let t := s.taken m
    let l := byteAt (s.argsOf m) 0
    exec (.layerQuery m) s = .next (okAfter s m 0x0900
      (le 1 l ++ slice (match t.layers.force with | some k => k.block l | none => List.replicate 64 0) 1 33
        ++ le 4 t.layers.appliedFrame.toNat ++ le 1 (t.layers.states.getD l 0)) t) :=
  exec_ok h rfl rfl rfl rfl

/-! ### LAYER.SET (R249, R250) -/

/-- LAYER.SET in the command catalogue (Table 4.5). -/
abbrev layerSetCmd : Cmd := { code := 0x0902, cls := 1, len := 34, args := [{ off := 0, hi := 7 }], reserved := false }

/-- The shadow block of LAYER.SET's arguments `a` written, with FLAGS bit 0 as 0 (R91). -/
def State.layerShadowSet (a : Bytes) (s : State) : State :=
  s.modWin fun x => memWrite x (blockAddr (byteAt a 0) + 1) (patch (slice a 1 33) 2 [BitVec.ofNat 8 (byteAt a 3 / 2 * 2)])

/-- What LAYER.SET with the arguments `a` does once it is judged: the shadow block is written, and COMMIT decides the answer. -/
def setLayer (a : Bytes) (s : State) : State × Reply :=
  let w := s.layerShadowSet a
  if !bit (byteAt a 3) 0 then (w, .ok (le 4 0))
  else match w.commit (2 ^ byteAt a 0) false with
    | (u, none) => (u, .ok (le 4 u.nextFrame.toNat))
    | (u, some (r, k)) => (u, .kept (if r == 9 then stNoResource else stCommitRejected) r (unitLayer k))

theorem exec_layerSet (m : Master) (s : State) :
    exec (.layerSet m) s = done (runCmd layerSetCmd noUnit noPre (fun x => setLayer x.args) m s) := rfl

section
variable {a : Bytes}

theorem setLayer_without_commit (hc : bit (byteAt a 3) 0 = false) : setLayer a s = (s.layerShadowSet a, .ok (le 4 0)) := by
  simp [setLayer, hc]

theorem setLayer_accepted (hc : bit (byteAt a 3) 0 = true) (hr : (s.layerShadowSet a).commitReason = none) :
    let u := (s.layerShadowSet a).accept (2 ^ byteAt a 0) false
    setLayer a s = (u, .ok (le 4 u.nextFrame.toNat)) := by
  simp [setLayer, hc, commit_of_no_reason hr]

theorem setLayer_rejected (hc : bit (byteAt a 3) 0 = true) {r k : Nat} (hr : (s.layerShadowSet a).commitReason = some (r, k)) :
    setLayer a s = ((s.layerShadowSet a).rejectCommit r k, .kept (if r = 9 then stNoResource else stCommitRejected) r (unitLayer k)) := by
  simp [setLayer, hc, commit_of_reason hr]

end

section
variable (h : Accepts s m layerSetCmd)
include h

theorem exec_layerSet_without_commit (hc : bit (byteAt (s.argsOf m) 3) 0 = false) :
    exec (.layerSet m) s = .next (okAfter s m 0x0902 (le 4 0) ((s.taken m).layerShadowSet (s.argsOf m))) :=
  (exec_layerSet m s).trans (exec_ok h rfl rfl rfl (setLayer_without_commit hc))

theorem exec_layerSet_accepted (hc : bit (byteAt (s.argsOf m) 3) 0 = true)
    (hr : ((s.taken m).layerShadowSet (s.argsOf m)).commitReason = none) :
    let u := ((s.taken m).layerShadowSet (s.argsOf m)).accept (2 ^ byteAt (s.argsOf m) 0) false
    exec (.layerSet m) s = .next (okAfter s m 0x0902 (le 4 u.nextFrame.toNat) u) :=
  (exec_layerSet m s).trans (exec_ok h rfl rfl rfl (setLayer_accepted hc hr))

/-- A rejected commit stays, with its REASON and its layer in the answer (R250). -/
theorem exec_layerSet_rejected (hc : bit (byteAt (s.argsOf m) 3) 0 = true) {r k : Nat}
    (hr : ((s.taken m).layerShadowSet (s.argsOf m)).commitReason = some (r, k)) :
    exec (.layerSet m) s = .next (((((s.taken m).layerShadowSet (s.argsOf m)).rejectCommit r k).releaseBulk m.code 0).answer m.code 0x0902
      (s.tagOf m) (if r = 9 then stNoResource else stCommitRejected) 0 (failData 0xFF r (unitLayer k))).settle := by
  rw [exec_layerSet, runCmd_body h rfl rfl rfl, ctx_args, setLayer_rejected hc hr]
  rfl

end

/-! ### LAYER.CAPTURE_SET (R258) -/

/-- LAYER.CAPTURE_SET in the command catalogue (Table 4.5). -/
abbrev layerCaptureSetCmd : Cmd := { code := 0x0903, cls := 1, len := 24, args := [{ off := 0, hi := 1 }, { off := 1, hi := 1 }, { off := 4, n := 5 },
  { off := 12, n := 5 }, { off := 20, n := 4 }] }

/-- The two buffers of LAYER.CAPTURE_SET's arguments `a` may take an image: they lie in capture regions, a line of the image
fits their pitch, and neither is held (R258). -/
def State.captureFits (a : Bytes) (s : State) : Prop :=
  let n := u32At a 20 * s.captureSize.2
  s.inRegion (a40At a 4) n (some 3) = true ∧ s.inRegion (a40At a 12) n (some 3) = true ∧ u32At a 20 % 64 = 0 ∧
    captureLine (byteAt a 1) s.captureSize.1 ≤ u32At a 20 ∧ s.held (a40At a 4) n = false ∧ s.held (a40At a 12) n = false

/-- A capture that is off asks nothing of its buffers. -/
theorem exec_layerCaptureSet_ok (h : Accepts s m layerCaptureSetCmd)
    (hfit : byteAt (s.argsOf m) 0 ≠ 0 → (s.taken m).captureFits (s.argsOf m)) : let a := s.argsOf m
    exec (.layerCaptureSet m) s = .next (okAfter s m 0x0903 [] ((s.taken m).modLayers fun x =>
      { x with captureNext := some { enable := byteAt a 0 == 1, format := byteAt a 1, bufA := a40At a 4, bufB := a40At a 12, pitch := u32At a 20 } })) := by
  rcases eq_or_ne (byteAt (s.argsOf m) 0) 0 with hoff | hon
  · exact exec_ok h rfl rfl (by simp [hoff]) (by simp [hoff])
  · obtain ⟨hina, hinb, hunits, hline, hheldA, hheldB⟩ := hfit hon
    exact exec_ok h rfl rfl (by simp [hina, hinb, hunits, Nat.not_lt.2 hline]) (by simp [hheldA, hheldB])

/-! ### SAFE-VIEW's report and age limit (R265, R268) -/

theorem exec_layerHwQuery_ok (h : Accepts s m { code := 0x0904, cls := 0 }) : let t := s.taken m
    exec (.layerHwQuery m) s = .next (okAfter s m 0x0904
      (match t.hw.reports with
        | r :: _ => le 4 t.hwFrame ++ le 4 r.crc.toNat ++ le 2 t.hwAge ++ le 1 (bitOf t.pins.safeOk 0 + bitOf r.panelMatch 1) ++ le 1 t.hw.inUse
        | [] => le 4 t.hwFrame ++ le 4 0 ++ le 2 t.hwAge ++ le 1 (bitOf t.pins.safeOk 0) ++ le 1 t.hw.inUse) t) := by
  refine exec_ok h rfl rfl rfl ?_
  cases (s.taken m).hw.reports <;> rfl

theorem exec_layerHwAgeSet_ok (h : Accepts s m { code := 0x0906, cls := 2, len := 2, args := [{ off := 0, n := 2, lo := 50, hi := 2000 }] }) :
    exec (.layerHwAgeSet m) s = .next (okAfter s m 0x0906 [] ((s.taken m).modHw fun x => { x with ageMs := u16At (s.argsOf m) 0 })) :=
  exec_ok h rfl rfl rfl rfl

/-- Settles O13, a lemma for each command, and for LAYER.SET by what becomes of its commit. -/
theorem layerCommands : Obligations.LayerCommands :=
  ⟨fun _ _ => ⟨exec_layerQuery_ok, fun h => ⟨exec_layerSet_without_commit h, exec_layerSet_accepted h, fun hc _ _ => exec_layerSet_rejected h hc⟩⟩,
    fun _ _ => ⟨exec_layerCaptureSet_ok, exec_layerHwQuery_ok, exec_layerHwAgeSet_ok⟩⟩

end Sys2Proof.Machine
end

section
/-! SUPPORT. A step of the queue. -/

namespace Sys2Proof.Machine

theorem step_of_pending {c : Instr} {rest : List Instr} {s : State} (h : s.pending = c :: rest) :
    step s = exec c { s with pending := rest } := by
  rw [step, h]
  rfl

theorem step_of_idle {s : State} (h : s.pending = []) : step s = .next ({ s with time := s.time + 1 } : State).settle := by
  conv_lhs => rw [step, h]
  rfl

/-- Settles O49: a state with a command put at the front of its queue is one whose queue has that front. -/
theorem stepRunsTheFrontCommand : Obligations.StepRunsTheFrontCommand :=
  ⟨fun _ _ => step_of_pending rfl, fun _ _ _ => step_of_pending, fun _ => step_of_idle⟩

end Sys2Proof.Machine
end

section
/-! SUPPORT. The newest of the Placard's intents (R388, R391). -/

namespace Sys2Proof.Machine

variable {l : List PlcSlot} {b : Option PlcSlot} {x : PlcSlot}

/-- The newer of the intent `b` found so far and the slot `x`: an invalid slot holds none. -/
def newerIntent (b : Option PlcSlot) (x : PlcSlot) : Option PlcSlot :=
  if !x.valid then b else match b with
    | some y => if y.seq.toNat < x.seq.toNat then some x else some y
    | none => some x

theorem newestIntent_eq (l : List PlcSlot) : newestIntent l = l.foldl newerIntent none := rfl

/-- `b` is the newest intent of the slots `l`: none where no slot is valid, else a valid slot that no valid slot exceeds. -/
def IsNewestIntent (l : List PlcSlot) : Option PlcSlot → Prop
  | none => ∀ x ∈ l, x.valid = false
  | some x => x ∈ l ∧ x.valid = true ∧ ∀ y ∈ l, y.valid = true → y.seq.toNat ≤ x.seq.toNat

theorem isNewestIntent_newerIntent (h : IsNewestIntent l b) (x : PlcSlot) : IsNewestIntent (l ++ [x]) (newerIntent b x) := by
  cases hx : x.valid with
  | false => cases b <;> simp_all [newerIntent, IsNewestIntent, or_imp]
  | true =>
    cases b with
    | none => simp_all [newerIntent, IsNewestIntent, or_imp]
    | some y =>
      obtain ⟨hmem, hvalid, hmax⟩ := h
      by_cases hlt : y.seq.toNat < x.seq.toNat
      · have hle : ∀ z ∈ l, z.valid = true → z.seq.toNat ≤ x.seq.toNat := fun z hz hv => (hmax z hz hv).trans hlt.le
        simpa [newerIntent, IsNewestIntent, or_imp, forall_and, hx, hlt] using hle
      · have hle : x.seq.toNat ≤ y.seq.toNat := Nat.le_of_not_lt hlt
        simpa [newerIntent, IsNewestIntent, hx, hlt, or_imp, forall_and, hmem, hvalid, hle] using hmax

theorem isNewestIntent_newestIntent (l : List PlcSlot) : IsNewestIntent l (newestIntent l) := by
  rw [newestIntent_eq]
  induction l using List.reverseRecOn with
  | nil => simp [IsNewestIntent]
  | append_singleton l x ih =>
    rw [List.foldl_append]
    exact isNewestIntent_newerIntent ih x

/-- Settles O57: what the fold over the slots finds is their newest intent. -/
theorem newestIntentIsTheHighest : Obligations.NewestIntentIsTheHighest := by
  intro l
  have h := isNewestIntent_newestIntent l
  cases hn : newestIntent l with
  | none =>
    rw [hn] at h
    exact ⟨iff_of_true rfl h, fun _ hx => absurd hx.symm (Option.some_ne_none _)⟩
  | some y =>
    rw [hn] at h
    obtain ⟨hmem, hvalid, hmax⟩ := h
    refine ⟨iff_of_false (Option.some_ne_none y) fun hall => ?_, fun x hx => ?_⟩
    · rw [hall y hmem] at hvalid
      cases hvalid
    · cases hx
      exact ⟨hmem, hvalid, hmax⟩

end Sys2Proof.Machine
end

section
/-! SUPPORT. The taps of the transmit equaliser under a STEP request (R301, R305, Table 12.3). -/

namespace Sys2Proof.Machine

/-- What the decrease of a tap that a STEPS field asks for frees of the sum. -/
def stepDown (lo v dir : Nat) : Nat := if dir == 2 && lo < v then 1 else 0

/-- A tap within its limits stays there and moves by at most one, and its growth lies within the room left. -/
theorem stepTap_within {lo hi v : Nat} (hlo : lo ≤ v) (hhi : v ≤ hi) (dir room : Nat) : let w := (stepTap lo hi v dir room).1
    lo ≤ w ∧ w ≤ hi ∧ w ≤ v + 1 ∧ v ≤ w + 1 ∧ w - v ≤ room ∧ w + stepDown lo v dir = v + (w - v) := by
  by_cases hup : dir = 1
  · have hd : stepDown lo v dir = 0 := by simp [stepDown, hup]
    simp only [stepTap, hup, beq_self_eq_true, if_true, beq_iff_eq] at hd ⊢
    split_ifs <;> simp only <;> omega
  · by_cases hdown : dir = 2
    · have hd : stepDown lo v dir = if lo < v then 1 else 0 := by simp [stepDown, hdown]
      rw [hd]
      simp only [stepTap, hdown, beq_iff_eq]
      split_ifs <;> simp only <;> omega
    · have hd : stepDown lo v dir = 0 := by simp [stepDown, hdown]
      simp [stepTap, hup, hdown, hlo, hhi, hd]

/-- Settles O48: the sum keeps to 63, as each tap grows only into the room that the taps before it have left. -/
theorem stepsKeepTheTapLimits : Obligations.StepsKeepTheTapLimits := by
  intro x steps hpre hmlo hmain hpost hsum
  let room := 63 + stepDown 0 x.pre (bits steps 1 0) + stepDown 27 x.main (bits steps 3 2) + stepDown 0 x.post (bits steps 5 4)
    - (x.pre + x.main + x.post)
  let a := (stepTap 0 12 x.pre (bits steps 1 0) room).1
  let b := (stepTap 27 63 x.main (bits steps 3 2) (room - (a - x.pre))).1
  let c := (stepTap 0 24 x.post (bits steps 5 4) (room - (a - x.pre) - (b - x.main))).1
  have ha := stepTap_within (Nat.zero_le _) hpre (bits steps 1 0) room
  have hb := stepTap_within hmlo hmain (bits steps 3 2) (room - (a - x.pre))
  have hc := stepTap_within (Nat.zero_le _) hpost (bits steps 5 4) (room - (a - x.pre) - (b - x.main))
  obtain ⟨-, ha1, ha2, ha3, ha4, ha5⟩ := ha
  obtain ⟨hb0, hb1, hb2, hb3, hb4, hb5⟩ := hb
  obtain ⟨-, hc1, hc2, hc3, hc4, hc5⟩ := hc
  have hroom : room + (x.pre + x.main + x.post) =
    63 + stepDown 0 x.pre (bits steps 1 0) + stepDown 27 x.main (bits steps 3 2) + stepDown 0 x.post (bits steps 5 4) := by omega
  intro y
  have hy : y.pre = a ∧ y.main = b ∧ y.post = c := ⟨rfl, rfl, rfl⟩
  obtain ⟨hyp, hym, hyc⟩ := hy
  rw [hyp, hym, hyc]
  omega

end Sys2Proof.Machine
end

section
/-! SUPPORT. The address map of DRAM read in both directions (R330). -/

namespace Sys2Proof.Machine

variable {a b : Nat} {s : State}

/-- The hash of R330 as the rule writes it, of the five lowest hexadecimal digits of the granule's row. -/
theorem granuleHash_eq (q : Nat) : granuleHash q =
    (q &&& 15) ^^^ ((q >>> 4) &&& 15) ^^^ ((q >>> 8) &&& 15) ^^^ ((q >>> 12) &&& 15) ^^^ ((q >>> 16) &&& 15) := by
  have hdigit : ∀ x : Nat, x &&& 15 = x % 16 := fun x => Nat.and_two_pow_sub_one_eq_mod x 4
  simp [granuleHash, List.range_succ, hdigit, Nat.shiftRight_eq_div_pow]

theorem granuleHash_lt (q : Nat) : granuleHash q < 16 := by
  have hdigit : ∀ k, q / 16 ^ k % 16 < 2 ^ 4 := fun k => Nat.mod_lt _ (by norm_num)
  exact List.foldlRecOn (motive := fun x : Nat => x < 2 ^ 4) _ _ (by norm_num) fun x hx k _ => Nat.xor_lt_two_pow hx (hdigit k)

/-- An address of DRAM needs a channel in the map. -/
theorem map_length_pos (ha : a < s.dramTop) : 0 < s.mem.map.length := by
  by_contra h0
  rw [State.dramTop, Nat.eq_zero_of_not_pos h0, Nat.zero_mul] at ha
  exact Nat.not_lt_zero _ ha

/-- Where in the map the channel of an address stands. -/
def State.mapIndex (s : State) (a : Nat) : Nat :=
  (a / 2048 % s.mem.map.length + granuleHash (a / 2048 / s.mem.map.length)) % s.mem.map.length

theorem mapIndex_lt (ha : a < s.dramTop) : s.mapIndex a < s.mem.map.length := Nat.mod_lt _ (map_length_pos ha)

theorem getElem?_mapIndex (ha : a < s.dramTop) : s.mem.map[s.mapIndex a]? = some (s.dramPlace a).1 := by
  have hi := mapIndex_lt ha
  rw [dramPlace_eq, ← State.mapIndex, List.getD_eq_getElem _ _ hi, List.getElem?_eq_getElem hi]

theorem dramPlace_local_lt_chanBytes (ha : a < s.dramTop) : (s.dramPlace a).2 < chanBytes s := by
  obtain ⟨k, hk, -⟩ := chanBytes_eq s
  rw [State.dramTop, hk] at ha
  have hg : a / 2048 < s.mem.map.length * k := Nat.div_lt_of_lt_mul (by rwa [Nat.mul_left_comm] at ha)
  have hq : a / 2048 / s.mem.map.length < k := Nat.div_lt_of_lt_mul hg
  rw [dramPlace_eq, hk]
  simp only
  omega

/-- The rotation by `h` taken back. -/
theorem rotate_back {n x h : Nat} (hx : x < n) (hh : h < 16) : ((x + h) % n + 16 * n - h) % n = x := by
  have hle : h ≤ (x + h) % n + 16 * n := by omega
  have hmod : (x + h) % n + 16 * n - h + h ≡ x + h [MOD n] := by
    rw [Nat.sub_add_cancel hle]
    simp [Nat.ModEq]
  have hback := Nat.ModEq.add_right_cancel' h hmod
  rwa [Nat.ModEq, Nat.mod_eq_of_lt hx] at hback

/-- A channel stands in the map once. -/
theorem findIdx?_map (hm : s.mem.map.Pairwise (· < ·)) {i : Nat} (hi : i < s.mem.map.length) :
    s.mem.map.findIdx? (· == s.mem.map[i]) = some i := by
  rw [List.findIdx?_eq_some_iff_getElem]
  refine ⟨hi, beq_self_eq_true _, fun j hj => ?_⟩
  have hlt : s.mem.map[j] < s.mem.map[i] := List.pairwise_iff_getElem.1 hm j i _ hi hj
  simpa using hlt.ne

/-- The inverse leads back from the place of an address to it. -/
theorem deviceOf_dramPlace (hm : s.mem.map.Pairwise (· < ·)) (ha : a < s.dramTop) :
    s.deviceOf (s.dramPlace a).1 (s.dramPlace a).2 = a := by
  have hn := map_length_pos ha
  have hi := mapIndex_lt ha
  have hchan : (s.dramPlace a).1 = s.mem.map[s.mapIndex a] := by
    rw [dramPlace_eq, ← State.mapIndex, List.getD_eq_getElem _ _ hi]
  have hlocal : (s.dramPlace a).2 = a / 2048 / s.mem.map.length * 2048 + a % 2048 := by rw [dramPlace_eq]
  have hrow : (s.dramPlace a).2 / 2048 = a / 2048 / s.mem.map.length := by omega
  have hbyte : (s.dramPlace a).2 % 2048 = a % 2048 := by omega
  have hback : (s.mapIndex a + 16 * s.mem.map.length - granuleHash (a / 2048 / s.mem.map.length)) % s.mem.map.length =
    a / 2048 % s.mem.map.length := rotate_back (Nat.mod_lt _ hn) (granuleHash_lt _)
  unfold State.deviceOf
  simp only [hrow, hbyte, hchan, findIdx?_map hm hi, Option.getD_some]
  rw [← granuleHash, hback, Nat.div_add_mod']
  exact Nat.div_add_mod' a 2048

/-- A granule lies in one channel. -/
theorem dramPlace_granule (h : b / 2048 = a / 2048) : (s.dramPlace b).1 = (s.dramPlace a).1 := by
  rw [dramPlace_eq, dramPlace_eq, h]

theorem populated_above (h : s.dramTop ≤ a) (hc : a < cellarBase) : s.populated a = false := by
  simp [State.populated, State.inDram, inCellar, h, hc]

/-- Settles O56, a lemma for each part of the rule. -/
theorem dramMapIsOneToOne : Obligations.DramMapIsOneToOne := by
  intro a s hm
  have hgranule : a >>> 11 = a / 2048 := Nat.shiftRight_eq_div_pow a 11
  have hbyte : a &&& 2047 = a % 2048 := Nat.and_two_pow_sub_one_eq_mod a 11
  refine ⟨populated_above, fun ha => ⟨?_, ?_, dramPlace_local_lt_chanBytes ha, deviceOf_dramPlace hm ha, fun _ => dramPlace_granule, rfl⟩⟩
  · rw [← granuleHash_eq, hgranule]
    exact getElem?_mapIndex ha
  · rw [hgranule, hbyte, dramPlace_eq]

end Sys2Proof.Machine
end

section
/-! SUPPORT. The SEC commands (Table 4.8, R441, R442, R446, R447, R450 to R452). -/

namespace Sys2Proof.Machine

variable {m : Master} {s : State}

/-- A body that refuses with its bulk buffer held. -/
theorem exec_err_bulk {c : Cmd} {present pre body} {t : State} {st o r u : Nat} (h : Accepts s m c) (hf : BulkFits s m c)
    (hb : c.bulk.isSome = true)
    (hp : present (c.ctx m.code (s.frontSlot m.code)) (s.taken m) = none)
    (hq : pre (c.ctx m.code (s.frontSlot m.code)) (s.taken m) = none)
    (hr : body (c.ctx m.code (s.frontSlot m.code)) (s.takenBulk m) = (t, .err st o r u)) :
    done (runCmd c present pre body m s) =
      .next (((s.takenBulk m).releaseBulk m.code 0).answer m.code c.code (s.tagOf m) st 0 (failData o r u)).settle := by
  rw [runCmd_body_bulk h hf hb hp hq, hr]
  rfl

/-! ### Queries (R441, R446) -/

theorem exec_secQuery_ok (h : Accepts s m { code := 0x1300, cls := 0 }) : let t := s.taken m
    exec (.secQuery m) s = .next (okAfter s m 0x1300
      ([if t.sec.fseal then 1 else 0, if t.ownerKeySet then 1 else 0] ++ le 1 t.tp.slot ++ [0] ++ le 8 t.rollback ++ t.sec.measurement ++ t.ownerHash) t) :=
  exec_ok h rfl rfl rfl rfl

/-- SEC.ATTEST in the command catalogue (Table 4.8). -/
abbrev secAttestCmd : Cmd := { code := 0x1301, cls := 0, bulk := some 1, len := 48, args := [{ off := 16, n := 32 }] }

theorem exec_secAttest_pend (h : Accepts s m secAttestCmd) (hf : BulkFits s m secAttestCmd) (hl : 36864 ≤ s.bulkLen m)
    (ho : (s.taken m).opOn 0x1305 = false) (hn : s.pendingCount m.code < 16) :
    exec (.secAttest m) s = .next (pendAfter s m 0x1301 300000000 0 (s.takenBulk m)) :=
  exec_pend_bulk h hf rfl hn rfl (if_neg (Nat.not_lt.2 hl)) (if_neg (Bool.eq_false_iff.1 ho))

/-! ### Images (R450 to R452) -/

/-- SEC.FW_STAGE in the command catalogue. -/
abbrev secFwStageCmd : Cmd := { code := 0x1302, cls := 1, bulk := some 0, len := 17, args := [{ off := 16 }] }

/-- The slot that firmware runs from, and a slot that is not there, are no target. -/
theorem otherSlot {i slot : Nat} (hi : i ≠ slot) (h1 : i ≤ 1) : ¬ (i == slot || decide (1 < i)) = true := by
  simp [hi, h1]

theorem exec_secFwStage_pend (h : Accepts s m secFwStageCmd) (hf : BulkFits s m secFwStageCmd)
    (hi : byteAt (s.argsOf m) 16 ≠ (s.taken m).tp.slot) (h1 : byteAt (s.argsOf m) 16 ≤ 1) (hl : s.bulkLen m ≤ 24 * 2 ^ 20)
    (ho : (s.taken m).secBusy = false) (hn : s.pendingCount m.code < 16) : ∃ bad,
    exec (.secFwStage m) s = .next (pendAfter s m 0x1302 90000000000 bad ((s.takenBulk m).setSlot (byteAt (s.argsOf m) 16) false none)) :=
  ⟨_, exec_pend_bulk h hf rfl hn rfl ((if_neg (otherSlot hi h1)).trans (if_neg (Nat.not_lt.2 hl))) (if_neg (Bool.eq_false_iff.1 ho))⟩

/-- SEC.FW_ACTIVATE in the command catalogue. -/
abbrev secFwActivateCmd : Cmd := { code := 0x1303, cls := 1, len := 1, args := [{ off := 0 }] }

/-- The checks on the firmware of slot `i` that SEC.FW_ACTIVATE makes (R451). -/
def State.activateCheck (i : Nat) (s : State) : Option (Nat × Nat) :=
  s.conCheck 0 (s.flashCon (slotBase i) slotSize) slotSize [] [3, 4, 5, 6]

/-- The live update to slot `i` begins: it is preferred on trial, and Taproot drains. -/
def State.beginUpdate (i : Nat) (s : State) : State :=
  (s.setPreferred i true).modTp fun x => { x with state := .draining, deadline := some (s.time + 100000000), oldSlot := x.slot, restartCause := 0 }

section
variable (h : Accepts s m secFwActivateCmd) (hi : byteAt (s.argsOf m) 0 ≠ (s.taken m).tp.slot) (h1 : byteAt (s.argsOf m) 0 ≤ 1)
  (hv : (s.taken m).slotValid (byteAt (s.argsOf m) 0) = true)
include h hi h1 hv

theorem exec_secFwActivate_failed {st r : Nat} (hc : (s.taken m).activateCheck (byteAt (s.argsOf m) 0) = some (st, r)) :
    exec (.secFwActivate m) s = .next (errAfter s m 0x1303 st 0xFF r 0xFFFF) := by
  unfold State.activateCheck at hc
  refine exec_err h rfl rfl (if_neg (otherSlot hi h1)) (t := s.taken m) ?_
  simp [hv, hc]

theorem exec_secFwActivate_pend (hc : (s.taken m).activateCheck (byteAt (s.argsOf m) 0) = none) (ho : (s.taken m).secBusy = false)
    (hm : (s.taken m).sec.items.length < 16) (hn : s.pendingCount m.code < 16) :
    exec (.secFwActivate m) s = .next (pendAfter s m 0x1303 1000000000 (byteAt (s.argsOf m) 0) ((s.taken m).beginUpdate (byteAt (s.argsOf m) 0))) := by
  unfold State.activateCheck at hc
  refine exec_pend h rfl hn rfl (if_neg (otherSlot hi h1)) ?_
  simp only [ctx_u8, hv, hc, ho, Nat.not_le.2 hm, Bool.not_true, Bool.false_eq_true, if_false]
  rfl

end

/-- SEC.BUNDLE_LOAD in the command catalogue. -/
abbrev secBundleLoadCmd : Cmd := { code := 0x1306, cls := 1, bulk := some 0, len := 17, args := [{ off := 16, hi := 1 }] }

theorem exec_secBundleLoad_pend (h : Accepts s m secBundleLoadCmd) (hf : BulkFits s m secBundleLoadCmd)
    (ho : (s.taken m).secBusy = false) (hn : s.pendingCount m.code < 16) : ∃ bad,
    exec (.secBundleLoad m) s = .next (pendAfter s m 0x1306 10000000000 bad (s.takenBulk m)) :=
  ⟨_, exec_pend_bulk h hf rfl hn rfl rfl (if_neg (Bool.eq_false_iff.1 ho))⟩

/-! ### The owner key (R442) -/

/-- SEC.OWNER_KEY in the command catalogue. -/
abbrev secOwnerKeyCmd : Cmd := { code := 0x1304, cls := 1, bulk := some 0, len := 16 }

/-- The new owner key of a rotation container. -/
def rotationKey (b : Bytes) : Bytes := slice (conPayloadBytes b) 16 48

/-- The rotation container `b` has the form of R442, for the owner key that is set now; the rest of Table 18.5 is left to
`conCheck`. -/
def State.rotationFits (b : Bytes) (s : State) : Prop :=
  let p := conPayloadBytes b
  conPayload b = 96 ∧ zeros p 64 32 = true ∧ ((rotationKey b).all (· == 0) = true → s.ownerKeySet = true ∧ s.sec.fseal = false) ∧
    conBlocks b 1 = true ∧ u64At p 0 = s.id.serial.toNat ∧ u64At s.ownerKey 32 < u64At p 8 ∧
    (s.ownerKeySet = true ∨ slice b 64 48 = rotationKey b)

/-- A removal of the owner key is one of a key that is set, with the field seal open. -/
theorem rotationFits_removes {b : Bytes} (h : s.rotationFits b) : ((rotationKey b).all (· == 0) && !s.ownerKeySet) = false ∧
    ((rotationKey b).all (· == 0) && s.sec.fseal) = false := by
  obtain ⟨-, -, hremoves, -⟩ := h
  by_cases hr : (rotationKey b).all (· == 0) = true
  · obtain ⟨hset, hseal⟩ := hremoves hr
    rw [hset, hseal, Bool.not_true, Bool.and_false]
    exact ⟨rfl, rfl⟩
  · rw [Bool.eq_false_iff.2 hr]
    exact ⟨rfl, rfl⟩

/-- What the payload says of serial number, sequence and key is accepted. -/
theorem rotationFits_payload {b : Bytes} (h : s.rotationFits b) :
    (u64At (conPayloadBytes b) 0 != s.id.serial.toNat || decide (u64At (conPayloadBytes b) 8 ≤ u64At s.ownerKey 32) ||
      (!s.ownerKeySet && slice b 64 48 != rotationKey b)) = false := by
  obtain ⟨-, -, -, -, hserial, hseq, hfirst⟩ := h
  rcases hfirst with hset | heq
  · simp [hserial, hseq, hset]
  · simp [hserial, hseq, heq]

/-- The content of the buffer of a command that holds it. -/
abbrev State.bulkContent (s : State) (m : Master) : Bytes := (s.takenBulk m).devRead (s.bulkAt m) (s.bulkLen m)

section
variable (h : Accepts s m secOwnerKeyCmd) (hf : BulkFits s m secOwnerKeyCmd)
  (hform : (s.takenBulk m).conCheck 3 (s.bulkContent m) (s.bulkLen m) (rotationKey (s.bulkContent m)) [1, 2] = none)
  (hb : (s.takenBulk m).rotationFits (s.bulkContent m))
include h hf hform hb

theorem exec_secOwnerKey_failed {st r : Nat}
    (hc : (s.takenBulk m).conCheck 3 (s.bulkContent m) (s.bulkLen m) (rotationKey (s.bulkContent m)) allChecks = some (st, r)) :
    exec (.secOwnerKey m) s =
      .next (((s.takenBulk m).releaseBulk m.code 0).answer m.code 0x1304 (s.tagOf m) st 0 (failData 0xFF r 0xFFFF)).settle := by
  obtain ⟨hunset, hunsealed⟩ := rotationFits_removes hb
  obtain ⟨hlen, hzero, -⟩ := hb
  unfold rotationKey at hform hunset hunsealed hc
  refine exec_err_bulk h hf rfl rfl rfl (t := s.takenBulk m) ?_
  rw [ctx_bulk rfl, ctx_size rfl]
  simp only [hform, hlen, hzero, hunset, hunsealed, hc, bne_self_eq_false, Bool.not_true, Bool.or_false, Bool.false_eq_true, if_false]

theorem exec_secOwnerKey_pend (hn : s.pendingCount m.code < 16) (ho : (s.taken m).secBusy = false)
    (hc : (s.takenBulk m).conCheck 3 (s.bulkContent m) (s.bulkLen m) (rotationKey (s.bulkContent m)) allChecks = none) :
    exec (.secOwnerKey m) s = .next (pendAfter s m 0x1304 100000000 0 (s.takenBulk m)) := by
  obtain ⟨hunset, hunsealed⟩ := rotationFits_removes hb
  have hpayload := rotationFits_payload hb
  obtain ⟨hlen, hzero, -, hblocks, -⟩ := hb
  have hbusy : (s.takenBulk m).secBusy = false := ho
  unfold rotationKey at hform hunset hunsealed hpayload hc
  refine exec_pend_bulk h hf rfl hn rfl rfl ?_
  rw [ctx_bulk rfl, ctx_size rfl]
  simp only [hform, hlen, hzero, hunset, hunsealed, hc, hblocks, hpayload, hbusy, bne_self_eq_false, Bool.not_true, Bool.or_false,
    Bool.false_eq_true, if_false]
  rfl

end

/-! ### The field seal (R447) -/

/-- SEC.SEAL in the command catalogue. -/
abbrev secSealCmd : Cmd := { code := 0x1305, cls := 1, len := 4, args := [{ off := 0, n := 4, lo := 0x5EA10F1D, hi := 0x5EA10F1D }] }

/-- SEAL_EN sampled at the execution (R63). -/
def State.sealSampled (b : Bool) (s : State) : State := s.modPins fun p => { p with sealEn := b }

section
variable {b : Bool} (h : Accepts (s.sealSampled b) m secSealCmd) (hs : s.sec.fseal = false)
include h hs

theorem exec_secSeal_pend (hb : b = true) (hk : s.ownerKeySet = true) (ho : s.secBusy = false) (hn : s.pendingCount m.code < 16) :
    exec (.secSeal m b) s = .next (pendAfter (s.sealSampled b) m 0x1305 2000000000 0 ((s.sealSampled b).taken m)) :=
  have hpin : ((s.sealSampled b).taken m).pins.sealEn = true := hb
  exec_pend h rfl hn rfl rfl ((if_neg (Bool.eq_false_iff.1 hs)).trans ((if_neg (Bool.eq_false_iff.1 (congrArg not hpin))).trans
    ((if_neg (Bool.eq_false_iff.1 (congrArg not hk))).trans (if_neg (Bool.eq_false_iff.1 ho)))))

theorem exec_secSeal_low (hb : b = false) :
    exec (.secSeal m b) s = .next (errAfter (s.sealSampled b) m 0x1305 stAuthFail 0xFF 1 0xFFFF) :=
  have hpin : ((s.sealSampled b).taken m).pins.sealEn = false := hb
  exec_err h rfl rfl rfl ((if_neg (Bool.eq_false_iff.1 hs)).trans (if_pos (congrArg not hpin)))

end

/-- Settles O24: each command by a lemma of its own, SEC.FW_ACTIVATE and SEC.OWNER_KEY by whether a check fails. -/
theorem securityCommands : Obligations.SecurityCommands := by
  refine ⟨fun m s => ⟨exec_secQuery_ok, exec_secAttest_pend, exec_secFwStage_pend, fun h hi h1 hv ho hm hn => ?_,
    fun h hf ho hn => exec_secBundleLoad_pend h hf ho hn⟩,
    fun m s => ⟨fun h hf hform hlen hzero hremoves hblocks hserial hseq hfirst ho hn => ?_,
      fun b h hs hk ho hn => ⟨fun hb => exec_secSeal_pend h hs hb hk ho hn, exec_secSeal_low h hs⟩⟩⟩
  · split
    · exact exec_secFwActivate_pend h hi h1 hv ‹_› ho hm hn
    · exact exec_secFwActivate_failed h hi h1 hv ‹_›
  · have hfits : (s.takenBulk m).rotationFits (s.bulkContent m) := ⟨hlen, hzero, hremoves, hblocks, hserial, hseq, hfirst⟩
    split
    · exact exec_secOwnerKey_pend h hf hform hfits hn ho ‹_›
    · exact exec_secOwnerKey_failed h hf hform hfits ‹_›

end Sys2Proof.Machine
end

section
/-! SUPPORT. The NVM and LOG commands and the writes of the NVM store (Tables 4.7, 4.8, R424 to R427, R430). -/

namespace Sys2Proof.Machine

variable {m : Master} {s : State}

theorem exec_nvmDeferredWrite (k : Nat) (s : State) : exec (.nvmDeferredWrite k) s = execNvmDeferredWrite k s := rfl
theorem exec_nvmDailyCheck (l : List Nat) (s : State) : exec (.nvmDailyCheck l) s = execNvmDailyCheck l s := rfl

/-! ### Records (R424, R426) -/

/-- NVM.READ in the command catalogue (Table 4.7). -/
abbrev nvmReadCmd : Cmd := { code := 0x1200, cls := 0, bulk := some 1, len := 18, args := [{ off := 16, n := 2 }] }

theorem exec_nvmRead_ok (h : Accepts s m nvmReadCmd) (hf : BulkFits s m nvmReadCmd) (hk : knownRecord (u16At (s.argsOf m) 16) = true)
    (hs : u16At (s.argsOf m) 16 ≠ 0x205) : let tb := s.takenBulk m
    let id := u16At (s.argsOf m) 16
    let u := match (tb.record id).fallback with | some k => tb.post 0x1280 1 (le 2 id ++ le 1 k) | none => tb
    exec (.nvmRead m) s = .next (okAfter s m 0x1200
      (le 4 (tb.readRecord id).1.length ++ le 1 (tb.readRecord id).2.1 ++ [if (tb.readRecord id).2.2 then 1 else 0])
      (u.devWrite (s.bulkAt m) ((tb.readRecord id).1.take (s.bulkLen m)))) :=
  exec_ok_bulk h hf rfl (if_pos hk) (if_neg (by simpa using hs)) rfl

/-- NVM.WRITE in the command catalogue (Table 4.7). -/
abbrev nvmWriteCmd : Cmd := { code := 0x1201, cls := 1, bulk := some 0, len := 18, args := [{ off := 16, n := 2 }] }

theorem exec_nvmWrite_pend (h : Accepts s m nvmWriteCmd) (hf : BulkFits s m nvmWriteCmd) (ho : ownerRecord (u16At (s.argsOf m) 16) = true)
    (hb : u16At (s.argsOf m) 16 = 2 → boardOk ((s.takenBulk m).devRead (s.bulkAt m) (s.bulkLen m)) = true)
    (hs : u16At (s.argsOf m) 16 = 0x206 → (s.taken m).sec.fseal = false)
    (hw : ∀ o ∈ (s.taken m).ctl.pendingOps, o.code = 0x1201 → o.aux ≠ u16At (s.argsOf m) 16) (hn : s.pendingCount m.code < 16) :
    exec (.nvmWrite m) s = .next (pendAfter s m 0x1201 (50000000 * ((s.bulkLen m + 65535) / 65536)) (u16At (s.argsOf m) 16) (s.takenBulk m)) := by
  have hboard : ¬ (u16At (s.argsOf m) 16 == 2 && !boardOk ((s.takenBulk m).devRead (s.bulkAt m) (s.bulkLen m))) = true := by simpa using hb
  have hsealed : ¬ (u16At (s.argsOf m) 16 == 0x206 && (s.taken m).sec.fseal) = true := by simpa using hs
  have hbusy : ¬ (s.taken m).ctl.pendingOps.any (fun o => o.code == 0x1201 && o.aux == u16At (s.argsOf m) 16) = true := by simpa using hw
  exact exec_pend_bulk h hf rfl hn rfl (if_pos ho) ((if_neg hboard).trans ((if_neg hsealed).trans (if_neg hbusy)))

/-- A running maximum is at least every value it has taken in. -/
theorem le_foldl_max {α : Type} (f : α → Nat) (l : List α) (b : Nat) :
    b ≤ l.foldl (fun a x => max a (f x)) b ∧ ∀ x ∈ l, f x ≤ l.foldl (fun a x => max a (f x)) b := by
  induction l generalizing b with
  | nil => simp
  | cons y l ih =>
    obtain ⟨hb, hl⟩ := ih (max b (f y))
    simp only [List.foldl_cons, List.forall_mem_cons]
    exact ⟨(le_max_left _ _).trans hb, (le_max_right _ _).trans hb, hl⟩

theorem exec_nvmStatus_ok (h : Accepts s m { code := 0x1202, cls := 0 }) : let t := s.taken m
    ∃ writes, exec (.nvmStatus m) s = .next (okAfter s m 0x1202 (le 4 writes ++ le 4 (t.nvm.log.filter (·.valid)).length ++ le 4 t.nvm.fallbacks.toNat) t)
      ∧ ∀ r ∈ t.nvm.recs, recWrites r ≤ writes :=
  ⟨_, exec_ok h rfl rfl rfl rfl, (le_foldl_max recWrites _ _).2⟩

/-! ### The event log (R430) -/

theorem exec_logQuery_ok (h : Accepts s m { code := 0x1400, cls := 0 }) : let t := s.taken m
    exec (.logQuery m) s = .next (okAfter s m 0x1400 (le 4 t.logOldest ++ le 4 t.nvm.logSeq.toNat ++ le 4 16384) t) :=
  exec_ok h rfl rfl rfl rfl

/-- LOG.READ in the command catalogue (Table 4.8). -/
abbrev logReadCmd : Cmd := { code := 0x1401, cls := 0, bulk := some 1, len := 22, args := [{ off := 16, n := 4 }, { off := 20, n := 2 }] }

/-- The entries of the log from the number `start` on, `n` at most. -/
abbrev State.logFrom (start n : Nat) (s : State) : List LogSlot := (s.nvm.log.filter fun x => x.valid && start ≤ x.seq.toNat).take n

/-- GAP of LOG.READ: the entries `es` are not all those from the number `start` on. -/
def logReadGap (start : Nat) (es : List LogSlot) (first : Nat) : Bool :=
  !es.isEmpty && ((es.getLast?.map fun x => x.seq.toNat).getD first - start + 1 != es.length)

theorem exec_logRead_ok (h : Accepts s m logReadCmd) (hf : BulkFits s m logReadCmd) : let tb := s.takenBulk m
    let start := max (u32At (s.argsOf m) 16) tb.logOldest
    let es := tb.logFrom start (min (u16At (s.argsOf m) 20) (s.bulkLen m / 32))
    let first := (es.head?.map fun x => x.seq.toNat).getD start
    exec (.logRead m) s = .next (okAfter s m 0x1401
      (le 4 first ++ le 2 es.length ++ [if logReadGap (u32At (s.argsOf m) 16) es first then 1 else 0])
      (tb.devWrite (s.bulkAt m) (es.flatMap fun x => x.ev.bytes))) :=
  exec_ok_bulk h hf rfl rfl rfl rfl

/-- LOG.CLEAR in the command catalogue (Table 4.8). -/
abbrev logClearCmd : Cmd := { code := 0x1402, cls := 1, len := 4, args := [{ off := 0, n := 4, lo := 0xC1EA, hi := 0xC1EA }] }

theorem exec_logClear_ok (h : Accepts s m logClearCmd) : let t := s.taken m
    exec (.logClear m) s = .next (okAfter s m 0x1402 []
      ((t.modNvm fun n => { n with logFloor := BitVec.ofNat 32 (t.nvm.logSeq.toNat + 1) }).deferRecord 0x13 (le 4 (t.nvm.logSeq.toNat + 1)))) :=
  exec_ok h rfl rfl rfl rfl

/-! ### Deferred writes (R425) -/

section
variable {k : Nat}

theorem exec_nvmDeferredWrite_nothing (hp : (s.record k).pending = none) : exec (.nvmDeferredWrite k) s = .next s.settle := by
  simp only [exec_nvmDeferredWrite, execNvmDeferredWrite, hp]
  rfl

/-- The time at which the interval of record `k` has passed. -/
def State.recordDue (k : Nat) (s : State) : State := s.timeTo (((s.record k).lastWrite.map fun t => t + recInterval k).getD 0)

section
variable {p : Bytes} (hp : (s.record k).pending = some p) (hr : s.tp.state = .running) (hu : s.nvmUp = true)
include hp hr hu

theorem exec_nvmDeferredWrite_up : exec (.nvmDeferredWrite k) s = .next (
    if 0x18 ≤ k && k < 0x20 then (if (s.hk.cal.getD (k - 0x18) {}).held then s.recordDue k else (s.recordDue k).writeTrims (k - 0x18))
    else (s.recordDue k).writeRecord k p).settle := by
  have hup : (s.tp.state == .running && s.nvmUp) = true := by rw [hr, hu]; rfl
  simp only [exec_nvmDeferredWrite, execNvmDeferredWrite, hp, hup, State.when_true]
  rfl

theorem exec_nvmDeferredWrite_record (hk : k < 0x18 ∨ 0x20 ≤ k) :
    exec (.nvmDeferredWrite k) s = .next ((s.recordDue k).writeRecord k p).settle := by
  rw [exec_nvmDeferredWrite_up hp hr hu, if_neg (by simp; omega)]

section
variable (hlo : 0x18 ≤ k) (hhi : k < 0x20)
include hlo hhi

theorem exec_nvmDeferredWrite_held (hh : (s.hk.cal.getD (k - 0x18) {}).held = true) :
    exec (.nvmDeferredWrite k) s = .next (s.recordDue k).settle := by
  rw [exec_nvmDeferredWrite_up hp hr hu, if_pos (by simp [hlo, hhi]), if_pos hh]

theorem exec_nvmDeferredWrite_trims (hh : (s.hk.cal.getD (k - 0x18) {}).held = false) :
    exec (.nvmDeferredWrite k) s = .next ((s.recordDue k).writeTrims (k - 0x18)).settle := by
  rw [exec_nvmDeferredWrite_up hp hr hu, if_pos (by simp [hlo, hhi]), if_neg (by simp only [hh, Bool.false_eq_true, not_false_eq_true])]

end

end

end

/-! ### The daily check and the log's writes (R427, R430) -/

/-- What the daily check notes, and when it is. -/
def State.dailyMarks (s : State) : W32 × Nat × Nat := (s.nvm.corrections, s.nvm.lastDaily, s.time)

theorem foldl_dailyMarks {f : State → Nat → State} (hf : ∀ t k, (f t k).dailyMarks = t.dailyMarks) (l : List Nat) (s : State) :
    (l.foldl f s).dailyMarks = s.dailyMarks :=
  List.foldlRecOn (motive := fun t : State => t.dailyMarks = s.dailyMarks) _ _ rfl fun t ht k _ => (hf t k).trans ht

theorem settle_dailyMarks (s : State) : s.settle.dailyMarks = s.dailyMarks := by
  rw [State.dailyMarks, State.dailyMarks, State.settle_nvm, State.settle_time]

/-- The rewriting of the records leaves what the check has noted. -/
theorem nvmDailyCheck_marks {l : List Nat} (hr : s.tp.state = .running) (hu : s.nvmUp = true) :
    ∃ t, exec (.nvmDailyCheck l) s = .next t ∧ t.dailyMarks = (s.nvm.corrections + BitVec.ofNat 32 l.length,
      max s.time (s.nvm.lastDaily + 86400 * 10 ^ 9), max (s.nvm.lastDaily + 86400 * 10 ^ 9) s.time) := by
  have hup : (s.tp.state == .running && s.nvmUp) = true := by rw [hr, hu]; rfl
  rw [exec_nvmDailyCheck, execNvmDailyCheck, hup, State.when_true]
  refine ⟨_, rfl, (settle_dailyMarks _).trans ?_⟩
  dsimp only
  rw [foldl_dailyMarks fun t k => by split <;> rfl]
  rw [State.dailyMarks, State.modNvm_nvm, State.modNvm_time, State.timeTo_nvm, State.timeTo, State.modTime_time]

theorem nvmDailyCheck_counts {l : List Nat} (hr : s.tp.state = .running) (hu : s.nvmUp = true) :
    ∃ t, exec (.nvmDailyCheck l) s = .next t ∧ t.nvm.corrections = s.nvm.corrections + BitVec.ofNat 32 l.length ∧
      t.time = max (s.nvm.lastDaily + 86400 * 10 ^ 9) s.time ∧ t.nvm.lastDaily = t.time := by
  obtain ⟨t, ht, hmarks⟩ := nvmDailyCheck_marks (l := l) hr hu
  rw [State.dailyMarks, Prod.mk.injEq, Prod.mk.injEq] at hmarks
  obtain ⟨hc, hl, htime⟩ := hmarks
  exact ⟨t, ht, hc, htime, by rw [hl, htime, max_comm]⟩

theorem exec_nvmDailyCheck_down {l : List Nat} (hu : s.nvmUp = false) : exec (.nvmDailyCheck l) s = .next s.settle := by
  rw [exec_nvmDailyCheck, execNvmDailyCheck, hu, Bool.and_false]
  rfl

theorem exec_eventLogWrite (s : State) : exec .eventLogWrite s = .next (s.when s.nvmUp State.writeLog).settle := rfl

/-- Settles O23: each command by a lemma of its own, a deferred write by whose record it is and whether its item is held. -/
theorem nvmStore : Obligations.NvmStore :=
  ⟨fun _ _ => ⟨exec_nvmRead_ok, exec_nvmWrite_pend, exec_nvmStatus_ok, exec_logQuery_ok,
      fun h hf => ⟨_, _, exec_logRead_ok h hf, fun _ hx => by rw [hx]; rfl, fun hes => by rw [State.logFrom, hes]; rfl⟩, exec_logClear_ok⟩,
    fun k l s => ⟨exec_nvmDeferredWrite_nothing,
      fun _ hp hr hu => ⟨exec_nvmDeferredWrite_record hp hr hu, exec_nvmDeferredWrite_held hp hr hu, exec_nvmDeferredWrite_trims hp hr hu⟩,
      nvmDailyCheck_counts,
      fun hu => ⟨exec_nvmDailyCheck_down hu, by rw [exec_eventLogWrite, hu, State.when_false]⟩,
      fun hu => by rw [exec_eventLogWrite, hu, State.when_true]⟩⟩

end Sys2Proof.Machine
end

section
/-! SUPPORT. The HK and CAL commands (Table 4.7, R408, R409, R412, R422). -/

namespace Sys2Proof.Machine

variable {m : Master} {s : State}

/-! ### Conversions and thresholds (R408, R409, R412) -/

theorem exec_hkQuery_ok (h : Accepts s m { code := 0x1000, cls := 0, len := 1, args := [{ off := 0, hi := 3 }] }) :
    let t := s.taken m
    let raw := fun i => t.hk.raw.getD i 0
    exec (.hkQuery m) s = .next (okAfter s m 0x1000 (match byteAt (s.argsOf m) 0 with
      | 0 => (List.range 24).flatMap fun i => le 2 (wrap 16 (t.tempOf i (raw i)))
      | 1 => (List.range 32).flatMap fun i => le 2 (milliVolt (24 + i) (raw (24 + i)))
      | 2 => (List.range 8).flatMap fun i => le 4 (milliAmp (56 + i) (raw (56 + i)))
      | _ => t.hk.sensors.map fun x => BitVec.ofNat 8 x.byte) t) :=
  exec_ok h rfl rfl rfl rfl

/-- HK.THRESHOLD_SET in the command catalogue. -/
abbrev hkThresholdSetCmd : Cmd := { code := 0x1001, cls := 1, len := 20, args := [{ off := 0 }, { off := 2, n := 18 }] }

/-- The nine thresholds in the arguments `a` of HK.THRESHOLD_SET. -/
def thresholdsOf (a : Bytes) : List Int := (List.range 9).map fun i => s16At a (2 + 2 * i)

/-- The thresholds `v` wait for the next conversion of sensor `k`, or of every sensor (R412). -/
def State.awaitThresholds (k : Nat) (v : List Int) (s : State) : State :=
  s.modHk fun h => { h with sensors := h.sensors.mapIdx fun i x => if k == 0xFF || k == i then { x with next := some v } else x }

/-- What HK.THRESHOLD_SET asks of its arguments. -/
theorem thresholds_fit {a : Bytes} (hlo : -880 ≤ s16At a 2) (hrise : ∀ i < 8, s16At a (2 + 2 * i) < s16At a (4 + 2 * i))
    (hmin : 1760 ≤ s16At a 18) (hmax : s16At a 18 ≤ 2000) :
    ¬ (thresholdsOf a).getD 0 0 < -880 ∧ (List.range 8).find? (fun i => (thresholdsOf a).getD (i + 1) 0 ≤ (thresholdsOf a).getD i 0) = none ∧
      ¬ ((thresholdsOf a).getD 8 0 < 1760 || 2000 < (thresholdsOf a).getD 8 0) = true := by
  have hget : ∀ i < 9, (thresholdsOf a).getD i 0 = s16At a (2 + 2 * i) := by
    intro i hi
    simp [thresholdsOf, List.getD_eq_getElem?_getD, hi]
  refine ⟨?_, ?_, ?_⟩
  · rw [hget 0 (by omega)]
    exact not_lt.2 hlo
  · rw [List.find?_eq_none]
    intro i hi
    have hi := List.mem_range.1 hi
    rw [hget i (by omega), hget (i + 1) (by omega), show 2 + 2 * (i + 1) = 4 + 2 * i by omega]
    simpa using hrise i hi
  · rw [hget 8 (by omega)]
    simp [hmin, hmax]

theorem exec_hkThresholdSet_ok (h : Accepts s m hkThresholdSetCmd) (hk : byteAt (s.argsOf m) 0 < 24 ∨ byteAt (s.argsOf m) 0 = 0xFF)
    (hlo : -880 ≤ s16At (s.argsOf m) 2) (hrise : ∀ i < 8, s16At (s.argsOf m) (2 + 2 * i) < s16At (s.argsOf m) (4 + 2 * i))
    (hmin : 1760 ≤ s16At (s.argsOf m) 18) (hmax : s16At (s.argsOf m) 18 ≤ 2000) :
    let u := (s.taken m).awaitThresholds (byteAt (s.argsOf m) 0) (thresholdsOf (s.argsOf m))
    exec (.hkThresholdSet m) s = .next (okAfter s m 0x1001 []
      (u.deferRecord 5 (u.hk.sensors.flatMap fun x => (x.next.getD x.thresholds).flatMap fun y => le 2 (wrap 16 y)))) := by
  have hsensor : ¬ (decide (24 ≤ byteAt (s.argsOf m) 0) && byteAt (s.argsOf m) 0 != 0xFF) = true := by
    simp
    omega
  obtain ⟨hfirst, hrises, hlast⟩ := thresholds_fit hlo hrise hmin hmax
  refine exec_ok h rfl rfl ((if_neg hsensor).trans ((if_neg hfirst).trans ?_)) rfl
  split
  next heq => exact absurd (heq.symm.trans hrises) (Option.some_ne_none _)
  next => exact if_neg hlast

theorem exec_hkConvert_wait (h : Accepts s m { code := 0x1002, cls := 0, len := 1, args := [{ off := 0, hi := 63 }] }) :
    exec (.hkConvert m) s = .next (waitAfter s m 0x1002 5000000 ((s.taken m).modHk fun h => { h with
      demands := h.demands ++ [{ channel := byteAt (s.argsOf m) 0, master := m.code, tag := BitVec.ofNat 8 (s.tagOf m) }] })) :=
  exec_wait h rfl rfl rfl rfl

/-! ### Calibration (R422) -/

theorem exec_calQuery_ok (h : Accepts s m { code := 0x1100, cls := 0, len := 4, args := [{ off := 0, hi := 7 }, { off := 2, n := 2 }] })
    (ht : (s.taken m).hasTrim (byteAt (s.argsOf m) 0) (u16At (s.argsOf m) 2) = true) : let t := s.taken m
    let x := t.hk.cal.getD (byteAt (s.argsOf m) 0) {}
    exec (.calQuery m) s = .next (okAfter s m 0x1100
      (le 2 (wrap 16 (listAt x.trims (u16At (s.argsOf m) 2))) ++ [0, 0] ++ le 4 x.nvmWrites.toNat ++ le 8 (x.lastWrite.getD 0)) t) :=
  exec_ok h rfl (by simp [ht]) rfl rfl

/-- CAL.RUN in the command catalogue. -/
abbrev calRunCmd : Cmd := { code := 0x1101, cls := 1, len := 4, args := [{ off := 0, hi := 7 }, { off := 2, n := 2 }] }

/-- A run of the item that the command at the front of mailbox m names is pending. -/
abbrev State.calRunPending (s : State) (m : Master) : Bool := (s.taken m).opOn 0x1101 fun x => byteAt x 0 == byteAt (s.argsOf m) 0

section
variable (h : Accepts s m calRunCmd)
  (hi : u16At (s.argsOf m) 2 = 0xFFFF ∨ (s.taken m).hasTrim (byteAt (s.argsOf m) 0) (u16At (s.argsOf m) 2) = true)
include h hi

theorem exec_calRun_busy (ho : s.calRunPending m = true) : exec (.calRun m) s = .next (errAfter s m 0x1101 stBusy 0xFF 0 0xFFFF) :=
  exec_err h rfl (by rcases hi with hi | hi <;> simp [hi]) rfl (if_pos ho)

theorem exec_calRun_pend (ho : s.calRunPending m = false) (hn : s.pendingCount m.code < 16) :
    exec (.calRun m) s = .next (pendAfter s m 0x1101 100000000 0 (s.taken m)) :=
  exec_pend h rfl hn (by rcases hi with hi | hi <;> simp [hi]) rfl (if_neg (Bool.eq_false_iff.1 ho))

end

/-- CAL.HOLD in the command catalogue. -/
abbrev calHoldCmd : Cmd := { code := 0x1102, cls := 1, len := 2, args := [{ off := 0, hi := 7 }, { off := 1, hi := 1 }] }

section
variable (h : Accepts s m calHoldCmd)
include h

theorem exec_calHold_wrongMode (hm : (s.taken m).mode.mode ≠ .maintenance) :
    exec (.calHold m) s = .next (errAfter s m 0x1102 stWrongMode 0xFF 0 0xFFFF) :=
  exec_err h rfl rfl rfl (if_pos (bne_iff_ne.2 hm))

section
variable (hm : (s.taken m).mode.mode = .maintenance)
include hm

theorem exec_calHold_busy (ho : s.calRunPending m = true) : exec (.calHold m) s = .next (errAfter s m 0x1102 stBusy 0xFF 0 0xFFFF) :=
  exec_err h rfl rfl rfl ((if_neg (by simp [hm])).trans (if_pos ho))

theorem exec_calHold_ok (ho : s.calRunPending m = false) : let k := byteAt (s.argsOf m) 0
    exec (.calHold m) s = .next (okAfter s m 0x1102 []
      (((s.taken m).modHk fun h => { h with cal := h.cal.modify k fun x => { x with held := byteAt (s.argsOf m) 1 == 1 } }).checkTrims k)) :=
  exec_ok h rfl rfl rfl ((if_neg (by simp [hm])).trans (if_neg (Bool.eq_false_iff.1 ho)))

end

end

/-- Settles O21, a lemma for each command, and for CAL.RUN and CAL.HOLD by whether they are refused. -/
theorem housekeepingSettings : Obligations.HousekeepingSettings :=
  ⟨fun _ _ => ⟨exec_hkQuery_ok, exec_hkThresholdSet_ok, exec_hkConvert_wait⟩,
    fun _ _ => ⟨exec_calQuery_ok, fun h hi => ⟨exec_calRun_busy h hi, exec_calRun_pend h hi⟩,
      fun h => ⟨exec_calHold_wrongMode h, exec_calHold_busy h, exec_calHold_ok h⟩⟩⟩

end Sys2Proof.Machine
end

section
/-! SUPPORT. The AUDIO commands (Table 4.7, R398, R399, R402, R403, R406). -/

namespace Sys2Proof.Machine

variable {m : Master} {s : State}

theorem exec_audioQuery_ok (h : Accepts s m { code := 0x0F00, cls := 0 }) : let t := s.taken m
    exec (.audioQuery m) s = .next (okAfter s m 0x0F00
      (le 1 (if t.aud.onInternal then 1 else 0) ++ [0, 0, 0] ++ le 4 (t.aud.inputs.map fun x => x.underruns.toNat).sum
        ++ le 4 (t.aud.inputs.map fun x => x.overruns.toNat).sum ++ [if t.alarmOn then 1 else 0]) t) :=
  exec_ok h rfl rfl rfl rfl

/-- AUDIO.PORT_SET in the command catalogue. -/
abbrev audioPortSetCmd : Cmd := { code := 0x0F01, cls := 1, len := 4, args := [{ off := 0, hi := 5 }, { off := 1, mask := 1 }, { off := 2, hi := 1 }, { off := 3 }] }

theorem exec_audioPortSet_ok (h : Accepts s m audioPortSetCmd) (hai : ¬ (byteAt (s.argsOf m) 0 = 5 ∧ byteAt (s.argsOf m) 1 = 1))
    (hb : byteAt (s.argsOf m) 3 = 16 ∨ byteAt (s.argsOf m) 3 = 24) : let a := s.argsOf m
    exec (.audioPortSet m) s = .next (okAfter s m 0x0F01 [] ((s.taken m).modAud fun x =>
      { x with ports := x.ports.modify (byteAt a 0) fun p => { p with next := some (byteAt a 1 == 1, byteAt a 2 == 1, byteAt a 3) } })) := by
  have hrole : ¬ (byteAt (s.argsOf m) 0 == 5 && byteAt (s.argsOf m) 1 == 1) = true := by simpa using hai
  have hbits : ¬ (byteAt (s.argsOf m) 3 != 16 && byteAt (s.argsOf m) 3 != 24) = true := by
    simp
    omega
  exact exec_ok h rfl rfl ((if_neg hrole).trans (if_neg hbits)) rfl

/-! ### The mix (R403) -/

/-- AUDIO.MIX_SET in the command catalogue. -/
abbrev audioMixSetCmd : Cmd := { code := 0x0F02, cls := 1, len := 48, args := [{ off := 0, n := 48 }] }

/-- The sources and the gains in the arguments `a` of AUDIO.MIX_SET. -/
def mixSources (a : Bytes) : List Nat := (List.range 8).map fun i => byteAt a i
def mixGains (a : Bytes) : List Int := (List.range 40).map fun k => sext 8 (byteAt a (8 + k))

/-- No entry of a table lies beyond a bound that all of them keep. -/
theorem find?_range_beyond {β : Type} [LinearOrder β] {n : Nat} {f : Nat → β} {d b : β} (h : ∀ x ∈ (List.range n).map f, x ≤ b) :
    (List.range n).find? (fun i => b < ((List.range n).map f).getD i d) = none := by
  rw [List.find?_eq_none]
  intro i hi
  have hi := List.mem_range.1 hi
  have hmem : ((List.range n).map f).getD i d ∈ (List.range n).map f := by
    rw [List.getD_eq_getElem _ _ (by simpa using hi)]
    exact List.getElem_mem _
  simpa using h _ hmem

theorem exec_audioMixSet_ok (h : Accepts s m audioMixSetCmd)
    (hs : ∀ x ∈ mixSources (s.argsOf m), x ≤ 35 ∧ (x < 32 → (s.taken m).hasPort (x / 2) = true)) (hg : ∀ g ∈ mixGains (s.argsOf m), g ≤ 48) :
    exec (.audioMixSet m) s = .next (okAfter s m 0x0F02 [] ((s.taken m).modAud fun x =>
      { x with mixNext := some (mixSources (s.argsOf m), mixGains (s.argsOf m)) })) := by
  have hthere : (mixSources (s.argsOf m)).find? (fun x => x < 32 && !(s.taken m).hasPort (x / 2)) = none := by
    simpa using fun x hx => (hs x hx).2
  have hsources := find?_range_beyond (d := 0) fun x hx => (hs x hx).1
  have hgains := find?_range_beyond (d := 0) hg
  refine exec_ok h rfl (congrArg (Option.map _) hthere) ?_ rfl
  dsimp only
  split
  next heq => exact absurd (heq.symm.trans hsources) (Option.some_ne_none _)
  next => exact congrArg (Option.map _) hgains

/-! ### Delay, PCM ring and channel status (R399, R402, R406) -/

/-- AUDIO.DELAY_SET in the command catalogue. -/
abbrev audioDelaySetCmd : Cmd := { code := 0x0F03, cls := 1, len := 4, args := [{ off := 0, hi := 7 }, { off := 2, n := 2 }] }

theorem exec_audioDelaySet_ok (h : Accepts s m audioDelaySetCmd) (hhi : s16At (s.argsOf m) 2 ≤ 2500) (hlo : -2500 ≤ s16At (s.argsOf m) 2)
    (hd : ((s.taken m).aIn (byteAt (s.argsOf m) 0)).rawDelay (s16At (s.argsOf m) 2) ≤ 12000) :
    let n := byteAt (s.argsOf m) 0
    let u := (s.taken m).modAIn n fun x => ({ x with trim := s16At (s.argsOf m) 2 }).setDelay
    exec (.audioDelaySet m) s = .next (okAfter s m 0x0F03 (le 2 (roundNat ((u.aIn n).delay * 10) 48)) u) := by
  have hfits : ¬ (decide (s16At (s.argsOf m) 2 < -2500) || decide (2500 < s16At (s.argsOf m) 2) ||
      decide (12000 < ((s.taken m).aIn (byteAt (s.argsOf m) 0)).rawDelay (s16At (s.argsOf m) 2))) = true := by
    simp [hhi, hlo, hd]
  exact exec_ok h rfl rfl (if_neg hfits) rfl

/-- AUDIO.PCM_RING in the command catalogue. -/
abbrev audioPcmRingCmd : Cmd := { code := 0x0F04, cls := 1, len := 13, args := [{ off := 0, n := 5 }, { off := 8, n := 4 }, { off := 12, lo := 1, hi := 2 }] }

theorem exec_audioPcmRing_ok (h : Accepts s m audioPcmRingCmd) (hbase : a40At (s.argsOf m) 0 % 64 = 0) (hunits : u32At (s.argsOf m) 8 % 64 = 0)
    (hlo : 4096 ≤ u32At (s.argsOf m) 8) (hhi : u32At (s.argsOf m) 8 ≤ 2 ^ 24)
    (hin : (s.taken m).inRegion (a40At (s.argsOf m) 0) (u32At (s.argsOf m) 8) = true)
    (hheld : (s.taken m).held (a40At (s.argsOf m) 0) (u32At (s.argsOf m) 8) = false) : let a := s.argsOf m
    exec (.audioPcmRing m) s = .next (okAfter s m 0x0F04 [] ((s.taken m).modAud fun x =>
      { x with ringBase := a40At a 0, ringBytes := u32At a 8, ringChannels := byteAt a 12, ringStale := false, producer := 0, consumed := 0 })) := by
  have haligned : ¬ (a40At (s.argsOf m) 0 % 64 != 0) = true := by simp [hbase]
  have hsize : ¬ (u32At (s.argsOf m) 8 % 64 != 0 || decide (u32At (s.argsOf m) 8 < 4096) || decide (2 ^ 24 < u32At (s.argsOf m) 8)) = true := by
    simpa [hunits, hlo] using hhi
  have hregion : ¬ (!(s.taken m).inRegion (a40At (s.argsOf m) 0) (u32At (s.argsOf m) 8)) = true := by simp [hin]
  exact exec_ok h rfl rfl ((if_neg haligned).trans ((if_neg hsize).trans (if_neg hregion))) (if_neg (Bool.eq_false_iff.1 hheld))

theorem exec_audioIecSet_ok (h : Accepts s m { code := 0x0F05, cls := 1, len := 24, args := [{ off := 0, n := 24 }] })
    (hc : byteAt (s.argsOf m) 0 % 2 = 0) :
    exec (.audioIecSet m) s = .next (okAfter s m 0x0F05 [] ((s.taken m).modAud fun x => { x with iecNext := some ((s.argsOf m).take 24) })) := by
  have hconsumer : ¬ (byteAt (s.argsOf m) 0 % 2 == 1) = true := by simp [hc]
  exact exec_ok h rfl rfl (if_neg hconsumer) rfl

end Sys2Proof.Machine
end

section
/-! SUPPORT. The audio frames (R125, R397 to R401). -/

namespace Sys2Proof.Machine

variable {s : State} {i port source : Nat}

theorem exec_mixerFrame (s : State) : exec .mixerFrame s = execMixerFrame s := rfl
theorem exec_audBlock (port count : Nat) (l r : Int) (s : State) : exec (.audBlock port count l r) s = execAudBlock port count l r s := rfl
theorem exec_audioInputSample (source : Nat) (l r : Int) (s : State) :
    exec (.audioInputSample source l r) s = execAudioInputSample source l r s := rfl
theorem exec_longUnderrun (i : Nat) (s : State) : exec (.longUnderrun i) s = .next (s.when (480 ≤ (s.aIn i).underrun && !(s.aIn i).long)
    fun s => (s.modAIn i fun x => { x with long := true, fade := 0 }).xrun i false 1).settle := rfl
theorem exec_slaveWsTimeout (port : Nat) (s : State) : exec (.slaveWsTimeout port) s = .next (s.when (!(s.aPort port).master)
    (·.modAud fun a => { a with ports := a.ports.modify port fun p => { p with wsLost := true } })).settle := rfl

/-- What every turn of a fold leaves, the fold leaves. -/
theorem foldl_keeps {α β : Type} (g : State → β) {f : State → α → State} (hf : ∀ t a, g (f t a) = g t) (l : List α) (s : State) :
    g (l.foldl f s) = g s :=
  List.foldlRecOn (motive := fun t : State => g t = g s) _ _ rfl fun t ht a _ => (hf t a).trans ht

/-! ### What an input's operations leave -/

/-- The part of the state outside the audio unit that audio frames read: time and camera. -/
def State.timeCam (s : State) : Nat × Cam := (s.time, s.cam)

theorem xrun_timeCam (i : Nat) (o : Bool) (n : Nat) (s : State) : (s.xrun i o n).timeCam = s.timeCam := by
  unfold State.xrun
  split
  · rfl
  · simp [State.timeCam, State.modAIn]

theorem feed_timeCam (i : Nat) (v : Int) (s : State) : (s.feed i v).timeCam = s.timeCam := by
  simp only [State.feed]
  split
  · exact xrun_timeCam ..
  · rfl

theorem feedSource_timeCam (k : Nat) (v : Int) (s : State) : (s.feedSource k v).timeCam = s.timeCam := by
  refine foldl_keeps _ (fun t i => ?_) _ _
  split
  · exact feed_timeCam ..
  · rfl

theorem takeInput_timeCam (i : Nat) (s : State) : (s.takeInput i).1.timeCam = s.timeCam := by
  simp only [State.takeInput]
  repeat' split
  all_goals rfl

/-! ### The mixer frame (R397, R403) -/

theorem takeAll_timeCam (l : List Nat) (p : State × List Int) : (l.foldl takeAll p).1.timeCam = p.1.timeCam :=
  List.foldlRecOn (motive := fun q : State × List Int => q.1.timeCam = p.1.timeCam) _ _ rfl
    fun q hq i _ => (takeInput_timeCam i q.1).trans hq

theorem delayAll_timeCam (xs : List Int) (l : List Nat) (p : State × List Int) : (l.foldl (delayAll xs) p).1.timeCam = p.1.timeCam :=
  List.foldlRecOn (motive := fun q : State × List Int => q.1.timeCam = p.1.timeCam) _ _ rfl fun _ hq _ _ => hq

theorem modAud_timeCam (g : Aud → Aud) (s : State) : (s.modAud g).timeCam = s.timeCam := rfl

theorem when_modAud_timeCam (c : Bool) (g : Aud → Aud) (s : State) : (s.when c (·.modAud g)).timeCam = s.timeCam := by
  cases c <;> rfl

theorem sendOut_timeCam (o : Nat) (l r : Int) (s : State) : (s.sendOut o l r).timeCam = s.timeCam := by
  simp only [State.sendOut]
  refine (foldl_keeps _ (fun t p => ?_) _ _).trans rfl
  split <;> rfl

theorem mixOut_timeCam (again : Bool) (ys : List Int) (s : State) (o : Nat) : (s.mixOut again ys o).timeCam = s.timeCam := by
  unfold State.mixOut
  split <;> exact sendOut_timeCam ..

/-- A mixer frame with AU on: it takes no time of its own, and the last frame is repeated no further. -/
theorem mixerFrame_body : ∃ f : State → State, (∀ s, exec .mixerFrame s = done ((s.modTime nextMixer).when ((s.modTime nextMixer).domOn domAU) f)) ∧
    ∀ t, (f t).timeCam = t.timeCam ∧ (f t).aud.repeatFrame = false := by
  refine ⟨_, fun s => rfl, fun t => ⟨?_, rfl⟩⟩
  dsimp only
  rw [modAud_timeCam, foldl_keeps State.timeCam fun t o => mixOut_timeCam .., State.toneStep, when_modAud_timeCam, when_modAud_timeCam,
    delayAll_timeCam, when_modAud_timeCam, takeAll_timeCam]
  rfl

theorem modTime_domOn (g : Nat → Nat) (d : Nat) (s : State) : (s.modTime g).domOn d = s.domOn d := by
  rw [State.domOn, State.domOn, dom_congr (State.modTime_pwr ..)]

theorem exec_mixerFrame_off (hd : s.domOn domAU = false) : exec .mixerFrame s = .next (s.modTime nextMixer).settle := by
  obtain ⟨f, hf, -⟩ := mixerFrame_body
  rw [hf, modTime_domOn, hd, State.when_false]
  rfl

theorem mixerFrame_on (hd : s.domOn domAU = true) :
    ∃ t, exec .mixerFrame s = .next t ∧ t.time = nextMixer s.time ∧ t.aud.repeatFrame = false := by
  obtain ⟨f, hf, hkeeps⟩ := mixerFrame_body
  obtain ⟨htime, hrepeat⟩ := hkeeps (s.modTime nextMixer)
  refine ⟨_, hf s, ?_, ?_⟩
  · rw [modTime_domOn, hd, State.when_true, State.settle_time]
    exact congrArg Prod.fst htime
  · rw [modTime_domOn, hd, State.when_true, State.settle_aud, hrepeat]

/-! ### Blocks and samples that arrive (R125, R398, R400) -/

theorem exec_audBlock_off {count : Nat} {l r : Int} (hd : s.domOn domAU = false) : exec (.audBlock port count l r) s = .next s.settle := by
  rw [exec_audBlock, execAudBlock, hd, Bool.and_false]
  rfl

theorem audBlock_on {count : Nat} {l r : Int} (he : (s.cam.ports.getD port {}).cfg.audioEn = true) (hr : s.domOn (domRG port) = true)
    (hs : 4 ≤ (s.cam.ports.getD port {}).state) (hd : s.domOn domAU = true) (hp : port < s.cam.flows.length) :
    ∃ t, exec (.audBlock port count l r) s = .next t ∧ (t.camFlow port).audioLast = some (count % 256) := by
  rw [exec_audBlock, execAudBlock]
  simp only [he, hr, decide_eq_true hs, hd, Bool.and_self, State.when_true]
  refine ⟨_, rfl, ?_⟩
  rw [settle_camFlow, State.camFlow]
  have hcam : ∀ {t u : State}, t.timeCam = u.timeCam → t.cam = u.cam := congrArg Prod.snd
  rw [hcam ((feedSource_timeCam ..).trans (feedSource_timeCam ..)), hcam (foldl_keeps State.timeCam (fun t i => by
    split
    · exact xrun_timeCam ..
    · rfl) _ _)]
  exact congrArg CamFlow.audioLast (camFlow_modFlow_same hp _)

theorem exec_audioInputSample_off {l r : Int} (hd : s.domOn domAU = false) : exec (.audioInputSample source l r) s = .next s.settle := by
  rw [exec_audioInputSample, execAudioInputSample, hd]
  rfl

/-- A word select at port `k` is seen. -/
def State.wsSeen (k : Nat) (s : State) : State := s.modAud fun a => { a with ports := a.ports.modify k fun p => { p with wsLost := false } }

theorem exec_audioInputSample_other {l r : Int} (hd : s.domOn domAU = true) (hs : source ≠ 5) :
    exec (.audioInputSample source l r) s = .next (s.wsSeen source).settle := by
  rw [exec_audioInputSample, execAudioInputSample, hd, State.when_true]
  exact congrArg done (if_pos (bne_iff_ne.2 hs))

theorem wsSeen_aPort (k : Nat) (s : State) :
    ((s.wsSeen k).aPort k).rate96 = (s.aPort k).rate96 ∧ ((s.wsSeen k).aPort k).bits = (s.aPort k).bits := by
  simp only [State.aPort, State.wsSeen, State.modAud_aud, List.getD_eq_getElem?_getD, List.getElem?_modify_eq]
  cases s.aud.ports[k]? <;> exact ⟨rfl, rfl⟩

/-- A sample at AI0 of 24 bits at 48 kHz feeds the inputs of its two channels. -/
theorem exec_audioInputSample_ai0 {l r : Int} (hd : s.domOn domAU = true) (hr : (s.aPort 5).rate96 = false) (hb : (s.aPort 5).bits ≠ 16) :
    exec (.audioInputSample 5 l r) s = .next (((s.wsSeen 5).feedSource 34 (sat24 l)).feedSource 35 (sat24 r)).settle := by
  obtain ⟨hrate, hbits⟩ := wsSeen_aPort 5 s
  rw [hr, State.wsSeen] at hrate
  have hwide : ¬ (((s.wsSeen 5).aPort 5).bits == 16) = true := by rw [hbits]; simpa using hb
  rw [State.wsSeen] at hwide
  rw [exec_audioInputSample, execAudioInputSample, hd, State.when_true]
  simp only [hrate, if_neg hwide, bne_self_eq_false, Bool.false_eq_true, if_false, Bool.not_false, if_true]
  rfl

/-! ### Underruns and word select (R398, R401) -/

theorem exec_longUnderrun_mutes (hu : 480 ≤ (s.aIn i).underrun) (hl : (s.aIn i).long = false) :
    exec (.longUnderrun i) s = .next ((s.modAIn i fun x => { x with long := true, fade := 0 }).xrun i false 1).settle := by
  rw [exec_longUnderrun, hl, decide_eq_true hu]
  rfl

theorem exec_longUnderrun_short (hu : (s.aIn i).underrun < 480) : exec (.longUnderrun i) s = .next s.settle := by
  rw [exec_longUnderrun, decide_eq_false (Nat.not_le.2 hu)]
  rfl

theorem exec_slaveWsTimeout_slave (hm : (s.aPort port).master = false) : exec (.slaveWsTimeout port) s =
    .next (s.modAud fun a => { a with ports := a.ports.modify port fun p => { p with wsLost := true } }).settle := by
  rw [exec_slaveWsTimeout, hm]
  rfl

theorem exec_slaveWsTimeout_master (hm : (s.aPort port).master = true) : exec (.slaveWsTimeout port) s = .next s.settle := by
  rw [exec_slaveWsTimeout, hm]
  rfl

/-! ### Settings that apply at their boundaries (R397 to R399) -/

theorem aPort_modify_same (hp : port < s.aud.ports.length) (g : AudPort → AudPort) :
    (s.modAud fun a => { a with ports := a.ports.modify port g }).aPort port = g (s.aPort port) := by
  simp [State.aPort, List.getD_eq_getElem?_getD, hp]

theorem settle_aPort (s : State) (port : Nat) : s.settle.aPort port = s.aPort port := by
  rw [State.aPort, State.settle_aud, State.aPort]

theorem audioPortApply_next {m r : Bool} {b : Nat} (hp : port < s.aud.ports.length) (hn : (s.aPort port).next = some (m, r, b)) :
    ∃ t, exec (.audioPortApply port) s = .next t ∧
      (t.aPort port).master = m ∧ (t.aPort port).rate96 = r ∧ (t.aPort port).bits = b ∧ (t.aPort port).next = none := by
  refine ⟨_, rfl, ?_⟩
  rw [settle_aPort, aPort_modify_same hp]
  simp [hn]

theorem iecBlockStart_applies (hf : s.aud.iecFrame = 0) (hd : s.domOn domAU = true) : ∃ t, exec .iecBlockStart s = .next t ∧
    t.aud.iecBlock = s.aud.iecNext.getD s.aud.iecBlock ∧ t.aud.iecNext = none ∧
    (s.aud.returnDue = true → t.aud.onInternal = false ∧ t.aud.repeatFrame = true) := by
  refine ⟨_, rfl, ?_⟩
  rw [State.settle_aud, hf, hd, beq_self_eq_true, Bool.and_self, State.when_true, State.modAud_aud]
  cases hr : s.aud.returnDue with
  | true => exact ⟨rfl, rfl, fun _ => ⟨rfl, rfl⟩⟩
  | false => exact ⟨rfl, rfl, fun h => absurd h Bool.false_ne_true⟩

theorem exec_iecBlockStart_between (hf : s.aud.iecFrame ≠ 0) : exec .iecBlockStart s = .next s.settle := by
  refine (show exec .iecBlockStart s = execIecBlockStart s from rfl).trans ?_
  rw [execIecBlockStart, beq_eq_false_iff_ne.2 hf]
  rfl

/-- Settles O20: each command by a lemma of its own, each row of the frames by whether it applies. -/
theorem audioUnit : Obligations.AudioUnit :=
  ⟨fun _ _ => ⟨exec_audioQuery_ok, exec_audioPortSet_ok, exec_audioMixSet_ok, exec_audioDelaySet_ok, exec_audioPcmRing_ok, exec_audioIecSet_ok⟩,
    fun _ _ _ _ _ _ _ => ⟨exec_mixerFrame_off, mixerFrame_on, fun _ hp he hr hs hd hl => audBlock_on (hp ▸ he) hr (hp ▸ hs) hd hl,
      fun hd => ⟨exec_audBlock_off hd, exec_audioInputSample_off hd⟩, exec_audioInputSample_other, exec_audioInputSample_ai0,
      exec_longUnderrun_mutes, exec_longUnderrun_short, exec_slaveWsTimeout_slave, exec_slaveWsTimeout_master,
      fun _ _ _ => audioPortApply_next, iecBlockStart_applies, exec_iecBlockStart_between⟩⟩

end Sys2Proof.Machine
end

section
/-! SUPPORT. The LANE commands (Table 4.6, R309, R319 to R323). -/

namespace Sys2Proof.Machine

variable {m : Master} {s : State}

/-- The lane that the command at the front of mailbox m names. -/
abbrev State.cmdLane (s : State) (m : Master) : Nat := byteAt (s.argsOf m) 0

/-- A LANE.RETRAIN of that lane is pending. -/
abbrev State.retrainPending (s : State) (m : Master) : Bool := (s.taken m).opOn 0x0B02 fun x => byteAt x 0 == s.cmdLane m

theorem exec_laneQuery_ok (h : Accepts s m { code := 0x0B00, cls := 0, len := 1, args := [{ off := 0, hi := 143 }] })
    (hl : (s.taken m).hasLane (s.cmdLane m) = true) : let t := s.taken m
    let l := s.cmdLane m
    let x := t.lane l
    exec (.laneQuery m) s = .next (okAfter s m 0x0B00
      (le 1 x.state ++ le 1 x.rate ++ le 1 x.pre ++ le 1 x.main ++ le 1 x.post ++ le 1 x.preset ++ le 2 x.margin
        ++ le 4 (min (2 ^ 32 - 1) (t.laneErrors l)) ++ le 8 (t.laneBits l)) t) :=
  exec_ok h rfl (absentIn_none hl) rfl rfl

/-! ### LANE.RETRAIN (R309) -/

/-- LANE.RETRAIN in the command catalogue. -/
abbrev laneRetrainCmd : Cmd := { code := 0x0B02, cls := 1, len := 1, args := [{ off := 0, hi := 127 }] }

section
variable (h : Accepts s m laneRetrainCmd) (hl : (s.taken m).hasLane (s.cmdLane m) = true)
include h hl

theorem exec_laneRetrain_busy (ho : s.retrainPending m = true) :
    exec (.laneRetrain m) s = .next (errAfter s m 0x0B02 stBusy 0xFF 0 (unitLane (s.cmdLane m))) :=
  exec_err h rfl (absentIn_none hl) rfl (if_pos ho)

section
variable (ho : s.retrainPending m = false) (hn : s.pendingCount m.code < 16)
include ho hn

theorem exec_laneRetrain_sapline (hs : s.cmdLane m < 96) : let t := s.taken m
    let l := s.cmdLane m
    let u := t.modLaneAux l fun x => { x with retries := 0 }
    exec (.laneRetrain m) s = .next (pendAfter s m 0x0B02 50000000 0
      (if (t.lane l).state = 2 ∨ (t.lane l).state = 3 ∨ (t.lane l).state = 4 then u.retrainAlone l else u)) := by
  refine exec_pend h rfl hn (absentIn_none hl) rfl ((if_neg (Bool.eq_false_iff.1 ho)).trans ((if_pos hs).trans
    (congrArg (·, Reply.pend 50000000 0) ?_)))
  simp only [Bool.or_eq_true, beq_iff_eq, or_assoc]
  rfl

/-- The retraining of a Rootline port that LANE.RETRAIN begins at the frame end (R118). -/
def State.retrainPort (p : Nat) (s : State) : State :=
  let x := s.camPort p
  let z := s.portFrameEnd p true
  if (z.camPort p).state = 6 then z else (((z.awaitFrame p).modFlow p fun f => { f with retrains := f.retrains + 1 }).modPort p fun y => { y with uncounted := true }).trainPort
    p 6 x.runLanes x.runRate (if x.state = 5 then 1 else 3)

section
variable (hs : 96 ≤ s.cmdLane m)
include hs

theorem exec_laneRetrain_portDown (hu : (s.taken m).linkIdleUp ((s.cmdLane m - 96) / 2) = false) :
    exec (.laneRetrain m) s = .next (pendAfter s m 0x0B02 50000000 0 (s.taken m)) :=
  exec_pend h rfl hn (absentIn_none hl) rfl ((if_neg (Bool.eq_false_iff.1 ho)).trans ((if_neg (Nat.not_lt.2 hs)).trans
    (congrArg (·, Reply.pend 50000000 0) (if_pos (congrArg not hu)))))

theorem exec_laneRetrain_portUp (hu : (s.taken m).linkIdleUp ((s.cmdLane m - 96) / 2) = true) :
    exec (.laneRetrain m) s = .next (pendAfter s m 0x0B02 50000000 0 ((s.taken m).retrainPort ((s.cmdLane m - 96) / 2))) := by
  refine exec_pend h rfl hn (absentIn_none hl) rfl ((if_neg (Bool.eq_false_iff.1 ho)).trans ((if_neg (Nat.not_lt.2 hs)).trans
    (congrArg (·, Reply.pend 50000000 0) ((if_neg (Bool.eq_false_iff.1 (congrArg not hu))).trans ?_))))
  simp only [beq_iff_eq]
  rfl

end

end

end

/-! ### LANE.PATTERN (R319, R321 to R323) -/

/-- LANE.PATTERN in the command catalogue. -/
abbrev lanePatternCmd : Cmd := { code := 0x0B01, cls := 1, len := 24, args := [{ off := 0, hi := 127 }, { off := 1, mask := 15 },
  { off := 2, hi := 5 }, { off := 3, hi := 3 }, { off := 4, n := 4 }, { off := 8, n := 16 }] }

/-- The field of the arguments `a` of LANE.PATTERN that its rules refuse. -/
def patternBad (a : Bytes) : Option (Nat × Nat) :=
  if 5 < byteAt a 1 % 8 then some (1, 0)
  else if byteAt a 0 < 96 && byteAt a 2 != 0 && !bit (byteAt a 1) 3 then some (2, 0)
  else if 96 ≤ byteAt a 0 && byteAt a 0 % 2 == 1 && byteAt a 1 % 8 != 0 && !bit (byteAt a 1) 3 then some (1, 0)
  else match byteAt a 3 with
    | 2 => if 1 ≤ u32At a 4 && u32At a 4 ≤ 128 then none else some (4, 0)
    | 3 => if 1000 ≤ u32At a 4 then none else some (4, 0)
    | _ => if u32At a 4 == 0 then none else some (4, 0)

/-- What the pattern in the arguments `a` injects at once (R323). -/
def patternInject (a : Bytes) : LaneAux → LaneAux :=
  match byteAt a 3 with
  | 1 => (·.injectBits 1)
  | 2 => (·.injectBits (u32At a 4))
  | _ => id

/-- The lane of the arguments `a` goes into test with their pattern (R319, R321). -/
def State.patternOn (a : Bytes) (s : State) : State :=
  let l := byteAt a 0
  ((((s.modLaneAux l fun x => { x with
    genOn := byteAt a 1 % 8 != 0, chkOn := byteAt a 2 != 0, generator := byteAt a 1 % 8, checker := byteAt a 2, nearLoop := bit (byteAt a 1) 3,
    inject := byteAt a 3, injectArg := BitVec.ofNat 32 (u32At a 4), user := slice a 8 16, sync := byteAt a 1 % 8 == byteAt a 2 && bit (byteAt a 1) 3,
    alone := false, rejoin := false, chkStart := if byteAt a 2 != 0 then s.time else x.chkStart, errors := if byteAt a 2 != 0 then 0 else x.errors,
    bits := if byteAt a 2 != 0 then 0 else x.bits, syncLosses := if byteAt a 2 != 0 then 0 else x.syncLosses }).modLane l fun x =>
    { x with included := false }).laneState l 5).emit (.lane l 5 (byteAt a 1))).modLaneAux l (patternInject a)

/-- What LANE.PATTERN with the arguments `a` does and answers once they are accepted. -/
def State.lanePattern (a : Bytes) (s : State) : State × Reply :=
  let l := byteAt a 0
  if s.mode.mode != .maintenance then (s, .fail stWrongMode)
  else if s.opOn 0x0B02 fun x => byteAt x 0 == l then (s, .busy (unitLane l))
  else if byteAt a 1 % 8 == 0 && byteAt a 2 == 0 then ((if (s.lane l).state == 5 then s.leaveTest l else s), .ok [])
  else
    let v := s.patternOn a
    ((if l < 96 then v.restripe l else v.portTest ((l - 96) / 2) true), .ok [])

theorem exec_lanePattern (m : Master) (s : State) : exec (.lanePattern m) s =
    done (runCmd lanePatternCmd (absentIn 0 128 127 State.hasLane) (fun c _ => patternBad c.args) (fun c t => t.lanePattern c.args) m s) := rfl

/-- Arguments of LANE.PATTERN within the table (R319, R321, R323). -/
def PatternFits (a : Bytes) : Prop :=
  byteAt a 1 % 8 ≤ 5 ∧ (byteAt a 0 < 96 → byteAt a 2 ≠ 0 → bit (byteAt a 1) 3 = true) ∧
    (96 ≤ byteAt a 0 → byteAt a 0 % 2 = 1 → byteAt a 1 % 8 ≠ 0 → bit (byteAt a 1) 3 = true) ∧
    (if byteAt a 3 = 2 then 1 ≤ u32At a 4 ∧ u32At a 4 ≤ 128 else if byteAt a 3 = 3 then 1000 ≤ u32At a 4 else u32At a 4 = 0)

section
variable {a : Bytes}

theorem patternBad_none (h : PatternFits a) : patternBad a = none := by
  obtain ⟨hgen, hsap, hroot, harg⟩ := h
  unfold patternBad
  rw [if_neg (Nat.not_lt.2 hgen), if_neg (by simpa using hsap), if_neg (by simpa using hroot)]
  split <;> simp_all

/-- No generator, no checker and nothing to inject is within the table. -/
theorem patternFits_stop (hg : byteAt a 1 % 8 = 0) (hc : byteAt a 2 = 0) (hi : byteAt a 3 = 0) (ha : u32At a 4 = 0) : PatternFits a := by
  simp [PatternFits, hg, hc, hi, ha]

theorem patternInject_eq : patternInject a =
    if byteAt a 3 = 1 then (·.injectBits 1) else if byteAt a 3 = 2 then (·.injectBits (u32At a 4)) else id := by
  unfold patternInject
  split <;> simp_all

theorem lanePattern_wrongMode (hm : s.mode.mode ≠ .maintenance) : s.lanePattern a = (s, .fail stWrongMode) :=
  if_pos (bne_iff_ne.2 hm)

section
variable (hm : s.mode.mode = .maintenance) (ho : (s.opOn 0x0B02 fun x => byteAt x 0 == byteAt a 0) = false)
include hm ho

theorem lanePattern_stop (hg : byteAt a 1 % 8 = 0) (hc : byteAt a 2 = 0) :
    s.lanePattern a = (if (s.lane (byteAt a 0)).state = 5 then s.leaveTest (byteAt a 0) else s, .ok []) := by
  simp [State.lanePattern, hm, ho, hg, hc]

theorem lanePattern_start (hg : byteAt a 1 % 8 ≠ 0 ∨ byteAt a 2 ≠ 0) : s.lanePattern a =
    (if byteAt a 0 < 96 then (s.patternOn a).restripe (byteAt a 0) else (s.patternOn a).portTest ((byteAt a 0 - 96) / 2) true, .ok []) := by
  have hon : (byteAt a 1 % 8 == 0 && byteAt a 2 == 0) = false := by
    simp
    omega
  simp [State.lanePattern, hm, ho, hon]

end

end

section
variable (h : Accepts s m lanePatternCmd) (hl : (s.taken m).hasLane (s.cmdLane m) = true)
include h hl

theorem exec_lanePattern_ok {t : State} (hf : PatternFits (s.argsOf m)) (hr : (s.taken m).lanePattern (s.argsOf m) = (t, .ok [])) :
    exec (.lanePattern m) s = .next (okAfter s m 0x0B01 [] t) :=
  (exec_lanePattern m s).trans (exec_ok h rfl (absentIn_none hl) (patternBad_none hf) hr)

theorem exec_lanePattern_wrongMode (hf : PatternFits (s.argsOf m)) (hm : (s.taken m).mode.mode ≠ .maintenance) :
    exec (.lanePattern m) s = .next (errAfter s m 0x0B01 stWrongMode 0xFF 0 0xFFFF) :=
  (exec_lanePattern m s).trans (exec_err h rfl (absentIn_none hl) (patternBad_none hf) (lanePattern_wrongMode hm))

end

/-! ### The PCIe links (R61, R84, R325, R326) -/

theorem exec_pcieLinkChange (link : Nat) (up : Bool) (w r : Nat) (s : State) :
    exec (.pcieLinkChange link up w r) s = execPcieLinkChange link up w r s := rfl
theorem exec_pciePowerState (link : Nat) (d l1 : Bool) (s : State) : exec (.pciePowerState link d l1) s = .next
    (s.when (!(s.linkLanes link).isEmpty && (s.fn link).linkUp) (·.modFn link fun x => { x with d3hot := d, l1 := l1 })).settle := rfl

/-- What vectors leave of a function: they set pending bits, and end L1 (R84, R325). -/
def FnKept (x y : PcieFn) : Prop :=
  y.linkUp = x.linkUp ∧ y.width = x.width ∧ y.rate = x.rate ∧ y.d3hot = x.d3hot ∧ (x.l1 = false → y.l1 = false)

theorem FnKept.refl (x : PcieFn) : FnKept x x := ⟨rfl, rfl, rfl, rfl, id⟩

theorem FnKept.trans {x y z : PcieFn} (h : FnKept x y) (h' : FnKept y z) : FnKept x z := by
  obtain ⟨h1, h2, h3, h4, h5⟩ := h
  obtain ⟨k1, k2, k3, k4, k5⟩ := h'
  exact ⟨k1.trans h1, k2.trans h2, k3.trans h3, k4.trans h4, k5 ∘ h5⟩

theorem fn_modFn_same {f : Nat} (hf : f < s.ctl.fns.length) (g : PcieFn → PcieFn) : (s.modFn f g).fn f = g (s.fn f) := by
  simp [State.fn, State.modFn, List.getD_eq_getElem?_getD, hf]

theorem modFn_kept {g : PcieFn → PcieFn} (hg : ∀ x, FnKept x (g x)) (f k : Nat) (s : State) : FnKept (s.fn k) ((s.modFn f g).fn k) := by
  simp only [State.fn, State.modFn, State.modCtl_ctl, List.getD_eq_getElem?_getD, List.getElem?_modify]
  cases s.ctl.fns[k]? with
  | none => exact FnKept.refl _
  | some x =>
    by_cases hk : f = k
    · simpa [hk] using hg x
    · simpa [hk] using FnKept.refl x

/-- The functions of `t` are those of `s` but for vectors. -/
structure FnsKept (s t : State) : Prop where
  fn : ∀ k, FnKept (s.fn k) (t.fn k)

theorem FnsKept.trans {t u : State} (h : FnsKept s t) (h' : FnsKept t u) : FnsKept s u := ⟨fun k => (h.fn k).trans (h'.fn k)⟩

theorem fnsKept_of_fns {t : State} (h : t.ctl.fns = s.ctl.fns) : FnsKept s t := ⟨fun k => by
  rw [State.fn, State.fn, h]
  exact FnKept.refl _⟩

theorem FnsKept.of_fns {t u : State} (h : FnsKept t u) (hs : t.ctl.fns = s.ctl.fns) : FnsKept s u := (fnsKept_of_fns hs).trans h

theorem vector_fnsKept (f v : Nat) (s : State) : FnsKept s (s.vector f v) := by
  unfold State.vector
  split
  · exact fnsKept_of_fns rfl
  · split
    · exact ⟨fun k => modFn_kept (fun _ => by exact ⟨rfl, rfl, rfl, rfl, id⟩) f k s⟩
    · refine FnsKept.trans (t := s.modFn f fun x => { x with l1 := false }) ⟨fun k => ?_⟩ (fnsKept_of_fns rfl)
      exact modFn_kept (fun _ => by exact ⟨rfl, rfl, rfl, rfl, fun _ => rfl⟩) f k s

theorem allVector_fnsKept (v : Nat) (s : State) : FnsKept s (s.allVector v) :=
  (vector_fnsKept 0 v s).trans (vector_fnsKept 1 v _)

theorem setUnit_fnsKept (i : Nat) (g : UnitRec → UnitRec) (s : State) : FnsKept s (s.setUnit i g) := by
  unfold State.setUnit
  dsimp only
  split
  · exact fnsKept_of_fns rfl
  · exact (allVector_fnsKept 16 _).of_fns rfl

theorem laneState_fnsKept (l st : Nat) (s : State) : FnsKept s (s.laneState l st) :=
  (setUnit_fnsKept _ _ _).of_fns rfl

theorem ringVector_fnsKept (k : Nat) (s : State) : FnsKept s (s.ringVector k) := by
  unfold State.ringVector
  dsimp only
  split
  · exact fnsKept_of_fns rfl
  · exact (vector_fnsKept k 1 _).of_fns rfl

theorem offer_fnsKept (k : Nat) (e : EvEntry) (s : State) : FnsKept s (s.offer k e) := by
  have hring : FnsKept s (s.modRing k (ringOffer e)) := fnsKept_of_fns rfl
  unfold State.offer
  dsimp only
  split
  · exact hring
  · split
    · split
      · exact hring.trans (vector_fnsKept k 2 _)
      · exact hring.trans (ringVector_fnsKept k _)
    · exact hring

theorem foldl_fnsKept {α : Type} {f : State → α → State} (hf : ∀ t a, FnsKept t (f t a)) (l : List α) (s : State) : FnsKept s (l.foldl f s) :=
  List.foldlRecOn (motive := fun t : State => FnsKept s t) _ _ (fnsKept_of_fns rfl) fun t ht a _ => ht.trans (hf t a)

theorem post_fnsKept (c v : Nat) (p : Bytes) (s : State) : FnsKept s (s.post c v p) := by
  have hrings : FnsKept s (s.postRings c v p) := foldl_fnsKept (fun t k => by
    split
    · exact offer_fnsKept ..
    · exact fnsKept_of_fns rfl) _ _
  unfold State.post State.toLog
  split
  · exact hrings
  · exact hrings.trans (fnsKept_of_fns rfl)

/-- The function of a link that has trained or gone down (R326). -/
def PcieFn.linked (up : Bool) (w r : Nat) (x : PcieFn) : PcieFn :=
  { x with linkUp := up, width := if up then w else 0, rate := if up then r else 0, l1 := false, d3hot := x.d3hot && up }

section
variable {link width rate : Nat}

section
variable (hl : link < s.ctl.fns.length) (he : (s.linkLanes link).isEmpty = false) (hd : s.domOn (domHP link) = true)
  (hp : s.perstHigh link = true)
include hl he hd hp

/-- What follows on the lanes of a link leaves its function as the change has set it. -/
theorem pcieLinkChange_fn (up : Bool) : ∃ t, exec (.pcieLinkChange link up width rate) s = .next t ∧
    FnKept ((s.fn link).linked up width rate) (t.fn link) := by
  have hset : ((s.modFn link (PcieFn.linked up width rate)).fn link) = (s.fn link).linked up width rate := fn_modFn_same hl _
  rw [exec_pcieLinkChange, execPcieLinkChange, he, hd, hp]
  refine ⟨_, rfl, hset ▸ FnsKept.fn (FnsKept.trans ?_ (fnsKept_of_fns (congrArg Ctl.fns (State.settle_ctl _)))) link⟩
  simp only [Bool.not_false, Bool.and_self, State.when_true]
  cases up with
  | false =>
    simp only [Bool.not_false, if_true]
    refine foldl_fnsKept (fun t l => ?_) _ _
    exact (laneState_fnsKept _ _ _).of_fns rfl
  | true =>
    simp only [Bool.not_true, Bool.false_eq_true, if_false]
    refine foldl_fnsKept (fun t l => ?_) _ _
    split
    · refine FnsKept.trans ?_ (setUnit_fnsKept _ _ _)
      exact (laneState_fnsKept _ _ _).of_fns rfl
    · refine FnsKept.trans ?_ (post_fnsKept _ _ _ _)
      exact (laneState_fnsKept _ _ _).of_fns rfl

theorem pcieLinkChange_up : ∃ t, exec (.pcieLinkChange link true width rate) s = .next t ∧
    (t.fn link).linkUp = true ∧ (t.fn link).width = width ∧ (t.fn link).rate = rate ∧ (t.fn link).l1 = false := by
  obtain ⟨t, ht, hup, hwidth, hrate, -, hl1⟩ := pcieLinkChange_fn (width := width) (rate := rate) hl he hd hp true
  exact ⟨t, ht, hup, hwidth, hrate, hl1 rfl⟩

theorem pcieLinkChange_down : ∃ t, exec (.pcieLinkChange link false width rate) s = .next t ∧
    (t.fn link).linkUp = false ∧ (t.fn link).width = 0 ∧ (t.fn link).d3hot = false := by
  obtain ⟨t, ht, hup, hwidth, -, hd3, -⟩ := pcieLinkChange_fn (width := width) (rate := rate) hl he hd hp false
  exact ⟨t, ht, hup, hwidth, hd3.trans (Bool.and_false _)⟩

end

theorem exec_pcieLinkChange_held (h : s.domOn (domHP link) = false ∨ s.perstHigh link = false) (up : Bool) :
    exec (.pcieLinkChange link up width rate) s = .next s.settle := by
  have hheld : (!(s.linkLanes link).isEmpty && s.domOn (domHP link) && s.perstHigh link) = false := by
    rcases h with h | h <;> simp [h]
  rw [exec_pcieLinkChange, execPcieLinkChange, hheld]
  rfl

theorem exec_pciePowerState_up {d l1 : Bool} (he : (s.linkLanes link).isEmpty = false) (hu : (s.fn link).linkUp = true) :
    exec (.pciePowerState link d l1) s = .next (s.modFn link fun x => { x with d3hot := d, l1 := l1 }).settle := by
  rw [exec_pciePowerState, he, hu]
  rfl

theorem exec_pciePowerState_down {d l1 : Bool} (hu : (s.fn link).linkUp = false) : exec (.pciePowerState link d l1) s = .next s.settle := by
  rw [exec_pciePowerState, hu, Bool.and_false]
  rfl

end

/-- Settles O15: each command by a lemma of its own, LANE.RETRAIN by the kind of lane, LANE.PATTERN by what it asks for, a link by
whether it may train. -/
theorem laneAndLinkCommands : Obligations.LaneAndLinkCommands := by
  refine ⟨fun m s => ⟨exec_laneQuery_ok, fun h hl => ⟨exec_laneRetrain_busy h hl, fun ho hn =>
      ⟨exec_laneRetrain_sapline h hl ho hn, exec_laneRetrain_portDown h hl ho hn, exec_laneRetrain_portUp h hl ho hn⟩⟩,
      fun h hl => ⟨fun hm hg hc hi ha => exec_lanePattern_wrongMode h hl (patternFits_stop hg hc hi ha) hm,
        fun hm ho => ⟨fun hg hc hi ha => exec_lanePattern_ok h hl (patternFits_stop hg hc hi ha) (lanePattern_stop hm ho hg hc),
          fun h5 hg hsap hroot harg => ?_⟩⟩⟩,
    fun link width rate d3hot l1 s hlink hlen he =>
      have hl : link < s.ctl.fns.length := by rw [hlen]; exact hlink
      ⟨fun hd hp => ⟨pcieLinkChange_up hl he hd hp, pcieLinkChange_down hl he hd hp⟩, exec_pcieLinkChange_held,
        exec_pciePowerState_up he, exec_pciePowerState_down⟩⟩
  have hstart := exec_lanePattern_ok h hl ⟨h5, hsap, hroot, harg⟩ (lanePattern_start hm ho hg)
  unfold State.patternOn at hstart
  rw [patternInject_eq] at hstart
  exact hstart

end Sys2Proof.Machine
end

section
/-! SUPPORT. The lanes of the link: what the operations on one lane leave of it and of the others (R302 to R309). -/

namespace Sys2Proof.Machine

variable {s t : State} {k l : Nat}

/-! ### Reading a lane -/

theorem lane_congr (h : t.lanes = s.lanes) (k : Nat) : t.lane k = s.lane k := by rw [State.lane, State.lane, h]
theorem laneAux_congr (h : t.lanes = s.lanes) (k : Nat) : t.laneAux k = s.laneAux k := by rw [State.laneAux, State.laneAux, h]

theorem lane_modLane_same (hl : l < s.lanes.lanes.length) (g : Lane → Lane) : (s.modLane l g).lane l = g (s.lane l) := by
  simp [State.lane, State.modLane, List.getD_eq_getElem?_getD, hl]

theorem lane_modLane_other (h : k ≠ l) (g : Lane → Lane) (s : State) : (s.modLane l g).lane k = s.lane k := by
  simp [State.lane, State.modLane, List.getD_eq_getElem?_getD, h.symm]

theorem laneAux_modLaneAux_same (hl : l < s.lanes.aux.length) (g : LaneAux → LaneAux) : (s.modLaneAux l g).laneAux l = g (s.laneAux l) := by
  simp [State.laneAux, State.modLaneAux, List.getD_eq_getElem?_getD, hl]

/-- What is not there reads as the default. -/
theorem laneAux_modLaneAux_absent (hl : s.lanes.aux.length ≤ l) (g : LaneAux → LaneAux) : (s.modLaneAux l g).laneAux l = {} := by
  simp [State.laneAux, State.modLaneAux, List.getD_eq_getElem?_getD, hl]

theorem lane_modLaneAux (l : Nat) (g : LaneAux → LaneAux) (s : State) (k : Nat) : (s.modLaneAux l g).lane k = s.lane k := rfl
theorem laneAux_modLane (l : Nat) (g : Lane → Lane) (s : State) (k : Nat) : (s.modLane l g).laneAux k = s.laneAux k := rfl

theorem modLane_lanes_length (l : Nat) (g : Lane → Lane) (s : State) : (s.modLane l g).lanes.lanes.length = s.lanes.lanes.length := by
  simp [State.modLane]

theorem modLane_modLane (l : Nat) (f g : Lane → Lane) (s : State) : (s.modLane l f).modLane l g = s.modLane l (g ∘ f) := by
  simp only [State.modLane, State.modLanes, List.modify_modify_eq]

theorem modLaneAux_modLaneAux (l : Nat) (f g : LaneAux → LaneAux) (s : State) : (s.modLaneAux l f).modLaneAux l g = s.modLaneAux l (g ∘ f) := by
  simp only [State.modLaneAux, State.modLanes, List.modify_modify_eq]

/-- A lane that is not there is OFF. -/
theorem lane_lt_of_state (h : (s.lane k).state ≠ 0) : k < s.lanes.lanes.length := by
  by_contra hk
  refine h ?_
  rw [State.lane, List.getD_eq_default _ _ (Nat.le_of_not_lt hk)]

@[simp] theorem settle_lane (s : State) (k : Nat) : s.settle.lane k = s.lane k := lane_congr s.settle_lanes k
@[simp] theorem settle_laneAux (s : State) (k : Nat) : s.settle.laneAux k = s.laneAux k := laneAux_congr s.settle_lanes k

/-! ### The state of a lane (Table 12.5) -/

theorem laneState_lanes (l st : Nat) (s : State) : (s.laneState l st).lanes = (s.modLane l fun x => { x with state := st }).lanes :=
  State.setUnit_lanes ..

theorem laneState_time (l st : Nat) (s : State) : (s.laneState l st).time = s.time := State.setUnit_time ..

theorem restripe_lanes (l : Nat) (s : State) : (s.restripe l).lanes = s.lanes := State.when_lanes _ _ _ rfl

theorem restripe_time (l : Nat) (s : State) : (s.restripe l).time = s.time := State.when_time _ _ _ rfl

theorem lane_laneState_same (hl : l < s.lanes.lanes.length) (st : Nat) : (s.laneState l st).lane l = { s.lane l with state := st } :=
  (lane_congr (laneState_lanes l st s) l).trans (lane_modLane_same hl _)

theorem lane_laneState_other (h : k ≠ l) (st : Nat) (s : State) : (s.laneState l st).lane k = s.lane k :=
  (lane_congr (laneState_lanes l st s) k).trans (lane_modLane_other h _ s)

theorem laneAux_laneState (l st : Nat) (s : State) (k : Nat) : (s.laneState l st).laneAux k = s.laneAux k :=
  laneAux_congr (t := s.laneState l st) (s := s.modLane l fun x => { x with state := st }) (laneState_lanes l st s) k

/-! ### A lane that begins to train (R302, R303) -/

/-- The taps a lane starts from leave it outside the striping, and nothing but that lane changes. -/
theorem startTaps_eq (l r d : Nat) (s : State) : ∃ g : Lane → Lane, s.startTaps l r d = s.modLane l g ∧ ∀ x, (g x).included = false :=
  ⟨_, rfl, fun _ => rfl⟩

/-- A lane whose TRAIN blocks go out: it trains, outside the striping. -/
theorem trainLane_lane (hl : l < s.lanes.lanes.length) (a : Bool) : ((s.trainLane l a).lane l).state = 1 ∧ ((s.trainLane l a).lane l).included = false := by
  obtain ⟨g, hg, hout⟩ := startTaps_eq l s.disp.timing.laneRate 7 s
  have hlen : l < (s.modLane l g).lanes.lanes.length := by rw [modLane_lanes_length]; exact hl
  have hlane : (s.trainLane l a).lane l = { g (s.lane l) with state := 1 } := by
    rw [State.trainLane, hg]
    refine (lane_laneState_same (s := (s.modLane l g).modLaneAux l _) hlen 1).trans ?_
    rw [lane_modLaneAux, lane_modLane_same hl]
  rw [hlane]
  exact ⟨rfl, hout _⟩

theorem trainLane_laneAux (hl : l < s.lanes.aux.length) (a : Bool) :
    (s.trainLane l a).laneAux l = { s.laneAux l with alone := a, rejoin := false, idleAt := none } := by
  obtain ⟨g, hg, -⟩ := startTaps_eq l s.disp.timing.laneRate 7 s
  rw [State.trainLane, hg]
  exact (laneAux_laneState ..).trans (laneAux_modLaneAux_same (s := s.modLane l g) hl _)

theorem trainLane_groupStart (l : Nat) (a : Bool) (s : State) : (s.trainLane l a).lanes.groupStart = s.lanes.groupStart :=
  (congrArg Lanes.groupStart (laneState_lanes l 1 ((s.startTaps l s.disp.timing.laneRate 7).modLaneAux l _)) :).trans rfl

theorem trainLane_time (l : Nat) (a : Bool) (s : State) : (s.trainLane l a).time = s.time :=
  laneState_time l 1 ((s.startTaps l s.disp.timing.laneRate 7).modLaneAux l _)

/-! ### A lane that retrains alone (R309, R315, R415) -/

/-- Without LOW_STOP the lane leaves the striping and trains alone. -/
theorem retrainAlone_lane (hl : l < s.lanes.lanes.length) (hlow : s.lowHold = false) :
    ((s.retrainAlone l).lane l).state = 1 ∧ ((s.retrainAlone l).lane l).included = false := by
  rw [State.retrainAlone, if_neg (Bool.eq_false_iff.1 hlow)]
  rw [lane_congr (restripe_lanes l _) l]
  exact trainLane_lane (s := (s.modLanes _).modLaneAux l _) hl true

theorem retrainAlone_laneAux (hl : l < s.lanes.aux.length) (hlow : s.lowHold = false) :
    (s.retrainAlone l).laneAux l = { s.laneAux l with waits := false, alone := true, rejoin := false, idleAt := none } := by
  rw [State.retrainAlone, if_neg (Bool.eq_false_iff.1 hlow), laneAux_congr (restripe_lanes l _) l, trainLane_laneAux (by simpa [State.modLaneAux] using hl)]
  exact congrArg (fun a : LaneAux => { a with alone := true, rejoin := false, idleAt := none }) 
    (laneAux_modLaneAux_same (s := s.modLanes fun x => { x with groupStart := x.groupStart.set (l / 8) (some s.time) }) hl _)

/-- LOW_STOP puts the retrain off: the lane waits as it is. -/
theorem retrainAlone_held (hl : l < s.lanes.aux.length) (hlow : s.lowHold = true) :
    (s.retrainAlone l).laneAux l = { s.laneAux l with waits := true } ∧ (s.retrainAlone l).lane l = s.lane l := by
  rw [State.retrainAlone, if_pos hlow, laneAux_modLaneAux_same hl]
  exact ⟨rfl, rfl⟩

/-- Either way the count of bad reports is kept. -/
theorem retrainAlone_statsBad (hl : l < s.lanes.aux.length) : ((s.retrainAlone l).laneAux l).statsBad = (s.laneAux l).statsBad := by
  cases hlow : s.lowHold
  · rw [retrainAlone_laneAux hl hlow]
  · rw [(retrainAlone_held hl hlow).1]

/-! ### A lane that fails (R308) -/

theorem endRetrain_lanes (l : Nat) (s : State) : (s.endRetrain l).lanes = s.lanes :=
  foldl_keeps State.lanes (fun t o => State.complete_lanes o _ _ t) _ s

theorem endRetrain_time (l : Nat) (s : State) : (s.endRetrain l).time = s.time :=
  foldl_keeps State.time (fun t o => State.complete_time o _ _ t) _ s

/-- Of the lanes, a failure changes the one that fails, which is FAILED outside the striping. -/
theorem failLane_eq (l : Nat) (s : State) :
    ∃ g : Lane → Lane, (∀ x, (g x).included = false) ∧ ∀ k, (s.failLane l).lane k = ((s.modLane l g).laneState l 4).lane k := by
  refine ⟨fun x => { x with ended := true, trained := false, included := false, blockLock := false }, fun _ => rfl, fun k => ?_⟩
  refine (lane_congr (State.when_lanes _ _ _ (State.reqDomain_lanes ..)) k).trans ?_
  refine (lane_congr ((endRetrain_lanes _ _).trans ((restripe_lanes _ _).trans (State.post_lanes ..))) k).trans ?_
  exact lane_modLaneAux ..

theorem failLane_lane (hl : l < s.lanes.lanes.length) : ((s.failLane l).lane l).state = 4 ∧ ((s.failLane l).lane l).included = false := by
  obtain ⟨g, hout, hlane⟩ := failLane_eq l s
  rw [hlane, lane_laneState_same (by rwa [modLane_lanes_length]), lane_modLane_same hl]
  exact ⟨rfl, hout _⟩

theorem failLane_lane_other (h : k ≠ l) (s : State) : (s.failLane l).lane k = s.lane k := by
  obtain ⟨g, -, hlane⟩ := failLane_eq l s
  rw [hlane, lane_laneState_other h, lane_modLane_other h]

theorem failLane_time (l : Nat) (s : State) : (s.failLane l).time = s.time := by
  refine (State.when_time _ _ _ (State.reqDomain_time ..)).trans ?_
  refine (endRetrain_time _ _).trans ((restripe_time _ _).trans ((State.post_time ..).trans ?_))
  exact laneState_time ..

/-! ### Turns over a list of lanes -/

/-- Where a fold's turns keep `P`, keep `Q` or turn it into `P`, and the turn on `k` turns `Q` into `P`, the fold over a list with `k`
does so too. -/
theorem foldl_reaches {α : Type} {P Q : State → Prop} {f : State → α → State} {k : α} (hP : ∀ t a, P t → P (f t a))
    (hQ : ∀ t a, Q t → Q (f t a) ∨ P (f t a)) (hk : ∀ t, Q t → P (f t k)) : ∀ (l : List α) (t : State), k ∈ l → Q t → P (l.foldl f t) := by
  intro l
  induction l with
  | nil => exact fun t hmem => absurd hmem List.not_mem_nil
  | cons a l ih =>
    intro t hmem ht
    have hstay : ∀ u, P u → P (l.foldl f u) := fun u hu => List.foldlRecOn (motive := P) l f hu fun v hv b _ => hP v b hv
    rcases List.mem_cons.1 hmem with rfl | hmem
    · exact hstay _ (hk t ht)
    · exact (hQ t a ht).elim (ih _ hmem) (hstay _)

/-! ### The trained lanes join the link (R306) -/

theorem lane_joined (hl : l < s.lanes.lanes.length) :
    ((s.modLane l fun x => { x with included := true }).laneState l 2).lane l = { s.lane l with included := true, state := 2 } := by
  rw [lane_laneState_same (by rwa [modLane_lanes_length]), lane_modLane_same hl]

theorem lane_joined_other (h : k ≠ l) (s : State) : ((s.modLane l fun x => { x with included := true }).laneState l 2).lane k = s.lane k := by
  rw [lane_laneState_other h, lane_modLane_other h]

theorem joined_lanes_length (l : Nat) (s : State) :
    ((s.modLane l fun x => { x with included := true }).laneState l 2).lanes.lanes.length = s.lanes.lanes.length := by
  rw [laneState_lanes, modLane_lanes_length, modLane_lanes_length]

/-- Every trained lane is ACTIVE in the striping once they have joined. -/
theorem joinTrained_lane (hl : l ∈ s.trainedLanes) (hlen : l < s.lanes.lanes.length) :
    (s.joinTrained.lane l).state = 2 ∧ (s.joinTrained.lane l).included = true := by
  refine foldl_reaches (P := fun t => (t.lane l).state = 2 ∧ (t.lane l).included = true) (Q := fun t => l < t.lanes.lanes.length)
    (fun t a ht => ?_) (fun t a ht => .inl ?_) (fun t ht => ?_) _ s hl hlen
  · rcases eq_or_ne l a with rfl | hne
    · rw [lane_joined (lane_lt_of_state (by rw [ht.1]; decide))]
      exact ⟨rfl, rfl⟩
    · rw [lane_joined_other hne]
      exact ht
  · rwa [joined_lanes_length]
  · rw [lane_joined ht]
    exact ⟨rfl, rfl⟩

theorem joinTrained_alignCount (s : State) : s.joinTrained.lanes.alignCount = s.lanes.alignCount + 16 := by
  refine congrArg (· + 16) (foldl_keeps (fun t => t.lanes.alignCount) (fun t l => ?_) _ s)
  rw [laneState_lanes]
  rfl

theorem joinTrained_pnl (s : State) : s.joinTrained.pnl = s.pnl := by
  refine foldl_keeps State.pnl (fun t l => ?_) _ s
  exact State.setUnit_pnl ..

/-! ### The budget of the group's training (R306) -/

/-- A turn of the expired budget: the lane fails if it trains and has not ended. -/
theorem failOpen_reaches {ls : List Nat} (hl : l ∈ ls) (h1 : (s.lane l).state = 1) (h0 : (s.lane l).ended = false) :
    let t := ls.foldl (fun t l => if (t.lane l).state == 1 && !(t.lane l).ended then t.failLane l else t) s
    (t.lane l).state = 4 ∧ (t.lane l).included = false := by
  have hopen : ∀ t : State, (t.lane l).state = 1 ∧ (t.lane l).ended = false →
      (if (t.lane l).state == 1 && !(t.lane l).ended then t.failLane l else t) = t.failLane l := fun t ht => if_pos (by rw [ht.1, ht.2]; rfl)
  have hfail : ∀ t : State, (t.lane l).state = 1 → ((t.failLane l).lane l).state = 4 ∧ ((t.failLane l).lane l).included = false :=
    fun t ht => failLane_lane (lane_lt_of_state (by rw [ht]; decide))
  have hother : ∀ (t : State) (a : Nat), l ≠ a → (if (t.lane a).state == 1 && !(t.lane a).ended then t.failLane a else t).lane l = t.lane l := by
    intro t a hne
    split
    · exact failLane_lane_other hne t
    · rfl
  refine foldl_reaches (P := fun t => (t.lane l).state = 4 ∧ (t.lane l).included = false) (Q := fun t => (t.lane l).state = 1 ∧ (t.lane l).ended = false)
    (fun t a ht => ?_) (fun t a ht => ?_) (fun t ht => ?_) ls s hl ⟨h1, h0⟩
  · rcases eq_or_ne l a with rfl | hne
    · rw [if_neg (by simp [ht.1])]
      exact ht
    · rw [hother t a hne]
      exact ht
  · rcases eq_or_ne l a with rfl | hne
    · rw [hopen t ht]
      exact .inr (hfail t ht.1)
    · rw [hother t a hne]
      exact .inl ht
  · rw [hopen t ht]
    exact hfail t ht.1

end Sys2Proof.Machine
end

section
/-! SUPPORT. Training and supervision of Sapline lanes (R302 to R309, R313 to R315). -/

namespace Sys2Proof.Machine

variable {s : State} {g lane seq kind preset margin : Nat} {steps : W8}

/-! ### The group training (R306, R415) -/

theorem exec_saplineGroupTraining (g : Nat) (s : State) : exec (.saplineGroupTraining g) s = execSaplineGroupTraining g s := rfl

theorem exec_saplineGroupTraining_on (hg : g < 12) (hlen : s.lanes.groupStart.length = 12) (hgroup : s.hasGroup g = true)
    (hon : s.domOn (domSG g) = true) (hlow : s.lowHold = false) (hup : s.pnl.up = true) (hrun : s.disp.running = false) :
    ∃ t, exec (.saplineGroupTraining g) s = .next t ∧ t.lanes.groupStart.getD g none = some s.time ∧ t.time = s.time := by
  rw [exec_saplineGroupTraining, execSaplineGroupTraining, hgroup, hon, hlow, hup, hrun]
  refine ⟨_, rfl, ?_, ?_⟩
  · rw [State.settle_lanes]
    refine (congrArg (fun x : List (Option Nat) => x.getD g none) (foldl_keeps (fun t => t.lanes.groupStart) (fun t l => ?_) _ _)).trans ?_
    · split
      · rfl
      · exact trainLane_groupStart ..
    · simp [List.getD_eq_getElem?_getD, hlen, hg]
  · rw [State.settle_time]
    refine foldl_keeps State.time (fun t l => ?_) _ _
    split
    · rfl
    · exact trainLane_time ..

theorem exec_saplineGroupTraining_low (h : s.lowHold = true) : exec (.saplineGroupTraining g) s = .next s.settle := by
  rw [exec_saplineGroupTraining, execSaplineGroupTraining, h]
  simp only [Bool.not_true, Bool.and_false, Bool.false_and, State.when_false]
  rfl

/-! ### The requests of the panel (R304 to R306, R314) -/

theorem exec_saplineTrainReq (lane seq kind preset margin : Nat) (steps : W8) (s : State) :
    exec (.saplineTrainReq lane seq kind preset steps margin) s = execSaplineTrainReq lane seq kind preset steps margin s := rfl

theorem exec_saplineTrainReq_repeated (h : (s.lane lane).ackSeq = seq) :
    exec (.saplineTrainReq lane seq kind preset steps margin) s = .next s.settle := by
  rw [exec_saplineTrainReq, execSaplineTrainReq, if_pos (by simp [h])]
  rfl

/-- A lane in training takes a request at once. -/
theorem trainReq_training (hstate : (s.lane lane).state = 1) (hended : (s.lane lane).ended = false) :
    ((s.lane lane).state == 1 && !(s.lane lane).ended) = true := by rw [hstate, hended]; rfl

section
variable (hl : s.hasLane lane = true) (h1 : 1 ≤ seq) (hseq : seq < 256) (hm : margin < 256) (hack : (s.lane lane).ackSeq ≠ seq)
include hl h1 hseq hm hack

/-- A request within its limits that is not the last one again is looked at. -/
theorem trainReq_fresh (hk : kind < 5) :
    ¬ (!(s.hasLane lane && 1 ≤ seq && seq < 256 && kind < 5 && margin < 256) || (s.lane lane).ackSeq == seq) = true := by
  simp [hl, h1, hseq, hm, hk, hack]

section
variable (hstate : (s.lane lane).state = 1) (hended : (s.lane lane).ended = false)
include hstate hended

theorem exec_saplineTrainReq_preset (hp : preset < 10) :
    exec (.saplineTrainReq lane seq 1 preset steps margin) s =
      .next (((s.modLane lane fun x => { x with margin := marginMui margin, ackSeq := seq, blockLock := true }).modLane lane
        fun x => { x.setPreset preset with tapStatus := 0 }).sendTrain lane).settle := by
  rw [exec_saplineTrainReq, execSaplineTrainReq, if_neg (trainReq_fresh hl h1 hseq hm hack (by decide)), if_pos (trainReq_training hstate hended)]
  simp only [if_pos hp]
  rfl

theorem exec_saplineTrainReq_step :
    exec (.saplineTrainReq lane seq 2 preset steps margin) s =
      .next (((s.modLane lane fun x => { x with margin := marginMui margin, ackSeq := seq, blockLock := true }).modLane lane
        (·.applyStep steps.toNat)).sendTrain lane).settle := by
  rw [exec_saplineTrainReq, execSaplineTrainReq, if_neg (trainReq_fresh hl h1 hseq hm hack (by decide)), if_pos (trainReq_training hstate hended)]
  rfl

theorem exec_saplineTrainReq_good (hgood : 51 ≤ margin) :
    exec (.saplineTrainReq lane seq 3 preset steps margin) s =
      .next (((s.modLane lane fun x => { x with margin := marginMui margin, ackSeq := seq, blockLock := true }).passLane lane).sendTrain lane).settle := by
  rw [exec_saplineTrainReq, execSaplineTrainReq, if_neg (trainReq_fresh hl h1 hseq hm hack (by decide)), if_pos (trainReq_training hstate hended)]
  exact congrArg done (if_pos hgood)

theorem exec_saplineTrainReq_poor (hpoor : margin < 51) :
    exec (.saplineTrainReq lane seq 3 preset steps margin) s =
      .next ((s.modLane lane fun x => { x with margin := marginMui margin, ackSeq := seq, blockLock := true }).failLane lane).settle := by
  rw [exec_saplineTrainReq, execSaplineTrainReq, if_neg (trainReq_fresh hl h1 hseq hm hack (by decide)), if_pos (trainReq_training hstate hended)]
  exact congrArg done (if_neg (Nat.not_le.2 hpoor))

theorem exec_saplineTrainReq_report :
    exec (.saplineTrainReq lane seq 0 preset steps margin) s =
      .next ((s.modLane lane fun x => { x with margin := marginMui margin, ackSeq := seq, blockLock := true }).sendTrain lane).settle := by
  rw [exec_saplineTrainReq, execSaplineTrainReq, if_neg (trainReq_fresh hl h1 hseq hm hack (by decide)), if_pos (trainReq_training hstate hended)]
  rfl

theorem exec_saplineTrainReq_bad :
    exec (.saplineTrainReq lane seq 4 preset steps margin) s =
      .next ((s.modLane lane fun x => { x with margin := marginMui margin, ackSeq := seq, blockLock := true }).failLane lane).settle := by
  rw [exec_saplineTrainReq, execSaplineTrainReq, if_neg (trainReq_fresh hl h1 hseq hm hack (by decide)), if_pos (trainReq_training hstate hended)]
  rfl

end

section
variable (hstate : (s.lane lane).state = 2 ∨ (s.lane lane).state = 3)
include hstate

/-- A lane in service keeps the margin, and of the requests only a STEP. -/
theorem exec_saplineTrainReq_service (hk : kind < 5) :
    exec (.saplineTrainReq lane seq kind preset steps margin) s = done ((s.modLane lane fun x => { x with margin := marginMui margin }).when
      (kind == 2 && (s.lane lane).step.isNone && ((s.lane lane).lastStep == 0 || (s.lane lane).lastStep + ms 10 ≤ s.time))
      (·.modLane lane fun x => { x with step := some (seq, steps.toNat) })) := by
  have htrain : ¬ ((s.lane lane).state == 1 && !(s.lane lane).ended) = true := by rcases hstate with h | h <;> simp [h]
  have hserve : ((s.lane lane).state == 2 || (s.lane lane).state == 3) = true := by rcases hstate with h | h <;> simp [h]
  rw [exec_saplineTrainReq, execSaplineTrainReq, if_neg (trainReq_fresh hl h1 hseq hm hack hk), if_neg htrain, if_pos hserve]
  rfl

theorem exec_saplineTrainReq_stepWaits (hnone : (s.lane lane).step = none) (htime : (s.lane lane).lastStep + 10000000 ≤ s.time) :
    exec (.saplineTrainReq lane seq 2 preset steps margin) s =
      .next ((s.modLane lane fun x => { x with margin := marginMui margin }).modLane lane fun x => { x with step := some (seq, steps.toNat) }).settle := by
  have hfree : (2 == 2 && (s.lane lane).step.isNone && ((s.lane lane).lastStep == 0 || (s.lane lane).lastStep + ms 10 ≤ s.time)) = true := by
    simp [hnone, ms, htime]
  rw [exec_saplineTrainReq_service hl h1 hseq hm hack hstate (by decide), hfree]
  rfl

theorem exec_saplineTrainReq_marginOnly (hk2 : kind ≠ 2) (hk : kind < 5) :
    exec (.saplineTrainReq lane seq kind preset steps margin) s = .next (s.modLane lane fun x => { x with margin := marginMui margin }).settle := by
  rw [exec_saplineTrainReq_service hl h1 hseq hm hack hstate hk, beq_false_of_ne hk2]
  rfl

end

end

/-! ### The end of the training (R306, R293) -/

theorem when_lane {l : Nat} (b : Bool) (f : State → State) (s : State) (h : (f s).lane l = s.lane l) : (s.when b f).lane l = s.lane l := by
  unfold State.when
  split
  · exact h
  · rfl

theorem timeTo_groupLanes (n g : Nat) (s : State) : (s.timeTo n).groupLanes g = s.groupLanes g := rfl

theorem exec_trainingBudgetExpiry (g : Nat) (s : State) : exec (.trainingBudgetExpiry g) s = execTrainingBudgetExpiry g s := rfl

theorem exec_trainingBudgetExpiry_started {t0 : Nat} (h : s.lanes.groupStart.getD g none = some t0) :
    ∃ t, exec (.trainingBudgetExpiry g) s = .next t ∧ t.time = max (t0 + ms 2) s.time ∧
      ∀ l ∈ s.groupLanes g, (s.lane l).state = 1 → (s.lane l).ended = false → (t.lane l).state = 4 ∧ (t.lane l).included = false := by
  have htime : (s.timeTo (t0 + ms 2)).time = max (t0 + ms 2) s.time := State.modTime_time ..
  have hlane : ∀ l, (s.timeTo (t0 + ms 2)).lane l = s.lane l := lane_congr (State.timeTo_lanes ..)
  have hgroup : (s.timeTo (t0 + ms 2)).groupLanes g = s.groupLanes g := timeTo_groupLanes ..
  rw [exec_trainingBudgetExpiry, execTrainingBudgetExpiry, h]
  dsimp only
  generalize s.timeTo (t0 + ms 2) = v at htime hlane hgroup ⊢
  refine ⟨_, rfl, ?_, fun l hl h1 h0 => ?_⟩
  · rw [State.settle_time, ← htime]
    refine (State.when_time _ _ _ rfl).trans ?_
    refine foldl_keeps State.time (fun t l => ?_) _ _
    split
    · exact failLane_time ..
    · rfl
  · rw [settle_lane, when_lane _ _ _ rfl]
    rw [← hgroup] at hl
    rw [← hlane] at h1 h0
    exact failOpen_reaches hl h1 h0

/-- A trained lane is one that is there. -/
theorem lane_lt_of_trained {l : Nat} (hl : l ∈ s.trainedLanes) : l < s.lanes.lanes.length := by
  refine lane_lt_of_state ?_
  have htrained := (List.mem_filter.1 hl).2
  intro h0
  rw [h0] at htrained
  exact absurd htrained (by simp)

theorem startSchedule_lanes (s : State) : s.startSchedule.lanes = s.lanes := by
  unfold State.startSchedule
  split <;> rfl

theorem startSchedule_running (s : State) : s.startSchedule.disp.running = s.disp.running ∧ s.startSchedule.disp.fullNext = s.disp.fullNext := by
  unfold State.startSchedule
  split <;> exact ⟨rfl, rfl⟩

theorem endHold_lanes (s : State) : s.endHold.lanes = s.lanes := by
  unfold State.endHold
  split
  · rfl
  · exact State.post_lanes ..

theorem exec_saplineTrainingDone (s : State) : exec .saplineTrainingDone s = execSaplineTrainingDone s := rfl

/-- The link carries frames: the lanes stay, and scan-out runs as asked. -/
theorem startSchedule_afterHold (c : Prop) [Decidable c] (s : State) :
    (if c then s.endHold else s).startSchedule.lanes = s.lanes ∧ (if c then s.endHold else s).startSchedule.disp.running = s.disp.running ∧
      (if c then s.endHold else s).startSchedule.disp.fullNext = s.disp.fullNext := by
  have hlanes : (if c then s.endHold else s).lanes = s.lanes := by
    split
    · exact endHold_lanes s
    · rfl
  have hdisp : (if c then s.endHold else s).disp = s.disp := by
    split
    · exact endHold_disp s
    · rfl
  obtain ⟨hrun, hfull⟩ := startSchedule_running (if c then s.endHold else s)
  exact ⟨(startSchedule_lanes _).trans hlanes, hrun.trans (congrArg Disp.running hdisp), hfull.trans (congrArg Disp.fullNext hdisp)⟩

theorem exec_saplineTrainingDone_trained (hr : s.trainingRuns = false) (hne : s.trainedLanes ≠ []) :
    ∃ t, exec .saplineTrainingDone s = .next t ∧ t.lanes = s.joinTrained.lanes ∧
      (s.pnl.up = true → s.scan.relink = none → t.disp.running = true ∧ t.disp.fullNext = true) := by
  have hdone : (!s.trainingRuns && !s.trainedLanes.isEmpty) = true := by rw [hr, List.isEmpty_eq_false_iff.2 hne]; rfl
  rw [exec_saplineTrainingDone, execSaplineTrainingDone, hdone, State.when_true]
  refine ⟨_, rfl, ?_, fun hup hrelink => ?_⟩
  · rw [State.settle_lanes]
    refine State.when_lanes _ _ _ ?_
    exact (startSchedule_afterHold _ _).1
  · have hcarry : (s.joinTrained.pnl.up && s.joinTrained.scan.relink.isNone) = true := by
      rw [joinTrained_pnl, joinTrained_scan, hup, hrelink]
      rfl
    rw [State.settle_disp]
    refine Eq.mpr (congrArg (fun b => (s.joinTrained.when b _).disp.running = true ∧ (s.joinTrained.when b _).disp.fullNext = true) hcarry) ?_
    exact (startSchedule_afterHold _ _).2

theorem exec_saplineTrainingDone_joins (hr : s.trainingRuns = false) (hne : s.trainedLanes ≠ []) :
    ∃ t, exec .saplineTrainingDone s = .next t ∧ t.lanes.alignCount = s.lanes.alignCount + 16 ∧
      (∀ l ∈ s.trainedLanes, (t.lane l).state = 2 ∧ (t.lane l).included = true) ∧
      (s.pnl.up = true → s.scan.relink = none → t.disp.running = true ∧ t.disp.fullNext = true) := by
  obtain ⟨t, ht, hlanes, hframes⟩ := exec_saplineTrainingDone_trained hr hne
  refine ⟨t, ht, by rw [hlanes, joinTrained_alignCount], fun l hl => ?_, hframes⟩
  rw [lane_congr hlanes]
  exact joinTrained_lane hl (lane_lt_of_trained hl)

/-! ### Supervision in service (R309, R313 to R315) -/

theorem exec_stepRequestApply (lane : Nat) (s : State) : exec (.stepRequestApply lane) s = execStepRequestApply lane s := rfl
theorem exec_laneMarginTimer (lane : Nat) (s : State) : exec (.laneMarginTimer lane) s = execLaneMarginTimer lane s := rfl
theorem exec_laneStats (lane : Nat) (errors : W32) (s : State) : exec (.laneStats lane errors) s = execLaneStats lane errors s := rfl
theorem exec_laneRetryTimer (lane : Nat) (s : State) : exec (.laneRetryTimer lane) s = execLaneRetryTimer lane s := rfl

theorem exec_stepRequestApply_waiting {n : Nat} (h : (s.lane lane).step = some (seq, n)) :
    exec (.stepRequestApply lane) s = .next (s.modLane lane fun x => { x.applyStep n with ackSeq := seq, step := none, lastStep := s.time }).settle := by
  rw [exec_stepRequestApply, execStepRequestApply, h]
  rfl

section
variable (hlow : (s.laneAux lane).lowPosted = false)
include hlow

theorem exec_laneMarginTimer_low (hlive : (s.lane lane).state = 2 ∨ (s.lane lane).state = 3) (hm : (s.lane lane).margin < 120) :
    exec (.laneMarginTimer lane) s =
      .next ((s.modLaneAux lane fun a => { a with lowPosted := true }).post 0xB81 1 (le 1 lane ++ [0] ++ le 2 (s.lane lane).margin)).settle := by
  have hpost : (((s.lane lane).state == 2 || (s.lane lane).state == 3) && (s.lane lane).margin < 120 && !(s.laneAux lane).lowPosted) = true := by
    rcases hlive with h | h <;> simp [h, hm, hlow]
  rw [exec_laneMarginTimer, execLaneMarginTimer, if_pos hpost]
  rfl

theorem exec_laneMarginTimer_quiet (h : ((s.lane lane).state ≠ 2 ∧ (s.lane lane).state ≠ 3) ∨ 120 ≤ (s.lane lane).margin) :
    exec (.laneMarginTimer lane) s = .next s.settle := by
  have hquiet : ¬ (((s.lane lane).state == 2 || (s.lane lane).state == 3) && (s.lane lane).margin < 120 && !(s.laneAux lane).lowPosted) = true := by
    rcases h with ⟨h2, h3⟩ | h
    · simp [h2, h3]
    · simp [Nat.not_lt.2 h]
  rw [exec_laneMarginTimer, execLaneMarginTimer, if_neg hquiet, if_neg (by simp [hlow])]
  rfl

end

theorem exec_laneMarginTimer_back (hlow : (s.laneAux lane).lowPosted = true) (hm : 150 ≤ (s.lane lane).margin) :
    exec (.laneMarginTimer lane) s = .next (s.modLaneAux lane fun a => { a with lowPosted := false }).settle := by
  rw [exec_laneMarginTimer, execLaneMarginTimer, if_neg (by simp [hlow]), if_pos (by simp [hlow, hm])]
  rfl

/-- A bad report counts one. -/
theorem laneStats_counted (hl : lane < s.lanes.aux.length) {errors : W32} (he : 16 ≤ errors.toNat) :
    (s.modLaneAux lane fun a => { a with lastReport := errors, statsBad := if 16 ≤ errors.toNat then a.statsBad + 1 else 0 }) =
      (s.modLaneAux lane fun a => { a with lastReport := errors, statsBad := a.statsBad + 1 }) ∧
    ((s.modLaneAux lane fun a => { a with lastReport := errors, statsBad := a.statsBad + 1 }).laneAux lane).statsBad = (s.laneAux lane).statsBad + 1 := by
  constructor
  · simp only [if_pos he]
  · rw [laneAux_modLaneAux_same hl]

section
variable (hlane : lane < 96) (hin : (s.lane lane).included = true)
include hlane hin

/-- A report of a lane in the striping is counted; the third bad one in a row begins the retrain. -/
theorem exec_laneStats_included (errors : W32) :
    exec (.laneStats lane errors) s = done (
      let z := s.modLaneAux lane fun a => { a with lastReport := errors, statsBad := if 16 ≤ errors.toNat then a.statsBad + 1 else 0 }
      z.when (3 ≤ (z.laneAux lane).statsBad) fun s => (s.modLaneAux lane fun a => { a with statsBad := 0 }).retrainAlone lane) := by
  rw [exec_laneStats, execLaneStats, decide_eq_true hlane, hin]
  rfl

theorem exec_laneStats_good {errors : W32} (he : errors.toNat < 16) :
    exec (.laneStats lane errors) s = .next (s.modLaneAux lane fun a => { a with lastReport := errors, statsBad := 0 }).settle := by
  have hcount : (s.modLaneAux lane fun a => { a with lastReport := errors, statsBad := if 16 ≤ errors.toNat then a.statsBad + 1 else 0 }) =
      s.modLaneAux lane fun a => { a with lastReport := errors, statsBad := 0 } := by simp only [if_neg (Nat.not_le.2 he)]
  have hfew : ((s.modLaneAux lane fun a => { a with lastReport := errors, statsBad := 0 }).laneAux lane).statsBad < 3 := by
    rcases lt_or_ge lane s.lanes.aux.length with hl | hl
    · rw [laneAux_modLaneAux_same hl]
      exact Nat.succ_pos 2
    · rw [laneAux_modLaneAux_absent hl]
      exact Nat.succ_pos 2
  rw [exec_laneStats_included hlane hin, hcount]
  dsimp only
  rw [decide_eq_false (Nat.not_le.2 hfew)]
  rfl

theorem exec_laneStats_bad (hl : lane < s.lanes.aux.length) {errors : W32} (he : 16 ≤ errors.toNat) (hfew : (s.laneAux lane).statsBad < 2) :
    exec (.laneStats lane errors) s = .next (s.modLaneAux lane fun a => { a with lastReport := errors, statsBad := a.statsBad + 1 }).settle := by
  obtain ⟨hcount, hbad⟩ := laneStats_counted hl he
  rw [exec_laneStats_included hlane hin, hcount]
  dsimp only
  rw [hbad, decide_eq_false (by omega)]
  rfl

/-- The third bad report in a row: the count starts again, and the lane retrains alone or, under LOW_STOP, waits. -/
theorem exec_laneStats_third (hl : lane < s.lanes.aux.length) {errors : W32} (he : 16 ≤ errors.toNat) (h2 : (s.laneAux lane).statsBad = 2) :
    exec (.laneStats lane errors) s = done (((s.modLaneAux lane fun a => { a with lastReport := errors, statsBad := a.statsBad + 1 }).modLaneAux lane
      fun a => { a with statsBad := 0 }).retrainAlone lane) := by
  obtain ⟨hcount, hbad⟩ := laneStats_counted hl he
  rw [exec_laneStats_included hlane hin, hcount]
  dsimp only
  rw [hbad, h2]
  rfl

theorem exec_laneStats_retrain (hl : lane < s.lanes.aux.length) (hlen : lane < s.lanes.lanes.length) {errors : W32} (he : 16 ≤ errors.toNat)
    (h2 : (s.laneAux lane).statsBad = 2) :
    ∃ t, exec (.laneStats lane errors) s = .next t ∧ (t.laneAux lane).statsBad = 0 ∧
      (s.lowHold = false → (t.lane lane).state = 1 ∧ (t.lane lane).included = false ∧ (t.laneAux lane).alone = true) ∧
      (s.lowHold = true → (t.laneAux lane).waits = true ∧ (t.lane lane).state = (s.lane lane).state) := by
  rw [exec_laneStats_third hlane hin hl he h2, modLaneAux_modLaneAux]
  have hl' : lane < (s.modLaneAux lane ((fun a => { a with statsBad := 0 }) ∘ fun a => { a with lastReport := errors, statsBad := a.statsBad + 1 })).lanes.aux.length := by
    simpa [State.modLaneAux] using hl
  refine ⟨_, rfl, ?_, fun hlow => ?_, fun hlow => ?_⟩
  · rw [settle_laneAux, retrainAlone_statsBad hl', laneAux_modLaneAux_same hl]
    rfl
  · rw [settle_lane, settle_laneAux]
    obtain ⟨hstate, hout⟩ := retrainAlone_lane (s := s.modLaneAux lane _) hlen hlow
    exact ⟨hstate, hout, congrArg LaneAux.alone (retrainAlone_laneAux hl' hlow)⟩
  · rw [settle_lane, settle_laneAux]
    obtain ⟨hwaits, hkept⟩ := retrainAlone_held hl' hlow
    exact ⟨(congrArg LaneAux.waits hwaits).trans rfl, congrArg Lane.state hkept⟩

end

theorem timeTo_lowHold (n : Nat) (s : State) : (s.timeTo n).lowHold = s.lowHold := rfl

theorem exec_laneRetryTimer_spent (hmany : 6 ≤ (s.laneAux lane).retries) : exec (.laneRetryTimer lane) s = .next s.settle := by
  rw [exec_laneRetryTimer, execLaneRetryTimer, decide_eq_false (Nat.not_lt.2 hmany)]
  simp only [Bool.and_false, Bool.false_and, State.when_false]
  rfl

section
variable (hstate : (s.lane lane).state = 4) (hlane : lane < 96) (hl : lane < s.lanes.aux.length) (hfew : (s.laneAux lane).retries < 6)
  (hrun : s.disp.running = true) (htp : s.tp.state = .running)
include hstate hlane hl hfew hrun htp

/-- An excluded lane with tries left moves to its retry's time and counts it; in a hold nothing more happens (R309). -/
theorem exec_laneRetryTimer_counted : ∃ z : State, exec (.laneRetryTimer lane) s = done (if s.scan.hold.isSome then z else z.retrainAlone lane) ∧
    z.time = max (s.laneAux lane).retryAt s.time ∧ (z.laneAux lane).retries = (s.laneAux lane).retries + 1 ∧
    z.lanes.lanes = s.lanes.lanes ∧ z.lanes.aux.length = s.lanes.aux.length ∧ z.lowHold = s.lowHold := by
  have hdue : (decide (lane < 96) && (s.lane lane).state == 4 && decide ((s.laneAux lane).retries < 6) && s.disp.running && s.tp.state == .running) = true := by
    simp [hstate, hlane, hfew, hrun, htp]
  have htime : (s.timeTo (s.laneAux lane).retryAt).time = max (s.laneAux lane).retryAt s.time := State.modTime_time ..
  have hlanes : (s.timeTo (s.laneAux lane).retryAt).lanes = s.lanes := State.timeTo_lanes ..
  have hhk : (s.timeTo (s.laneAux lane).retryAt).lowHold = s.lowHold := timeTo_lowHold ..
  have hhold : (s.timeTo (s.laneAux lane).retryAt).scan = s.scan := State.timeTo_scan ..
  rw [exec_laneRetryTimer, execLaneRetryTimer, hdue, State.when_true]
  dsimp only
  generalize s.timeTo (s.laneAux lane).retryAt = v at htime hlanes hhk hhold ⊢
  rw [← hhold, ← htime, ← laneAux_congr hlanes, ← hlanes, ← hhk]
  rw [← hlanes] at hl
  refine ⟨v.modLaneAux lane _, rfl, rfl, ?_, rfl, ?_, rfl⟩
  · rw [laneAux_modLaneAux_same hl]
  · exact List.length_modify ..

theorem exec_laneRetryTimer_hold (hhold : s.scan.hold.isSome = true) :
    ∃ t, exec (.laneRetryTimer lane) s = .next t ∧ t.time = max (s.laneAux lane).retryAt s.time ∧ (t.laneAux lane).retries = (s.laneAux lane).retries + 1 := by
  obtain ⟨z, hz, htime, hcount, -⟩ := exec_laneRetryTimer_counted hstate hlane hl hfew hrun htp
  rw [hz, if_pos hhold]
  exact ⟨_, rfl, (State.settle_time z).trans htime, (congrArg LaneAux.retries (settle_laneAux z lane)).trans hcount⟩

theorem exec_laneRetryTimer_retrain (hlen : lane < s.lanes.lanes.length) (hhold : s.scan.hold = none) (hlow : s.lowHold = false) :
    ∃ t, exec (.laneRetryTimer lane) s = .next t ∧ (t.lane lane).state = 1 ∧ (t.lane lane).included = false ∧ (t.laneAux lane).alone = true := by
  obtain ⟨z, hz, -, -, hlanes, haux, hzlow⟩ := exec_laneRetryTimer_counted hstate hlane hl hfew hrun htp
  rw [hz, if_neg (by simp [hhold])]
  rw [← haux] at hl
  rw [← hlanes] at hlen
  rw [← hzlow] at hlow
  obtain ⟨htrains, hout⟩ := retrainAlone_lane hlen hlow
  refine ⟨_, rfl, ?_⟩
  rw [settle_lane, settle_laneAux]
  exact ⟨htrains, hout, (congrArg LaneAux.alone (retrainAlone_laneAux hl hlow)).trans rfl⟩

end

/-- Settles O46: the panel's requests by their kind and the lane's state, the end of training by the folds over the lanes, supervision by its
thresholds and counts. -/
theorem saplineLanes : Obligations.SaplineLanes := by
  refine ⟨fun g lane seq kind preset margin steps s => ⟨exec_saplineGroupTraining_on, exec_saplineGroupTraining_low,
      fun hl h1 hseq hm hack hstate hended => ⟨exec_saplineTrainReq_preset hl h1 hseq hm hack hstate hended,
        exec_saplineTrainReq_step hl h1 hseq hm hack hstate hended, exec_saplineTrainReq_good hl h1 hseq hm hack hstate hended,
        exec_saplineTrainReq_poor hl h1 hseq hm hack hstate hended, exec_saplineTrainReq_report hl h1 hseq hm hack hstate hended,
        exec_saplineTrainReq_bad hl h1 hseq hm hack hstate hended⟩,
      fun hl h1 hseq hm hack hstate => ⟨fun hnone htime _ => exec_saplineTrainReq_stepWaits hl h1 hseq hm hack hstate hnone htime,
        exec_saplineTrainReq_marginOnly hl h1 hseq hm hack hstate⟩,
      exec_saplineTrainReq_repeated, fun _ => exec_trainingBudgetExpiry_started, exec_saplineTrainingDone_joins⟩,
    fun lane s => ⟨fun _ _ => exec_stepRequestApply_waiting, fun hlive hm hlow => exec_laneMarginTimer_low hlow hlive hm,
      fun h hlow => exec_laneMarginTimer_quiet hlow h, exec_laneMarginTimer_back, fun _ hlane hin he => exec_laneStats_good hlane hin he,
      fun _ hlane hl hin he hfew => exec_laneStats_bad hlane hin hl he hfew, exec_laneRetryTimer_hold,
      fun _ hlane hl hlen hin he h2 => exec_laneStats_retrain hlane hin hl hlen he h2,
      fun hstate hlane hl hlen hfew hrun htp hhold hlow => exec_laneRetryTimer_retrain hstate hlane hl hfew hrun htp hlen hhold hlow,
      fun _ => exec_laneRetryTimer_spent⟩⟩

end Sys2Proof.Machine
end

section
/-! SUPPORT. The slot schedule (R271 to R275). -/

namespace Sys2Proof.Machine

variable {s : State}

/-! ### The slot schedule (R271) -/

/-- The next boundary of the schedule: its time, and the slot's number in the frame. -/
def State.slotOn (s : State) : State := (s.timeTo (s.slotStart (s.disp.slotNo + 1))).modDisp fun d => { d with slotNo := d.slotNo + 1 }

/-- FRAME_OUT falls one slot into the frame. -/
def State.frameOutFalls (s : State) : State :=
  s.when (s.pins.frameOut && s.disp.slotNo == 1) fun s => (s.modPins fun p => { p with frameOut := false }).emit (.pin .frameOut false 0)

theorem frameOutFalls_still (h : s.pins.frameOut = false ∨ s.disp.slotNo + 1 ≠ 1) : s.slotOn.frameOutFalls = s.slotOn := by
  have hstill : (s.slotOn.pins.frameOut && s.slotOn.disp.slotNo == 1) = false := by
    rcases h with h | h
    · rw [show s.slotOn.pins.frameOut = false from h]
      rfl
    · rw [show (s.slotOn.disp.slotNo == 1) = false from beq_false_of_ne h, Bool.and_false]
  rw [State.frameOutFalls, hstill, State.when_false]

theorem exec_slotBoundary (s : State) : exec .slotBoundary s = execSlotBoundary s := rfl

theorem exec_slotBoundary_still (h : s.disp.sched = false ∨ s.disp.panel = none) : exec .slotBoundary s = .next s.settle := by
  have hstill : (s.disp.sched && s.disp.panel.isSome) = false := by rcases h with h | h <;> simp [h]
  rw [exec_slotBoundary, execSlotBoundary, hstill]
  rfl

section
variable (hs : s.disp.sched = true) (hp : s.disp.panel.isSome = true)
include hs hp

/-- The schedule runs. -/
theorem slots_run : (s.disp.sched && s.disp.panel.isSome) = true := by rw [hs, hp]; rfl

/-- A boundary in the extension of a frame (R273 to R275). -/
theorem exec_slotBoundary_extending (he : s.disp.extending = true) :
    exec .slotBoundary s = done (
      let v := s.slotOn.modDisp fun d => { d with ext := d.ext + 1 }
      if v.extends v.disp.ext then v.modDisp fun d => { d with slot := d.slot + 1 } else (v.startVertical.idleLanes false).watermarks) := by
  rw [exec_slotBoundary, execSlotBoundary, slots_run hs hp, State.when_true, if_pos he]
  rfl

section
variable (he : s.disp.extending = false)
include he

/-- A boundary in the active lines (R271, R272). -/
theorem exec_slotBoundary_active (hb : s.disp.blanking = false) (hlow : s.pins.frameOut = false ∨ s.disp.slotNo + 1 ≠ 1) :
    exec .slotBoundary s = done (
      if s.disp.slot + 1 < s.disp.timing.activeLines then s.slotOn.enterActive (s.disp.slot + 1)
      else
        let v := s.slotOn.endSubframe s.disp.subframe
        if !(s.disp.subframe + 1 == s.subframes) then (v.modDisp fun d => { d with blanking := true, slot := 0 }).watermarks
        else if v.extends 0 then (v.modDisp fun d => { d with extending := true, slot := 0 }).watermarks
        else v.startVertical.watermarks) := by
  have hstill := frameOutFalls_still hlow
  unfold State.frameOutFalls State.slotOn at hstill
  rw [exec_slotBoundary, execSlotBoundary, slots_run hs hp, State.when_true, if_neg (Bool.eq_false_iff.1 he), if_pos (by rw [hb]; rfl)]
  dsimp only
  rw [hstill]
  rfl

/-- A boundary in the blanking after a subframe, its latch point aside (R271, R277). -/
theorem exec_slotBoundary_blanking (hb : s.disp.blanking = true) :
    exec .slotBoundary s = done (
      if s.disp.subframe + 1 == s.subframes && s.disp.slot == 2 && !s.disp.latched && !s.latchBlocked then s
      else if s.disp.slot + 1 < s.disp.timing.vtMin then ((s.slotOn.modDisp fun d => { d with slot := d.slot + 1 }).idleLanes false).watermarks
      else if !(s.disp.subframe + 1 == s.subframes) then (s.slotOn.modDisp fun d => { d with subframe := d.subframe + 1 }).enterActive 0
      else s.slotOn.startFrame) := by
  rw [exec_slotBoundary, execSlotBoundary, slots_run hs hp, State.when_true, if_neg (Bool.eq_false_iff.1 he), if_neg (by rw [hb]; decide)]
  rfl

section
variable (hb : s.disp.blanking = false) (hlow : s.pins.frameOut = false ∨ s.disp.slotNo + 1 ≠ 1)
include hb hlow

theorem exec_slotBoundary_line (hslot : s.disp.slot + 1 < s.disp.timing.activeLines) :
    exec .slotBoundary s = .next (s.slotOn.enterActive (s.disp.slot + 1)).settle := by
  rw [exec_slotBoundary_active hs hp he hb hlow, if_pos hslot]
  rfl

section
variable (hslot : s.disp.timing.activeLines ≤ s.disp.slot + 1)
include hslot

theorem exec_slotBoundary_subframeEnd (hsub : s.disp.subframe + 1 ≠ s.subframes) :
    exec .slotBoundary s = .next (((s.slotOn.endSubframe s.disp.subframe).modDisp fun d => { d with blanking := true, slot := 0 }).watermarks).settle := by
  rw [exec_slotBoundary_active hs hp he hb hlow, if_neg (Nat.not_lt.2 hslot)]
  exact congrArg done (if_pos (by rw [beq_false_of_ne hsub]; rfl))

section
variable (hsub : s.disp.subframe + 1 = s.subframes)
include hsub

theorem exec_slotBoundary_extend (hext : (s.slotOn.endSubframe s.disp.subframe).extends 0 = true) :
    exec .slotBoundary s = .next (((s.slotOn.endSubframe s.disp.subframe).modDisp fun d => { d with extending := true, slot := 0 }).watermarks).settle := by
  rw [exec_slotBoundary_active hs hp he hb hlow, if_neg (Nat.not_lt.2 hslot)]
  exact congrArg done ((if_neg (by rw [beq_iff_eq.2 hsub]; decide)).trans (if_pos hext))

theorem exec_slotBoundary_vertical (hext : (s.slotOn.endSubframe s.disp.subframe).extends 0 = false) :
    exec .slotBoundary s = .next ((s.slotOn.endSubframe s.disp.subframe).startVertical.watermarks).settle := by
  rw [exec_slotBoundary_active hs hp he hb hlow, if_neg (Nat.not_lt.2 hslot)]
  exact congrArg done ((if_neg (by rw [beq_iff_eq.2 hsub]; decide)).trans (if_neg (Bool.eq_false_iff.1 hext)))

end

end

end

section
variable (hb : s.disp.blanking = true)
include hb

theorem exec_slotBoundary_latchDue (hsub : s.disp.subframe + 1 = s.subframes) (hslot : s.disp.slot = 2) (hl : s.disp.latched = false)
    (hblock : s.latchBlocked = false) : exec .slotBoundary s = .next s.settle := by
  rw [exec_slotBoundary_blanking hs hp he hb, if_pos (by simp [hsub, hslot, hl, hblock])]
  rfl

theorem exec_slotBoundary_blankSlot (hnot : ¬ (s.disp.subframe + 1 = s.subframes ∧ s.disp.slot = 2 ∧ s.disp.latched = false ∧ s.latchBlocked = false))
    (hslot : s.disp.slot + 1 < s.disp.timing.vtMin) :
    exec .slotBoundary s = .next ((((s.slotOn.modDisp fun d => { d with slot := d.slot + 1 }).idleLanes false).watermarks).settle) := by
  rw [exec_slotBoundary_blanking hs hp he hb, if_neg (by simpa [and_assoc] using hnot), if_pos hslot]
  rfl

section
variable (hslot : s.disp.timing.vtMin ≤ s.disp.slot + 1)
include hslot

theorem exec_slotBoundary_nextSubframe (hsub : s.disp.subframe + 1 ≠ s.subframes) :
    exec .slotBoundary s = .next ((s.slotOn.modDisp fun d => { d with subframe := d.subframe + 1 }).enterActive 0).settle := by
  rw [exec_slotBoundary_blanking hs hp he hb, if_neg (by simp [hsub]), if_neg (Nat.not_lt.2 hslot), if_pos (by rw [beq_false_of_ne hsub]; rfl)]
  rfl

theorem exec_slotBoundary_nextFrame (hsub : s.disp.subframe + 1 = s.subframes)
    (hnot : ¬ (s.disp.slot = 2 ∧ s.disp.latched = false ∧ s.latchBlocked = false)) : exec .slotBoundary s = .next s.slotOn.startFrame.settle := by
  rw [exec_slotBoundary_blanking hs hp he hb, if_neg (by simpa [hsub, and_assoc] using hnot), if_neg (Nat.not_lt.2 hslot),
    if_neg (by rw [beq_iff_eq.2 hsub]; decide)]
  rfl

end

end

end

theorem exec_slotBoundary_extension (he : s.disp.extending = true)
    (hext : (s.slotOn.modDisp fun d => { d with ext := d.ext + 1 }).extends (s.disp.ext + 1) = true) :
    exec .slotBoundary s = .next ((s.slotOn.modDisp fun d => { d with ext := d.ext + 1 }).modDisp fun d => { d with slot := d.slot + 1 }).settle := by
  rw [exec_slotBoundary_extending hs hp he]
  exact congrArg done (if_pos hext)

theorem exec_slotBoundary_extensionEnd (he : s.disp.extending = true)
    (hext : (s.slotOn.modDisp fun d => { d with ext := d.ext + 1 }).extends (s.disp.ext + 1) = false) :
    exec .slotBoundary s = .next (((s.slotOn.modDisp fun d => { d with ext := d.ext + 1 }).startVertical.idleLanes false).watermarks).settle := by
  rw [exec_slotBoundary_extending hs hp he]
  exact congrArg done (if_neg (Bool.eq_false_iff.1 hext))

end

end Sys2Proof.Machine
end

section
/-! SUPPORT. Completed lines (R223, R257, R280) and the reports of the panel (R283, R291, R298, R299). -/

namespace Sys2Proof.Machine

variable {s : State}

/-! ### Completed lines (R223, R257, R280) -/

theorem exec_lineComplete (sf line : Nat) (s : State) : exec (.lineComplete sf line) s = execLineComplete sf line s := rfl

/-- A capture row writes memory; what scan-out holds stays. -/
theorem captureLine_disp (f : RayFrame) (y lo hi : Nat) (s : State) : (s.captureLine' f y lo hi).1.disp = s.disp := by
  unfold State.captureLine'
  split
  next c j _ _ =>
    dsimp only
    generalize c.base + c.pitch * j + (if c.format == 0 then _ else _) = a
    split
    · rfl
    · split
      · rfl
      · exact State.devWrite_disp ..
  next => rfl

section
variable {sf line : Nat} {f : RayFrame}

/-- A line of the frame latched last that is not in the line store. -/
theorem lineComplete_new (hsf : sf < f.subs) (hline : line < f.height) (hnew : s.stored sf line = none) :
    ¬ (f.subs ≤ sf || f.height ≤ line || (s.stored sf line).isSome) = true := by
  simp [hsf, hline, hnew]

/-- A line ahead of the beam, for which the line store has room. -/
theorem lineComplete_ahead {i : Nat} (hbegun : s.begun ≤ i) (hbeam : i < s.beamLine + 128) : ¬ (i < s.begun || s.beamLine + 128 ≤ i) = true := by
  simp [hbegun, hbeam]

/-- Every strip of the row has rendered its piece of the line. -/
theorem linePieces_iff (f : RayFrame) (q line : Nat) :
    ((List.range f.cols).map fun k => f.parts.find? fun p => p.1 == q * f.cols + k && p.2.1 == line).all Option.isSome = true ↔
      ∀ k < f.cols, ∃ p ∈ f.parts, p.1 = q * f.cols + k ∧ p.2.1 = line := by
  simp only [List.all_eq_true, List.forall_mem_map, List.mem_range, List.find?_isSome, Bool.and_eq_true, beq_iff_eq]

variable (hf : s.ray.cur = some f) (hsf : sf < f.subs) (hline : line < f.height) (hnew : s.stored sf line = none)
include hf hsf hline hnew

section
variable (hby : f.bypass = true)
include hby

theorem exec_lineComplete_late (h : sf * f.height + line < s.begun ∨ s.beamLine + 128 ≤ sf * f.height + line) :
    exec (.lineComplete sf line) s = .next s.settle := by
  rw [exec_lineComplete, execLineComplete, hf]
  dsimp only
  rw [if_neg (lineComplete_new hsf hline hnew), if_pos hby, if_pos (by simpa using h)]
  rfl

section
variable (hbegun : s.begun ≤ sf * f.height + line) (hbeam : sf * f.height + line < s.beamLine + 128)
include hbegun hbeam

theorem exec_lineComplete_safeView (h0 : sf ≠ 0) :
    exec (.lineComplete sf line) s = .next ((((s.modRay fun r =>
      { r with cur := some { f with capture := f.capture.map fun c => { c with lacks := c.lacks || false } } }).modDisp fun d =>
        { d with store := d.store ++ [{ sf := sf, y := line, codes := (List.range f.width).flatMap fun x => (List.range 3).map fun c => s.safePixel x line c }] }).watermarks).settle) := by
  rw [exec_lineComplete, execLineComplete, hf]
  dsimp only
  rw [if_neg (lineComplete_new hsf hline hnew), if_pos hby, if_neg (lineComplete_ahead hbegun hbeam)]
  simp only [if_neg (Bool.eq_false_iff.1 (beq_false_of_ne h0))]
  rfl

end

theorem exec_lineComplete_first (h0 : sf = 0) (hbegun : s.begun ≤ line) (hbeam : line < s.beamLine + 128) :
    ∃ t, exec (.lineComplete sf line) s = .next t ∧
      t.disp.store = s.disp.store ++ [{ sf := 0, y := line, codes := (List.range f.width).flatMap fun x => (List.range 3).map fun c => s.safePixel x line c }] := by
  subst h0
  have hdisp := captureLine_disp f line 0 (f.width - 1) s
  rw [exec_lineComplete, execLineComplete, hf]
  dsimp only
  rw [if_neg (lineComplete_new hsf hline hnew), if_pos hby,
    if_neg (lineComplete_ahead (by rwa [Nat.zero_mul, Nat.zero_add]) (by rwa [Nat.zero_mul, Nat.zero_add]))]
  refine ⟨_, rfl, ?_⟩
  rw [State.settle_disp]
  exact congrArg (fun d : Disp => d.store ++ [_]) hdisp

end

section
variable (hby : f.bypass = false)
include hby

theorem exec_lineComplete_partial
    (h : ∃ k < f.cols, ∀ p ∈ f.parts, ¬ (p.1 = (sf * f.rowsPer + line / 8) * f.cols + k ∧ p.2.1 = line)) :
    exec (.lineComplete sf line) s = .next s.settle := by
  obtain ⟨k, hk, hnone⟩ := h
  have hopen := Bool.eq_false_iff.2 fun hall => by
    obtain ⟨p, hp, hpiece⟩ := (linePieces_iff f (sf * f.rowsPer + line / 8) line).1 hall k hk
    exact hnone p hp hpiece
  rw [exec_lineComplete, execLineComplete, hf]
  dsimp only
  rw [if_neg (lineComplete_new hsf hline hnew), if_neg (Bool.eq_false_iff.1 hby), if_pos (by rw [hopen]; rfl)]
  rfl

theorem exec_lineComplete_rendered
    (h : ∀ k < f.cols, ∃ p ∈ f.parts, p.1 = (sf * f.rowsPer + line / 8) * f.cols + k ∧ p.2.1 = line) :
    ∃ t, exec (.lineComplete sf line) s = .next t ∧
      (sf * f.height + line < s.begun → t.disp.store = s.disp.store) ∧
      (s.begun ≤ sf * f.height + line → ∃ l, t.disp.store = s.disp.store ++ [l] ∧ l.sf = sf ∧ l.y = line) := by
  rw [exec_lineComplete, execLineComplete, hf]
  dsimp only
  rw [if_neg (lineComplete_new hsf hline hnew), if_neg (Bool.eq_false_iff.1 hby),
    if_neg (by rw [(linePieces_iff f _ line).2 h]; decide)]
  rcases Nat.lt_or_ge (sf * f.height + line) s.begun with hlate | hahead
  · refine ⟨_, congrArg done (if_pos hlate), fun _ => ?_, fun hahead => absurd hlate (Nat.not_lt.2 hahead)⟩
    rw [State.settle_disp]
    rfl
  · refine ⟨_, congrArg done (if_neg (Nat.not_lt.2 hahead)), fun hlate => absurd hlate (Nat.not_lt.2 hahead), fun _ =>
      ⟨_, congrArg Disp.store (State.settle_disp _), rfl, rfl⟩⟩

end

end

/-! ### The reports of the panel (R283, R291, R298, R299) -/

theorem exec_sigReport (sf : Nat) (frame sig : W32) (lines : Nat) (s : State) : exec (.sigReport sf frame sig lines) s = execSigReport sf frame sig lines s := rfl
theorem exec_sigReportMissing (sf : Nat) (s : State) : exec (.sigReportMissing sf) s = execSigReportMissing sf s := rfl
theorem exec_lineError (sf : Nat) (frame : W32) (line cause : Nat) (s : State) : exec (.lineError sf frame line cause) s = execLineError sf frame line cause s := rfl
theorem exec_panelStatusLost (s : State) : exec .panelStatusLost s = execPanelStatusLost s := rfl

section
variable {sf : Nat} {frame sig : W32} {lines : Nat}

section
variable {t0 : Nat} (hsf : sf < s.subframes) (hdue : s.disp.sigDue.getD sf none = some t0) (htime : s.time ≤ t0 + 1000000)
  (hframe : (s.disp.scanFrame.getD sf 0).toNat % 256 = frame.toNat % 256)
include hsf htime hframe

/-- A report in time that names the last scan of its subframe is compared. -/
theorem sigReport_compared :
    ¬ (s.subframes ≤ sf || t0 + ms 1 < s.time || (s.disp.scanFrame.getD sf 0).toNat % 256 != frame.toNat % 256) = true := by
  rw [hframe]
  simp [hsf, ms, htime]

include hdue

theorem exec_sigReport_match (hsig : sig = s.disp.endXor.getD sf 0) :
    exec (.sigReport sf frame sig lines) s = .next (((s.modDisp fun d => { d with
      sigDue := d.sigDue.set sf none,
      unconfirmed := if d.lineErr.getLsbD sf then d.unconfirmed else d.unconfirmed &&& ~~~(BitVec.ofNat 8 (2 ^ sf)) }).decideSf (s.disp.scanFrame.getD sf 0) sf true).settle) := by
  rw [exec_sigReport, execSigReport, hdue]
  dsimp only
  rw [if_neg (sigReport_compared hsf htime hframe), if_neg (by simp [hsig])]
  rfl

theorem exec_sigReport_differs (hsig : sig ≠ s.disp.endXor.getD sf 0) :
    exec (.sigReport sf frame sig lines) s = .next (s.sigMismatch sf sig).settle := by
  rw [exec_sigReport, execSigReport, hdue]
  dsimp only
  rw [if_neg (sigReport_compared hsf htime hframe), if_pos (bne_iff_ne.2 hsig)]
  rfl

end

theorem exec_sigReportMissing_due {t0 : Nat} (hdue : s.disp.sigDue.getD sf none = some t0) :
    exec (.sigReportMissing sf) s = .next ((s.timeTo (t0 + 1000000)).sigMismatch sf 0).settle := by
  rw [exec_sigReportMissing, execSigReportMissing, hdue]
  rfl

theorem exec_sigReport_notDue (hdue : s.disp.sigDue.getD sf none = none) :
    exec (.sigReport sf frame sig lines) s = .next s.settle ∧ exec (.sigReportMissing sf) s = .next s.settle := by
  rw [exec_sigReport, execSigReport, exec_sigReportMissing, execSigReportMissing, hdue]
  exact ⟨rfl, rfl⟩

theorem exec_lineError_open (hsf : sf < s.subframes) {line cause : Nat} (hc : cause ≠ 4) :
    exec (.lineError sf frame line cause) s = .next (s.modDisp fun d =>
      { d with unconfirmed := d.unconfirmed ||| BitVec.ofNat 8 (2 ^ sf), lineErr := d.lineErr ||| BitVec.ofNat 8 (2 ^ sf) }).settle := by
  rw [exec_lineError, execLineError, decide_eq_true hsf, State.when_true, beq_false_of_ne hc]
  rfl

theorem exec_panelStatus (temp : W16) (flags : W8) (s : State) : exec (.panelStatus temp flags) s = .next (s.modScan fun x =>
    { x with panelTemp := temp, panelFlags := flags &&& 3, lastStatus := s.time, statusLost := false }).settle := rfl

theorem exec_panelStatusLost_marked (s : State) :
    exec .panelStatusLost s = .next ((s.timeTo (s.scan.lastStatus + 500000000)).modScan fun x => { x with statusLost := true }).settle := by
  rw [exec_panelStatusLost, execPanelStatusLost]
  rfl

end

/-- Settles O43: a slot boundary by where the schedule stands, a completed line by who made it and where the beam is, a report by whether
it is due and what it says. -/
theorem scanOut : Obligations.ScanOut := by
  refine ⟨fun s => ⟨exec_slotBoundary_still, fun hs hp => ⟨exec_slotBoundary_extension hs hp, exec_slotBoundary_extensionEnd hs hp,
      fun he => ⟨fun hb hslot hlow => exec_slotBoundary_line hs hp he hb hlow hslot,
        fun hb hslot hsub hlow => exec_slotBoundary_subframeEnd hs hp he hb hlow hslot hsub,
        fun hb hslot hsub hlow => ⟨exec_slotBoundary_extend hs hp he hb hlow hslot hsub, exec_slotBoundary_vertical hs hp he hb hlow hslot hsub⟩,
        exec_slotBoundary_latchDue hs hp he, exec_slotBoundary_blankSlot hs hp he,
        fun hb hsub hslot => exec_slotBoundary_nextSubframe hs hp he hb hslot hsub,
        fun hb hsub hnot hslot => exec_slotBoundary_nextFrame hs hp he hb hslot hsub hnot⟩⟩⟩,
    fun sf line s f hf hsf hline hnew => ⟨exec_lineComplete_late hf hsf hline hnew,
      fun hby h0 hbegun hbeam => exec_lineComplete_safeView hf hsf hline hnew hby hbegun hbeam h0, exec_lineComplete_partial hf hsf hline hnew,
      exec_lineComplete_first hf hsf hline hnew, exec_lineComplete_rendered hf hsf hline hnew⟩,
    fun sf frame sig lines s hsf => ⟨fun t0 hdue htime hframe => ⟨exec_sigReport_match hsf hdue htime hframe, exec_sigReport_differs hsf hdue htime hframe⟩,
      fun t0 => exec_sigReportMissing_due, exec_sigReport_notDue, fun line cause => exec_lineError_open hsf, fun temp flags => exec_panelStatus temp flags s,
      exec_panelStatusLost_marked s⟩⟩

end Sys2Proof.Machine
end
